-- ==== Sys2Proof/Word.lean ====
section
/-! DEFINITION. The word types of the BV2-3072 and their plainest arithmetic.
A register of BAR0 is 32 bits wide (R4); a digit of the fabric is one of four values (R62); a wide token carries
64 bits (R67). -/
namespace Sys2Proof

/-- A byte of memory or of a frame. -/
abbrev Byte := BitVec 8
/-- A register word (R4). -/
abbrev Word := BitVec 32
/-- A wide token, a narrow queue word, a word of on-chip memory (R67, R72, R109). -/
abbrev Token := BitVec 64
/-- A 1-of-4 digit (R62). -/
abbrev Digit := Fin 4

/-- Bits `lo + w - 1` down to `lo` of `v`. -/
def bitsAt (v lo w : Nat) : Nat := v / 2 ^ lo % 2 ^ w
/-- Bit `i` of `v`. -/
def bitAt (v i : Nat) : Bool := v / 2 ^ i % 2 == 1
/-- The number 1 for true, 0 for false: a flag as it stands in a register. -/
def b2n (b : Bool) : Nat := if b then 1 else 0

end Sys2Proof
end

