-- ==== Sys2Proof/Syntax.lean ====
section
/-! DEFINITION. The commands of the BV2-3072, one constructor per row of spec/opcode_table.json.
The operands are the ones the row's rule names: an instance number (ring, engine, queue, port, slot), an address, a
value, a length, or the data that comes from outside the device with the event. Commands without operands stand last. -/
namespace Sys2Proof

/-- A crossing whose beat can stop (R173, R190): a slot of a ring, the host's crossing into ring memory, engine data memory
or engine program memory, Carousel's frame port, and the crossings between clocked blocks: into an external memory
controller, an Ethernet port, the configuration controller. -/
inductive Crossing where
  | slot (r : Fin 128) (t : Fin 26) | ringMem (r : Fin 128) | engData (e : Fin 1024) | engProg (e : Fin 1024) | carousel
  | xmc (n : Fin 8) | ethernet (p : Fin 48) | config
  deriving DecidableEq, Repr

/-- A crossing as named with a ring: a slot of that ring, the host's crossing into its memory or into the data or program
memory of its engine `i`; the others belong to no ring, and ring 0 stands with them. -/
inductive RingCrossing where
  | slot (t : Fin 26) | ringMem | engData (i : Fin 8) | engProg (i : Fin 8) | carousel
  | xmc (n : Fin 8) | ethernet (p : Fin 48) | config
  deriving DecidableEq, Repr

/-- One run of drift tracking (R262): the DQ bits whose read delay goes down and up by a step, and the eye
margin in ps. -/
structure DriftStep where
  down   : BitVec 72
  up     : BitVec 72
  margin : BitVec 8
  deriving DecidableEq, Repr

/-- A push of one narrow word from a request slot (R229): ring, slot, the word, EOP, VB. -/
structure MeetPush where
  r   : Fin 128
  t   : Fin 10
  w   : Token
  eop : Bool
  vb  : Fin 8
  deriving DecidableEq, Repr

/-- A command the block takes, or an event of its own (R1 to R593). -/
inductive Instr where
  /-- REGISTER_WRITE (R5): A host write to a register that has no row of its own, with its ADDR, PERM and lock checks. -/
  | registerWrite (a : BitVec 27) (v : Word)
  /-- ALARM_CLEAR (R12): A write of 1 to SEC_ALARM bits clears them, and ALARM_N is released once all are clear. -/
  | alarmClear (mask : BitVec 6)
  /-- TICK_EDGE (R14): The tick period expires: Ringmaster adds FRAC to ACC, advances TICK_COUNT and starts the next device tick. -/
  | tickEdge (ins : List (Fin 128 × Fin 32 × BitVec 56 × Bool))
  /-- DEADLINE (R19): The deadline E - 6 ns of a ring tick passes and Ringmaster decides whether the ring closed. -/
  | deadline (r : Fin 128)
  /-- RING_FAULT (R41): CONSEC reaches SLIP_LIMIT and the ring is halted, cleared and closed with a fault. -/
  | ringFault (r : Fin 128)
  /-- QUIESCENCE (R76): The quiescence detector raises ring-done once every condition of R18 holds. -/
  | quiescence (m : Fin 128)
  /-- RING_DONE_ACCEPT (R20): Ring-done reaches Ringmaster, which records CLOSE_NS and, if on time, the slack for Tightrope. -/
  | ringDoneAccept (r : Fin 128) (ns : BitVec 32)
  /-- RING_ARM (R27): Setting RING_SCHED.ARM checks every selectable act against the window at VSAFE and TJ_DESIGN and arms or refuses. -/
  | ringArm (r : Fin 128)
  /-- RING_DISARM (R47): Clearing ARM lets the ring finish its ring tick, then leave the schedule or be halted if late. -/
  | ringDisarm (r : Fin 128)
  /-- RESTART (R42): RING_CMD.RESTART reopens a faulted ring, to WAITING or IDLE by its ARM. -/
  | restart (r : Fin 128)
  /-- FORCE_SLIP (R44): RING_CMD.FORCE_SLIP makes the ring's next deadline count as missed. -/
  | forceSlip (r : Fin 128)
  /-- RING_CLR_STATS (R55): RING_CMD.CLR_STATS clears the slip and tick counters and resets RING_SLACK_MIN. -/
  | ringClrStats (r : Fin 128)
  /-- TJ_DESIGN_WRITE (R31): A write to TJ_DESIGN that would fail an armed ring's check is refused with PERM and PERIOD_REJ. -/
  | tjDesignWrite (col : Fin 8)
  /-- HLC_FIRE (R63): A handshake logic cell takes its input tokens and emits its output by its mode. -/
  | hlcFire (r : Fin 128) (c : Fin 24576)
  /-- PACK_GATEWAY (R68): A pack gateway waits for 32 digits and emits one wide token. -/
  | packGateway (r : Fin 128) (g : Fin 128)
  /-- UNPACK_GATEWAY (R68): An unpack gateway emits the 32 digits of a wide token and completes when all are acknowledged. -/
  | unpackGateway (r : Fin 128) (g : Fin 128)
  /-- RING_MEM_READ (R72): A ring memory port read returns a data token and a status digit, correcting single-bit errors. -/
  | ringMemRead (r : Fin 128) (b : Fin 32) (portB : Bool)
  /-- RING_MEM_WRITE (R73): A ring memory port write stores a word, merging bytes when some enables are clear. -/
  | ringMemWrite (r : Fin 128) (b : Fin 32) (portB : Bool)
  /-- GROUP_FORM (R83): A write of RING_GROUP.EN = 1 to a lead forms a group or is refused with GROUP_ERR. -/
  | groupForm (r : Fin 128) (widthM1 : Fin 16) (heightM1 : Fin 8)
  /-- GROUP_DISSOLVE (R84): A write of EN = 0 to a disarmed lead dissolves the group. -/
  | groupDissolve (r : Fin 128) (widthM1 : Fin 16) (heightM1 : Fin 8)
  /-- RING_MEM_HOST_ACCESS (R88): A host access reaches ring memory through port B under the ring's state and RING_MEM_HOST. -/
  | ringMemHostAccess (off : BitVec 25) (len : Fin 16) (data : Option Token)
  /-- RING_MEM_ZERO (R101): RING_FAB_CMD.MEM_ZERO starts zeroing the ring's memory, accepted only in IDLE or FAULT. -/
  | ringMemZero (r : Fin 128)
  /-- RING_MEM_ZERO_DONE (R100): Ring memory zeroing ends, MEM_BUSY clears and ZERO_DONE is set. -/
  | ringMemZeroDone (r : Fin 128)
  /-- RING_CLR_ECC (R100): RING_FAB_CMD.CLR_ECC clears the ring memory error counts and record. -/
  | ringClrEcc (r : Fin 128)
  /-- ACT_DISPATCH (R119): The engine receives the act index, checks its header, sets the PC to ENTRY and issues the first bundle. -/
  | actDispatch (e : Fin 1024)
  /-- BUNDLE_ISSUE (R145): A bundle issues once its waits end and all its slots execute together, retiring their results. -/
  | bundleIssue (e : Fin 1024) (meets : Bool)
  /-- XS_RESPONSE (R164): A response to an XS request arrives, its data is written by the XS path and its status word is set. -/
  | xsResponse (e : Fin 1024)
  /-- INPUT_PORT_TRANSFER (R117): An input port acknowledges a wide token from the fabric while it has credit. -/
  | inputPortTransfer (e : Fin 1024) (p : Fin 4)
  /-- OUTPUT_PORT_TRANSFER (R117): An output port's oldest token is accepted by the fabric. -/
  | outputPortTransfer (e : Fin 1024) (p : Fin 4)
  /-- ENGINE_DONE (R120): Once END has retired or the engine is OFF or faulted and its output FIFOs are empty, engine-done is raised. -/
  | engineDone (e : Fin 1024)
  /-- ENG_DMEM_HOST_ACCESS (R112): A host access reaches engine data memory under the ring's state and ENG_MEM_HOST. -/
  | engDmemHostAccess (e : Fin 1024) (a : BitVec 16) (len : Fin 16) (data : Option Token)
  /-- PROG_MEM_HOST_READ (R114): A host read of engine program memory on its own read port. -/
  | progMemHostRead (e : Fin 1024) (a : BitVec 14) (len : Fin 16)
  /-- ENG_MEM_ZERO (R136): ENG_CMD.MEM_ZERO starts zeroing the engine's data memory. -/
  | engMemZero (e : Fin 1024)
  /-- ENG_MEM_ZERO_DONE (R136): Engine data memory zeroing ends and ZERO_DONE is set. -/
  | engMemZeroDone (e : Fin 1024)
  /-- CLEAR_REGS (R136): ENG_CMD.CLEAR_REGS clears V, S, P and A to 0. -/
  | clearRegs (e : Fin 1024)
  /-- ENG_CLR_ECC (R136): ENG_CMD.CLR_ECC clears the data memory error counts. -/
  | engClrEcc (e : Fin 1024)
  /-- ENG_CLR_STATS (R136): ENG_CMD.CLR_STATS clears ENG_MAX_DU, ENG_PORT_DISCARD and the clamp count. -/
  | engClrStats (e : Fin 1024)
  /-- ENG_DBG_READ (R138): A read of ENG_DBG_DATA returns the selected register word and may advance the selection. -/
  | engDbgRead (e : Fin 1024)
  /-- ENG_DBG_WRITE (R138): A write of ENG_DBG_DATA sets the selected register word and may advance the selection. -/
  | engDbgWrite (e : Fin 1024) (v : BitVec 32)
  /-- STREAM_OUT_STAGE (R178): A token sent into a stream-out slot is staged, or dropped beyond SPACE. -/
  | streamOutStage (r : Fin 128) (i : Fin 4)
  /-- STREAM_IN_WRITE (R177): A clocked writer writes an entry into a stream-in slot, or is refused when full. -/
  | streamInWrite (r : Fin 128) (i : Fin 4) (w : Token)
  /-- PULSE_OUT_TOKEN (R181): A pulse-out lane stages a pulse token from the ring. -/
  | pulseOutToken (r : Fin 128) (l : Fin 4)
  /-- REQUEST_ACCEPT (R182): A request crossing accepts a request from the ring and carries it out at once; a queue request
  that finds its port `busy` waits there (R209). -/
  | requestAccept (r : Fin 128) (t : Fin 10) (busy : Bool := false)
  /-- RESPONSE_DELIVER (R182): A response returns through the request crossing to the ring outside the snapshot. -/
  | responseDeliver (r : Fin 128) (slot9 : Bool)
  /-- PULSE_SEND (R184): A pulse at a lane's sender toggles the request line or is accumulated. -/
  | pulseSend (r : Fin 128) (l : Fin 4)
  /-- PULSE_DELIVER (R184): The receiver accepts a toggle, delivers one pulse and toggles the acknowledge. -/
  | pulseDeliver (r : Fin 128) (out : Bool) (l : Fin 4)
  /-- PULSE_ACK (R185): The sender accepts the acknowledge and sends again if its accumulator is above 0. -/
  | pulseAck (r : Fin 128) (out : Bool) (l : Fin 4) (pulse : Bool)
  /-- SIDE_RESET (R187): A Turnstile side enters reset and the other side enters RESYNC. -/
  | sideReset (r : Fin 128) (t : RingCrossing)
  /-- RESYNC_HANDSHAKE (R189): On reset release the two sides run the pointer-resync handshake and return to RUN. -/
  | resyncHandshake (r : Fin 128) (t : RingCrossing)
  /-- BEAT_TIMEOUT (R190): A handshake or RESYNC lasts TS_TIMEOUT cycles and the slot enters STOPPED; `step4`: step 4 of
  Table 5-9 falls in the same cycle (R191). -/
  | beatTimeout (x : Crossing) (step4 : Bool := false)
  /-- BEAT_RESUME (R190): The far side's beat resumes and the slot resyncs to RUN. -/
  | beatResume (x : Crossing)
  /-- TS_FLUSH (R192): TS_CMD.FLUSH runs the resync handshake as a flush. -/
  | tsFlush (r : Fin 128) (t : Fin 26)
  /-- TS_CLR_STATS (R198): TS_CMD.CLR_STATS clears the slot counters. -/
  | tsClrStats (r : Fin 128) (t : Fin 26)
  /-- QPUSH (R226): The queue manager stores a push's narrow words, under lock, fullness and drop rules. -/
  | qpush (r : Fin 128) (t : Fin 10) (q : Fin 16384) (ws : List Token) (eop : Bool) (vb : Fin 8) (seat : Bool)
  /-- QPOP (R215): The queue manager returns up to LEN closed wide words with their tags. `push`: a push word to the same
  queue in the QCLK cycle of the first word (R229). -/
  | qpop (r : Fin 128) (t : Fin 10) (q : Fin 16384) (n : Fin 64) (whole : Bool) (seat : Bool) (push : Option MeetPush := none)
  /-- QMARK (R223): The mark is set at the read pointer. -/
  | qmark (r : Fin 128) (t : Fin 10) (q : Fin 16384) (seat : Bool)
  /-- QREWIND (R224): The read pointer returns to the mark. -/
  | qrewind (r : Fin 128) (t : Fin 10) (q : Fin 16384) (seat : Bool)
  /-- QRELEASE (R225): The mark is cleared. -/
  | qrelease (r : Fin 128) (t : Fin 10) (q : Fin 16384) (seat : Bool)
  /-- QCOMMIT (R220): The source's open COMMIT packet is committed or discarded. -/
  | qcommit (r : Fin 128) (t : Fin 10) (q : Fin 16384) (discard : Bool) (seat : Bool)
  /-- STREAM_OUT_SEGMENT (R214): A producer port serves a stream-out segment as a push. -/
  | streamOutSegment (r : Fin 128) (i : Fin 4)
  /-- STREAM_IN_SEGMENT (R214): A consumer port pops a segment into a stream-in slot when it fits. -/
  | streamInSegment (r : Fin 128) (i : Fin 4)
  /-- QUEUE_RESET (R237): QM_Q_CMD RESET empties the queue, advances GEN and quarantines its cells. -/
  | queueReset (q : Fin 16384)
  /-- ABORT_PKT (R248): QM_Q_CMD ABORT_PKT truncates or fails the lock holder's open packet. -/
  | abortPkt (q : Fin 16384)
  /-- Q_CLR_STATS (R248): QM_Q_CMD CLR_STATS clears QD_DROP and WM_COUNT. -/
  | qClrStats (q : Fin 16384)
  /-- HOST_PUSH (R243): QM_HOST_CMD push stores one narrow word from the host. -/
  | hostPush (q : Fin 16384) (eop : Bool) (vb : Fin 8)
  /-- HOST_POP (R243): QM_HOST_CMD pop places one wide word and its tag in the host registers. -/
  | hostPop (q : Fin 16384)
  /-- QD_CFG_WRITE (R254): A write to QD_CFG is checked, and clearing EN resets the queue. -/
  | qdCfgWrite (q : Fin 16384) (v : Word)
  /-- WATERMARK_LEVEL_WRITE (R232): A write to QD_WM.LEVEL sets ABOVE from OCC without an event. -/
  | watermarkLevelWrite (q : Fin 16384) (level : BitVec 22)
  /-- POOL_LOW_LEVEL_WRITE (R242): A write to QM_POOL_LOW.LEVEL re-arms the event without raising it. -/
  | poolLowLevelWrite (level : BitVec 19)
  /-- COUNTER_CLEAR (R252): A write of any value to a write-to-clear counter register clears it. -/
  | counterClear (a : BitVec 27) (v : Word)
  /-- TRAINING_START (R260): Setting XMC_CTRL.EN starts full training or verification. -/
  | trainingStart (n : Fin 8)
  /-- TRAINING_DONE (R261): Training ends: READY with stored delays, or FAILED with the step recorded. -/
  | trainingDone (n : Fin 8) (ok : Bool) (retrained : Bool) (step : Fin 8) (rdLat : BitVec 8) (eye : BitVec 8) (dly : List (BitVec 8 × BitVec 8))
  /-- DRIFT_TRACKING (R262): Every 256 us a READY controller adjusts read delays and may set DRIFT_LOW. -/
  | driftTracking (n : Fin 8) (x : DriftStep)
  /-- RETRAIN (R263): XMC_CMD.RETRAIN runs training steps 3 to 8. -/
  | retrain (n : Fin 8)
  /-- XMC_CLR_ECC (R288): XMC_CMD.CLR_ECC clears the controller error counts. -/
  | xmcClrEcc (n : Fin 8)
  /-- XMC_CLR_STATS (R288): XMC_CMD.CLR_STATS clears XMC_ARB. -/
  | xmcClrStats (n : Fin 8)
  /-- XRD (R271): An external memory read enters its controllers' arbiter trees after the entry checks. -/
  | xrd (r : Fin 128) (t : Fin 10) (f : Fin 256) (off : Word) (len : Fin 64) (seat : Bool)
  /-- XWR (R273): An external memory write enters its controllers' arbiter trees, as a read-modify-write if partial. -/
  | xwr (r : Fin 128) (t : Fin 10) (f : Fin 256) (off : Word) (ws : List Token) (seat : Bool)
  /-- TRANSACTION_GRANT (R277): A controller grants a transaction slot to a seated, drift or dynamic transaction. -/
  | transactionGrant (n : Fin 8)
  /-- FILE_ENABLE (R269): Setting XF_CFG.EN enables a file or refuses with FILE_ERR, binding a key and starting initialisation. -/
  | fileEnable (f : Fin 256) (enc : Bool) (hostR : Bool) (hostW : Bool) (k : Fin 64)
  /-- FILE_DISABLE (R316): Clearing XF_CFG.EN disables a file, answered RETRY during page or migration work. -/
  | fileDisable (f : Fin 256)
  /-- FILE_INIT_DONE (R310): Initialisation of an encrypted file ends and its STATE becomes READY. -/
  | fileInitDone (f : Fin 256)
  /-- KEY_LOAD (R294): KS_CMD LOAD loads a key into an EMPTY slot. -/
  | keyLoad (k : Fin 64) (link : Bool)
  /-- KEY_RETIRE (R296): KS_CMD RETIRE moves a LOADED slot to DRAINING. -/
  | keyRetire (k : Fin 64)
  /-- KEY_DRAIN_DONE (R296): In-flight requests of a draining slot finish and zeroisation starts. -/
  | keyDrainDone (k : Fin 64)
  /-- KEY_COOLDOWN_END (R296): 1,024 QCLK cycles after COOLDOWN the slot becomes EMPTY. -/
  | keyCooldownEnd (k : Fin 64)
  /-- KEY_ABORT (R297): KS_CMD ABORT returns a draining slot to LOADED. -/
  | keyAbort (k : Fin 64)
  /-- REKEY (R311): CX_CMD REKEY starts migration of a file to its next slot. -/
  | rekey (f : Fin 256)
  /-- MIGRATION_ABORT (R315): CX_CMD ABORT pauses a migration after the line in progress. -/
  | migrationAbort (f : Fin 256)
  /-- MIGRATION_RESUME (R315): CX_CMD RESUME continues a paused migration. -/
  | migrationResume (f : Fin 256)
  /-- PAGE_RESET (R319): CX_CMD PAGE_RESET zero-fills a page under a new MAJOR and clears POISON. -/
  | pageReset (f : Fin 256) (p : Fin 65536)
  /-- PORT_ENABLE (R333): Setting EP_CFG.EN enables an Ethernet port or refuses with CFG_ERR. -/
  | portEnable (p : Fin 48) (v : Word)
  /-- ETH_LINK_UP (R336): The PCS and FEC lock and the port enters UP. -/
  | ethLinkUp (p : Fin 48)
  /-- ETH_LINK_DOWN (R336): Lock is lost, the port enters DOWN and retrains. -/
  | ethLinkDown (p : Fin 48)
  /-- RX_FRAME (R337): A received frame is accepted, classified and written to its queue or swingboat. -/
  | rxFrame (p : Fin 48) (i : Fin 4) (bytes : List Byte) (tb : BitVec 64)
  /-- INGRESS_PUSH (R340): A buffered frame's push is repeated after RETRY until its lock is free. -/
  | ingressPush (p : Fin 48) (i : Fin 4)
  /-- EGRESS_FRAME (R342): At a frame boundary the port pops and sends a packet or swingboat frame. -/
  | egressFrame (p : Fin 48) (tb : BitVec 64)
  /-- PFC_XOFF_REPEAT (R345): While a watermark is ABOVE, PFC XOFF is resent every half pause time. -/
  | pfcXoffRepeat (p : Fin 48) (i : Fin 8)
  /-- TXTS_POP (R361): A read of EP_TXTS3 removes the oldest transmit timestamp entry. -/
  | txtsPop (p : Fin 48)
  /-- SWINGBOAT_ENABLE (R351): Setting SB_CFG.EN enables a swingboat or refuses with CFG_ERR. -/
  | swingboatEnable (b : Fin 12) (v : Word)
  /-- SWINGBOAT_BATCH (R352): The transmit side reads a published batch, compresses streams and queues frames. -/
  | swingboatBatch (r : Fin 128) (i : Fin 4)
  /-- SWINGBOAT_RX (R354): The receive side accepts or rejects a swingboat frame. -/
  | swingboatRx (b : Fin 12)
  /-- SWINGBOAT_DECOMPRESSED (R355): An accepted frame finishes decompression and is held for its release edge. -/
  | swingboatDecompressed (b : Fin 12)
  /-- ICL_PORT_ENABLE (R376): Setting ICL_PORT_CFG.EN starts training of a cascade port. -/
  | iclPortEnable (q : Fin 4) (v : Word)
  /-- ICL_TRAINING_DONE (R376): Training ends and the port enters LINKED. -/
  | iclTrainingDone (q : Fin 4)
  /-- BARKER_SEND (R372): A port's barker interval expires and a barker is sent. -/
  | barkerSend (q : Fin 4)
  /-- BARKER_RX (R374): A received barker updates the map, partner fields and delay measurement. -/
  | barkerRx (q : Fin 4)
  /-- KEY_PROBE (R376): A usable link with matching partner keys sends a key probe. -/
  | keyProbe (q : Fin 4)
  /-- PROBE_RX (R376): A probe decrypted to the expected bytes brings the port UP. -/
  | probeRx (q : Fin 4)
  /-- LINK_LOSS (R377): Loss of lane or FEC lock returns a port to TRAINING. -/
  | linkLoss (q : Fin 4)
  /-- RX_SILENCE (R377): No frame for 2 us returns a port to TRAINING. -/
  | rxSilence (q : Fin 4)
  /-- PORT_FAULT_RETRY (R376): A port in FAULT retries bring-up every 100 us. -/
  | portFaultRetry (q : Fin 4)
  /-- READY_RX (R382): The master receives a READY frame from a follower. -/
  | readyRx (q : Fin 4)
  /-- WITHDRAW_RX (R392): The master receives WITHDRAW and, after J, removes the follower. -/
  | withdrawRx (q : Fin 4)
  /-- JOIN_RX (R380): A READY device named in JOIN prepares to become MEMBER at edge J. -/
  | joinRx (q : Fin 4)
  /-- LEAVE_RX (R392): A received LEAVE clears the device's member bit and re-routes. -/
  | leaveRx (q : Fin 4)
  /-- STATUS_RX (R382): The master receives STATUS and holds the follower present. -/
  | statusRx (q : Fin 4)
  /-- FOLLOWER_TIMEOUT (R392): No READY or STATUS from a follower for 10 us makes the master broadcast LEAVE for it. -/
  | followerTimeout (i : Fin 16)
  /-- ICL_FRAME_RX (R369): A received cascade frame is checked and handled or relayed. -/
  | iclFrameRx (q : Fin 4) (bytes : List Byte) (tb : BitVec 64)
  /-- FRAME_SEND (R368): At a frame boundary a port sends its highest-priority waiting frame. -/
  | frameSend (q : Fin 4) (tb : BitVec 64)
  /-- TOKEN_BATCH_RX (R386): A received token batch is held, superseded, dropped late or written. -/
  | tokenBatchRx (q : Fin 4) (fallback : Bool := false)
  /-- TOKEN_BATCH_WRITE (R386): At edge DUE - 1 a held batch is written into the stream-in slot. -/
  | tokenBatchWrite (ch : Fin 32)
  /-- QUEUE_TRANSFER (R387): A cascade egress adapter pops a whole packet and sends it as QUEUE_SEG frames. -/
  | queueTransfer (q : Fin 4)
  /-- QUEUE_SEG_RX (R388): A received QUEUE_SEG is pushed into DEST_QUEUE. -/
  | queueSegRx (q : Fin 4)
  /-- TUNNEL_READ (R389): ICL_TUN_CMD read sends a tunnelled BAR0 read. -/
  | tunnelRead (dest : Fin 16)
  /-- TUNNEL_WRITE (R389): ICL_TUN_CMD write sends a tunnelled BAR0 write. -/
  | tunnelWrite (dest : Fin 16)
  /-- TUN_REQ_RX (R389): A device performs a tunnelled access and returns TUN_RSP. -/
  | tunReqRx (q : Fin 4)
  /-- TUN_RSP_RX (R389): A tunnel response completes the outstanding access. -/
  | tunRspRx (q : Fin 4)
  /-- PTP_SAMPLE (R405): A write to RM_OFS_SAMPLE is a sample: step or servo and discipline state update. -/
  | ptpSample (ofs : Word)
  /-- PPS_IN_EDGE (R404): A PPS_IN marking edge is timestamped and accepted as a sample or rejected. -/
  | ppsInEdge (falling : Bool) (tb : BitVec 64)
  /-- TIME_SET (R406): A write to RM_TIME_SET_NS sets the time of day when SRC is NONE. -/
  | timeSet (v : Word)
  /-- SRC_WRITE (R406): A write to RM_DISC.SRC changes the discipline source at once. -/
  | srcWrite (v : Word)
  /-- TICK_SET (R408): A write to RM_TICK_SET_LO loads TICK_COUNT while RUN is 0. -/
  | tickSet (lo : Word)
  /-- TICK_MARK_RX (R417): A marker on the upstream port drives the follower's step, rephase or tracking and is relayed. -/
  | tickMarkRx (q : Fin 4)
  /-- AVS_LINK_START (R434): Tightrope writes Vout Transition Rate and reads status, leaving OFF for HOLD. -/
  | avsLinkStart (ends : List (Bool × Bool))
  /-- AVS_FRAME_DONE (R435): An AVSBus frame ends and is accepted or repeated, up to REG_FAULT. -/
  | avsFrameDone (crcOk : Bool) (errFlag : Bool) (value : BitVec 16)
  /-- CURRENT_READ (R434): Every 100 us Target Rail Current is read into TG_IOUT; `fails`: how many of its frames failed. -/
  | currentRead (amps : BitVec 16) (fails : Fin 5 := 0)
  /-- SLEW_WRITE (R434): A write to TG_AVS.SLEW sends the new rate before the next voltage write. -/
  | slewWrite (rate : BitVec 8)
  /-- SENSOR_READ (R437): Every 1 us Tightrope reads VCORE, temperatures and delay monitors. -/
  | sensorRead (vcores : Vector (BitVec 10) 8) (temps : List (Option Int)) (mons : List (Option Nat))
  /-- VSAFE_WRITE (R439): A write to TG_VSAFE is checked against range and R27. -/
  | vsafeWrite (mv : BitVec 10)
  /-- FORCE (R451): TG_FORCE with EN = 1 enters FORCED at MV. -/
  | force (mv : BitVec 10)
  /-- SYNC_WORD (R461): A route finds the sync word and starts a load. -/
  | syncWord (window : Bool) (data : List Word)
  /-- HEADER_PACKET (R462): The HEADER packet is checked and the load accepted or refused. -/
  | headerPacket (window : Bool) (data : List Word)
  /-- CFG_FRAME (R463): A frame is checked by address, mask and CRC and written. -/
  | cfgFrame (data : List Word)
  /-- ENC_PACKET (R468): An ENC packet is decrypted and authenticated with AES-256-GCM. -/
  | encPacket (data : List Word)
  /-- END_PACKET (R467): END checks the frame count and completes the load. -/
  | endPacket (data : List Word)
  /-- HOST_WINDOW_WRITE (R460): A 32-bit write to the host window appends one word to the host stream. -/
  | hostWindowWrite (v : Word)
  /-- COLD_START (R477): Power-on reset ends and the cold start sequence runs. -/
  | coldStart (mode : Fin 8) (casc : Fin 16) (master : Bool) (vio : List (Fin 5))
  /-- COMMIT (R483): TRIM_CMD COMMIT writes the staging buffer to the trim store. -/
  | commit (code : BitVec 16)
  /-- FIELD_TRIM_DONE (R484): The field-trim routine ends and sets FIELD_BUF. -/
  | fieldTrimDone (vals : List Byte)
  /-- TRIM_DATA_WRITE (R491): A write of TRIM_DATA reaches the buffer and advances TRIM_ADDR. -/
  | trimDataWrite (v : Word)
  /-- BURN_KEY (R489): CFG_FUSE_CMD BURN_KEY burns the bitstream key. -/
  | burnKey (unlock : BitVec 16)
  /-- BURN_REQ_ENC (R489): CFG_FUSE_CMD BURN_REQ_ENC burns the REQ_ENC fuse. -/
  | burnReqEnc (unlock : BitVec 16)
  /-- CAROUSEL_ENABLE (R505): Setting CAR_CTRL.EN runs continuous passes and leaves HALTED. -/
  | carouselEnable (ueFault : Bool)
  /-- BIST_START (R509): BIST_CMD START begins a self-test run or refuses it. -/
  | bistStart (kind : Fin 8)
  /-- BIST_RUN_END (R513): A run ends with its verdict and the target leaves inspection. -/
  | bistRunEnd (pats : BitVec 24) (sig : Word) (fails : Word) (addr : Word) (map : BitVec 96)
  /-- BBR_MARK (R519): BBR_CMD.MARK queues a host marker event. -/
  | bbrMark (fatal : Bool)
  /-- BBR_ENTRY_READ (R521): A read of word 0 of an entry latches it for the other words. -/
  | bbrEntryRead (i : Fin 4096) (w : Fin 4)
  /-- PIN_FUNCTION_SWITCH (R535): A write changing FUNC switches a pin's function over three GPIO clocks. -/
  | pinFunctionSwitch (n : Fin 96) (func : Fin 16)
  /-- PIN_CFG_WRITE (R537): A GPIO_PIN_CFG write that leaves FUNC unchanged applies drive, filter and event settings. -/
  | pinCfgWrite (n : Fin 96) (v : Word)
  /-- GPIO_OUT_SET (R539): A write to GPIO_OUT_SET sets OUT bits. -/
  | gpioOutSet (i : Fin 3) (v : Word)
  /-- GPIO_OUT_CLR (R539): A write to GPIO_OUT_CLR clears OUT bits. -/
  | gpioOutClr (i : Fin 3) (v : Word)
  /-- GPIO_FILT_WRITE (R543): A write to GPIO_FILT restarts every running filter count. -/
  | gpioFiltWrite (v : Word)
  /-- PIN_EDGE (R544): A change of a pin's level passes its filter and may set a pin event. -/
  | pinEdge (n : Fin 96) (level : Bool)
  /-- FILTER_SETTLE (R543): A glitch or debounce count expires and the filtered level changes. -/
  | filterSettle (n : Fin 96)
  /-- BANK_SUPPLY_CHANGE (R529): A bank supply change held for 1 ms sets BANK_CHG. -/
  | bankSupplyChange (b : Fin 6) (vio : Fin 5)
  /-- BANK_SUPPLY_RETURN (R542): A bank's supply returns and its pins restart their filter history. -/
  | bankSupplyReturn (b : Fin 6) (vio : Fin 5)
  /-- I2C_XFER (R547): A write to I2C_XFER starts an I2C transfer. -/
  | i2cXfer (b : Fin 6) (v : Word)
  /-- SPI_XFER (R547): A write to SPI_XFER starts an SPI exchange. -/
  | spiXfer (b : Fin 6) (v : Word)
  /-- MDIO_WRITE (R547): MDIO_XFER write frame. -/
  | mdioWrite (b : Fin 6) (cl45 : Bool) (phy : BitVec 5) (reg : BitVec 5) (data : BitVec 16)
  /-- MDIO_READ (R547): MDIO_XFER read frame. -/
  | mdioRead (b : Fin 6) (cl45 : Bool) (phy : BitVec 5) (reg : BitVec 5)
  /-- MDIO_ADDRESS (R547): MDIO_XFER clause 45 address frame. -/
  | mdioAddress (b : Fin 6) (phy : BitVec 5) (reg : BitVec 5) (data : BitVec 16)
  /-- MDIO_READ_INCREMENT (R547): MDIO_XFER clause 45 read-increment frame. -/
  | mdioReadIncrement (b : Fin 6) (phy : BitVec 5) (reg : BitVec 5)
  /-- TXD_PUSH (R555): A write to a peripheral TXD pushes one byte into the transmit FIFO. -/
  | txdPush (k : Fin 3) (b : Fin 6) (v : BitVec 8)
  /-- RXD_POP (R555): A read of a peripheral RXD pops one receive FIFO entry. -/
  | rxdPop (k : Fin 4) (b : Fin 6)
  /-- XFER_DONE (R547): A peripheral transfer ends and sets DONE or an error. -/
  | xferDone (k : Fin 4) (b : Fin 6) (sent : Fin 17) (rx : List (BitVec 16)) (nack : Bool) (arb : Bool)
  /-- I2C_STRETCH_TIMEOUT (R546): A target stretching SCL beyond TO_MS ends the transfer with TIMEOUT. -/
  | i2cStretchTimeout (b : Fin 6)
  /-- UART_RX_BYTE (R546): A UART receives a byte into its receive FIFO. -/
  | uartRxByte (b : Fin 6) (v : BitVec 8) (perr : Bool) (ferr : Bool)
  /-- UART_TX_BYTE (R546): A UART sends the next byte of its transmit FIFO. -/
  | uartTxByte (b : Fin 6)
  /-- CONFIG_REQUEST (R556): A PCI Express configuration request to the endpoint. -/
  | configRequest (dw : Fin 1024) (be : BitVec 4) (data : Option Word)
  /-- BAR0_REQUEST (R4): A host request to a BAR0 register. -/
  | bar0Request (dw : BitVec 25) (len : BitVec 10) (fbe : BitVec 4) (lbe : BitVec 4) (reqId : BitVec 16) (data : Option (List Word))
  /-- BAR2_REQUEST (R560): A host request to BAR2 split into units of ring, data or program memory. -/
  | bar2Request (dw : BitVec 26) (len : BitVec 10) (fbe : BitVec 4) (lbe : BitVec 4) (reqId : BitVec 16) (data : Option (List Word))
  /-- BAR4_REQUEST (R559): A host request to external memory through BAR4. -/
  | bar4Request (dw : BitVec 26) (len : BitVec 10) (fbe : BitVec 4) (lbe : BitVec 4) (reqId : BitVec 16) (data : Option (List Word))
  /-- DMA_DESCRIPTOR (R563): An enabled channel with work reads the descriptor at DMA_CONS. -/
  | dmaDescriptor (n : Fin 8) (res : Fin 4) (desc : BitVec 256)
  /-- DMA_PIECE (R563): A channel moves one 512-byte piece of its descriptor, ending and writing back the status word at the end. -/
  | dmaPiece (n : Fin 8) (res : Fin 4) (data : List Byte)
  /-- DMA_ABORT (R565): DMA_CMD.ABORT stops the descriptor at its next 512-byte boundary. -/
  | dmaAbort (n : Fin 8)
  /-- DMA_RESUME (R564): DMA_CMD.RESUME returns a halted channel to work. -/
  | dmaResume (n : Fin 8)
  /-- MI2C_WRITE (R566): Management I2C command 0x01 performs a BAR0 write. -/
  | mi2cWrite (addr : BitVec 7) (off : Word) (v : Word)
  /-- MI2C_READ (R566): Management I2C command 0x02 performs a BAR0 read and returns code and data. -/
  | mi2cRead (addr : BitVec 7) (off : Word)
  /-- GIRQ_EOI (R568): A write to GIRQ_EOI clears a vector's in-service bit and may resend. -/
  | girqEoi (v : Fin 256)
  /-- MSIX_SEND (R568): An asserted, unmasked vector not in service sends its MSI-X message. -/
  | msixSend (v : Fin 256)
  /-- MSIX_VECTOR_UNMASK (R568): Clearing a vector's mask sends its pending message if still asserted. -/
  | msixVectorUnmask (v : Fin 256)
  /-- REFCLK_LOSS (R584): REFCLK_SYS measured out of range is treated as lost. -/
  | refclkLoss (v : BitVec 16)
  /-- REFCLK_RETURN (R584): REFCLK_SYS returns and the PLL relocks without a TB step. -/
  | refclkReturn (v : BitVec 16)
  /-- MAP_AGE_OUT (R374): A device's bit in ICL_MAP.PRESENT or MASTERS lapses when no barker or control frame has carried it for 256 us. -/
  | mapAgeOut (i : Fin 16) (masters : Bool)
  /-- PAUSE_EXPIRY (R345): The pause time of a received PAUSE or PFC frame runs out and the stopped egress entries and swingboat frames may send again, clearing EP_STATUS.PAUSED. -/
  | pauseExpiry (p : Fin 48)
  /-- PERST_N_RELEASE (R558): PERST_N rises and the host port comes out of reset, becoming ready for configuration requests within 100 ms and answering Retry Status until then. -/
  | perstNRelease (ns : BitVec 27) (width : Fin 4) (speed : Fin 5)
  /-- BOUNDARY_SCAN_DRIVE (R551): The test access port enters an instruction that drives pins, and the boundary register overrides FUNC and GPIO_OE. -/
  | boundaryScanDrive (v : BitVec 96) (en : BitVec 96)
  /-- SEC_TEST (R323): Writing SEC_CTRL.TEST raises the TEST security cause. -/
  | secTest
  /-- HOLD_EXPIRY (R442): HOLD_LEFT reaches 0 and Tightrope leaves HOLD or SAFETY for TRACK. -/
  | holdExpiry
  /-- FLOOR_RECOMPUTE (R29): Every 1 us Ringmaster recomputes the contract floor from the ceiling and present temperatures. -/
  | floorRecompute
  /-- POOL_SWEEP (R238): The sweep visits one cell in a spare pool cycle and frees cells of disabled or reset queues. -/
  | poolSweep
  /-- QM_INIT_DONE (R240): INIT ends and the queue manager enters RUN. -/
  | qmInitDone
  /-- KEY_LOAD_DONE (R294): The slot becomes LOADED with FRESH set and KS_DATA zeroed. -/
  | keyLoadDone
  /-- PAGE_OPERATION_START (R302): The crypto unit starts the next queued page re-encryption or migration page. -/
  | pageOperationStart
  /-- PAGE_LINE_REWRITE (R303): One line of a page operation is rewritten and LINE_PTR advances. -/
  | pageLineRewrite
  /-- WRITE_RESUME (R304): A write waiting on a MINOR 63 line proceeds once the line is rewritten. -/
  | writeResume
  /-- COUNTER_STORE_SWEEP (R317): The background sweep reads a counter store entry, correcting or poisoning it. -/
  | counterStoreSweep
  /-- MAP_SETTLE (R378): The map unchanged for 64 us settles discovery and the master check is applied. -/
  | mapSettle
  /-- READY_SEND (R379): A follower sends READY to the master every 1 us while its conditions hold. -/
  | readySend
  /-- JOIN_SEND (R380): The master holding READY from non-members broadcasts JOIN with the join tick. -/
  | joinSend
  /-- LEAVE (R381): ICL_CMD.LEAVE ends membership, broadcasts LEAVE and ticks alone. -/
  | leave
  /-- STATUS_SEND (R382): A member follower sends STATUS to the master every 1 us. -/
  | statusSend
  /-- MASTER_TIMEOUT (R392): No frame from the master for 10 us puts a follower in HOLDOVER. -/
  | masterTimeout
  /-- TUNNEL_TIMEOUT (R389): No response within 20 us answers the tunnel access TIMEOUT. -/
  | tunnelTimeout
  /-- PLL_LOCK (R400): The timebase PLL locks and PLL_LOCK is set. -/
  | pllLock
  /-- DISC_TIMEOUT (R403): No sample for HOLD_TO moves DISC to HOLDOVER. -/
  | discTimeout
  /-- RUN_SET (R408): Setting RM_CTRL.RUN starts the tick generator. -/
  | runSet
  /-- RUN_CLEAR (R409): Clearing RUN stops ticks, applies a pending period and withdraws a pending ALIGN. -/
  | runClear
  /-- APPLY_PERIOD (R409): RM_CMD APPLY_PERIOD schedules the new period, subject to R31. -/
  | applyPeriod
  /-- ALIGN (R410): RM_CMD ALIGN schedules a stretched edge on the phase of the second. -/
  | align
  /-- CANCEL (R411): RM_CMD CANCEL withdraws a pending period change or ALIGN. -/
  | cancel
  /-- PPS_OUT_PULSE (R412): PPS_OUT pulses at each whole second of the time of day. -/
  | ppsOutPulse
  /-- AVS_RETRY (R435): While REG_FAULT is set Tightrope retries the regulator every 1 ms. -/
  | avsRetry
  /-- REGULATOR_SETTLE_TIMEOUT (R435): VCORE not within 10 mV of a new command after 100 us sets REG_SLOW. -/
  | regulatorSettleTimeout
  /-- PMBUS_ALERT (R436): An asserted PMBus alert sets REG_ALERT and stops steps down. -/
  | pmbusAlert
  /-- DECISION_INTERVAL (R443): At the end of a decision interval Tightrope steps up, holds or steps down by S_MIN. -/
  | decisionInterval
  /-- GOVERNED_CLEAR (R440): Clearing GOVERNED below the floor commands the floor bound. -/
  | governedClear
  /-- AGE_CHECK (R448): TG_CMD.AGE_CHECK, or the 24-hour timer, commands VSAFE_EFF for an age check. -/
  | ageCheck
  /-- AGE_CHECK_TEST (R448): After 10 ms the end-of-life condition is tested on 16 readings. -/
  | ageCheckTest
  /-- HOUR_COUNT (R450): Each hour of operation increments HOURS and, if hot, HOT_HOURS. -/
  | hourCount
  /-- LIFE_SAVE (R450): Every 24 hours the hour counts are written to the trim store. -/
  | lifeSave
  /-- FORCE_RELEASE (R441): Clearing FORCE moves Tightrope to SAFETY. -/
  | forceRelease
  /-- CLR_FAULT (R447): TG_CMD.CLR_FAULT leaves THERMAL for SAFETY when TJ_MAX is below HOT. -/
  | clrFault
  /-- CFG_ABORT (R476): CFG_CMD.ABORT stops the running load at the next frame boundary. -/
  | cfgAbort
  /-- PROG_N_FALL (R470): An accepted PROG_N pulse starts: load stopped, rings halted, INIT_N and DONE low, locks cleared. -/
  | progNFall
  /-- PROG_N_RISE (R470): At PROG_N rising, configuration frames, shadow and engines are cleared. -/
  | progNRise
  /-- CLEAR_DONE (R470): Clearing of configuration ends and INIT_N is released. -/
  | clearDone
  /-- DONE_RELEASE (R472): DONE high for 1 us and controllers ready: RUN then held arms are applied. -/
  | doneRelease
  /-- DONE_LOW (R472): DONE falling after the release sets DONE_LOW. -/
  | doneLow
  /-- WARM_RESET (R478): WARM_RST_N low for 1 us starts a warm start. -/
  | warmReset
  /-- WARM_RESET_END (R480): The reset phase ends and configuration is replayed or reloaded; `straps`: new levels of CASC_ID
  and CASC_MASTER, none where they are as they were. -/
  | warmResetEnd (straps : Option (Fin 16 × Bool) := none)
  /-- COMMIT_DONE (R483): The trim commit ends within 50 ms. -/
  | commitDone
  /-- FIELD_TRIM (R484): TRIM_CMD FIELD_TRIM regenerates calibration values into the buffer. -/
  | fieldTrim
  /-- TRIM_ABORT (R484): TRIM_CMD ABORT stops the field-trim routine at its next value. -/
  | trimAbort
  /-- TRIM_DATA_READ (R491): A read of TRIM_DATA returns the stored word and advances TRIM_ADDR. -/
  | trimDataRead
  /-- BURN_DONE (R489): A fuse burn ends and zeroes the fuse data registers. -/
  | burnDone
  /-- CAROUSEL_FRAME_CHECK (R496): Every 400 ns Carousel checks one frame and repairs or reports it. -/
  | carouselFrameCheck
  /-- CAROUSEL_HALT (R503): Four restarts without a completed pass halt Carousel. -/
  | carouselHalt
  /-- CAROUSEL_VOTE (R502): Carousel's triplicated registers are voted and repaired. -/
  | carouselVote
  /-- CAR_PASS (R505): CAR_CMD.PASS runs one pass. -/
  | carPass
  /-- CAR_ABORT (R505): CAR_CMD.ABORT stops the pass and clears EN. -/
  | carAbort
  /-- CAR_CLR_STATS (R523): CAR_CMD.CLR_STATS clears CAR_COUNT and CAR_SEQ. -/
  | carClrStats
  /-- BIST_ABORT (R514): BIST_CMD ABORT stops the run at its next pattern boundary. -/
  | bistAbort
  /-- BIST_LIMIT_CHECK (R511): Every 1 us the run's voltage and clock limits are checked. -/
  | bistLimitCheck
  /-- BBR_WRITE (R518): The BBR writes the next queued event as an entry. -/
  | bbrWrite
  /-- BBR_POST_FREEZE (R519): POST entries after a trigger have been written and the BBR freezes. -/
  | bbrPostFreeze
  /-- BBR_CLEAR (R519): BBR_CMD.CLEAR zeroes every entry and counter. -/
  | bbrClear
  /-- BBR_UNFREEZE (R519): BBR_CMD.UNFREEZE clears FROZEN and any pending trigger. -/
  | bbrUnfreeze
  /-- BBR_FREEZE (R519): BBR_CMD.FREEZE freezes the BBR. -/
  | bbrFreeze
  /-- JTAG_RELEASE (R551): The test access port stops driving pins and each pin passes through the function switch. -/
  | jtagRelease
  /-- BAR_TIMEOUT (R561): A received BAR access unanswered for 40 us is answered TIMEOUT. -/
  | barTimeout
  /-- PERST_N (R558): PERST_N low resets the host port. -/
  | perstN
  /-- HOT_RESET (R558): A hot reset acts on the host port as PERST_N. -/
  | hotReset
  /-- PCIE_LINK_DOWN (R558): A PCI Express link down acts on the host port as PERST_N. -/
  | pcieLinkDown
  /-- FUNCTION_LEVEL_RESET (R558): A Function Level Reset resets the host port with the link up. -/
  | functionLevelReset
  /-- BROWN_OUT (R579): A rail below its threshold for 1 us forces power-on reset and a cold start. -/
  | brownOut
  /-- MI2C_BAD_COMMAND (R566): A management I2C transaction with a command byte other than 0x01 or 0x02, or a byte count other than 5 or 9, is answered NACK and performs nothing. -/
  | mi2cBadCommand
  deriving DecidableEq, Repr

end Sys2Proof
end

