-- ==== Sys2Proof/WellFormed.lean ====
section
/-! DEFINITION. Which commands are well formed: operands that the types of Syntax.lean do not bound by themselves. -/
namespace Sys2Proof

/-- What is wrong with a command. -/
inductive IllFormed where
  /-- A sample at a tick edge of a slot that is no word-in or level-in slot (Table 5-2). -/
  | sampleSlot
  /-- A crossing that belongs to no ring, named with a ring other than 0 (R173). -/
  | crossingRing
  /-- More words than LEN can say (R213, R272). -/
  | requestWords
  /-- More stored delays than a controller has DQ bits (R291). -/
  | delayCount
  /-- Not one reading for each of the 32 temperature sensors and 64 delay monitors (R437). -/
  | readings
  /-- Not one supply for each of the six banks (R529). -/
  | supplies
  /-- More calibration values than the staging buffer holds (R483). -/
  | trimValues
  /-- More received entries than a transfer has (R547). -/
  | transferEntries
  /-- A write without data, or with more than 512 bytes of it (R560). -/
  | payload
  /-- A piece of more than 512 bytes (R563). -/
  | pieceBytes
  deriving DecidableEq, Repr

/-- A request of the host carries 1 to 128 words of data where it carries any (R560). -/
def payloadCheck (data : Option (List Word)) : Option IllFormed :=
  match data with
  | none => none
  | some ws => if ws.length = 0 ∨ 128 < ws.length then some .payload else none

/-- A crossing that belongs to no ring stands with ring 0. -/
def crossingCheck (r : Fin 128) (t : RingCrossing) : Option IllFormed :=
  match t with
  | .carousel | .xmc _ | .ethernet _ | .config => if r = 0 then none else some .crossingRing
  | _ => none

/-- What is wrong with a command, none where nothing is. -/
def Instr.check (i : Instr) : Option IllFormed :=
  match i with
  | .tickEdge ins => if ins.all (fun x => x.2.1.val == 18 || x.2.1.val == 19 || x.2.1.val == 22) then none else some .sampleSlot
  | .sideReset r t => crossingCheck r t
  | .resyncHandshake r t => crossingCheck r t
  | .qpush _ _ _ ws _ _ _ => if ws.length ≤ 63 then none else some .requestWords
  | .xwr _ _ _ _ ws _ => if ws.length ≤ 63 then none else some .requestWords
  | .trainingDone _ _ _ _ _ _ dly => if dly.length ≤ 72 then none else some .delayCount
  | .sensorRead _ temps mons => if temps.length = 32 ∧ mons.length = 64 then none else some .readings
  | .coldStart _ _ _ vio => if vio.length = 6 then none else some .supplies
  | .fieldTrimDone vals => if vals.length ≤ 0xFF8 then none else some .trimValues
  | .xferDone _ _ _ rx _ _ => if rx.length ≤ 16 then none else some .transferEntries
  | .bar0Request _ _ _ _ _ data => payloadCheck data
  | .bar2Request _ _ _ _ _ data => payloadCheck data
  | .bar4Request _ _ _ _ _ data => payloadCheck data
  | .dmaPiece _ _ data => if data.length ≤ 512 then none else some .pieceBytes
  | _ => none

/-- A well-formed command. -/
def Instr.wellFormed (i : Instr) : Bool := (i.check).isNone

end Sys2Proof
end

