-- ==== Sys2Proof/Decode.lean ====
section
/-! DEFINITION. Words of commands: no row of spec/opcode_table.json gives bits, so no word spells a command. -/
namespace Sys2Proof

/-- The command that a word of `nbits` bits spells by the opcode table: none, whatever the word. -/
def decodeTableWord (_nbits _w : Nat) : Option Instr := none

end Sys2Proof
end

