-- ==== Sys2Proof/Config.lean ====
section
/-! DEFINITION. What the manual leaves open: constants without a body, so that nothing can be proved of a value of
theirs; and the plain data of a ring's fabric configuration, which the frames of types 0 and 1 carry in a layout that
belongs to Zarvis (R90). A fresh value is `freeNat` applied to the counter `Ctl.fresh` of the state. -/
namespace Sys2Proof

/-- HLC modes (Table 2-3). -/
inductive HlcMode where
  | func | func1 | buf | fork | steer | merge | source | sink | state
  deriving DecidableEq, Repr, Inhabited

/-- One handshake logic cell as configured: its mode, its table of 16 results, the one of inputs
*a* and *b* at 4*a* + *b* (FUNC), or of 4 results (FUNC1), and its constant
or initial digit (SOURCE, STATE) (R63, R64). -/
structure HlcCfg where
  mode  : HlcMode := .buf
  table : List Digit := []
  digit : Digit := 0
  deriving DecidableEq, Repr, Inhabited

/-- Where a digit comes from inside a ring: a cell output (0, or 1 for the second output of STEER), digit `i` of an
edge input, the status digit of an edge, digit `i` of an unpack gateway, the status digit of a memory port, or a
digit of a boundary Turnstile (slot, digit). -/
inductive DSrc where
  | cell (c : Nat) (out : Nat) | edge (e i : Nat) | edgeStatus (e : Nat) | unpack (g i : Nat)
  | memStatus (b : Nat) (portB : Bool) | slot (t i : Nat)
  deriving DecidableEq, Repr, Inhabited

/-- Where a digit goes: input A (0) or B (1) of a cell, digit `i` of a pack gateway, digit `i` of an edge's capture
registers, of a slot's capture registers, of the act selection (R34), or across an edge in THROUGH mode. -/
inductive DSink where
  | cell (c : Nat) (inp : Nat) | pack (g i : Nat) | edge (e i : Nat) | slot (t i : Nat) | actSel (i : Nat)
  deriving DecidableEq, Repr, Inhabited

/-- Where a wide token comes from (R67): a pack gateway, a memory port's read data, an engine's output port, a slot. -/
inductive WSrc where
  | pack (g : Nat) | mem (b : Nat) (portB : Bool) | eng (k p : Nat) | slot (t : Nat)
  deriving DecidableEq, Repr, Inhabited

/-- Where a wide token goes: an unpack gateway, a memory port, an engine's input port, a slot. -/
inductive WSink where
  | unpack (g : Nat) | mem (b : Nat) (portB : Bool) | eng (k p : Nat) | slot (t : Nat)
  deriving DecidableEq, Repr, Inhabited

/-- A capture register of a required set (R76): digit `i` of an edge, of a slot, of the act selection. -/
inductive CapReg where
  | edge (e i : Nat) | slot (t i : Nat) | actSel (i : Nat)
  deriving DecidableEq, Repr, Inhabited

/-- What a ring's fabric frames configure (R60 to R70, R76): cells by number, the consumers of each source, and the
required capture set of each act. -/
structure FabCfg where
  cells    : List (Nat × HlcCfg) := []
  droutes  : List (DSrc × List DSink) := []
  wroutes  : List (WSrc × WSink) := []
  required : List (Nat × List CapReg) := []
  deriving DecidableEq, Repr, Inhabited

namespace Config

/-- A fresh unconstrained number for the `n`-th use (log 2). -/
opaque freeNat : Nat → Nat
/-- How a figure with a fraction is rounded in a register that reports whole units, where no rule says (log 8). -/
opaque roundFraction : Rat → Int
/-- The fabric configuration that the words of a ring's type 0 and 1 frames stand for: their layout is Zarvis's and
not in the spec (R90), so the result is whatever it is (log 9). -/
opaque fabricOf : Nat → List (Nat × List Nat) → FabCfg

/-- The pause time that a port writes into the PFC XOFF frames it sends: R345 names it and gives no figure (log 11). -/
opaque pauseTime : Nat

/-- The body of a TUN_REQ frame for a write or a read of a BAR0 offset with its data: R389 gives it no layout (log 30). -/
opaque tunReqBody : Bool → Nat → Nat → List (BitVec 8)
/-- What the body of a TUN_REQ frame asks: whether it writes, the offset, the data (log 30). -/
opaque tunReqOf : List (BitVec 8) → Bool × Nat × Nat
/-- The body of a TUN_RSP frame with a response code and data (log 30). -/
opaque tunRspBody : Nat → Nat → List (BitVec 8)
/-- The response code and the data in the body of a TUN_RSP frame (log 30). -/
opaque tunRspOf : List (BitVec 8) → Nat × Nat

/-- The calibration values that a field trim has regenerated when it is aborted, at the `n`-th use (log 41). -/
opaque trimPart : Nat → List (BitVec 8)
/-- The trim factor of a delay monitor in a calibration set, `none` for the built-in conservative set: R437 and R481 name
the factors and give them no layout (log 61). -/
opaque monFactor : Option (List (Nat × BitVec 8)) → Nat → Rat
/-- A word of the trim store at 0x1010 to 0x101F with HOURS and HOT_HOURS as last saved: R481 gives it no layout (log 41). -/
opaque hoursWord : Nat → Nat → Nat → Nat
/-- The built-in signature of a self-test kind for its default count: R513 names it and gives no figure (log 43). -/
opaque bistSignature : Nat → Nat

/-- The DWs of configuration space where the capabilities of Table 16-1 stand: R556 gives them no offsets. Power
Management, PCI Express, MSI-X, Device Serial Number (log 45). -/
opaque capPm : Nat
/-- As `capPm`, of the PCI Express capability. -/
opaque capPcie : Nat
/-- As `capPm`, of the MSI-X capability. -/
opaque capMsix : Nat
/-- As `capPm`, of the Device Serial Number. -/
opaque capDsn : Nat
/-- What a DW of configuration space reads that R557, R559 and R394 do not give, by the DWs as written (log 45). -/
opaque cfgSpace : Nat → List (Nat × Nat) → Nat

end Config
end Sys2Proof
end

