-- ==== Sys2Proof/Machine/State.lean ====
section
/-! DEFINITION. Everything the spec gives the BV2-3072 to hold, as plain data, and the machine right after reset. -/
namespace Sys2Proof.Machine

/-! ### Registers -/

/-- Access types of register fields (Table 0-3); RSV bits are no field. -/
inductive Access where
  | ro | rw | w1c | w1s | wo | rwl
  deriving DecidableEq, Repr

/-- How a field stores a written value that its description does not allow ("0 stored as 1" and the like). -/
inductive Limit where
  | any | floor (n : Nat) | cap (n : Nat) | clamp (lo hi : Nat) | zeroAt (n : Nat)
  deriving DecidableEq, Repr

/-- A register field: its register's BAR0 address, its lowest bit, its width, its type, its reset value and whether
it keeps its value across warm reset (R5). -/
structure Fld where
  addr : Nat
  lo   : Nat
  w    : Nat
  ty   : Access
  rst  : Nat
  keep : Bool
  lim  : Limit := .any
  deriving DecidableEq, Repr

/-- Values by number: rising keys, no entry equal to the default of its key. -/
abbrev Store (α : Type) := List (Nat × α)

/-- Response codes (Table 0-5). -/
inductive Resp where
  | ok | retry | closed | addr | perm | ecc | key | tag | poison | timeout | clockStopped | aborted
  deriving DecidableEq, Repr, Inhabited

/-- The answer of the last request: its code and the data words it returned. -/
structure Answer where
  code : Resp := .ok
  data : List Nat := []
  deriving DecidableEq, Repr, Inhabited

/-! ### Frames and boundary events -/

/-- AVSBus frames to the regulator (R434). -/
inductive AvsFrame where
  | writeVoltage (mv : Nat) | writeRate (mvPerUs : Nat) | readStatus | readCurrent | readVoltage
  deriving DecidableEq, Repr

/-- A cascade frame (Table 10-1): its header fields, its body in clear. `own`: this device sends it under a frame counter
of its own; otherwise it is relayed, `sealed` where its body is the ciphertext as it came; `adapter`: the egress adapter
whose packet it carries; `came`: the timebase at which a relayed marker arrived, with the upstream delay added. -/
structure IclFrame where
  type    : Nat := 0
  src     : Nat := 0
  dest    : Nat := 0
  bcast   : Bool := false
  port    : Nat := 0
  slot    : Nat := 0
  fctr    : Nat := 0
  hops    : Nat := 0
  a       : Nat := 0
  b       : Nat := 0
  c       : Nat := 0
  body    : List Byte := []
  own     : Bool := true
  sealed  : Bool := false
  adapter : Option Nat := none
  came    : Int := 0
  deriving DecidableEq, Repr, Inhabited

/-- What leaves the device: the events a board, a host or another device can see. -/
inductive OutEvent where
  /-- An MSI-X message of vector `v`, with the address and data of its table entry (R568). -/
  | msix (v : Nat) (addr data : Nat)
  /-- A write of a DMA channel to host memory (R563). -/
  | hostWrite (addr : Nat) (bytes : List Byte)
  /-- A completion of the host port: the code, or Retry Status. -/
  | completion (code : Resp) (data : List Nat)
  /-- Configuration Request Retry Status (R558). -/
  | configRetry
  /-- An AVSBus frame (R434). -/
  | avs (f : AvsFrame)
  /-- A pulse of TICK_OUTn, low or high, of so many quarter nanoseconds (R412, R431). -/
  | tickOut (n : Nat) (low : Bool) (qns : Nat)
  /-- A pulse of PPS_OUT, low or high, of `ms` milliseconds for the whole second `sec` of the time of day (R412). -/
  | ppsOut (low : Bool) (ms sec : Nat)
  /-- A frame sent by Ethernet port `p` (R342). -/
  | eth (p : Nat) (bytes : List Byte)
  /-- A PAUSE or PFC frame sent by port `p`: the priority and the pause time, 0 for XON (R345). -/
  | pause (p prio time : Nat)
  /-- A cascade frame sent out of port `q`: header, body as sent, CRC-32C (R368, R369). -/
  | icl (q : Nat) (bytes : List Byte)
  /-- An entry sent by the BBR tap (R522). -/
  | tap (entry : Nat)
  /-- An I2C, SPI, UART or MDIO transfer started, or a UART byte sent, on instance `b` (R547). -/
  | periph (kind b : Nat) (data : List Nat)
  /-- An entry taken by the clocked reader of a stream-out, word-out, level-out or pulse-out slot (R176). -/
  | slotOut (r t : Nat) (value status : Nat)
  deriving DecidableEq, Repr

/-! ### Control plane: registers, time, answers, the black-box recorder's queue -/

/-- An event waiting for the black-box recorder (Table 14-8). -/
structure BbrEvent where
  source : Nat
  event  : Nat
  fatal  : Bool := false
  arg    : Nat := 0
  data   : Nat := 0
  tbNs   : Nat := 0
  tickLo : Nat := 0
  deriving DecidableEq, Repr, Inhabited

/-- The error state of a protected word, bundle, entry or group (single-bit errors correct, double-bit errors are
uncorrectable). -/
inductive Flaw where
  | none | single | double
  deriving DecidableEq, Repr, Inhabited

/-- The black-box recorder (R515 to R522): entries by number and their error states, events that wait, how many were lost
since the last entry, entries still to come after a trigger, after how many entries a FREEZE acts, the latched entry, the
time at which the tap is free. -/
structure Bbr where
  entries    : Store Nat := []
  flaws      : Store Flaw := []
  queue      : List BbrEvent := []
  lostNow    : Nat := 0
  postLeft   : Nat := 0
  freezeIn : Option Nat := none
  latch      : Option (Nat × Nat) := none
  tapFree    : Nat := 0
  deriving DecidableEq, Repr, Inhabited

/-- A period change or ALIGN that waits for its effect edge (R409, R410). -/
inductive RmPending where
  | period (ns frac effect : Nat) (own : Bool)
  | align (atTb effect : Nat) (own : Bool)
  deriving DecidableEq, Repr

/-- Ringmaster's time (R400 to R412, R417 to R423). Times on the timebase are in quarter nanoseconds. -/
structure TimeSt where
  /-- Timebase time TB, quarter nanoseconds (R400). -/
  tb        : Nat := 0
  /-- What TB reads above the device's own count of cycles, whole cycles: the steps of R417. -/
  tbOff     : Int := 0
  /-- Time of day less the own count, quarter nanoseconds (R402: the time of day advances with TB). -/
  todOff    : Int := 0
  /-- TICK_COUNT, 64 bits (R14). -/
  count     : Nat := 0
  /-- Whether tick edges are being made, the TB of the last edge or of RUN, and of the next edge. -/
  running   : Bool := false
  lastEdge  : Nat := 0
  nextEdge  : Nat := 0
  pend      : Option RmPending := none
  /-- The accumulator restarts at the next edge (R408); the last command of RM_CMD completed (R9); the last whole second
  at which PPS_OUT has pulsed. -/
  accRst    : Bool := false
  cmdDone   : Bool := false
  ppsSec    : Option Int := none
  /-- The edge that the tick count of J is taken at: the effect count on the device's own count, and J (R421); the count
  that the next edge takes by a correction, and TICK of the marker that showed it (R422). -/
  join      : Option (Nat × Nat) := none
  fixNext   : Option (Nat × Nat) := none
  /-- REPHASE (R417): the TB at which the tick in progress ends, and the period, fraction and accumulator that hold from
  that edge. -/
  rephase   : Option (Nat × Nat × Nat × Nat) := none
  /-- TB of the slip that the slip log holds (R58); a ring tick of this device tick was halted (R442). -/
  logTb     : Option Nat := none
  spoil     : Bool := false
  /-- Servo (R405): integrator and target in ppb, the correction applied at `corrTb` and where it moves. -/
  integ     : Rat := 0
  target    : Rat := 0
  corr0     : Rat := 0
  corrTb    : Nat := 0
  lastSample : Option Nat := none
  lastPps   : Option Nat := none
  goodRun   : Nat := 0
  /-- Follower servo (R418, R419). -/
  follow    : Bool := false
  fInteg    : Rat := 0
  lastMark  : Nat := 0
  goodMarks : Nat := 0
  badMarks  : Nat := 0
  /-- Housekeeping measurement of REFCLK_SYS in 10 kHz units, and whether it is lost (R584). -/
  refclk    : Nat := 15625
  refLost   : Bool := false
  deriving DecidableEq, Repr, Inhabited

/-- The control plane. -/
structure Ctl where
  /-- Every register field that is not at its reset value, by `Fld.key`. -/
  rf    : Store Nat := []
  time  : TimeSt := {}
  bbr   : Bbr := {}
  /-- The answer of the last request. -/
  ans   : Answer := {}
  /-- What has left the device, newest first. -/
  out   : List OutEvent := []
  /-- How many free values have been taken: the model's own field (log 2). -/
  fresh : Nat := 0
  deriving DecidableEq, Repr, Inhabited

/-! ### Rings -/

/-- Where a ring stands in its schedule: out of it, in a ring tick, in a skipped tick. -/
inductive RingRun where
  | out | tick | skip
  deriving DecidableEq, Repr, Inhabited

/-- Schedule values in force (R46): a write while the ring is armed waits for the ring's next end edge. -/
structure SchedVals where
  div   : Nat := 1
  phase : Nat := 0
  mode  : Nat := 0
  fixed : Nat := 0
  limit : Nat := 4
  len   : Nat := 0
  steps : Nat := 0
  deriving DecidableEq, Repr, Inhabited

/-- Why a ring is or will be closed (R81). -/
inductive CloseWhy where
  | none | inspection | loading | regionHold
  deriving DecidableEq, Repr, Inhabited

/-- One edge of a ring (R70, R71, R77 to R79): the capture registers as written in the ring tick, the last captured
values, what is driven to the neighbour with which status, and what was released from the neighbour last. -/
structure EdgeSt where
  reg     : Nat := 0
  written : List Nat := []
  last    : Nat := 0
  drive   : Nat := 0
  status  : Nat := 2
  inVal   : Nat := 0
  inStat  : Nat := 0
  deriving DecidableEq, Repr, Inhabited

/-- Tokens inside a ring's fabric: digits waiting at cell inputs (by cell), at pack gateways (32 × gateway + digit) and
at pulse-out lanes; wide tokens presented by their source and not yet taken (by `WSrc.key`); the command a memory port
holds (2 × block + port); the stored and the next digit of STATE cells (R62 to R68, R72). -/
structure FabSt where
  cellA  : Store (Option Digit) := []
  cellB  : Store (Option Digit) := []
  packs  : Store (Option Digit) := []
  pulses : Store (Option Digit) := []
  wide   : Store (List Token) := []
  memCmd : Store (Option Token) := []
  stored : Store Digit := []
  next   : Store (Option Digit) := []
  deriving DecidableEq, Repr, Inhabited

/-- Capture registers of a slot or of the act selection: their digits as written, and which of them the ring tick has
written (R76, R77). -/
structure CapSt where
  reg     : Nat := 0
  written : List Nat := []
  deriving DecidableEq, Repr, Inhabited

/-- One ring (R15 to R20, R34 to R47, R60 to R102). -/
structure Ring where
  run      : RingRun := .out
  vals     : SchedVals := {}
  /-- TB of the last write of a schedule register that still waits (R46). -/
  schedAt  : Option Nat := none
  /-- TB of the start edge of the ring tick whose work runs, and of the tick in progress; count of its end edge. -/
  startTb  : Nat := 0
  tickTb   : Nat := 0
  endCount : Nat := 0
  /-- TB at which ring-done of the running work reached Ringmaster. -/
  done     : Option Nat := none
  judged   : Bool := false
  missed   : Bool := false
  /-- Cause of the slip that brought CONSEC to its limit: the fault follows (R41). -/
  due      : Option Nat := none
  first    : Bool := true
  disarm   : Bool := false
  restart  : Bool := false
  force    : Bool := false
  /-- Safe values follow at the next tick edge (R41, R47). -/
  leaving  : Bool := false
  /-- Outputs are at their safe values (R79). -/
  safe     : Bool := true
  closeReq : CloseWhy := .none
  /-- Armed before the load that closes it (R82), ARM held by a load (R466). -/
  heldArm  : Bool := false
  /-- Capture registers of word-out and level-out slots, by slot, and of the act selection (key 32); what they held at
  the last capture (R34, R180). -/
  caps     : Store CapSt := []
  capLast  : Store Nat := []
  /-- What the ring tick has seen, for the slip cause (R44): EXTERNAL, TEMP, VOLTAGE, GOVERNED conditions, lowest
  sensed VCORE, lowest and highest temperature in degrees C + 64. -/
  sawExt   : Bool := false
  sawTemp  : Bool := false
  sawVolt  : Bool := false
  sawGov   : Bool := false
  vMin     : Option Nat := none
  tMin     : Option Nat := none
  tMax     : Option Nat := none
  edges    : Store EdgeSt := []
  cfg      : FabCfg := {}
  fab      : FabSt := {}
  /-- Ring-done raised (R76). -/
  qdone    : Bool := false
  /-- Requests issued to clocked blocks without a response (R18). -/
  reqs     : Nat := 0
  /-- The slack of this ring tick is recorded (R20). -/
  slackIn  : Bool := false
  deriving DecidableEq, Repr, Inhabited

/-! ### Tightrope -/

/-- An age check in progress (R448): the voltage it returns to and the TB from which it may be tested. -/
structure AgeChk where
  back  : Nat := 0
  ready : Nat := 0
  deriving DecidableEq, Repr, Inhabited

/-- Tightrope's hidden state (chapter 12). Temperatures are in quarter degrees C; `none` is a failed sensor. -/
structure TgSt where
  temps    : List (Option Int) := List.replicate 32 (some 340)
  /-- Monitor readings in ps, trim factor included; `none` is a failed monitor. -/
  mons     : List (Option Rat) := List.replicate 64 (some 55)
  /-- The die DU *d*_m of the last reading, ps (R438); 0 before the first. -/
  dm       : Rat := 0
  /-- The voltage commanded last; whether the sensed VCORE has come within 10 mV of it (R435, R443). -/
  cmd      : Option Nat := none
  settled  : Bool := true
  /-- AVSBus operations, the one in flight in front; whether its status read is in flight; failed attempts of the
  frame and of the write with its status read (R435); whether it waits for the retry of R435 in place of being in flight;
  whether it ends with the frame in flight, for a safety net that goes straight after that (R446). -/
  frames   : List AvsFrame := []
  inStatus : Bool := false
  attempt  : Nat := 0
  pairTry  : Nat := 0
  held     : Bool := false
  cut      : Bool := false
  rateSent : Bool := false
  /-- The decision interval (R443): smallest slack fraction and its ring. -/
  sMin     : Option (Nat × Nat) := none
  /-- R447: WARN, HOT and TRIP are armed. -/
  warnArm  : Bool := true
  hotArm   : Bool := true
  tripArm  : Bool := true
  /-- R448, R449: age check, consecutive readings that meet the end-of-life condition, the lower bound of EOL, whether the
  raise of R449 is complete. -/
  age      : Option AgeChk := none
  eolRun   : Nat := 0
  eolBound : Nat := 0
  eolDone  : Bool := false
  /-- R450: a reading above 125 degrees C in this hour; the counts as last saved in the trim store. -/
  hotHour  : Bool := false
  savedHours : Nat := 0
  savedHot : Nat := 0
  /-- 800 mV for an automatic self-test run or the start-up field trim (R441). -/
  auto800  : Bool := false
  deriving DecidableEq, Repr, Inhabited

/-! ### On-chip memories -/

/-- The on-chip memories that BAR2 maps: ring memory, engine data memory, program memory. Cells by BAR2 offset; error
states of their protected words by BAR2 offset of the word's first byte. -/
structure ChipMem where
  cells : List Host.Cell := []
  flaws : Store Flaw := []
  deriving DecidableEq, Repr, Inhabited

/-! ### The queue manager -/

/-- A wide word with its tag (R200, Table 6-1); the error states of each 8 bytes of its data, none where no error stands,
and of its tag (R201). -/
structure QWord where
  data    : List Byte := []
  vb      : Nat := 0
  fin     : Bool := false
  trunc   : Bool := false
  err     : Bool := false
  flaws   : List Flaw := []
  tagFlaw : Flaw := .none
  deriving DecidableEq, Repr, Inhabited

/-- The pointers of a queue, counted in wide words from the queue's first (R204): read pointer, mark, commit point,
tail. -/
structure QPtrs where
  rd     : Nat := 0
  mark   : Option Nat := none
  commit : Nat := 0
  tail   : Nat := 0
  deriving DecidableEq, Repr, Inhabited

/-- A source (R207, R208): its number of Table 6-3, and which request slot, stream slot or port behind that number. -/
abbrev QSource := Nat × Nat

/-- One queue (R204 to R206, R215 to R228): the words it holds from word `base` on, its cells, how many narrow words the
open word holds, both copies of its pointers (R235), the packet lock, whether the open COMMIT packet is failed, how many
words the open packet has, the sources in discard-to-end, the generation, the QCLK cycle in which a packet was last
completed (R230). -/
structure QSt where
  base    : Nat := 0
  words   : List QWord := []
  cells   : List Nat := []
  openN   : Nat := 0
  ptrA    : QPtrs := {}
  ptrB    : QPtrs := {}
  lock    : Option QSource := none
  failed  : Bool := false
  pktLen  : Nat := 0
  discard : List QSource := []
  gen     : Nat := 0
  doneAt  : Option Nat := none
  deriving DecidableEq, Repr, Inhabited

/-- An allocated cell of the pool: its owner, whether it is quarantined (R237), the error states of its owner tag and
of its link (R201). -/
structure PCell where
  q     : Nat := 0
  gen   : Nat := 0
  quar  : Bool := false
  owner : Flaw := .none
  link  : Flaw := .none
  deriving DecidableEq, Repr, Inhabited

/-- Who waits for the answer of a request: the row XRD or XWR itself, a fabric request slot, an engine (its tag and the
address in its data memory), a host request (its number), the DMA channel whose piece it is, or nobody any more (R41, R164,
R561). -/
inductive XWho where
  | bare | fabric | engine (tag addr : Nat) | host (id : Nat) | dma | gone
  deriving DecidableEq, Repr, Inhabited

/-- A request at the ring side of a request crossing (R182): who waits, its OP (Table 6-4, Table 7-4), queue or file,
byte offset, length in units, EOP, WHOLE or DISCARD, VB of the last word, SEAT, the words it carries. -/
structure SlotReq where
  who  : XWho := .gone
  op   : Nat := 0
  tgt  : Nat := 0
  off  : Nat := 0
  len  : Nat := 0
  flag : Bool := false
  vb   : Nat := 0
  seat : Bool := false
  data : List Token := []
  deriving DecidableEq, Repr, Inhabited

/-- Work that waits at a queue port (R209): ring and slot, the request (OP 16: the stream-out slot's next segment, 17: the
stream-in slot's), the reserved seats it travels on (0: dynamic), and of the dynamic rest of a request that its seats
covered in part (R233) the code, the units and the words of the part that is served. -/
structure PortReq where
  r     : Nat := 0
  t     : Nat := 0
  q     : SlotReq := {}
  seats : Nat := 0
  code  : Resp := .ok
  units : Nat := 0
  words : List QWord := []
  deriving DecidableEq, Repr, Inhabited

/-- The queue manager (R200 to R257): queues, allocated cells, the sweep's next cell and when its pass began, whether
POOL_LOW is armed (R242), seats left by request slot (16 × ring + slot: push, pop) (R233), stream-in slots in the
middle of a packet (4 × ring + slot − 10, with the queue and its generation) (R214), work waiting at the ports in order of
arrival and one more than the source of each port served last in class 2 (port p, 64 + c for consumer port c) (R209), and the
TB at which BUSY of QM_HOST_STAT and of QM_Q_CMD_STAT clears (R243, R248). -/
structure QmSt where
  queues    : Store QSt := []
  pool      : Store (Option PCell) := []
  sweepPos  : Nat := 0
  passStart : Nat := 0
  lowArm    : Bool := true
  seats     : Store (Nat × Nat) := []
  sinMid    : List (Nat × Nat × Nat) := []
  work      : List PortReq := []
  turn      : Store Nat := []
  hostTill  : Nat := 0
  cmdTill   : Nat := 0
  deriving DecidableEq, Repr, Inhabited

/-! ### External memory and the crypto unit -/

/-- External memory as it stands in the devices (R264, R265, R267): bytes by place (2^25 × controller + byte address in the
device); by word of 8 bytes how it was
last written (1 by a plain file, 2 by an encrypted one) and its error state; by line the epoch tag of metadata group
0. -/
structure ExtMem where
  cells : List Host.Cell := []
  modes : Store Nat := []
  tags  : Store Nat := []
  flaws : Store Flaw := []
  deriving DecidableEq, Repr, Inhabited

/-- A part of a request to external memory: one word of a plain file or one line of an encrypted file (R273, R274).
Its controller, the file, the key slot (none: plain) and the epoch fixed at entry (R270), the bytes it covers, whether it is a
read-modify-write, the transactions still to be granted on seats and dynamically, whether one has been granted, whether it
waits for its page (R304), its code, and the bytes it delivers. -/
structure XPart where
  ctl    : Nat := 0
  file   : Nat := 0
  key    : Option Nat := none
  epoch  : Nat := 0
  addr   : Nat := 0
  len    : Nat := 0
  rmw    : Bool := false
  seated : Nat := 0
  dyn    : Nat := 0
  begun  : Bool := false
  waits  : Bool := false
  code   : Option Resp := none
  out    : List Byte := []
  deriving DecidableEq, Repr, Inhabited

/-- A request in the arbiter trees (R270 to R277): its source (16 × ring + slot, 2048 for the host port), who waits,
the external address of its first byte, its data (a write where it has one), the alarm causes it has raised, the time
of a host request's arrival (R561). -/
structure XReq where
  src    : Nat := 0
  who    : XWho := .gone
  addr   : Nat := 0
  data   : Option (List Byte) := none
  words  : Nat := 0
  parts  : List XPart := []
  raised : List Nat := []
  since  : Nat := 0
  deriving DecidableEq, Repr, Inhabited

/-- An answer on its way back through a request slot to the ring: the slot, the engine's tag and data address where an
engine asked, the OP of the request, code, units, data tokens, and what Table 6-5 and R164 say of the last word of a
pop. -/
structure SlotResp where
  r     : Nat := 0
  t     : Nat := 0
  who   : XWho := .gone
  op    : Nat := 0
  code  : Resp := .ok
  units : Nat := 0
  data  : List Token := []
  vb    : Nat := 0
  token : Nat := 0
  deriving DecidableEq, Repr, Inhabited

/-- External memory: its contents, the requests in the arbiter trees (oldest first), answers on their way to the rings,
seats left (8 × source + controller), arbiter credits (2048 × controller + input), dynamic grants waited through by
requester (4096 × controller + source), drift tracking slots still to be granted, and the read delays in use (72 ×
controller + DQ) (R262, R276 to R281). -/
structure XmSt where
  mem     : ExtMem := {}
  reqs    : List XReq := []
  resps   : List SlotResp := []
  seats   : Store Nat := []
  credits : Store Int := []
  waited  : Store Nat := []
  drift   : Store Nat := []
  rdNow   : Store Nat := []
  deriving DecidableEq, Repr, Inhabited

/-- A counter store entry (Table 8-4): its fields, the minors by line, the error states of its eight words. -/
structure CsEntry where
  major    : Nat := 0
  poison   : Bool := false
  reenc    : Bool := false
  migr     : Bool := false
  minors   : Store Nat := []
  oldMajor : Nat := 0
  linePtr  : Nat := 0
  flaws    : Store Flaw := []
  deriving DecidableEq, Repr, Inhabited

/-- The page operation that the crypto unit runs (R302): page re-encryption, migration page, initialisation of a
file. -/
inductive PageOp where
  | reenc (p : Nat) | migrate (f p : Nat) | init (f : Nat)
  deriving DecidableEq, Repr

/-- The crypto unit: whether it is closed for inspection, keys by slot, the load in progress (slot, use), the slot that a commanded retirement drains,
counter store, the three copies of each file's high-water major (R305), the re-encryption queue, the page operation,
initialisations and a PAGE_RESET that wait for the unit, the sweep's next page, the transactions granted for the line that
the page operation rewrites (R279), slots whose retirement is complete (R297), LINK slots whose last frame is sent (R321),
files whose migration is complete (R315). -/
structure CxSt where
  closed : Bool := false
  keys   : Store (List Byte) := []
  load   : Option (Nat × Nat) := none
  retire : Option Nat := none
  cs     : Store CsEntry := []
  hw     : Store (Nat × Nat × Nat) := []
  queue  : List Nat := []
  op     : Option PageOp := none
  inits  : List Nat := []
  resets : Option (Nat × Nat) := none
  sweep  : Nat := 0
  grants : Nat := 0
  retired : List Nat := []
  spent  : List Nat := []
  migrated : List Nat := []
  deriving DecidableEq, Repr, Inhabited

/-! ### Turnstiles -/

/-- A pulse lane (R181, R184, R185): the sender's accumulator, a toggle not yet acknowledged, whether the receiver has
delivered it, pulses delivered to the ring side by the TB cycle of their delivery, pulses staged by the ring. -/
structure LaneSt where
  acc       : Nat := 0
  busy      : Bool := false
  delivered : Bool := false
  got       : List Nat := []
  staged    : Nat := 0
  deriving DecidableEq, Repr, Inhabited

/-- A stream-out segment that a producer port has begun (R214): queue, EOP, VB, data entries left, whether they are
discarded. -/
structure SegSt where
  q    : Nat := 0
  fin  : Bool := false
  vb   : Nat := 0
  left : Nat := 0
  drop : Bool := false
  deriving DecidableEq, Repr, Inhabited

/-- A Turnstile slot (R177 to R192): stream-in entries with the TB of their acceptance, stream-out tokens staged and how
many more this ring tick may stage, stream-out entries published with the number of their publication (2^64 × number +
TICK_COUNT at it), the TICK_COUNT at which a slot of a token channel published last, the segment being read, whether a resync has completed since the last header, the accepted value of a word-in or level-in slot and whether
its samples disagreed, the value presented outward, pulse lanes, requests that wait at the ring side. -/
structure SlotSt where
  fin      : List (Nat × Token) := []
  staged   : List Token := []
  space    : Nat := 0
  pub      : List (Nat × Token) := []
  pubNo    : Nat := 0
  pubAt    : Option Nat := none
  seg      : Option SegSt := none
  resynced : Bool := false
  val      : Option Nat := none
  held     : Bool := false
  shown    : Nat := 0
  lanes    : Store LaneSt := []
  reqs     : List SlotReq := []
  deriving DecidableEq, Repr, Inhabited

/-! ### Stream engines -/

/-- An active loop (R121, R169): its first bundle, its last, the iterations left after the present one, the iteration
index that LC shows. -/
structure LoopSt where
  first : Nat := 0
  endb  : Nat := 0
  left  : Nat := 0
  idx   : Nat := 0
  deriving DecidableEq, Repr, Inhabited

/-- A stream engine (R103 to R125, R593): register files V, S, P, A by number; the act, whether its index has still to be
dispatched, whether bundles issue; the active loops, innermost first; whether the bundle at PC has waited on a port; the
FIFOs of the input and output ports; the status words of its tags and the tags whose source data held an uncorrectable
word; the XS path's accesses of pending requests that may still cause a conflict increment (tag, bank, how many, R147); DU, bundles, conflicts and stalls of the act; the fault condition; END (or OFF, or a fault) and engine-done. -/
structure EngSt where
  v       : Store Nat := []
  s       : Store Nat := []
  p       : Store Nat := []
  a       : Store Nat := []
  act     : Nat := 0
  disp    : Bool := false
  live    : Bool := false
  loops   : List LoopSt := []
  waited  : Bool := false
  inq     : Store (List Token) := []
  outq    : Store (List Token) := []
  tags    : Store Nat := []
  srcUe   : List Nat := []
  xacc    : List (Nat × Nat × Nat) := []
  du      : Nat := 0
  bundles : Nat := 0
  confl   : Nat := 0
  stalls  : Nat := 0
  dead    : Bool := false
  ended   : Bool := false
  done    : Bool := false
  deriving DecidableEq, Repr, Inhabited

/-! ### The Ethernet complex -/

/-- A frame in an ingress adapter's buffer (R340): the adapter (of the port's), its queue, its bytes in the queue, its
metadata word, whether it is bad, its length as received. -/
structure RxBuf where
  ad    : Nat := 0
  queue : Nat := 0
  data  : List Byte := []
  info  : Option (List Byte) := none
  bad   : Bool := false
  size  : Nat := 0
  deriving DecidableEq, Repr, Inhabited

/-- A swingboat frame that is ready for its port (R352): swingboat, priority, bytes without the FCS. -/
structure BoatFrame where
  boat  : Nat := 0
  prio  : Nat := 0
  bytes : List Byte := []
  deriving DecidableEq, Repr, Inhabited

/-- An Ethernet port (R331 to R346): frames that wait to be pushed, in arrival order; swingboat frames that wait to be
sent; TB at which a received pause ends, by priority, 8 for PAUSE; TB at which the frame in transmission ends; transmit
timestamps (TAG, seconds, quarter nanoseconds). -/
structure PortSt where
  buf   : List RxBuf := []
  boatq : List BoatFrame := []
  pause : Store Nat := []
  tx    : Option Nat := none
  txts  : List (Nat × Nat × Nat) := []
  deriving DecidableEq, Repr, Inhabited

/-- A received stream frame (R354, R355): stream entry, TICK, its sample entries. -/
structure HeldFrame where
  j    : Nat := 0
  tick : Nat := 0
  data : List Token := []
  deriving DecidableEq, Repr, Inhabited

/-- A swingboat (R348 to R356): frames received and not yet judged (bytes, whether the FCS is good), frames being
decompressed, frames held for their release, frames sent by stream, whether it waits for its port after a warm reset. -/
structure BoatSt where
  rx     : List (List Byte × Bool) := []
  dec    : List HeldFrame := []
  held   : List HeldFrame := []
  seq    : Store Nat := []
  parked : Bool := false
  deriving DecidableEq, Repr, Inhabited

/-- The Ethernet complex: ports by first lane, swingboats. -/
structure NetSt where
  ports : Store PortSt := []
  boats : Store BoatSt := []
  deriving DecidableEq, Repr, Inhabited

/-! ### The cascade link -/

/-- What a partner's barkers say (Table 10-2): unique identifier, KEY_READY, CTRL_SLOT, HOP_NS, TO_MASTER. -/
structure Partner where
  uid      : Nat := 0
  keyReady : Bool := false
  slot     : Nat := 0
  hop      : Nat := 0
  toM      : Nat := 15
  deriving DecidableEq, Repr, Inhabited

/-- A packet that an ingress adapter has begun (R388): its flow (4 × SRC_ID + SRC_PORT), its queue, the bytes held back
until it is known whether they end it. -/
structure RxOpen where
  flow  : Nat := 0
  queue : Nat := 0
  tail  : List Byte := []
  deriving DecidableEq, Repr, Inhabited

/-- Bytes that wait for their push (R388): flow, queue, the bytes, whether they end the packet, whether it is bad. -/
structure RxSeg where
  flow  : Nat := 0
  queue : Nat := 0
  data  : List Byte := []
  fin   : Bool := false
  bad   : Bool := false
  deriving DecidableEq, Repr, Inhabited

/-- A port of the cascade link: frames that wait to be sent, frames received and not yet acted on with the TB of their
arrival, the time of the last frame, TX_TIME and arrival of the last barker (R372), twice the last 256 measurements of
R375 less the encryption, the partner, whether a key probe has been sent, packets in reception, bytes that wait. -/
structure IclPort where
  wait   : List IclFrame := []
  inbox  : List (Int × IclFrame) := []
  lastRx : Nat := 0
  echo   : Option (Nat × Int) := none
  meas   : List Int := []
  peer   : Option Partner := none
  probed : Bool := false
  opens  : List RxOpen := []
  segs   : List RxSeg := []
  deriving DecidableEq, Repr, Inhabited

/-- A token batch (R386): the port it came by, its channel, DUE, SEND_TICK, SRC_ID, its entries, whether it came by a
fallback route. -/
structure Batch where
  q    : Nat := 0
  ch   : Nat := 0
  due  : Nat := 0
  send : Nat := 0
  src  : Nat := 0
  data : List Token := []
  fb   : Bool := false
  deriving DecidableEq, Repr, Inhabited

/-- The cascade link (R366 to R392, R413 to R423): ports; when the map changed last and when each bit of PRESENT and of
MASTERS was carried last; the cascade's master; the devices whose READY the master holds and when each was heard; when the
master was heard; the member set of the JOIN that waits for its edge; followers to be removed at that edge; the time of
the last JOIN; the master's count less the device's own; pairs of SRC_ID and FCTR seen; the marker sequence; the device's
own last edges (count, time); token batches held for their edge, and those written for the coming edge; the tunnel's
destination, whether it writes, and when it began. -/
structure IclSt where
  ports    : Store IclPort := []
  mapAt    : Nat := 0
  seenP    : Store Nat := []
  seenM    : Store Nat := []
  master   : Option Nat := none
  ready    : List Nat := []
  alive    : Store Nat := []
  heard    : Nat := 0
  joinSet  : Option Nat := none
  gone     : List Nat := []
  lastJoin : Option Nat := none
  mOff     : Int := 0
  seen     : List (Nat × Nat) := []
  mseq     : Nat := 0
  hist     : List (Nat × Nat) := []
  held     : List Batch := []
  written  : List Batch := []
  tunDest  : Nat := 0
  tunWrite : Bool := false
  tunAt    : Nat := 0
  deriving DecidableEq, Repr, Inhabited

/-! ### Configuration, Carousel, self-test -/

/-- A settings record (R465): the address of its frame, its index there, its BAR0 offset, its value. -/
structure CfgRec where
  faddr : Nat := 0
  idx   : Nat := 0
  addr  : Nat := 0
  val   : Nat := 0
  deriving DecidableEq, Repr, Inhabited

/-- A load that runs (R461 to R476): its route (the host window or the port), what its HEADER says, the bytes of its
HEADER packet, whether its ENC packet has come, the address of the next frame of the FRAMES packet in hand and how many
frames that packet still holds, its settings records in stream order. -/
structure LoadSt where
  window : Bool := false
  part   : Bool := false
  enc    : Bool := false
  design : Nat := 0
  mask   : Nat := 0
  aad    : List Byte := []
  encIn  : Bool := false
  next   : Nat := 0
  left   : Nat := 0
  recs   : List CfgRec := []
  deriving DecidableEq, Repr, Inhabited

/-- The configuration controller (R458 to R492): what the port has taken and no packet has used, bit by bit; what the host
window has taken; whether each route has found its sync word; the load that runs; stored frames of types 0, 1 and 5 by
frame index (R493), error states of their 64-bit words (64 × index + word), reference values that are not those of the
cleared frame, error states of reference entries; the settings shadow in load order; the time at which INIT_N rose, at
which DONE was released by the device, and at which the last load completed; RUN held; whether configuration is being
cleared, whether the settings shadow is to be replayed, whether a cold start, a warm reset or a PROG_N pulse is under way; the fuse
key and the burn in progress (key, REQ_ENC). -/
structure CfgSt where
  port    : List Bool := []
  win     : List Word := []
  syncP   : Bool := false
  syncW   : Bool := false
  load    : Option LoadSt := none
  frames  : Store (List Nat) := []
  fflaws  : Store Flaw := []
  refs    : Store (Option Nat) := []
  rflaws  : Store Flaw := []
  shadow  : List CfgRec := []
  initAt  : Nat := 0
  doneAt  : Option Nat := none
  endAt   : Option Nat := none
  heldRun : Bool := false
  clears  : Bool := false
  replays : Bool := false
  starting : Bool := false
  warm    : Bool := false
  progLow : Bool := false
  fuseKey : List Byte := []
  burning : Option (Bool × Bool) := none
  deriving DecidableEq, Repr, Inhabited

/-- The trim store and its staging buffer (R481 to R484): their bytes by offset (the store as a device first has it: a
FACTORY set of zeros with its CRC, log 4), whether a commit was cut short, the
operation that runs (1 COMMIT, 2 FIELD_TRIM, 3 the field trim of a cold start), and when the last field trim completed. -/
structure TrimSt where
  store  : List Host.Cell := [(0xFFC, 0x6E), (0xFFD, 0x58), (0xFFE, 0x32), (0xFFF, 0xA7)]
  buffer : List Host.Cell := []
  torn   : Bool := false
  op     : Nat := 0
  endAt  : Option Nat := none
  /-- The calibration values in force, none for the built-in conservative ones (R482). -/
  force  : Option (List Host.Cell) := some []
  deriving DecidableEq, Repr, Inhabited

/-- Carousel (R493 to R505): the independent counter, the time of the last frame check and of the last completed pass, a
UE or a restart in this pass, frames skipped in it, restarts since a completed pass, registers whose three copies do not
agree, by address. -/
structure CarSt where
  counter  : Nat := 0
  at'      : Nat := 0
  endAt    : Option Nat := none
  dirty    : Bool := false
  skipped  : Nat := 0
  restarts : Nat := 0
  copies   : Store (Nat × Nat × Nat) := []
  deriving DecidableEq, Repr, Inhabited

/-- How a self-test run is to stop at its next pattern boundary (R511, R514). -/
inductive RunStop where
  | goes | aborted | limits
  deriving DecidableEq, Repr, Inhabited

/-- A self-test run (R506 to R514): its kind and target, its programmed count and expected signature, how it is to stop. -/
structure RunSt where
  kind    : Nat := 0
  target  : Nat := 0
  count   : Nat := 0
  expect  : Nat := 0
  stop    : RunStop := .goes
  deriving DecidableEq, Repr, Inhabited

/-- The self-test machinery: the run in progress, when the last run completed, the timebase and TJ_MAX (quarter degrees)
of the last analogue pass. -/
structure BistSt where
  run    : Option RunSt := none
  endAt  : Option Nat := none
  lastTb : Nat := 0
  lastTj : Int := 0
  deriving DecidableEq, Repr, Inhabited

/-! ### Pins and peripherals -/

/-- A GPIO pin (R533 to R545): the level that the board puts on it, its synchronised and its filtered level, the time from
which the synchronised level has differed from the filtered one, the end of a function switch in progress (R535). -/
structure PinSt where
  level   : Bool := false
  sync    : Bool := false
  filt    : Bool := false
  since   : Option Nat := none
  switch  : Option Nat := none
  deriving DecidableEq, Repr, Inhabited

/-- A low-speed peripheral (R546, R547): transmit and receive FIFOs (entries as RXD reads them), the transfer in progress:
the bytes that it sends, how many it reads. -/
structure PeriphSt where
  tx   : List Nat := []
  rx   : List Nat := []
  xfer : Option (List Nat × Nat) := none
  deriving DecidableEq, Repr, Inhabited

/-- Pins: GPIO pins by number; peripherals by 6 × kind + bank (0 I2C, 1 SPI, 2 UART, 3 MDIO); the boundary register's
levels and enables while the test access port drives the pins (R551); the bank supplies as last reported (R529); the CASC
straps as the board ties them. -/
structure PinsSt where
  pins    : Store PinSt := []
  periphs : Store PeriphSt := []
  jtag    : Option (Nat × Nat) := none
  vioSeen : Store Nat := []
  cascId  : Nat := 0
  master  : Bool := false
  deriving DecidableEq, Repr, Inhabited

/-! ### The host port -/

/-- A DMA descriptor in progress (Table 16-3): addresses, length, space, direction, IRQ, bytes moved; ABORT asked. -/
structure DmaDesc where
  host  : Nat := 0
  dev   : Nat := 0
  len   : Nat := 0
  space : Nat := 0
  out   : Bool := false
  irq   : Bool := false
  moved : Nat := 0
  abort : Bool := false
  deriving DecidableEq, Repr, Inhabited

/-- The host port (R556 to R570): whether it is in reset, and from when on it is ready for configuration requests;
configuration space as written, by DW, and what of it the port acts on: MSI-X Enable, Function Mask, D3hot,
Max_Payload_Size; the MSI-X table by DW and its pending bits; the descriptors in progress, the channel served last, the
channel whose piece is in the trees of external memory and the answer that has come for it. -/
structure HostSt where
  inReset : Bool := true
  readyAt : Option Nat := none
  cfg     : Store Nat := []
  msixOn  : Bool := false
  fmask   : Bool := false
  d3      : Bool := false
  mps     : Nat := 128
  msix    : Store Nat := []
  pba     : Nat := 0
  descs   : Store (Option DmaDesc) := []
  lastCh  : Nat := 7
  dmaOn   : Option Nat := none
  dmaAns  : Option (Resp × List Byte) := none
  deriving DecidableEq, Repr, Inhabited

/-! ### The device, the state, the outcomes -/

/-- Everything the device holds. -/
structure Dev where
  ctl    : Ctl := {}
  rings  : Store Ring := []
  tg     : TgSt := {}
  chip   : ChipMem := {}
  qm     : QmSt := {}
  xm     : XmSt := {}
  /-- Turnstile slots by 32 × ring + slot. -/
  slots  : Store SlotSt := []
  cx     : CxSt := {}
  engs   : Store EngSt := []
  net    : NetSt := {}
  icl    : IclSt := {}
  cfg    : CfgSt := {}
  trim   : TrimSt := {}
  car    : CarSt := {}
  bist   : BistSt := {}
  pins   : PinsSt := {}
  host   : HostSt := {}
  /-- STATE of the crossings without a slot (R173, R187, R190), by the numbers of `xRing` and its like: 0 RUN, 2 RESYNC,
  their far side being in reset, 3 STOPPED. -/
  xstop  : Store Nat := []
  deriving DecidableEq, Repr, Inhabited

/-- Why the block stops. No command of this hardware stops it: every request is answered with a response code
(R7), so this type has no constructor. -/
inductive Fault where
  deriving DecidableEq, Repr

/-- Why the model refuses a command. -/
inductive Refusal where
  /-- Raised by `exec` for a command that has no meaning yet, named by its mnemonic. Safe: nothing follows. -/
  | notModelled (mnemonic : String)
  deriving DecidableEq, Repr

/-- The block: the device and the commands that wait, first in first out. -/
structure State where
  dev     : Dev := {}
  pending : List Instr := []
  deriving DecidableEq, Repr, Inhabited

/-- Right after power-on reset: every register field at its reset value, every memory unlisted, nothing waiting. -/
def State.reset : State := {}

end Sys2Proof.Machine
end

