-- ==== Sys2Proof/Machine/RegBase.lean ====
section
/-! DEFINITION. Where the blocks of BAR0 stand (Table 0-6, Table 16-6) and the reset values that depend on the
position of an instance. -/
namespace Sys2Proof.Machine

/-- A field's number in the register store: one number per field of the device. -/
def Fld.key (f : Fld) : Nat := f.addr * 32 + f.lo

/-- Window of ring `r` (Table 0-6). -/
def ringBase (r : Nat) : Nat := 0x02000000 + r * 0x10000
/-- Registers of Turnstile slot `t` of ring `r` (chapter 5, Registers). -/
def slotBase (r t : Nat) : Nat := 0x02000400 + r * 0x10000 + t * 0x40
/-- Window of engine `e` (chapter 3, Registers). -/
def engBase (e : Nat) : Nat := 0x04000000 + e * 0x1000
/-- Descriptor of queue `q` (R254). -/
def queueBase (q : Nat) : Nat := 0x00900000 + q * 0x20
/-- Window of memory controller `n` (chapter 7, Registers). -/
def xmcBase (n : Nat) : Nat := 0x01400000 + n * 0x40000
/-- Registers of file `f` (R285). -/
def fileBase (f : Nat) : Nat := 0x01410000 + f * 0x40
/-- Registers of Ethernet port `p` (chapter 9, Registers). -/
def portBase (p : Nat) : Nat := 0x01800000 + p * 0x100
/-- Registers of swingboat `s` (chapter 9, Registers). -/
def boatBase (s : Nat) : Nat := 0x01810000 + s * 0x400
/-- Registers of cascade port `q` (R396). -/
def iclPortBase (q : Nat) : Nat := 0x01c00100 + q * 0x40
/-- Peripheral windows of bank `b` (R555). -/
def i2cBase (b : Nat) : Nat := 0x00451000 + b * 0x100
/-- SPI window of bank `b` (R555). -/
def spiBase (b : Nat) : Nat := 0x00452000 + b * 0x100
/-- UART window of bank `b` (R555). -/
def uartBase (b : Nat) : Nat := 0x00453000 + b * 0x100
/-- MDIO window of bank `b` (R555). -/
def mdioBase (b : Nat) : Nat := 0x00454000 + b * 0x100
/-- Registers of DMA channel `n` (R575). -/
def dmaBase (n : Nat) : Nat := 0x00001000 + n * 0x40

/-- The fields of entry `i` of an array of `n` registers that starts at `base`, `stride` bytes apart, where `a` is the
address of one of them. -/
def arrayAt (a base stride n : Nat) (f : Nat → List Fld) : List Fld :=
  if base ≤ a ∧ (a - base) % stride = 0 ∧ (a - base) / stride < n then f ((a - base) / stride) else []

/-- Table 1-2, row by row: the maximum duration of 1 DU in ps. -/
def duTableRows : List Nat :=
  [158, 147, 140, 138, 141, 146, 134, 127, 122, 122, 126, 131, 116, 111, 108, 109, 113, 118,
   102, 99, 97, 99, 103, 108, 92, 90, 89, 91, 95, 100, 83, 82, 82, 85, 89, 93,
   76, 75, 76, 79, 83, 87, 70, 70, 71, 74, 78, 82, 65, 65, 67, 70, 74, 78,
   60, 61, 63, 67, 71, 75, 57, 58, 60, 64, 68, 72]
/-- Entry `6 * row + column` of Table 1-2 (R59). -/
def duTable (i : Nat) : Nat := duTableRows.getD i 0

/-- Edge modes of an ungrouped ring, two bits per edge N, E, S, W: 0 OFF on the perimeter, 1 CAPTURED (R60, R70, R93). -/
def edgeModeReset (r : Nat) : Nat :=
  (if r / 16 = 0 then 0 else 1) + (if r % 16 = 15 then 0 else 4) + (if r / 16 = 7 then 0 else 16)
    + (if r % 16 = 0 then 0 else 64)

/-- KIND of slot `t` (Table 5-2, Table 5-10). -/
def slotKind (t : Nat) : Nat :=
  if t < 10 then 0 else if t < 14 then 1 else if t < 18 then 2 else if t < 20 then 3 else if t < 22 then 4
  else if t = 22 then 5 else if t = 23 then 6 else if t = 24 then 7 else 8

/-- PUB of slot `t`: 4 QCLK cycles where the clocked side sends, 2 timebase cycles otherwise (Table 5-10). -/
def slotPub (t : Nat) : Nat :=
  if slotKind t = 1 ∨ slotKind t = 3 ∨ slotKind t = 5 ∨ slotKind t = 7 then 4 else 2

/-- OUT_STATUS of slot `t` after reset: SAFE for word-out and level-out, 0 for the other kinds (Table 5-11). -/
def slotOutStatus (t : Nat) : Nat := if slotKind t = 4 ∨ slotKind t = 6 then 2 else 0

end Sys2Proof.Machine
end

