-- ==== Sys2Proof/Machine/RegsEngine.lean ====
section
/-! DEFINITION. Register fields, from the tables of the spec: address, lowest bit, width, type, reset value,
whether it keeps its value across warm reset, and how a disallowed value is stored. The engine window (R126 to R138). -/
namespace Sys2Proof.Machine.Reg

/-- ENG_STATUS.ACT_NOW (R126, Table 3-10). -/
def ENG_STATUS_ACT_NOW (e : Nat) : Fld := ⟨(engBase e) + 0x4, 21, 3, .ro, 0x0, false, .any⟩
/-- ENG_STATUS.MEM_BUSY (R126, Table 3-10). -/
def ENG_STATUS_MEM_BUSY (e : Nat) : Fld := ⟨(engBase e) + 0x4, 20, 1, .ro, 0x0, false, .any⟩
/-- ENG_STATUS.RESIDUE (R126, Table 3-10). -/
def ENG_STATUS_RESIDUE (e : Nat) : Fld := ⟨(engBase e) + 0x4, 19, 1, .ro, 0x0, false, .any⟩
/-- ENG_STATUS.CLAMPED (R126, Table 3-10). -/
def ENG_STATUS_CLAMPED (e : Nat) : Fld := ⟨(engBase e) + 0x4, 18, 1, .ro, 0x0, false, .any⟩
/-- ENG_STATUS.DEPTH (R126, Table 3-10). -/
def ENG_STATUS_DEPTH (e : Nat) : Fld := ⟨(engBase e) + 0x4, 15, 3, .ro, 0x0, false, .any⟩
/-- ENG_STATUS.PC (R126, Table 3-10). -/
def ENG_STATUS_PC (e : Nat) : Fld := ⟨(engBase e) + 0x4, 3, 10, .ro, 0x0, false, .any⟩
/-- ENG_STATUS.STATE (R126, Table 3-10). -/
def ENG_STATUS_STATE (e : Nat) : Fld := ⟨(engBase e) + 0x4, 0, 3, .ro, 0x0, false, .any⟩
/-- ENG_FAULT.VALID (R127, Table 3-11). -/
def ENG_FAULT_VALID (e : Nat) : Fld := ⟨(engBase e) + 0x8, 31, 1, .ro, 0x0, false, .any⟩
/-- ENG_FAULT.ACT (R127, Table 3-11). -/
def ENG_FAULT_ACT (e : Nat) : Fld := ⟨(engBase e) + 0x8, 13, 3, .ro, 0x0, false, .any⟩
/-- ENG_FAULT.CODE (R127, Table 3-11). -/
def ENG_FAULT_CODE (e : Nat) : Fld := ⟨(engBase e) + 0x8, 10, 3, .ro, 0x0, false, .any⟩
/-- ENG_FAULT.PC (R127, Table 3-11). -/
def ENG_FAULT_PC (e : Nat) : Fld := ⟨(engBase e) + 0x8, 0, 10, .ro, 0x0, false, .any⟩
/-- ENG_HDR.VALID (R128, Table 3-12). -/
def ENG_HDR_VALID (e : Nat) : Fld := ⟨(engBase e) + 0xc, 31, 1, .ro, 0x0, false, .any⟩
/-- ENG_HDR.LAST (R128, Table 3-12). -/
def ENG_HDR_LAST (e : Nat) : Fld := ⟨(engBase e) + 0xc, 8, 10, .ro, 0x0, false, .any⟩
/-- ENG_HDR.VERSION (R128, Table 3-12). -/
def ENG_HDR_VERSION (e : Nat) : Fld := ⟨(engBase e) + 0xc, 0, 8, .ro, 0x0, false, .any⟩
/-- ENG_ACT.EN (R128, Table 3-12). -/
def ENG_ACT_EN (e a : Nat) : Fld := ⟨(engBase e) + 0x10 + a * 4, 15, 1, .ro, 0x0, false, .any⟩
/-- ENG_ACT.ENTRY (R128, Table 3-12). -/
def ENG_ACT_ENTRY (e a : Nat) : Fld := ⟨(engBase e) + 0x10 + a * 4, 0, 10, .ro, 0x0, false, .any⟩
/-- ENG_BOUND.BOUND_HI (R128, Table 3-12). -/
def ENG_BOUND_BOUND_HI (e j : Nat) : Fld := ⟨(engBase e) + 0x30 + j * 4, 16, 16, .ro, 0x0, false, .any⟩
/-- ENG_BOUND.BOUND_LO (R128, Table 3-12). -/
def ENG_BOUND_BOUND_LO (e j : Nat) : Fld := ⟨(engBase e) + 0x30 + j * 4, 0, 16, .ro, 0x0, false, .any⟩
/-- ENG_PORT_CFG.OUT_DM1 (R129, Table 3-13). -/
def ENG_PORT_CFG_OUT_DM1 (e : Nat) : Fld := ⟨(engBase e) + 0x50, 16, 16, .rw, 0xffff, false, .any⟩
/-- ENG_PORT_CFG.IN_DM1 (R129, Table 3-13). -/
def ENG_PORT_CFG_IN_DM1 (e : Nat) : Fld := ⟨(engBase e) + 0x50, 0, 16, .rw, 0xffff, false, .any⟩
/-- ENG_PORT_IN.LEVEL0 (R130, Table 3-14). -/
def ENG_PORT_IN_LEVEL0 (e : Nat) : Fld := ⟨(engBase e) + 0x54, 0, 5, .ro, 0x0, false, .any⟩
/-- ENG_PORT_IN.LEVEL1 (R130, Table 3-14). -/
def ENG_PORT_IN_LEVEL1 (e : Nat) : Fld := ⟨(engBase e) + 0x54, 8, 5, .ro, 0x0, false, .any⟩
/-- ENG_PORT_IN.LEVEL2 (R130, Table 3-14). -/
def ENG_PORT_IN_LEVEL2 (e : Nat) : Fld := ⟨(engBase e) + 0x54, 16, 5, .ro, 0x0, false, .any⟩
/-- ENG_PORT_IN.LEVEL3 (R130, Table 3-14). -/
def ENG_PORT_IN_LEVEL3 (e : Nat) : Fld := ⟨(engBase e) + 0x54, 24, 5, .ro, 0x0, false, .any⟩
/-- ENG_PORT_OUT.LEVEL0 (R130, Table 3-14). -/
def ENG_PORT_OUT_LEVEL0 (e : Nat) : Fld := ⟨(engBase e) + 0x58, 0, 5, .ro, 0x0, false, .any⟩
/-- ENG_PORT_OUT.LEVEL1 (R130, Table 3-14). -/
def ENG_PORT_OUT_LEVEL1 (e : Nat) : Fld := ⟨(engBase e) + 0x58, 8, 5, .ro, 0x0, false, .any⟩
/-- ENG_PORT_OUT.LEVEL2 (R130, Table 3-14). -/
def ENG_PORT_OUT_LEVEL2 (e : Nat) : Fld := ⟨(engBase e) + 0x58, 16, 5, .ro, 0x0, false, .any⟩
/-- ENG_PORT_OUT.LEVEL3 (R130, Table 3-14). -/
def ENG_PORT_OUT_LEVEL3 (e : Nat) : Fld := ⟨(engBase e) + 0x58, 24, 5, .ro, 0x0, false, .any⟩
/-- ENG_PORT_DISCARD.TOKENS (R131, Table 3-15). -/
def ENG_PORT_DISCARD_TOKENS (e : Nat) : Fld := ⟨(engBase e) + 0x5c, 0, 32, .ro, 0x0, true, .any⟩
/-- ENG_LAST_DU.DU (R132, Table 3-16). -/
def ENG_LAST_DU_DU (e : Nat) : Fld := ⟨(engBase e) + 0x60, 0, 32, .ro, 0x0, false, .any⟩
/-- ENG_LAST_BUNDLES.BUNDLES (R132, Table 3-16). -/
def ENG_LAST_BUNDLES_BUNDLES (e : Nat) : Fld := ⟨(engBase e) + 0x64, 0, 32, .ro, 0x0, false, .any⟩
/-- ENG_LAST_CONFLICTS.CONFLICTS (R132, Table 3-16). -/
def ENG_LAST_CONFLICTS_CONFLICTS (e : Nat) : Fld := ⟨(engBase e) + 0x68, 0, 32, .ro, 0x0, false, .any⟩
/-- ENG_LAST_STALLS.STALLS (R132, Table 3-16). -/
def ENG_LAST_STALLS_STALLS (e : Nat) : Fld := ⟨(engBase e) + 0x6c, 0, 32, .ro, 0x0, false, .any⟩
/-- ENG_MAX_DU.MAX_DU (R132, Table 3-16). -/
def ENG_MAX_DU_MAX_DU (e : Nat) : Fld := ⟨(engBase e) + 0x70, 0, 32, .ro, 0x0, true, .any⟩
/-- ENG_CLAMP.COUNT (R133, Table 3-17). -/
def ENG_CLAMP_COUNT (e : Nat) : Fld := ⟨(engBase e) + 0x74, 16, 16, .ro, 0x0, true, .any⟩
/-- ENG_CLAMP.BOUND (R133, Table 3-17). -/
def ENG_CLAMP_BOUND (e : Nat) : Fld := ⟨(engBase e) + 0x74, 12, 4, .ro, 0x0, false, .any⟩
/-- ENG_CLAMP.PC (R133, Table 3-17). -/
def ENG_CLAMP_PC (e : Nat) : Fld := ⟨(engBase e) + 0x74, 0, 10, .ro, 0x0, false, .any⟩
/-- ENG_MEM_ECC.UE_COUNT (R134, Table 3-18). -/
def ENG_MEM_ECC_UE_COUNT (e : Nat) : Fld := ⟨(engBase e) + 0x78, 16, 16, .ro, 0x0, false, .any⟩
/-- ENG_MEM_ECC.CE_COUNT (R134, Table 3-18). -/
def ENG_MEM_ECC_CE_COUNT (e : Nat) : Fld := ⟨(engBase e) + 0x78, 0, 16, .ro, 0x0, false, .any⟩
/-- ENG_MEM_ECC_ADDR.VALID (R134, Table 3-18). -/
def ENG_MEM_ECC_ADDR_VALID (e : Nat) : Fld := ⟨(engBase e) + 0x7c, 31, 1, .ro, 0x0, false, .any⟩
/-- ENG_MEM_ECC_ADDR.HOST (R134, Table 3-18). -/
def ENG_MEM_ECC_ADDR_HOST (e : Nat) : Fld := ⟨(engBase e) + 0x7c, 30, 1, .ro, 0, false, .any⟩
/-- ENG_MEM_ECC_ADDR.WORD (R134, Table 3-18). -/
def ENG_MEM_ECC_ADDR_WORD (e : Nat) : Fld := ⟨(engBase e) + 0x7c, 3, 13, .ro, 0, false, .any⟩
/-- ENG_MEM_HOST.SHARED (R135, Table 3-19). -/
def ENG_MEM_HOST_SHARED (e : Nat) : Fld := ⟨(engBase e) + 0x80, 0, 6, .rw, 0x0, false, .any⟩
/-- ENG_CMD.CLR_ECC (R136, Table 3-20). -/
def ENG_CMD_CLR_ECC (e : Nat) : Fld := ⟨(engBase e) + 0x84, 3, 1, .wo, 0x0, false, .any⟩
/-- ENG_CMD.MEM_ZERO (R136, Table 3-20). -/
def ENG_CMD_MEM_ZERO (e : Nat) : Fld := ⟨(engBase e) + 0x84, 2, 1, .wo, 0x0, false, .any⟩
/-- ENG_CMD.CLEAR_REGS (R136, Table 3-20). -/
def ENG_CMD_CLEAR_REGS (e : Nat) : Fld := ⟨(engBase e) + 0x84, 1, 1, .wo, 0x0, false, .any⟩
/-- ENG_CMD.CLR_STATS (R136, Table 3-20). -/
def ENG_CMD_CLR_STATS (e : Nat) : Fld := ⟨(engBase e) + 0x84, 0, 1, .wo, 0x0, false, .any⟩
/-- ENG_IRQ_CAUSE.ZERO_DONE (R137, Table 3-21). -/
def ENG_IRQ_CAUSE_ZERO_DONE (e : Nat) : Fld := ⟨(engBase e) + 0x88, 5, 1, .w1c, 0x0, false, .any⟩
/-- ENG_IRQ_CAUSE.MEM_UE (R137, Table 3-21). -/
def ENG_IRQ_CAUSE_MEM_UE (e : Nat) : Fld := ⟨(engBase e) + 0x88, 4, 1, .w1c, 0x0, false, .any⟩
/-- ENG_IRQ_CAUSE.MEM_CE (R137, Table 3-21). -/
def ENG_IRQ_CAUSE_MEM_CE (e : Nat) : Fld := ⟨(engBase e) + 0x88, 3, 1, .w1c, 0x0, false, .any⟩
/-- ENG_IRQ_CAUSE.RESIDUE (R137, Table 3-21). -/
def ENG_IRQ_CAUSE_RESIDUE (e : Nat) : Fld := ⟨(engBase e) + 0x88, 2, 1, .w1c, 0x0, false, .any⟩
/-- ENG_IRQ_CAUSE.CLAMP (R137, Table 3-21). -/
def ENG_IRQ_CAUSE_CLAMP (e : Nat) : Fld := ⟨(engBase e) + 0x88, 1, 1, .w1c, 0x0, false, .any⟩
/-- ENG_IRQ_CAUSE.FAULT (R137, Table 3-21). -/
def ENG_IRQ_CAUSE_FAULT (e : Nat) : Fld := ⟨(engBase e) + 0x88, 0, 1, .w1c, 0x0, false, .any⟩
/-- ENG_DBG_ADDR.AUTO_INC (R138, Table 3-22). -/
def ENG_DBG_ADDR_AUTO_INC (e : Nat) : Fld := ⟨(engBase e) + 0x90, 31, 1, .rw, 0x0, false, .any⟩
/-- ENG_DBG_ADDR.FILE (R138, Table 3-22). -/
def ENG_DBG_ADDR_FILE (e : Nat) : Fld := ⟨(engBase e) + 0x90, 13, 3, .rw, 0x0, false, .any⟩
/-- ENG_DBG_ADDR.INDEX (R138, Table 3-22). -/
def ENG_DBG_ADDR_INDEX (e : Nat) : Fld := ⟨(engBase e) + 0x90, 8, 5, .rw, 0x0, false, .any⟩
/-- ENG_DBG_ADDR.WORD (R138, Table 3-22). -/
def ENG_DBG_ADDR_WORD (e : Nat) : Fld := ⟨(engBase e) + 0x90, 0, 6, .rw, 0x0, false, .any⟩
/-- ENG_DBG_DATA.DATA (R138, Table 3-22). -/
def ENG_DBG_DATA_DATA (e : Nat) : Fld := ⟨(engBase e) + 0x94, 0, 32, .rw, 0, false, .any⟩
/-- ENG_IRQ_EN.ZERO_DONE (R137, Table 3-21). -/
def ENG_IRQ_EN_ZERO_DONE (e : Nat) : Fld := ⟨(engBase e) + 0x8c, 5, 1, .rw, 0x0, false, .any⟩
/-- ENG_IRQ_EN.MEM_UE (R137, Table 3-21). -/
def ENG_IRQ_EN_MEM_UE (e : Nat) : Fld := ⟨(engBase e) + 0x8c, 4, 1, .rw, 0x0, false, .any⟩
/-- ENG_IRQ_EN.MEM_CE (R137, Table 3-21). -/
def ENG_IRQ_EN_MEM_CE (e : Nat) : Fld := ⟨(engBase e) + 0x8c, 3, 1, .rw, 0x0, false, .any⟩
/-- ENG_IRQ_EN.RESIDUE (R137, Table 3-21). -/
def ENG_IRQ_EN_RESIDUE (e : Nat) : Fld := ⟨(engBase e) + 0x8c, 2, 1, .rw, 0x0, false, .any⟩
/-- ENG_IRQ_EN.CLAMP (R137, Table 3-21). -/
def ENG_IRQ_EN_CLAMP (e : Nat) : Fld := ⟨(engBase e) + 0x8c, 1, 1, .rw, 0x0, false, .any⟩
/-- ENG_IRQ_EN.FAULT (R137, Table 3-21). -/
def ENG_IRQ_EN_FAULT (e : Nat) : Fld := ⟨(engBase e) + 0x8c, 0, 1, .rw, 0x0, false, .any⟩

/-- The fields of the engine registers that stand once per block. -/
def engineFlds (e : Nat) : List Fld :=
  [ENG_STATUS_ACT_NOW e, ENG_STATUS_MEM_BUSY e, ENG_STATUS_RESIDUE e, ENG_STATUS_CLAMPED e, ENG_STATUS_DEPTH e, ENG_STATUS_PC e, ENG_STATUS_STATE e, ENG_FAULT_VALID e, ENG_FAULT_ACT e, ENG_FAULT_CODE e, ENG_FAULT_PC e, ENG_HDR_VALID e, ENG_HDR_LAST e, ENG_HDR_VERSION e, ENG_PORT_CFG_OUT_DM1 e, ENG_PORT_CFG_IN_DM1 e, ENG_PORT_IN_LEVEL0 e, ENG_PORT_IN_LEVEL1 e, ENG_PORT_IN_LEVEL2 e, ENG_PORT_IN_LEVEL3 e, ENG_PORT_OUT_LEVEL0 e, ENG_PORT_OUT_LEVEL1 e, ENG_PORT_OUT_LEVEL2 e, ENG_PORT_OUT_LEVEL3 e, ENG_PORT_DISCARD_TOKENS e, ENG_LAST_DU_DU e, ENG_LAST_BUNDLES_BUNDLES e, ENG_LAST_CONFLICTS_CONFLICTS e, ENG_LAST_STALLS_STALLS e, ENG_MAX_DU_MAX_DU e, ENG_CLAMP_COUNT e, ENG_CLAMP_BOUND e, ENG_CLAMP_PC e, ENG_MEM_ECC_UE_COUNT e, ENG_MEM_ECC_CE_COUNT e, ENG_MEM_ECC_ADDR_VALID e, ENG_MEM_ECC_ADDR_HOST e, ENG_MEM_ECC_ADDR_WORD e, ENG_MEM_HOST_SHARED e, ENG_CMD_CLR_ECC e, ENG_CMD_MEM_ZERO e, ENG_CMD_CLEAR_REGS e, ENG_CMD_CLR_STATS e, ENG_IRQ_CAUSE_ZERO_DONE e, ENG_IRQ_CAUSE_MEM_UE e, ENG_IRQ_CAUSE_MEM_CE e, ENG_IRQ_CAUSE_RESIDUE e, ENG_IRQ_CAUSE_CLAMP e, ENG_IRQ_CAUSE_FAULT e, ENG_DBG_ADDR_AUTO_INC e, ENG_DBG_ADDR_FILE e, ENG_DBG_ADDR_INDEX e, ENG_DBG_ADDR_WORD e, ENG_DBG_DATA_DATA e, ENG_IRQ_EN_ZERO_DONE e, ENG_IRQ_EN_MEM_UE e, ENG_IRQ_EN_MEM_CE e, ENG_IRQ_EN_RESIDUE e, ENG_IRQ_EN_CLAMP e, ENG_IRQ_EN_FAULT e]
/-- The fields of the register at address `a` of the engine registers, none where no register stands. -/
def engineAt (e : Nat) (a : Nat) : List Fld :=
  (engineFlds e).filter (fun f => f.addr == a)
  ++ arrayAt a ((engBase e) + 0x10) 4 8 (fun i => [ENG_ACT_EN e i, ENG_ACT_ENTRY e i])
  ++ arrayAt a ((engBase e) + 0x30) 4 8 (fun i => [ENG_BOUND_BOUND_HI e i, ENG_BOUND_BOUND_LO e i])

end Sys2Proof.Machine.Reg
end

