-- ==== Sys2Proof/Machine/RegsHost.lean ====
section
/-! DEFINITION. Register fields, from the tables of the spec: address, lowest bit, width, type, reset value,
whether it keeps its value across warm reset, and how a disallowed value is stored. The global, interrupt, host port and DMA registers (R5, R572 to R575). -/
namespace Sys2Proof.Machine.Reg

/-- GLOBAL_ID.VERSION (R5, Table 0-4). -/
def GLOBAL_ID_VERSION : Fld := ⟨0x0, 28, 4, .ro, 0x1, true, .any⟩
/-- GLOBAL_ID.PART (R5, Table 0-4). -/
def GLOBAL_ID_PART : Fld := ⟨0x0, 12, 16, .ro, 0xb4c2, true, .any⟩
/-- GLOBAL_ID.MFR (R5, Table 0-4). -/
def GLOBAL_ID_MFR : Fld := ⟨0x0, 1, 11, .ro, 0x7a, true, .any⟩
/-- GLOBAL_ID.ONE (R5, Table 0-4). -/
def GLOBAL_ID_ONE : Fld := ⟨0x0, 0, 1, .ro, 0x1, true, .any⟩
/-- GLOBAL_SCRATCH.DATA (R572, Table 16-7). -/
def GLOBAL_SCRATCH_DATA : Fld := ⟨0x4, 0, 32, .rw, 0x0, true, .any⟩
/-- GIRQ_STATUS.ACTIVE (R572, Table 16-7). -/
def GIRQ_STATUS_ACTIVE (i : Nat) : Fld := ⟨0x10 + i * 4, 0, 32, .ro, 0x0, false, .any⟩
/-- GIRQ_EN.EN (R572, Table 16-7). -/
def GIRQ_EN_EN (i : Nat) : Fld := ⟨0x18 + i * 4, 0, 32, .rw, 0x0, true, .any⟩
/-- GIRQ_INTN_EN.EN (R572, Table 16-7). -/
def GIRQ_INTN_EN_EN (i : Nat) : Fld := ⟨0x20 + i * 4, 0, 32, .rw, 0x0, true, .any⟩
/-- GIRQ_SW.SW (R572, Table 16-7). -/
def GIRQ_SW_SW : Fld := ⟨0x28, 0, 16, .rw, 0x0, true, .any⟩
/-- GIRQ_EOI.VECTOR (R572, Table 16-7). -/
def GIRQ_EOI_VECTOR : Fld := ⟨0x30, 0, 8, .wo, 0x0, true, .any⟩
/-- GIRQ_INSERV.INSERV (R573, Table 16-8). -/
def GIRQ_INSERV_INSERV (i : Nat) : Fld := ⟨0x100 + i * 4, 0, 32, .ro, 0x0, false, .any⟩
/-- GIRQ_MAP.VECTOR (R573, Table 16-8). -/
def GIRQ_MAP_VECTOR (s : Nat) : Fld := ⟨0x200 + s * 4, 0, 8, .rw, 0x0, true, .any⟩
/-- GIRQ_FAB_SUM.RINGS (R573, Table 16-8). -/
def GIRQ_FAB_SUM_RINGS (q : Nat) : Fld := ⟨0x300 + q * 4, 0, 32, .ro, 0x0, false, .any⟩
/-- GIRQ_ENG_SUM.RINGS (R573, Table 16-8). -/
def GIRQ_ENG_SUM_RINGS (q : Nat) : Fld := ⟨0x310 + q * 4, 0, 32, .ro, 0x0, false, .any⟩
/-- GIRQ_ETH_SUM0.PORTS (R573, Table 16-8). -/
def GIRQ_ETH_SUM0_PORTS : Fld := ⟨0x320, 0, 32, .ro, 0x0, false, .any⟩
/-- GIRQ_ETH_SUM1.SB (R573, Table 16-8). -/
def GIRQ_ETH_SUM1_SB : Fld := ⟨0x324, 16, 12, .ro, 0x0, false, .any⟩
/-- GIRQ_ETH_SUM1.PORTS (R573, Table 16-8). -/
def GIRQ_ETH_SUM1_PORTS : Fld := ⟨0x324, 0, 16, .ro, 0x0, false, .any⟩
/-- HOST_ERRLOG0.VALID (R574, Table 16-9). -/
def HOST_ERRLOG0_VALID : Fld := ⟨0x400, 31, 1, .w1c, 0x0, true, .any⟩
/-- HOST_ERRLOG0.ROUTE (R574, Table 16-9). -/
def HOST_ERRLOG0_ROUTE : Fld := ⟨0x400, 28, 3, .ro, 0, true, .any⟩
/-- HOST_ERRLOG0.CODE (R574, Table 16-9). -/
def HOST_ERRLOG0_CODE : Fld := ⟨0x400, 24, 4, .ro, 0, true, .any⟩
/-- HOST_ERRLOG0.CHANNEL (R574, Table 16-9). -/
def HOST_ERRLOG0_CHANNEL : Fld := ⟨0x400, 16, 3, .ro, 0, true, .any⟩
/-- HOST_ERRLOG0.REQ_ID (R574, Table 16-9). -/
def HOST_ERRLOG0_REQ_ID : Fld := ⟨0x400, 0, 16, .ro, 0, true, .any⟩
/-- HOST_ERRLOG1.ADDR_LO (R574, Table 16-9). -/
def HOST_ERRLOG1_ADDR_LO : Fld := ⟨0x404, 0, 32, .ro, 0, true, .any⟩
/-- HOST_ERRLOG2.ADDR_HI (R574, Table 16-9). -/
def HOST_ERRLOG2_ADDR_HI : Fld := ⟨0x408, 0, 32, .ro, 0, true, .any⟩
/-- HOST_ERRLOG3.COUNT (R574, Table 16-9). -/
def HOST_ERRLOG3_COUNT : Fld := ⟨0x40c, 0, 32, .ro, 0x0, true, .any⟩
/-- HOST_STATUS.BME (R574, Table 16-9). -/
def HOST_STATUS_BME : Fld := ⟨0x410, 8, 1, .ro, 0x0, false, .any⟩
/-- HOST_STATUS.MSIX_EN (R574, Table 16-9). -/
def HOST_STATUS_MSIX_EN : Fld := ⟨0x410, 7, 1, .ro, 0x0, false, .any⟩
/-- HOST_STATUS.WIDTH (R574, Table 16-9). -/
def HOST_STATUS_WIDTH : Fld := ⟨0x410, 4, 3, .ro, 0x0, false, .any⟩
/-- HOST_STATUS.SPEED (R574, Table 16-9). -/
def HOST_STATUS_SPEED : Fld := ⟨0x410, 0, 3, .ro, 0x0, false, .any⟩
/-- HOST_IRQ_CAUSE.ERR (R574, Table 16-9). -/
def HOST_IRQ_CAUSE_ERR : Fld := ⟨0x414, 0, 1, .w1c, 0x0, false, .any⟩
/-- MI2C_STATUS.BUSY (R574, Table 16-9). -/
def MI2C_STATUS_BUSY : Fld := ⟨0x518, 7, 1, .ro, 0x0, false, .any⟩
/-- MI2C_STATUS.ADDR (R574, Table 16-9). -/
def MI2C_STATUS_ADDR : Fld := ⟨0x518, 0, 7, .ro, 0, false, .any⟩
/-- DMA_CTRL.EN (R575, Table 16-10). -/
def DMA_CTRL_EN (n : Nat) : Fld := ⟨(dmaBase n) + 0x0, 31, 1, .rw, 0x0, false, .any⟩
/-- DMA_RING_LO.BASE_LO (R575, Table 16-10). -/
def DMA_RING_LO_BASE_LO (n : Nat) : Fld := ⟨(dmaBase n) + 0x4, 12, 20, .rw, 0x0, false, .any⟩
/-- DMA_RING_HI.BASE_HI (R575, Table 16-10). -/
def DMA_RING_HI_BASE_HI (n : Nat) : Fld := ⟨(dmaBase n) + 0x8, 0, 32, .rw, 0x0, false, .any⟩
/-- DMA_RING_SIZE.SIZE (R575, Table 16-10). -/
def DMA_RING_SIZE_SIZE (n : Nat) : Fld := ⟨(dmaBase n) + 0xc, 0, 13, .rw, 0x40, false, (.clamp 2 4096)⟩
/-- DMA_PROD.PROD (R575, Table 16-10). -/
def DMA_PROD_PROD (n : Nat) : Fld := ⟨(dmaBase n) + 0x10, 0, 12, .rw, 0x0, false, .any⟩
/-- DMA_CONS.CONS (R575, Table 16-10). -/
def DMA_CONS_CONS (n : Nat) : Fld := ⟨(dmaBase n) + 0x14, 0, 12, .ro, 0x0, false, .any⟩
/-- DMA_STATUS.BUSY (R575, Table 16-10). -/
def DMA_STATUS_BUSY (n : Nat) : Fld := ⟨(dmaBase n) + 0x18, 31, 1, .ro, 0x0, false, .any⟩
/-- DMA_STATUS.ABORT_LATE (R575, Table 16-10). -/
def DMA_STATUS_ABORT_LATE (n : Nat) : Fld := ⟨(dmaBase n) + 0x18, 30, 1, .ro, 0x0, false, .any⟩
/-- DMA_STATUS.STATE (R575, Table 16-10). -/
def DMA_STATUS_STATE (n : Nat) : Fld := ⟨(dmaBase n) + 0x18, 28, 2, .ro, 0x0, false, .any⟩
/-- DMA_STATUS.RESULT (R575, Table 16-10). -/
def DMA_STATUS_RESULT (n : Nat) : Fld := ⟨(dmaBase n) + 0x18, 0, 4, .ro, 0x0, false, .any⟩
/-- DMA_CMD.RESUME (R575, Table 16-10). -/
def DMA_CMD_RESUME (n : Nat) : Fld := ⟨(dmaBase n) + 0x1c, 1, 1, .wo, 0x0, false, .any⟩
/-- DMA_CMD.ABORT (R575, Table 16-10). -/
def DMA_CMD_ABORT (n : Nat) : Fld := ⟨(dmaBase n) + 0x1c, 0, 1, .wo, 0x0, false, .any⟩
/-- DMA_IRQ_CAUSE.HALT (R575, Table 16-10). -/
def DMA_IRQ_CAUSE_HALT (n : Nat) : Fld := ⟨(dmaBase n) + 0x20, 1, 1, .w1c, 0x0, false, .any⟩
/-- DMA_IRQ_CAUSE.DESC (R575, Table 16-10). -/
def DMA_IRQ_CAUSE_DESC (n : Nat) : Fld := ⟨(dmaBase n) + 0x20, 0, 1, .w1c, 0x0, false, .any⟩
/-- HOST_IRQ_EN.ERR (R574, Table 16-9). -/
def HOST_IRQ_EN_ERR : Fld := ⟨0x418, 0, 1, .rw, 0x0, false, .any⟩
/-- DMA_IRQ_EN.HALT (R575, Table 16-10). -/
def DMA_IRQ_EN_HALT (n : Nat) : Fld := ⟨(dmaBase n) + 0x24, 1, 1, .rw, 0x0, false, .any⟩
/-- DMA_IRQ_EN.DESC (R575, Table 16-10). -/
def DMA_IRQ_EN_DESC (n : Nat) : Fld := ⟨(dmaBase n) + 0x24, 0, 1, .rw, 0x0, false, .any⟩

/-- The fields of the globalId registers that stand once per block. -/
def globalIdFlds : List Fld :=
  [GLOBAL_ID_VERSION, GLOBAL_ID_PART, GLOBAL_ID_MFR, GLOBAL_ID_ONE]
/-- The fields of the register at address `a` of the globalId registers, none where no register stands. -/
def globalIdAt (a : Nat) : List Fld :=
  (globalIdFlds).filter (fun f => f.addr == a)
/-- The fields of the global registers that stand once per block. -/
def globalFlds : List Fld :=
  [GLOBAL_SCRATCH_DATA, GIRQ_SW_SW, GIRQ_EOI_VECTOR, GIRQ_ETH_SUM0_PORTS, GIRQ_ETH_SUM1_SB, GIRQ_ETH_SUM1_PORTS, HOST_ERRLOG0_VALID, HOST_ERRLOG0_ROUTE, HOST_ERRLOG0_CODE, HOST_ERRLOG0_CHANNEL, HOST_ERRLOG0_REQ_ID, HOST_ERRLOG1_ADDR_LO, HOST_ERRLOG2_ADDR_HI, HOST_ERRLOG3_COUNT, HOST_STATUS_BME, HOST_STATUS_MSIX_EN, HOST_STATUS_WIDTH, HOST_STATUS_SPEED, HOST_IRQ_CAUSE_ERR, MI2C_STATUS_BUSY, MI2C_STATUS_ADDR, HOST_IRQ_EN_ERR]
/-- The fields of the register at address `a` of the global registers, none where no register stands. -/
def globalAt (a : Nat) : List Fld :=
  (globalFlds).filter (fun f => f.addr == a)
  ++ arrayAt a (0x10) 4 2 (fun i => [GIRQ_STATUS_ACTIVE i])
  ++ arrayAt a (0x18) 4 2 (fun i => [GIRQ_EN_EN i])
  ++ arrayAt a (0x20) 4 2 (fun i => [GIRQ_INTN_EN_EN i])
  ++ arrayAt a (0x100) 4 8 (fun i => [GIRQ_INSERV_INSERV i])
  ++ arrayAt a (0x200) 4 64 (fun i => [GIRQ_MAP_VECTOR i])
  ++ arrayAt a (0x300) 4 4 (fun i => [GIRQ_FAB_SUM_RINGS i])
  ++ arrayAt a (0x310) 4 4 (fun i => [GIRQ_ENG_SUM_RINGS i])
/-- The fields of the dma registers that stand once per block. -/
def dmaFlds (n : Nat) : List Fld :=
  [DMA_CTRL_EN n, DMA_RING_LO_BASE_LO n, DMA_RING_HI_BASE_HI n, DMA_RING_SIZE_SIZE n, DMA_PROD_PROD n, DMA_CONS_CONS n, DMA_STATUS_BUSY n, DMA_STATUS_ABORT_LATE n, DMA_STATUS_STATE n, DMA_STATUS_RESULT n, DMA_CMD_RESUME n, DMA_CMD_ABORT n, DMA_IRQ_CAUSE_HALT n, DMA_IRQ_CAUSE_DESC n, DMA_IRQ_EN_HALT n, DMA_IRQ_EN_DESC n]
/-- The fields of the register at address `a` of the dma registers, none where no register stands. -/
def dmaAt (n : Nat) (a : Nat) : List Fld :=
  (dmaFlds n).filter (fun f => f.addr == a)

end Sys2Proof.Machine.Reg
end

