-- ==== Sys2Proof/Machine/RegsMaster.lean ====
section
/-! DEFINITION. Register fields, from the tables of the spec: address, lowest bit, width, type, reset value,
whether it keeps its value across warm reset, and how a disallowed value is stored. The Ringmaster, contract and Tightrope registers (R56 to R59, R424 to R433, R452 to R457). -/
namespace Sys2Proof.Machine.Reg

/-- RM_CONTRACT_CTRL.LOCK (R56, Table 1-14). -/
def RM_CONTRACT_CTRL_LOCK : Fld := ⟨0x00100000 + 0x8000, 31, 1, .rwl, 0x0, true, .any⟩
/-- RM_CONTRACT_CTRL.CASC_ALLOW (R56, Table 1-14). -/
def RM_CONTRACT_CTRL_CASC_ALLOW : Fld := ⟨0x00100000 + 0x8000, 8, 1, .ro, 0x0, true, .any⟩
/-- RM_CONTRACT_CTRL.TJ_DESIGN (R56, Table 1-14). -/
def RM_CONTRACT_CTRL_TJ_DESIGN : Fld := ⟨0x00100000 + 0x8000, 0, 3, .rwl, 0x5, true, (.cap 5)⟩
/-- RM_CONTRACT_CEIL.NONE (R57, Table 1-15). -/
def RM_CONTRACT_CEIL_NONE : Fld := ⟨0x00100000 + 0x8004, 31, 1, .ro, 0x1, true, .any⟩
/-- RM_CONTRACT_CEIL.LIMIT_RING (R57, Table 1-15). -/
def RM_CONTRACT_CEIL_LIMIT_RING : Fld := ⟨0x00100000 + 0x8004, 24, 7, .ro, 0x0, true, .any⟩
/-- RM_CONTRACT_CEIL.CEIL (R57, Table 1-15). -/
def RM_CONTRACT_CEIL_CEIL : Fld := ⟨0x00100000 + 0x8004, 0, 24, .ro, 0xffffff, true, .any⟩
/-- RM_CONTRACT_STATUS.T_RANGE (R57, Table 1-15). -/
def RM_CONTRACT_STATUS_T_RANGE : Fld := ⟨0x00100000 + 0x8008, 19, 1, .ro, 0x0, true, .any⟩
/-- RM_CONTRACT_STATUS.PERIOD_REJ (R57, Table 1-15). -/
def RM_CONTRACT_STATUS_PERIOD_REJ : Fld := ⟨0x00100000 + 0x8008, 18, 1, .w1c, 0x0, true, .any⟩
/-- RM_CONTRACT_STATUS.VSAFE_LOW (R57, Table 1-15). -/
def RM_CONTRACT_STATUS_VSAFE_LOW : Fld := ⟨0x00100000 + 0x8008, 17, 1, .ro, 0x0, true, .any⟩
/-- RM_CONTRACT_STATUS.FLOOR_NONE (R57, Table 1-15). -/
def RM_CONTRACT_STATUS_FLOOR_NONE : Fld := ⟨0x00100000 + 0x8008, 16, 1, .ro, 0x0, true, .any⟩
/-- RM_CONTRACT_STATUS.FLOOR_MV (R57, Table 1-15). -/
def RM_CONTRACT_STATUS_FLOOR_MV : Fld := ⟨0x00100000 + 0x8008, 0, 10, .ro, 0x2bc, true, .any⟩
/-- RM_SLIP_LOG0.TICK_LO (R58, Table 1-16). -/
def RM_SLIP_LOG0_TICK_LO : Fld := ⟨0x00100000 + 0x8010, 0, 32, .ro, 0, true, .any⟩
/-- RM_SLIP_LOG1.TICK_HI (R58, Table 1-16). -/
def RM_SLIP_LOG1_TICK_HI : Fld := ⟨0x00100000 + 0x8014, 0, 32, .ro, 0, true, .any⟩
/-- RM_SLIP_LOG2.VCORE_MV (R58, Table 1-16). -/
def RM_SLIP_LOG2_VCORE_MV : Fld := ⟨0x00100000 + 0x8018, 16, 10, .ro, 0, true, .any⟩
/-- RM_SLIP_LOG2.CAUSE (R58, Table 1-16). -/
def RM_SLIP_LOG2_CAUSE : Fld := ⟨0x00100000 + 0x8018, 10, 3, .ro, 0, true, .any⟩
/-- RM_SLIP_LOG2.ACT (R58, Table 1-16). -/
def RM_SLIP_LOG2_ACT : Fld := ⟨0x00100000 + 0x8018, 7, 3, .ro, 0, true, .any⟩
/-- RM_SLIP_LOG2.RING (R58, Table 1-16). -/
def RM_SLIP_LOG2_RING : Fld := ⟨0x00100000 + 0x8018, 0, 7, .ro, 0, true, .any⟩
/-- RM_SLIP_LOG3.TJ_MIN (R58, Table 1-16). -/
def RM_SLIP_LOG3_TJ_MIN : Fld := ⟨0x00100000 + 0x801c, 9, 9, .ro, 0, true, .any⟩
/-- RM_SLIP_LOG3.TJ_MAX (R58, Table 1-16). -/
def RM_SLIP_LOG3_TJ_MAX : Fld := ⟨0x00100000 + 0x801c, 0, 9, .ro, 0, true, .any⟩
/-- RM_DU_TABLE.DU_PS (R59, Table 1-17). -/
def RM_DU_TABLE_DU_PS (i : Nat) : Fld := ⟨0x00100000 + 0x8100 + i * 4, 0, 8, .ro, (duTable i), true, .any⟩
/-- RM_CTRL.RUN (R424, Table 11-4). -/
def RM_CTRL_RUN : Fld := ⟨0x00100000 + 0x0, 31, 1, .rw, 0x0, true, .any⟩
/-- RM_CTRL.AUTO_ALIGN (R424, Table 11-4). -/
def RM_CTRL_AUTO_ALIGN : Fld := ⟨0x00100000 + 0x0, 30, 1, .rw, 0x0, true, .any⟩
/-- RM_CTRL.TICK_IRQ_DIV (R424, Table 11-4). -/
def RM_CTRL_TICK_IRQ_DIV : Fld := ⟨0x00100000 + 0x0, 0, 16, .rw, 0x0, true, .any⟩
/-- RM_STATUS.HISTORY (R424, Table 11-4). -/
def RM_STATUS_HISTORY : Fld := ⟨0x00100000 + 0x4, 8, 1, .ro, 0x0, true, .any⟩
/-- RM_STATUS.BIG_OFS (R424, Table 11-4). -/
def RM_STATUS_BIG_OFS : Fld := ⟨0x00100000 + 0x4, 7, 1, .ro, 0x0, true, .any⟩
/-- RM_STATUS.PEND (R424, Table 11-4). -/
def RM_STATUS_PEND : Fld := ⟨0x00100000 + 0x4, 6, 1, .ro, 0x0, true, .any⟩
/-- RM_STATUS.RUNNING (R424, Table 11-4). -/
def RM_STATUS_RUNNING : Fld := ⟨0x00100000 + 0x4, 5, 1, .ro, 0x0, true, .any⟩
/-- RM_STATUS.PLL_LOCK (R424, Table 11-4). -/
def RM_STATUS_PLL_LOCK : Fld := ⟨0x00100000 + 0x4, 4, 1, .ro, 0x0, true, .any⟩
/-- RM_STATUS.DISC (R424, Table 11-4). -/
def RM_STATUS_DISC : Fld := ⟨0x00100000 + 0x4, 0, 3, .ro, 0x0, true, .any⟩
/-- RM_PERIOD_NEXT.NS (R425, Table 11-5). -/
def RM_PERIOD_NEXT_NS : Fld := ⟨0x00100000 + 0x8, 0, 24, .rw, 0x2710, true, (.floor 256)⟩
/-- RM_PERIOD_NEXT_FRAC.FRAC (R425, Table 11-5). -/
def RM_PERIOD_NEXT_FRAC_FRAC : Fld := ⟨0x00100000 + 0xc, 0, 16, .rw, 0x0, true, .any⟩
/-- RM_PERIOD_NOW.NS (R425, Table 11-5). -/
def RM_PERIOD_NOW_NS : Fld := ⟨0x00100000 + 0x10, 0, 24, .ro, 0x2710, true, .any⟩
/-- RM_PERIOD_NOW_FRAC.ACC (R425, Table 11-5). -/
def RM_PERIOD_NOW_FRAC_ACC : Fld := ⟨0x00100000 + 0x14, 16, 16, .ro, 0x0, true, .any⟩
/-- RM_PERIOD_NOW_FRAC.FRAC (R425, Table 11-5). -/
def RM_PERIOD_NOW_FRAC_FRAC : Fld := ⟨0x00100000 + 0x14, 0, 16, .ro, 0x0, true, .any⟩
/-- RM_TICK_LO.COUNT_LO (R426, Table 11-6). -/
def RM_TICK_LO_COUNT_LO : Fld := ⟨0x00100000 + 0x20, 0, 32, .ro, 0x0, true, .any⟩
/-- RM_TICK_HI.COUNT_HI (R426, Table 11-6). -/
def RM_TICK_HI_COUNT_HI : Fld := ⟨0x00100000 + 0x24, 0, 32, .ro, 0x0, true, .any⟩
/-- RM_TICK_SET_LO.SET_LO (R426, Table 11-6). -/
def RM_TICK_SET_LO_SET_LO : Fld := ⟨0x00100000 + 0x28, 0, 32, .wo, 0x0, true, .any⟩
/-- RM_TICK_SET_HI.SET_HI (R426, Table 11-6). -/
def RM_TICK_SET_HI_SET_HI : Fld := ⟨0x00100000 + 0x2c, 0, 32, .wo, 0x0, true, .any⟩
/-- RM_CMD.OP (R427, Table 11-7). -/
def RM_CMD_OP : Fld := ⟨0x00100000 + 0x30, 28, 4, .wo, 0x0, true, .any⟩
/-- RM_CMD_STAT.BUSY (R427, Table 11-7). -/
def RM_CMD_STAT_BUSY : Fld := ⟨0x00100000 + 0x34, 31, 1, .ro, 0x0, true, .any⟩
/-- RM_CMD_STAT.ABORT_LATE (R427, Table 11-7). -/
def RM_CMD_STAT_ABORT_LATE : Fld := ⟨0x00100000 + 0x34, 30, 1, .ro, 0x0, true, .any⟩
/-- RM_CMD_STAT.RESULT (R427, Table 11-7). -/
def RM_CMD_STAT_RESULT : Fld := ⟨0x00100000 + 0x34, 0, 4, .ro, 0x0, true, .any⟩
/-- RM_CMD_EFFECT_LO.EFFECT_LO (R427, Table 11-7). -/
def RM_CMD_EFFECT_LO_EFFECT_LO : Fld := ⟨0x00100000 + 0x38, 0, 32, .ro, 0x0, true, .any⟩
/-- RM_CMD_EFFECT_HI.EFFECT_HI (R427, Table 11-7). -/
def RM_CMD_EFFECT_HI_EFFECT_HI : Fld := ⟨0x00100000 + 0x3c, 0, 32, .ro, 0x0, true, .any⟩
/-- RM_TIME_SEC_LO.SEC_LO (R428, Table 11-8). -/
def RM_TIME_SEC_LO_SEC_LO : Fld := ⟨0x00100000 + 0x40, 0, 32, .ro, 0x0, true, .any⟩
/-- RM_TIME_SET_SEC_LO.SEC_LO (R428, Table 11-8). -/
def RM_TIME_SET_SEC_LO_SEC_LO : Fld := ⟨0x00100000 + 0x50, 0, 32, .wo, 0x0, true, .any⟩
/-- RM_TIME_SEC_HI.SEC_HI (R428, Table 11-8). -/
def RM_TIME_SEC_HI_SEC_HI : Fld := ⟨0x00100000 + 0x44, 0, 16, .ro, 0x0, true, .any⟩
/-- RM_TIME_SET_SEC_HI.SEC_HI (R428, Table 11-8). -/
def RM_TIME_SET_SEC_HI_SEC_HI : Fld := ⟨0x00100000 + 0x54, 0, 16, .wo, 0x0, true, .any⟩
/-- RM_TIME_NS.NS (R428, Table 11-8). -/
def RM_TIME_NS_NS : Fld := ⟨0x00100000 + 0x48, 2, 30, .ro, 0x0, true, .any⟩
/-- RM_TIME_SET_NS.NS (R428, Table 11-8). -/
def RM_TIME_SET_NS_NS : Fld := ⟨0x00100000 + 0x58, 2, 30, .wo, 0x0, true, .any⟩
/-- RM_TIME_NS.QNS (R428, Table 11-8). -/
def RM_TIME_NS_QNS : Fld := ⟨0x00100000 + 0x48, 0, 2, .ro, 0x0, true, .any⟩
/-- RM_TIME_SET_NS.QNS (R428, Table 11-8). -/
def RM_TIME_SET_NS_QNS : Fld := ⟨0x00100000 + 0x58, 0, 2, .wo, 0x0, true, .any⟩
/-- RM_PPS_IN_NS.NS (R429, Table 11-9). -/
def RM_PPS_IN_NS_NS : Fld := ⟨0x00100000 + 0x60, 2, 30, .ro, 0x0, true, .any⟩
/-- RM_PPS_IN_NS.QNS (R429, Table 11-9). -/
def RM_PPS_IN_NS_QNS : Fld := ⟨0x00100000 + 0x60, 0, 2, .ro, 0x0, true, .any⟩
/-- RM_PPS_IN_STAT.REJECTS (R429, Table 11-9). -/
def RM_PPS_IN_STAT_REJECTS : Fld := ⟨0x00100000 + 0x64, 16, 16, .ro, 0x0, true, .any⟩
/-- RM_PPS_IN_STAT.ACCEPTS (R429, Table 11-9). -/
def RM_PPS_IN_STAT_ACCEPTS : Fld := ⟨0x00100000 + 0x64, 0, 16, .ro, 0x0, true, .any⟩
/-- RM_PPS_ADJ.IN_ADJ (R429, Table 11-9). -/
def RM_PPS_ADJ_IN_ADJ : Fld := ⟨0x00100000 + 0x68, 16, 16, .rw, 0x0, true, .any⟩
/-- RM_PPS_ADJ.OUT_ADJ (R429, Table 11-9). -/
def RM_PPS_ADJ_OUT_ADJ : Fld := ⟨0x00100000 + 0x68, 0, 16, .rw, 0x0, true, .any⟩
/-- RM_DISC.SRC (R430, Table 11-10). -/
def RM_DISC_SRC : Fld := ⟨0x00100000 + 0x70, 30, 2, .rw, 0x0, true, (.zeroAt 3)⟩
/-- RM_DISC.PPS_POL (R430, Table 11-10). -/
def RM_DISC_PPS_POL : Fld := ⟨0x00100000 + 0x70, 29, 1, .rw, 0x0, true, .any⟩
/-- RM_DISC.HOLD_TO (R430, Table 11-10). -/
def RM_DISC_HOLD_TO : Fld := ⟨0x00100000 + 0x70, 16, 8, .rw, 0x1e, true, (.floor 1)⟩
/-- RM_DISC.KI_SHIFT (R430, Table 11-10). -/
def RM_DISC_KI_SHIFT : Fld := ⟨0x00100000 + 0x70, 12, 4, .rw, 0x4, true, .any⟩
/-- RM_DISC.KP_SHIFT (R430, Table 11-10). -/
def RM_DISC_KP_SHIFT : Fld := ⟨0x00100000 + 0x70, 8, 4, .rw, 0x1, true, .any⟩
/-- RM_DISC.LOCK_THR (R430, Table 11-10). -/
def RM_DISC_LOCK_THR : Fld := ⟨0x00100000 + 0x70, 0, 8, .rw, 0x64, true, (.floor 1)⟩
/-- RM_OFS_SAMPLE.OFS (R430, Table 11-10). -/
def RM_OFS_SAMPLE_OFS : Fld := ⟨0x00100000 + 0x74, 0, 32, .wo, 0x0, true, .any⟩
/-- RM_OFS_LAST.OFS (R430, Table 11-10). -/
def RM_OFS_LAST_OFS : Fld := ⟨0x00100000 + 0x78, 0, 32, .ro, 0x0, true, .any⟩
/-- RM_FREQ.CORR (R430, Table 11-10). -/
def RM_FREQ_CORR : Fld := ⟨0x00100000 + 0x7c, 0, 32, .ro, 0x0, true, .any⟩
/-- RM_PHASE.PHASE_NS (R430, Table 11-10). -/
def RM_PHASE_PHASE_NS : Fld := ⟨0x00100000 + 0x80, 0, 30, .rw, 0x0, true, (.cap 999999999)⟩
/-- RM_TOUT.EN (R431, Table 11-11). -/
def RM_TOUT_EN (n : Nat) : Fld := ⟨0x00100000 + 0x90 + n * 4, 31, 1, .rw, 0x0, true, .any⟩
/-- RM_TOUT.POL (R431, Table 11-11). -/
def RM_TOUT_POL (n : Nat) : Fld := ⟨0x00100000 + 0x90 + n * 4, 30, 1, .rw, 0x0, true, .any⟩
/-- RM_TOUT.WIDTH (R431, Table 11-11). -/
def RM_TOUT_WIDTH (n : Nat) : Fld := ⟨0x00100000 + 0x90 + n * 4, 24, 6, .rw, 0x1, true, (.floor 1)⟩
/-- RM_TOUT.DIV_M1 (R431, Table 11-11). -/
def RM_TOUT_DIV_M1 (n : Nat) : Fld := ⟨0x00100000 + 0x90 + n * 4, 0, 16, .rw, 0x0, true, .any⟩
/-- RM_PPS_OUT.EN (R431, Table 11-11). -/
def RM_PPS_OUT_EN : Fld := ⟨0x00100000 + 0xa0, 31, 1, .rw, 0x0, true, .any⟩
/-- RM_PPS_OUT.POL (R431, Table 11-11). -/
def RM_PPS_OUT_POL : Fld := ⟨0x00100000 + 0xa0, 30, 1, .rw, 0x0, true, .any⟩
/-- RM_PPS_OUT.ALWAYS (R431, Table 11-11). -/
def RM_PPS_OUT_ALWAYS : Fld := ⟨0x00100000 + 0xa0, 29, 1, .rw, 0x0, true, .any⟩
/-- RM_PPS_OUT.WIDTH (R431, Table 11-11). -/
def RM_PPS_OUT_WIDTH : Fld := ⟨0x00100000 + 0xa0, 0, 8, .rw, 0x64, true, (.floor 1)⟩
/-- RM_CASC_STATUS.MARKERS (R432, Table 11-12). -/
def RM_CASC_STATUS_MARKERS : Fld := ⟨0x00100000 + 0xb0, 16, 16, .ro, 0x0, true, .any⟩
/-- RM_CASC_STATUS.SENDER (R432, Table 11-12). -/
def RM_CASC_STATUS_SENDER : Fld := ⟨0x00100000 + 0xb0, 6, 1, .ro, 0x0, true, .any⟩
/-- RM_CASC_STATUS.UP_PORT (R432, Table 11-12). -/
def RM_CASC_STATUS_UP_PORT : Fld := ⟨0x00100000 + 0xb0, 4, 2, .ro, 0x0, true, .any⟩
/-- RM_CASC_STATUS.ASTATE (R432, Table 11-12). -/
def RM_CASC_STATUS_ASTATE : Fld := ⟨0x00100000 + 0xb0, 0, 3, .ro, 0x0, true, .any⟩
/-- RM_CASC_ERR.MAX (R432, Table 11-12). -/
def RM_CASC_ERR_MAX : Fld := ⟨0x00100000 + 0xb4, 16, 16, .ro, 0x0, true, .any⟩
/-- RM_CASC_ERR.LAST (R432, Table 11-12). -/
def RM_CASC_ERR_LAST : Fld := ⟨0x00100000 + 0xb4, 0, 16, .ro, 0x0, true, .any⟩
/-- RM_CASC_DLY.VALID (R432, Table 11-12). -/
def RM_CASC_DLY_VALID (q : Nat) : Fld := ⟨0x00100000 + 0xc0 + q * 4, 31, 1, .ro, 0x0, true, .any⟩
/-- RM_CASC_DLY.DLY (R432, Table 11-12). -/
def RM_CASC_DLY_DLY (q : Nat) : Fld := ⟨0x00100000 + 0xc0 + q * 4, 0, 20, .ro, 0x0, true, .any⟩
/-- RM_CASC_ASYM.ASYM (R432, Table 11-12). -/
def RM_CASC_ASYM_ASYM (q : Nat) : Fld := ⟨0x00100000 + 0xd0 + q * 4, 0, 16, .rw, 0x0, true, .any⟩
/-- RM_IRQ_CAUSE.RING (R433, Table 11-13). -/
def RM_IRQ_CAUSE_RING : Fld := ⟨0x00100000 + 0xe0, 31, 1, .ro, 0x0, true, .any⟩
/-- RM_IRQ_CAUSE.COUNT_FIX (R433, Table 11-13). -/
def RM_IRQ_CAUSE_COUNT_FIX : Fld := ⟨0x00100000 + 0xe0, 7, 1, .w1c, 0x0, true, .any⟩
/-- RM_IRQ_CAUSE.CMD_DONE (R433, Table 11-13). -/
def RM_IRQ_CAUSE_CMD_DONE : Fld := ⟨0x00100000 + 0xe0, 6, 1, .w1c, 0x0, true, .any⟩
/-- RM_IRQ_CAUSE.ALIGN_ERR (R433, Table 11-13). -/
def RM_IRQ_CAUSE_ALIGN_ERR : Fld := ⟨0x00100000 + 0xe0, 5, 1, .w1c, 0x0, true, .any⟩
/-- RM_IRQ_CAUSE.BIG_OFS (R433, Table 11-13). -/
def RM_IRQ_CAUSE_BIG_OFS : Fld := ⟨0x00100000 + 0xe0, 4, 1, .w1c, 0x0, true, .any⟩
/-- RM_IRQ_CAUSE.PPS_REJECT (R433, Table 11-13). -/
def RM_IRQ_CAUSE_PPS_REJECT : Fld := ⟨0x00100000 + 0xe0, 3, 1, .w1c, 0x0, true, .any⟩
/-- RM_IRQ_CAUSE.HOLDOVER (R433, Table 11-13). -/
def RM_IRQ_CAUSE_HOLDOVER : Fld := ⟨0x00100000 + 0xe0, 2, 1, .w1c, 0x0, true, .any⟩
/-- RM_IRQ_CAUSE.LOCK_CHG (R433, Table 11-13). -/
def RM_IRQ_CAUSE_LOCK_CHG : Fld := ⟨0x00100000 + 0xe0, 1, 1, .w1c, 0x0, true, .any⟩
/-- RM_IRQ_CAUSE.TICK (R433, Table 11-13). -/
def RM_IRQ_CAUSE_TICK : Fld := ⟨0x00100000 + 0xe0, 0, 1, .w1c, 0x0, true, .any⟩
/-- RM_RING_IRQ.RINGS (R433, Table 11-13). -/
def RM_RING_IRQ_RINGS (q : Nat) : Fld := ⟨0x00100000 + 0xf0 + q * 4, 0, 32, .ro, 0x0, true, .any⟩
/-- TG_CTRL.LOCK (R452, Table 12-5). -/
def TG_CTRL_LOCK : Fld := ⟨0x00200000 + 0x0, 31, 1, .rwl, 0x0, true, .any⟩
/-- TG_CTRL.GOVERNED (R452, Table 12-5). -/
def TG_CTRL_GOVERNED : Fld := ⟨0x00200000 + 0x0, 30, 1, .rwl, 0x0, true, .any⟩
/-- TG_CTRL.TARGET_HI (R452, Table 12-5). -/
def TG_CTRL_TARGET_HI : Fld := ⟨0x00200000 + 0x0, 8, 8, .rw, 0x33, true, (.cap 51)⟩
/-- TG_CTRL.TARGET_LO (R452, Table 12-5). -/
def TG_CTRL_TARGET_LO : Fld := ⟨0x00200000 + 0x0, 0, 8, .rw, 0x20, true, .any⟩
/-- TG_VSAFE.MV (R452, Table 12-5). -/
def TG_VSAFE_MV : Fld := ⟨0x00200000 + 0x4, 0, 10, .rwl, 0x2ee, true, .any⟩
/-- TG_STEP.INTERVAL (R452, Table 12-5). -/
def TG_STEP_INTERVAL : Fld := ⟨0x00200000 + 0x8, 24, 8, .rw, 0xa, true, (.floor 1)⟩
/-- TG_STEP.GUARD (R452, Table 12-5). -/
def TG_STEP_GUARD : Fld := ⟨0x00200000 + 0x8, 16, 8, .rw, 0xa, true, (.floor 5)⟩
/-- TG_STEP.STEP_UP (R452, Table 12-5). -/
def TG_STEP_STEP_UP : Fld := ⟨0x00200000 + 0x8, 8, 8, .rw, 0xa, true, (.floor 1)⟩
/-- TG_STEP.STEP_DN (R452, Table 12-5). -/
def TG_STEP_STEP_DN : Fld := ⟨0x00200000 + 0x8, 0, 8, .rw, 0x5, true, (.clamp 1 25)⟩
/-- TG_HOLD.RECOVER (R452, Table 12-5). -/
def TG_HOLD_RECOVER : Fld := ⟨0x00200000 + 0xc, 0, 16, .rw, 0x400, true, (.floor 1)⟩
/-- TG_STATUS.HOLD_LEFT (R453, Table 12-6). -/
def TG_STATUS_HOLD_LEFT : Fld := ⟨0x00200000 + 0x10, 16, 16, .ro, 0x100, true, .any⟩
/-- TG_STATUS.EOL_WARN (R453, Table 12-6). -/
def TG_STATUS_EOL_WARN : Fld := ⟨0x00200000 + 0x10, 15, 1, .ro, 0x0, true, .any⟩
/-- TG_STATUS.EOL_LIMIT (R453, Table 12-6). -/
def TG_STATUS_EOL_LIMIT : Fld := ⟨0x00200000 + 0x10, 14, 1, .ro, 0x0, true, .any⟩
/-- TG_STATUS.REG_FAULT (R453, Table 12-6). -/
def TG_STATUS_REG_FAULT : Fld := ⟨0x00200000 + 0x10, 13, 1, .ro, 0x0, true, .any⟩
/-- TG_STATUS.BELOW_FLOOR (R453, Table 12-6). -/
def TG_STATUS_BELOW_FLOOR : Fld := ⟨0x00200000 + 0x10, 12, 1, .ro, 0x0, true, .any⟩
/-- TG_STATUS.MODE (R453, Table 12-6). -/
def TG_STATUS_MODE : Fld := ⟨0x00200000 + 0x10, 0, 3, .ro, 0x0, true, .any⟩
/-- TG_VCMD.SENSED_MV (R453, Table 12-6). -/
def TG_VCMD_SENSED_MV : Fld := ⟨0x00200000 + 0x14, 16, 10, .ro, 0, true, .any⟩
/-- TG_VCMD.CMD_MV (R453, Table 12-6). -/
def TG_VCMD_CMD_MV : Fld := ⟨0x00200000 + 0x14, 0, 10, .ro, 0, true, .any⟩
/-- TG_EFF.VSAFE_EFF_MV (R453, Table 12-6). -/
def TG_EFF_VSAFE_EFF_MV : Fld := ⟨0x00200000 + 0x18, 0, 10, .ro, 0x2ee, true, .any⟩
/-- TG_SLIPS.SLIPS (R453, Table 12-6). -/
def TG_SLIPS_SLIPS : Fld := ⟨0x00200000 + 0x1c, 0, 32, .ro, 0x0, true, .any⟩
/-- TG_DMON.MON (R454, Table 12-7). -/
def TG_DMON_MON : Fld := ⟨0x00200000 + 0x20, 26, 6, .ro, 0, true, .any⟩
/-- TG_DMON.DU_Q4 (R454, Table 12-7). -/
def TG_DMON_DU_Q4 : Fld := ⟨0x00200000 + 0x20, 0, 16, .ro, 0, true, .any⟩
/-- TG_SLACK.S_MIN (R454, Table 12-7). -/
def TG_SLACK_S_MIN : Fld := ⟨0x00200000 + 0x24, 16, 8, .ro, 0xff, true, .any⟩
/-- TG_SLACK.RING (R454, Table 12-7). -/
def TG_SLACK_RING : Fld := ⟨0x00200000 + 0x24, 0, 7, .ro, 0x0, true, .any⟩
/-- TG_MARGIN.VALID (R454, Table 12-7). -/
def TG_MARGIN_VALID : Fld := ⟨0x00200000 + 0x28, 31, 1, .ro, 0x0, true, .any⟩
/-- TG_MARGIN.MR (R454, Table 12-7). -/
def TG_MARGIN_MR : Fld := ⟨0x00200000 + 0x28, 0, 16, .ro, 0x0, true, .any⟩
/-- TG_TEMP.TJ_MAX (R454, Table 12-7). -/
def TG_TEMP_TJ_MAX : Fld := ⟨0x00200000 + 0x2c, 16, 9, .ro, 0, true, .any⟩
/-- TG_TEMP.TJ_MIN (R454, Table 12-7). -/
def TG_TEMP_TJ_MIN : Fld := ⟨0x00200000 + 0x2c, 0, 9, .ro, 0, true, .any⟩
/-- TG_SENS_FAIL.SENS (R454, Table 12-7). -/
def TG_SENS_FAIL_SENS : Fld := ⟨0x00200000 + 0x30, 0, 32, .ro, 0x0, true, .any⟩
/-- TG_MON_FAIL.MON (R454, Table 12-7). -/
def TG_MON_FAIL_MON (q : Nat) : Fld := ⟨0x00200000 + 0x34 + q * 4, 0, 32, .ro, 0x0, true, .any⟩
/-- TG_THERM.TRIP (R455, Table 12-8). -/
def TG_THERM_TRIP : Fld := ⟨0x00200000 + 0x40, 18, 9, .rw, 0xdb, true, .any⟩
/-- TG_THERM.HOT (R455, Table 12-8). -/
def TG_THERM_HOT : Fld := ⟨0x00200000 + 0x40, 9, 9, .rw, 0xd4, true, .any⟩
/-- TG_THERM.WARN (R455, Table 12-8). -/
def TG_THERM_WARN : Fld := ⟨0x00200000 + 0x40, 0, 9, .rw, 0xc7, true, .any⟩
/-- TG_SHED.RINGS (R455, Table 12-8). -/
def TG_SHED_RINGS (q : Nat) : Fld := ⟨0x00200000 + 0x44 + q * 4, 0, 32, .rw, 0x0, true, .any⟩
/-- TG_AGE.PEAK (R456, Table 12-9). -/
def TG_AGE_PEAK : Fld := ⟨0x00200000 + 0x60, 16, 16, .ro, 0x0, true, .any⟩
/-- TG_AGE.RATIO (R456, Table 12-9). -/
def TG_AGE_RATIO : Fld := ⟨0x00200000 + 0x60, 0, 16, .ro, 0x0, true, .any⟩
/-- TG_LIFE.HOURS (R456, Table 12-9). -/
def TG_LIFE_HOURS : Fld := ⟨0x00200000 + 0x64, 0, 32, .ro, 0, true, .any⟩
/-- TG_LIFE_HOT.HOT_HOURS (R456, Table 12-9). -/
def TG_LIFE_HOT_HOT_HOURS : Fld := ⟨0x00200000 + 0x68, 0, 32, .ro, 0, true, .any⟩
/-- TG_FORCE.EN (R456, Table 12-9). -/
def TG_FORCE_EN : Fld := ⟨0x00200000 + 0x6c, 31, 1, .rw, 0x0, true, .any⟩
/-- TG_FORCE.MV (R456, Table 12-9). -/
def TG_FORCE_MV : Fld := ⟨0x00200000 + 0x6c, 0, 10, .rw, 0x320, true, .any⟩
/-- TG_AVS.ERRORS (R457, Table 12-10). -/
def TG_AVS_ERRORS : Fld := ⟨0x00200000 + 0x70, 16, 16, .ro, 0x0, true, .any⟩
/-- TG_AVS.SLEW (R457, Table 12-10). -/
def TG_AVS_SLEW : Fld := ⟨0x00200000 + 0x70, 0, 8, .rw, 0xa, true, (.floor 1)⟩
/-- TG_IOUT.AMPS (R457, Table 12-10). -/
def TG_IOUT_AMPS : Fld := ⟨0x00200000 + 0x74, 0, 16, .ro, 0x0, true, .any⟩
/-- TG_CMD.CLR_FAULT (R457, Table 12-10). -/
def TG_CMD_CLR_FAULT : Fld := ⟨0x00200000 + 0x78, 1, 1, .wo, 0x0, true, .any⟩
/-- TG_CMD.AGE_CHECK (R457, Table 12-10). -/
def TG_CMD_AGE_CHECK : Fld := ⟨0x00200000 + 0x78, 0, 1, .wo, 0x0, true, .any⟩
/-- TG_IRQ_CAUSE.SAFETY (R457, Table 12-10). -/
def TG_IRQ_CAUSE_SAFETY : Fld := ⟨0x00200000 + 0x80, 9, 1, .w1c, 0x0, false, .any⟩
/-- TG_IRQ_CAUSE.EOL_WARN (R457, Table 12-10). -/
def TG_IRQ_CAUSE_EOL_WARN : Fld := ⟨0x00200000 + 0x80, 8, 1, .w1c, 0x0, false, .any⟩
/-- TG_IRQ_CAUSE.THERM_TRIP (R457, Table 12-10). -/
def TG_IRQ_CAUSE_THERM_TRIP : Fld := ⟨0x00200000 + 0x80, 7, 1, .w1c, 0x0, false, .any⟩
/-- TG_IRQ_CAUSE.THERM_HOT (R457, Table 12-10). -/
def TG_IRQ_CAUSE_THERM_HOT : Fld := ⟨0x00200000 + 0x80, 6, 1, .w1c, 0x0, false, .any⟩
/-- TG_IRQ_CAUSE.THERM_WARN (R457, Table 12-10). -/
def TG_IRQ_CAUSE_THERM_WARN : Fld := ⟨0x00200000 + 0x80, 5, 1, .w1c, 0x0, false, .any⟩
/-- TG_IRQ_CAUSE.MON_FAULT (R457, Table 12-10). -/
def TG_IRQ_CAUSE_MON_FAULT : Fld := ⟨0x00200000 + 0x80, 4, 1, .w1c, 0x0, false, .any⟩
/-- TG_IRQ_CAUSE.SENS_FAULT (R457, Table 12-10). -/
def TG_IRQ_CAUSE_SENS_FAULT : Fld := ⟨0x00200000 + 0x80, 3, 1, .w1c, 0x0, false, .any⟩
/-- TG_IRQ_CAUSE.REG_SLOW (R457, Table 12-10). -/
def TG_IRQ_CAUSE_REG_SLOW : Fld := ⟨0x00200000 + 0x80, 2, 1, .w1c, 0x0, false, .any⟩
/-- TG_IRQ_CAUSE.REG_ALERT (R457, Table 12-10). -/
def TG_IRQ_CAUSE_REG_ALERT : Fld := ⟨0x00200000 + 0x80, 1, 1, .w1c, 0x0, false, .any⟩
/-- TG_IRQ_CAUSE.REG_FAULT (R457, Table 12-10). -/
def TG_IRQ_CAUSE_REG_FAULT : Fld := ⟨0x00200000 + 0x80, 0, 1, .w1c, 0x0, false, .any⟩
/-- RM_IRQ_EN.RING (R433, Table 11-13). -/
def RM_IRQ_EN_RING : Fld := ⟨0x00100000 + 0xe4, 31, 1, .rw, 0x0, true, .any⟩
/-- RM_IRQ_EN.COUNT_FIX (R433, Table 11-13). -/
def RM_IRQ_EN_COUNT_FIX : Fld := ⟨0x00100000 + 0xe4, 7, 1, .rw, 0x0, true, .any⟩
/-- RM_IRQ_EN.CMD_DONE (R433, Table 11-13). -/
def RM_IRQ_EN_CMD_DONE : Fld := ⟨0x00100000 + 0xe4, 6, 1, .rw, 0x0, true, .any⟩
/-- RM_IRQ_EN.ALIGN_ERR (R433, Table 11-13). -/
def RM_IRQ_EN_ALIGN_ERR : Fld := ⟨0x00100000 + 0xe4, 5, 1, .rw, 0x0, true, .any⟩
/-- RM_IRQ_EN.BIG_OFS (R433, Table 11-13). -/
def RM_IRQ_EN_BIG_OFS : Fld := ⟨0x00100000 + 0xe4, 4, 1, .rw, 0x0, true, .any⟩
/-- RM_IRQ_EN.PPS_REJECT (R433, Table 11-13). -/
def RM_IRQ_EN_PPS_REJECT : Fld := ⟨0x00100000 + 0xe4, 3, 1, .rw, 0x0, true, .any⟩
/-- RM_IRQ_EN.HOLDOVER (R433, Table 11-13). -/
def RM_IRQ_EN_HOLDOVER : Fld := ⟨0x00100000 + 0xe4, 2, 1, .rw, 0x0, true, .any⟩
/-- RM_IRQ_EN.LOCK_CHG (R433, Table 11-13). -/
def RM_IRQ_EN_LOCK_CHG : Fld := ⟨0x00100000 + 0xe4, 1, 1, .rw, 0x0, true, .any⟩
/-- RM_IRQ_EN.TICK (R433, Table 11-13). -/
def RM_IRQ_EN_TICK : Fld := ⟨0x00100000 + 0xe4, 0, 1, .rw, 0x0, true, .any⟩
/-- TG_IRQ_EN.SAFETY (R457, Table 12-10). -/
def TG_IRQ_EN_SAFETY : Fld := ⟨0x00200000 + 0x84, 9, 1, .rw, 0x0, true, .any⟩
/-- TG_IRQ_EN.EOL_WARN (R457, Table 12-10). -/
def TG_IRQ_EN_EOL_WARN : Fld := ⟨0x00200000 + 0x84, 8, 1, .rw, 0x0, true, .any⟩
/-- TG_IRQ_EN.THERM_TRIP (R457, Table 12-10). -/
def TG_IRQ_EN_THERM_TRIP : Fld := ⟨0x00200000 + 0x84, 7, 1, .rw, 0x0, true, .any⟩
/-- TG_IRQ_EN.THERM_HOT (R457, Table 12-10). -/
def TG_IRQ_EN_THERM_HOT : Fld := ⟨0x00200000 + 0x84, 6, 1, .rw, 0x0, true, .any⟩
/-- TG_IRQ_EN.THERM_WARN (R457, Table 12-10). -/
def TG_IRQ_EN_THERM_WARN : Fld := ⟨0x00200000 + 0x84, 5, 1, .rw, 0x0, true, .any⟩
/-- TG_IRQ_EN.MON_FAULT (R457, Table 12-10). -/
def TG_IRQ_EN_MON_FAULT : Fld := ⟨0x00200000 + 0x84, 4, 1, .rw, 0x0, true, .any⟩
/-- TG_IRQ_EN.SENS_FAULT (R457, Table 12-10). -/
def TG_IRQ_EN_SENS_FAULT : Fld := ⟨0x00200000 + 0x84, 3, 1, .rw, 0x0, true, .any⟩
/-- TG_IRQ_EN.REG_SLOW (R457, Table 12-10). -/
def TG_IRQ_EN_REG_SLOW : Fld := ⟨0x00200000 + 0x84, 2, 1, .rw, 0x0, true, .any⟩
/-- TG_IRQ_EN.REG_ALERT (R457, Table 12-10). -/
def TG_IRQ_EN_REG_ALERT : Fld := ⟨0x00200000 + 0x84, 1, 1, .rw, 0x0, true, .any⟩
/-- TG_IRQ_EN.REG_FAULT (R457, Table 12-10). -/
def TG_IRQ_EN_REG_FAULT : Fld := ⟨0x00200000 + 0x84, 0, 1, .rw, 0x0, true, .any⟩

/-- The fields of the ringmaster registers that stand once per block. -/
def ringmasterFlds0 : List Fld :=
  [RM_CONTRACT_CTRL_LOCK, RM_CONTRACT_CTRL_CASC_ALLOW, RM_CONTRACT_CTRL_TJ_DESIGN, RM_CONTRACT_CEIL_NONE, RM_CONTRACT_CEIL_LIMIT_RING, RM_CONTRACT_CEIL_CEIL, RM_CONTRACT_STATUS_T_RANGE, RM_CONTRACT_STATUS_PERIOD_REJ, RM_CONTRACT_STATUS_VSAFE_LOW, RM_CONTRACT_STATUS_FLOOR_NONE, RM_CONTRACT_STATUS_FLOOR_MV, RM_SLIP_LOG0_TICK_LO, RM_SLIP_LOG1_TICK_HI, RM_SLIP_LOG2_VCORE_MV, RM_SLIP_LOG2_CAUSE, RM_SLIP_LOG2_ACT, RM_SLIP_LOG2_RING, RM_SLIP_LOG3_TJ_MIN, RM_SLIP_LOG3_TJ_MAX, RM_CTRL_RUN, RM_CTRL_AUTO_ALIGN, RM_CTRL_TICK_IRQ_DIV, RM_STATUS_HISTORY, RM_STATUS_BIG_OFS, RM_STATUS_PEND, RM_STATUS_RUNNING, RM_STATUS_PLL_LOCK, RM_STATUS_DISC, RM_PERIOD_NEXT_NS, RM_PERIOD_NEXT_FRAC_FRAC, RM_PERIOD_NOW_NS, RM_PERIOD_NOW_FRAC_ACC, RM_PERIOD_NOW_FRAC_FRAC, RM_TICK_LO_COUNT_LO, RM_TICK_HI_COUNT_HI, RM_TICK_SET_LO_SET_LO, RM_TICK_SET_HI_SET_HI, RM_CMD_OP, RM_CMD_STAT_BUSY, RM_CMD_STAT_ABORT_LATE, RM_CMD_STAT_RESULT, RM_CMD_EFFECT_LO_EFFECT_LO, RM_CMD_EFFECT_HI_EFFECT_HI, RM_TIME_SEC_LO_SEC_LO, RM_TIME_SET_SEC_LO_SEC_LO, RM_TIME_SEC_HI_SEC_HI, RM_TIME_SET_SEC_HI_SEC_HI, RM_TIME_NS_NS, RM_TIME_SET_NS_NS, RM_TIME_NS_QNS, RM_TIME_SET_NS_QNS, RM_PPS_IN_NS_NS, RM_PPS_IN_NS_QNS, RM_PPS_IN_STAT_REJECTS, RM_PPS_IN_STAT_ACCEPTS, RM_PPS_ADJ_IN_ADJ, RM_PPS_ADJ_OUT_ADJ, RM_DISC_SRC, RM_DISC_PPS_POL, RM_DISC_HOLD_TO]
/-- The fields of the ringmaster registers that stand once per block. -/
def ringmasterFlds1 : List Fld :=
  [RM_DISC_KI_SHIFT, RM_DISC_KP_SHIFT, RM_DISC_LOCK_THR, RM_OFS_SAMPLE_OFS, RM_OFS_LAST_OFS, RM_FREQ_CORR, RM_PHASE_PHASE_NS, RM_PPS_OUT_EN, RM_PPS_OUT_POL, RM_PPS_OUT_ALWAYS, RM_PPS_OUT_WIDTH, RM_CASC_STATUS_MARKERS, RM_CASC_STATUS_SENDER, RM_CASC_STATUS_UP_PORT, RM_CASC_STATUS_ASTATE, RM_CASC_ERR_MAX, RM_CASC_ERR_LAST, RM_IRQ_CAUSE_RING, RM_IRQ_CAUSE_COUNT_FIX, RM_IRQ_CAUSE_CMD_DONE, RM_IRQ_CAUSE_ALIGN_ERR, RM_IRQ_CAUSE_BIG_OFS, RM_IRQ_CAUSE_PPS_REJECT, RM_IRQ_CAUSE_HOLDOVER, RM_IRQ_CAUSE_LOCK_CHG, RM_IRQ_CAUSE_TICK, RM_IRQ_EN_RING, RM_IRQ_EN_COUNT_FIX, RM_IRQ_EN_CMD_DONE, RM_IRQ_EN_ALIGN_ERR, RM_IRQ_EN_BIG_OFS, RM_IRQ_EN_PPS_REJECT, RM_IRQ_EN_HOLDOVER, RM_IRQ_EN_LOCK_CHG, RM_IRQ_EN_TICK]
/-- All of them. -/
def ringmasterFlds : List Fld := ringmasterFlds0 ++ ringmasterFlds1
/-- The fields of the register at address `a` of the ringmaster registers, none where no register stands. -/
def ringmasterAt (a : Nat) : List Fld :=
  (ringmasterFlds).filter (fun f => f.addr == a)
  ++ arrayAt a (0x00100000 + 0x8100) 4 66 (fun i => [RM_DU_TABLE_DU_PS i])
  ++ arrayAt a (0x00100000 + 0x90) 4 4 (fun i => [RM_TOUT_EN i, RM_TOUT_POL i, RM_TOUT_WIDTH i, RM_TOUT_DIV_M1 i])
  ++ arrayAt a (0x00100000 + 0xc0) 4 4 (fun i => [RM_CASC_DLY_VALID i, RM_CASC_DLY_DLY i])
  ++ arrayAt a (0x00100000 + 0xd0) 4 4 (fun i => [RM_CASC_ASYM_ASYM i])
  ++ arrayAt a (0x00100000 + 0xf0) 4 4 (fun i => [RM_RING_IRQ_RINGS i])
/-- The fields of the tightrope registers that stand once per block. -/
def tightropeFlds0 : List Fld :=
  [TG_CTRL_LOCK, TG_CTRL_GOVERNED, TG_CTRL_TARGET_HI, TG_CTRL_TARGET_LO, TG_VSAFE_MV, TG_STEP_INTERVAL, TG_STEP_GUARD, TG_STEP_STEP_UP, TG_STEP_STEP_DN, TG_HOLD_RECOVER, TG_STATUS_HOLD_LEFT, TG_STATUS_EOL_WARN, TG_STATUS_EOL_LIMIT, TG_STATUS_REG_FAULT, TG_STATUS_BELOW_FLOOR, TG_STATUS_MODE, TG_VCMD_SENSED_MV, TG_VCMD_CMD_MV, TG_EFF_VSAFE_EFF_MV, TG_SLIPS_SLIPS, TG_DMON_MON, TG_DMON_DU_Q4, TG_SLACK_S_MIN, TG_SLACK_RING, TG_MARGIN_VALID, TG_MARGIN_MR, TG_TEMP_TJ_MAX, TG_TEMP_TJ_MIN, TG_SENS_FAIL_SENS, TG_THERM_TRIP, TG_THERM_HOT, TG_THERM_WARN, TG_AGE_PEAK, TG_AGE_RATIO, TG_LIFE_HOURS, TG_LIFE_HOT_HOT_HOURS, TG_FORCE_EN, TG_FORCE_MV, TG_AVS_ERRORS, TG_AVS_SLEW, TG_IOUT_AMPS, TG_CMD_CLR_FAULT, TG_CMD_AGE_CHECK, TG_IRQ_CAUSE_SAFETY, TG_IRQ_CAUSE_EOL_WARN, TG_IRQ_CAUSE_THERM_TRIP, TG_IRQ_CAUSE_THERM_HOT, TG_IRQ_CAUSE_THERM_WARN, TG_IRQ_CAUSE_MON_FAULT, TG_IRQ_CAUSE_SENS_FAULT, TG_IRQ_CAUSE_REG_SLOW, TG_IRQ_CAUSE_REG_ALERT, TG_IRQ_CAUSE_REG_FAULT, TG_IRQ_EN_SAFETY, TG_IRQ_EN_EOL_WARN, TG_IRQ_EN_THERM_TRIP, TG_IRQ_EN_THERM_HOT, TG_IRQ_EN_THERM_WARN, TG_IRQ_EN_MON_FAULT, TG_IRQ_EN_SENS_FAULT]
/-- The fields of the tightrope registers that stand once per block. -/
def tightropeFlds1 : List Fld :=
  [TG_IRQ_EN_REG_SLOW, TG_IRQ_EN_REG_ALERT, TG_IRQ_EN_REG_FAULT]
/-- All of them. -/
def tightropeFlds : List Fld := tightropeFlds0 ++ tightropeFlds1
/-- The fields of the register at address `a` of the tightrope registers, none where no register stands. -/
def tightropeAt (a : Nat) : List Fld :=
  (tightropeFlds).filter (fun f => f.addr == a)
  ++ arrayAt a (0x00200000 + 0x34) 4 2 (fun i => [TG_MON_FAIL_MON i])
  ++ arrayAt a (0x00200000 + 0x44) 4 4 (fun i => [TG_SHED_RINGS i])

end Sys2Proof.Machine.Reg
end

