-- ==== Sys2Proof/Machine/RegsMemory.lean ====
section
/-! DEFINITION. Register fields, from the tables of the spec: address, lowest bit, width, type, reset value,
whether it keeps its value across warm reset, and how a disallowed value is stored. The external memory and crypto registers (R284 to R291, R324 to R330). -/
namespace Sys2Proof.Machine.Reg

/-- XM_CFG.LOCK (R284, Table 7-7). -/
def XM_CFG_LOCK : Fld := ⟨0x01400000 + 0x8000, 31, 1, .rwl, 0x0, true, .any⟩
/-- XM_CFG.FREQ_MHZ (R284, Table 7-7). -/
def XM_CFG_FREQ_MHZ : Fld := ⟨0x01400000 + 0x8000, 16, 11, .rwl, 0x42a, true, (.clamp 400 1066)⟩
/-- XM_CFG.DENSITY (R284, Table 7-7). -/
def XM_CFG_DENSITY : Fld := ⟨0x01400000 + 0x8000, 4, 1, .rwl, 0x1, true, .any⟩
/-- XM_CFG.POP (R284, Table 7-7). -/
def XM_CFG_POP : Fld := ⟨0x01400000 + 0x8000, 0, 2, .rwl, 0x3, true, .any⟩
/-- XM_STATUS.FILE_ERR (R284, Table 7-7). -/
def XM_STATUS_FILE_ERR : Fld := ⟨0x01400000 + 0x8004, 31, 1, .w1c, 0x0, false, .any⟩
/-- XM_STATUS.PAGES (R284, Table 7-7). -/
def XM_STATUS_PAGES : Fld := ⟨0x01400000 + 0x8004, 0, 17, .ro, 0xffff, false, .any⟩
/-- XF_CFG.EN (R285, Table 7-8). -/
def XF_CFG_EN (f : Nat) : Fld := ⟨(fileBase f) + 0x0, 31, 1, .rw, 0x0, true, .any⟩
/-- XF_CFG.MODE (R285, Table 7-8). -/
def XF_CFG_MODE (f : Nat) : Fld := ⟨(fileBase f) + 0x0, 30, 1, .rw, 0x0, true, .any⟩
/-- XF_CFG.HOST_R (R285, Table 7-8). -/
def XF_CFG_HOST_R (f : Nat) : Fld := ⟨(fileBase f) + 0x0, 29, 1, .rw, 0x0, true, .any⟩
/-- XF_CFG.HOST_W (R285, Table 7-8). -/
def XF_CFG_HOST_W (f : Nat) : Fld := ⟨(fileBase f) + 0x0, 28, 1, .rw, 0x0, true, .any⟩
/-- XF_CFG.KEY_IDX (R285, Table 7-8). -/
def XF_CFG_KEY_IDX (f : Nat) : Fld := ⟨(fileBase f) + 0x0, 20, 6, .rw, 0x0, true, .any⟩
/-- XF_BASE.BASE (R285, Table 7-8). -/
def XF_BASE_BASE (f : Nat) : Fld := ⟨(fileBase f) + 0x4, 0, 16, .rw, 0x0, true, .any⟩
/-- XF_SIZE.SIZE (R285, Table 7-8). -/
def XF_SIZE_SIZE (f : Nat) : Fld := ⟨(fileBase f) + 0x8, 0, 17, .rw, 0x0, true, .any⟩
/-- XF_RIGHTS.RIGHTS (R285, Table 7-8). -/
def XF_RIGHTS_RIGHTS (f i : Nat) : Fld := ⟨(fileBase f) + 0x10 + i * 4, 0, 32, .rw, 0x0, true, .any⟩
/-- XM_SEAT_LO.SEAT0 (R286, Table 7-9). -/
def XM_SEAT_LO_SEAT0 (i : Nat) : Fld := ⟨0x01400000 + 0x20000 + i * 8, 0, 8, .rw, 0x0, true, .any⟩
/-- XM_SEAT_LO.SEAT1 (R286, Table 7-9). -/
def XM_SEAT_LO_SEAT1 (i : Nat) : Fld := ⟨0x01400000 + 0x20000 + i * 8, 8, 8, .rw, 0x0, true, .any⟩
/-- XM_SEAT_LO.SEAT2 (R286, Table 7-9). -/
def XM_SEAT_LO_SEAT2 (i : Nat) : Fld := ⟨0x01400000 + 0x20000 + i * 8, 16, 8, .rw, 0x0, true, .any⟩
/-- XM_SEAT_LO.SEAT3 (R286, Table 7-9). -/
def XM_SEAT_LO_SEAT3 (i : Nat) : Fld := ⟨0x01400000 + 0x20000 + i * 8, 24, 8, .rw, 0x0, true, .any⟩
/-- XM_SEAT_HI.SEAT4 (R286, Table 7-9). -/
def XM_SEAT_HI_SEAT4 (i : Nat) : Fld := ⟨0x01400000 + 0x20004 + i * 8, 0, 8, .rw, 0x0, true, .any⟩
/-- XM_SEAT_HI.SEAT5 (R286, Table 7-9). -/
def XM_SEAT_HI_SEAT5 (i : Nat) : Fld := ⟨0x01400000 + 0x20004 + i * 8, 8, 8, .rw, 0x0, true, .any⟩
/-- XM_SEAT_HI.SEAT6 (R286, Table 7-9). -/
def XM_SEAT_HI_SEAT6 (i : Nat) : Fld := ⟨0x01400000 + 0x20004 + i * 8, 16, 8, .rw, 0x0, true, .any⟩
/-- XM_SEAT_HI.SEAT7 (R286, Table 7-9). -/
def XM_SEAT_HI_SEAT7 (i : Nat) : Fld := ⟨0x01400000 + 0x20004 + i * 8, 24, 8, .rw, 0x0, true, .any⟩
/-- XM_RING_STAT.SEATLESS (R287, Table 7-10). -/
def XM_RING_STAT_SEATLESS (r : Nat) : Fld := ⟨0x01400000 + 0x30000 + r * 4, 16, 16, .ro, 0x0, false, .any⟩
/-- XM_RING_STAT.DENIED (R287, Table 7-10). -/
def XM_RING_STAT_DENIED (r : Nat) : Fld := ⟨0x01400000 + 0x30000 + r * 4, 0, 16, .ro, 0x0, false, .any⟩
/-- XMC_CTRL.EN (R288, Table 7-11). -/
def XMC_CTRL_EN (n : Nat) : Fld := ⟨(xmcBase n) + 0x0, 31, 1, .rw, 0x0, true, .any⟩
/-- XMC_STATUS.DRIFT_LOW (R288, Table 7-11). -/
def XMC_STATUS_DRIFT_LOW (n : Nat) : Fld := ⟨(xmcBase n) + 0x4, 10, 1, .ro, 0x0, false, .any⟩
/-- XMC_STATUS.RETRAINED (R288, Table 7-11). -/
def XMC_STATUS_RETRAINED (n : Nat) : Fld := ⟨(xmcBase n) + 0x4, 9, 1, .ro, 0x0, false, .any⟩
/-- XMC_STATUS.WARM (R288, Table 7-11). -/
def XMC_STATUS_WARM (n : Nat) : Fld := ⟨(xmcBase n) + 0x4, 8, 1, .ro, 0x0, false, .any⟩
/-- XMC_STATUS.STEP (R288, Table 7-11). -/
def XMC_STATUS_STEP (n : Nat) : Fld := ⟨(xmcBase n) + 0x4, 4, 3, .ro, 0x0, false, .any⟩
/-- XMC_STATUS.STATE (R288, Table 7-11). -/
def XMC_STATUS_STATE (n : Nat) : Fld := ⟨(xmcBase n) + 0x4, 0, 3, .ro, 0x0, false, .any⟩
/-- XMC_CMD.CLR_ECC (R288, Table 7-11). -/
def XMC_CMD_CLR_ECC (n : Nat) : Fld := ⟨(xmcBase n) + 0x8, 2, 1, .wo, 0x0, false, .any⟩
/-- XMC_CMD.CLR_STATS (R288, Table 7-11). -/
def XMC_CMD_CLR_STATS (n : Nat) : Fld := ⟨(xmcBase n) + 0x8, 1, 1, .wo, 0x0, false, .any⟩
/-- XMC_CMD.RETRAIN (R288, Table 7-11). -/
def XMC_CMD_RETRAIN (n : Nat) : Fld := ⟨(xmcBase n) + 0x8, 0, 1, .wo, 0x0, false, .any⟩
/-- XMC_IRQ_CAUSE.ECC_UE (R289, Table 7-12). -/
def XMC_IRQ_CAUSE_ECC_UE (n : Nat) : Fld := ⟨(xmcBase n) + 0xc, 4, 1, .w1c, 0x0, false, .any⟩
/-- XMC_IRQ_CAUSE.ECC_CE (R289, Table 7-12). -/
def XMC_IRQ_CAUSE_ECC_CE (n : Nat) : Fld := ⟨(xmcBase n) + 0xc, 3, 1, .w1c, 0x0, false, .any⟩
/-- XMC_IRQ_CAUSE.DRIFT (R289, Table 7-12). -/
def XMC_IRQ_CAUSE_DRIFT (n : Nat) : Fld := ⟨(xmcBase n) + 0xc, 2, 1, .w1c, 0x0, false, .any⟩
/-- XMC_IRQ_CAUSE.TRAIN_FAIL (R289, Table 7-12). -/
def XMC_IRQ_CAUSE_TRAIN_FAIL (n : Nat) : Fld := ⟨(xmcBase n) + 0xc, 1, 1, .w1c, 0x0, false, .any⟩
/-- XMC_IRQ_CAUSE.TRAIN_DONE (R289, Table 7-12). -/
def XMC_IRQ_CAUSE_TRAIN_DONE (n : Nat) : Fld := ⟨(xmcBase n) + 0xc, 0, 1, .w1c, 0x0, false, .any⟩
/-- XMC_ECC.UE_COUNT (R290, Table 7-13). -/
def XMC_ECC_UE_COUNT (n : Nat) : Fld := ⟨(xmcBase n) + 0x14, 16, 16, .ro, 0x0, false, .any⟩
/-- XMC_ECC.CE_COUNT (R290, Table 7-13). -/
def XMC_ECC_CE_COUNT (n : Nat) : Fld := ⟨(xmcBase n) + 0x14, 0, 16, .ro, 0x0, false, .any⟩
/-- XMC_ECC_ADDR.VALID (R290, Table 7-13). -/
def XMC_ECC_ADDR_VALID (n : Nat) : Fld := ⟨(xmcBase n) + 0x18, 31, 1, .ro, 0x0, false, .any⟩
/-- XMC_ECC_ADDR.HOST (R290, Table 7-13). -/
def XMC_ECC_ADDR_HOST (n : Nat) : Fld := ⟨(xmcBase n) + 0x18, 30, 1, .ro, 0, false, .any⟩
/-- XMC_ECC_ADDR.ENC (R290, Table 7-13). -/
def XMC_ECC_ADDR_ENC (n : Nat) : Fld := ⟨(xmcBase n) + 0x18, 29, 1, .ro, 0, false, .any⟩
/-- XMC_ECC_ADDR.WORD (R290, Table 7-13). -/
def XMC_ECC_ADDR_WORD (n : Nat) : Fld := ⟨(xmcBase n) + 0x18, 0, 22, .ro, 0, false, .any⟩
/-- XMC_ARB.ACTIVE_MAX (R290, Table 7-13). -/
def XMC_ARB_ACTIVE_MAX (n : Nat) : Fld := ⟨(xmcBase n) + 0x1c, 16, 16, .ro, 0x0, false, .any⟩
/-- XMC_ARB.MAX_WAIT (R290, Table 7-13). -/
def XMC_ARB_MAX_WAIT (n : Nat) : Fld := ⟨(xmcBase n) + 0x1c, 0, 16, .ro, 0x0, false, .any⟩
/-- XMC_TRAIN_SUM.VALID (R291, Table 7-14). -/
def XMC_TRAIN_SUM_VALID (n : Nat) : Fld := ⟨(xmcBase n) + 0x20, 31, 1, .ro, 0x0, true, .any⟩
/-- XMC_TRAIN_SUM.TJ_TRAIN (R291, Table 7-14). -/
def XMC_TRAIN_SUM_TJ_TRAIN (n : Nat) : Fld := ⟨(xmcBase n) + 0x20, 16, 8, .ro, 0, true, .any⟩
/-- XMC_TRAIN_SUM.EYE_MIN (R291, Table 7-14). -/
def XMC_TRAIN_SUM_EYE_MIN (n : Nat) : Fld := ⟨(xmcBase n) + 0x20, 8, 8, .ro, 0, true, .any⟩
/-- XMC_TRAIN_SUM.RD_LAT (R291, Table 7-14). -/
def XMC_TRAIN_SUM_RD_LAT (n : Nat) : Fld := ⟨(xmcBase n) + 0x20, 0, 8, .ro, 0, true, .any⟩
/-- XMC_DQ_DLY.RD_DLY (R291, Table 7-14). -/
def XMC_DQ_DLY_RD_DLY (n i : Nat) : Fld := ⟨(xmcBase n) + 0x100 + i * 4, 16, 8, .ro, 0, true, .any⟩
/-- XMC_DQ_DLY.WR_DLY (R291, Table 7-14). -/
def XMC_DQ_DLY_WR_DLY (n i : Nat) : Fld := ⟨(xmcBase n) + 0x100 + i * 4, 0, 8, .ro, 0, true, .any⟩
/-- SEC_ALARM.CAUSE (R324, Table 8-7). -/
def SEC_ALARM_CAUSE : Fld := ⟨0x01000000 + 0x0, 0, 6, .w1c, 0x0, true, .any⟩
/-- SEC_CTRL.LOCK (R324, Table 8-7). -/
def SEC_CTRL_LOCK : Fld := ⟨0x01000000 + 0x4, 31, 1, .rwl, 0x0, true, .any⟩
/-- SEC_CTRL.TEST (R324, Table 8-7). -/
def SEC_CTRL_TEST : Fld := ⟨0x01000000 + 0x4, 1, 1, .w1s, 0x0, false, .any⟩
/-- SEC_CTRL.AUTO_ZERO (R324, Table 8-7). -/
def SEC_CTRL_AUTO_ZERO : Fld := ⟨0x01000000 + 0x4, 0, 1, .rwl, 0x0, true, .any⟩
/-- CX_STATUS.ZEROISING (R324, Table 8-7). -/
def CX_STATUS_ZEROISING : Fld := ⟨0x01000000 + 0x8, 10, 1, .ro, 0x0, false, .any⟩
/-- CX_STATUS.MIG_BUSY (R324, Table 8-7). -/
def CX_STATUS_MIG_BUSY : Fld := ⟨0x01000000 + 0x8, 9, 1, .ro, 0x0, false, .any⟩
/-- CX_STATUS.PAGE_BUSY (R324, Table 8-7). -/
def CX_STATUS_PAGE_BUSY : Fld := ⟨0x01000000 + 0x8, 8, 1, .ro, 0x0, false, .any⟩
/-- CX_STATUS.QUEUED (R324, Table 8-7). -/
def CX_STATUS_QUEUED : Fld := ⟨0x01000000 + 0x8, 0, 7, .ro, 0x0, false, .any⟩
/-- CX_IRQ_CAUSE.REENC_WAIT (R325, Table 8-8). -/
def CX_IRQ_CAUSE_REENC_WAIT : Fld := ⟨0x01000000 + 0x10, 8, 1, .w1c, 0x0, false, .any⟩
/-- CX_IRQ_CAUSE.CS_UE (R325, Table 8-8). -/
def CX_IRQ_CAUSE_CS_UE : Fld := ⟨0x01000000 + 0x10, 7, 1, .w1c, 0x0, false, .any⟩
/-- CX_IRQ_CAUSE.CS_CE (R325, Table 8-8). -/
def CX_IRQ_CAUSE_CS_CE : Fld := ⟨0x01000000 + 0x10, 6, 1, .w1c, 0x0, false, .any⟩
/-- CX_IRQ_CAUSE.KEY_DONE (R325, Table 8-8). -/
def CX_IRQ_CAUSE_KEY_DONE : Fld := ⟨0x01000000 + 0x10, 5, 1, .w1c, 0x0, false, .any⟩
/-- CX_IRQ_CAUSE.CMD_DONE (R325, Table 8-8). -/
def CX_IRQ_CAUSE_CMD_DONE : Fld := ⟨0x01000000 + 0x10, 4, 1, .w1c, 0x0, false, .any⟩
/-- CX_IRQ_CAUSE.MIG_DONE (R325, Table 8-8). -/
def CX_IRQ_CAUSE_MIG_DONE : Fld := ⟨0x01000000 + 0x10, 3, 1, .w1c, 0x0, false, .any⟩
/-- CX_IRQ_CAUSE.REKEY_NEED (R325, Table 8-8). -/
def CX_IRQ_CAUSE_REKEY_NEED : Fld := ⟨0x01000000 + 0x10, 2, 1, .w1c, 0x0, false, .any⟩
/-- CX_IRQ_CAUSE.FRAME_END (R325, Table 8-8). -/
def CX_IRQ_CAUSE_FRAME_END : Fld := ⟨0x01000000 + 0x10, 1, 1, .w1c, 0x0, false, .any⟩
/-- CX_IRQ_CAUSE.FRAME_WARN (R325, Table 8-8). -/
def CX_IRQ_CAUSE_FRAME_WARN : Fld := ⟨0x01000000 + 0x10, 0, 1, .w1c, 0x0, false, .any⟩
/-- CX_CS_ECC.UE_COUNT (R326, Table 8-9). -/
def CX_CS_ECC_UE_COUNT : Fld := ⟨0x01000000 + 0x18, 16, 16, .ro, 0x0, false, .any⟩
/-- CX_CS_ECC.CE_COUNT (R326, Table 8-9). -/
def CX_CS_ECC_CE_COUNT : Fld := ⟨0x01000000 + 0x18, 0, 16, .ro, 0x0, false, .any⟩
/-- CX_CS_LAST.VALID (R326, Table 8-9). -/
def CX_CS_LAST_VALID : Fld := ⟨0x01000000 + 0x1c, 31, 1, .w1c, 0x0, false, .any⟩
/-- CX_CS_LAST.PAGE (R326, Table 8-9). -/
def CX_CS_LAST_PAGE : Fld := ⟨0x01000000 + 0x1c, 0, 16, .ro, 0, false, .any⟩
/-- CX_THRESH.PRE (R326, Table 8-9). -/
def CX_THRESH_PRE : Fld := ⟨0x01000000 + 0x38, 0, 6, .rw, 0x30, false, (.floor 8)⟩
/-- CX_CMD.OP (R327, Table 8-10). -/
def CX_CMD_OP : Fld := ⟨0x01000000 + 0x30, 28, 4, .wo, 0x0, false, .any⟩
/-- CX_CMD.FILE (R327, Table 8-10). -/
def CX_CMD_FILE : Fld := ⟨0x01000000 + 0x30, 16, 8, .wo, 0x0, false, .any⟩
/-- CX_CMD.PAGE (R327, Table 8-10). -/
def CX_CMD_PAGE : Fld := ⟨0x01000000 + 0x30, 0, 16, .wo, 0x0, false, .any⟩
/-- CX_CMD_STAT.BUSY (R327, Table 8-10). -/
def CX_CMD_STAT_BUSY : Fld := ⟨0x01000000 + 0x34, 31, 1, .ro, 0x0, false, .any⟩
/-- CX_CMD_STAT.ABORT_LATE (R327, Table 8-10). -/
def CX_CMD_STAT_ABORT_LATE : Fld := ⟨0x01000000 + 0x34, 30, 1, .ro, 0x0, false, .any⟩
/-- CX_CMD_STAT.RESULT (R327, Table 8-10). -/
def CX_CMD_STAT_RESULT : Fld := ⟨0x01000000 + 0x34, 0, 4, .ro, 0x0, false, .any⟩
/-- CX_PAGE_SEL.PAGE (R327, Table 8-10). -/
def CX_PAGE_SEL_PAGE : Fld := ⟨0x01000000 + 0x40, 0, 16, .rw, 0x0, false, .any⟩
/-- CX_PAGE_INFO.POISON (R327, Table 8-10). -/
def CX_PAGE_INFO_POISON : Fld := ⟨0x01000000 + 0x44, 31, 1, .ro, 0, false, .any⟩
/-- CX_PAGE_INFO.REENC (R327, Table 8-10). -/
def CX_PAGE_INFO_REENC : Fld := ⟨0x01000000 + 0x44, 30, 1, .ro, 0, false, .any⟩
/-- CX_PAGE_INFO.LINE_PTR (R327, Table 8-10). -/
def CX_PAGE_INFO_LINE_PTR : Fld := ⟨0x01000000 + 0x44, 24, 6, .ro, 0, false, .any⟩
/-- CX_PAGE_INFO.MAJOR (R327, Table 8-10). -/
def CX_PAGE_INFO_MAJOR : Fld := ⟨0x01000000 + 0x44, 0, 24, .ro, 0, false, .any⟩
/-- KS_DATA.KEY (R328, Table 8-11). -/
def KS_DATA_KEY (i : Nat) : Fld := ⟨0x01000000 + 0x100 + i * 4, 0, 32, .wo, 0x0, false, .any⟩
/-- KS_CMD.OP (R328, Table 8-11). -/
def KS_CMD_OP : Fld := ⟨0x01000000 + 0x120, 28, 4, .wo, 0x0, false, .any⟩
/-- KS_CMD.USE (R328, Table 8-11). -/
def KS_CMD_USE : Fld := ⟨0x01000000 + 0x120, 24, 1, .wo, 0x0, false, .any⟩
/-- KS_CMD.SLOT (R328, Table 8-11). -/
def KS_CMD_SLOT : Fld := ⟨0x01000000 + 0x120, 0, 6, .wo, 0x0, false, .any⟩
/-- KS_CMD_STAT.BUSY (R328, Table 8-11). -/
def KS_CMD_STAT_BUSY : Fld := ⟨0x01000000 + 0x124, 31, 1, .ro, 0x0, false, .any⟩
/-- KS_CMD_STAT.ABORT_LATE (R328, Table 8-11). -/
def KS_CMD_STAT_ABORT_LATE : Fld := ⟨0x01000000 + 0x124, 30, 1, .ro, 0x0, false, .any⟩
/-- KS_CMD_STAT.SLOT (R328, Table 8-11). -/
def KS_CMD_STAT_SLOT : Fld := ⟨0x01000000 + 0x124, 8, 6, .ro, 0x0, false, .any⟩
/-- KS_CMD_STAT.RESULT (R328, Table 8-11). -/
def KS_CMD_STAT_RESULT : Fld := ⟨0x01000000 + 0x124, 0, 4, .ro, 0x0, false, .any⟩
/-- KS_STATE.FILE (R329, Table 8-12). -/
def KS_STATE_FILE (k : Nat) : Fld := ⟨0x01000000 + 0x200 + k * 4, 8, 8, .ro, 0x0, true, .any⟩
/-- KS_STATE.WARN (R329, Table 8-12). -/
def KS_STATE_WARN (k : Nat) : Fld := ⟨0x01000000 + 0x200 + k * 4, 7, 1, .ro, 0x0, true, .any⟩
/-- KS_STATE.FRESH (R329, Table 8-12). -/
def KS_STATE_FRESH (k : Nat) : Fld := ⟨0x01000000 + 0x200 + k * 4, 6, 1, .ro, 0x0, true, .any⟩
/-- KS_STATE.BOUND (R329, Table 8-12). -/
def KS_STATE_BOUND (k : Nat) : Fld := ⟨0x01000000 + 0x200 + k * 4, 5, 1, .ro, 0x0, true, .any⟩
/-- KS_STATE.USE (R329, Table 8-12). -/
def KS_STATE_USE (k : Nat) : Fld := ⟨0x01000000 + 0x200 + k * 4, 4, 1, .ro, 0x0, true, .any⟩
/-- KS_STATE.STATE (R329, Table 8-12). -/
def KS_STATE_STATE (k : Nat) : Fld := ⟨0x01000000 + 0x200 + k * 4, 0, 3, .ro, 0x0, true, .any⟩
/-- KS_FRAME_LO.CTR_LO (R329, Table 8-12). -/
def KS_FRAME_LO_CTR_LO (k : Nat) : Fld := ⟨0x01000000 + 0x400 + k * 8, 0, 32, .ro, 0x0, true, .any⟩
/-- KS_FRAME_HI.CTR_HI (R329, Table 8-12). -/
def KS_FRAME_HI_CTR_HI (k : Nat) : Fld := ⟨0x01000000 + 0x404 + k * 8, 0, 16, .ro, 0x0, true, .any⟩
/-- CF_CTRL.NEXT_EN (R330, Table 8-13). -/
def CF_CTRL_NEXT_EN (f : Nat) : Fld := ⟨0x01000000 + 0x1000 + f * 16, 31, 1, .rw, 0x0, true, .any⟩
/-- CF_CTRL.NEXT_SLOT (R330, Table 8-13). -/
def CF_CTRL_NEXT_SLOT (f : Nat) : Fld := ⟨0x01000000 + 0x1000 + f * 16, 24, 6, .rw, 0x0, true, .any⟩
/-- CF_CTRL.EPOCH (R330, Table 8-13). -/
def CF_CTRL_EPOCH (f : Nat) : Fld := ⟨0x01000000 + 0x1000 + f * 16, 16, 4, .rw, 0x0, true, .any⟩
/-- CF_CTRL.OLD_EPOCH (R330, Table 8-13). -/
def CF_CTRL_OLD_EPOCH (f : Nat) : Fld := ⟨0x01000000 + 0x1000 + f * 16, 12, 4, .ro, 0x0, true, .any⟩
/-- CF_CTRL.OLD_SLOT (R330, Table 8-13). -/
def CF_CTRL_OLD_SLOT (f : Nat) : Fld := ⟨0x01000000 + 0x1000 + f * 16, 6, 6, .ro, 0x0, true, .any⟩
/-- CF_CTRL.STATE (R330, Table 8-13). -/
def CF_CTRL_STATE (f : Nat) : Fld := ⟨0x01000000 + 0x1000 + f * 16, 0, 3, .ro, 0x0, true, .any⟩
/-- CF_MIG.POINTER (R330, Table 8-13). -/
def CF_MIG_POINTER (f : Nat) : Fld := ⟨0x01000000 + 0x1004 + f * 16, 0, 22, .ro, 0x0, true, .any⟩
/-- CF_HW.LOST (R330, Table 8-13). -/
def CF_HW_LOST (f : Nat) : Fld := ⟨0x01000000 + 0x1008 + f * 16, 31, 1, .ro, 0x0, true, .any⟩
/-- CF_HW.HW (R330, Table 8-13). -/
def CF_HW_HW (f : Nat) : Fld := ⟨0x01000000 + 0x1008 + f * 16, 0, 24, .ro, 0x0, true, .any⟩
/-- XMC_IRQ_EN.ECC_UE (R289, Table 7-12). -/
def XMC_IRQ_EN_ECC_UE (n : Nat) : Fld := ⟨(xmcBase n) + 0x10, 4, 1, .rw, 0x0, false, .any⟩
/-- XMC_IRQ_EN.ECC_CE (R289, Table 7-12). -/
def XMC_IRQ_EN_ECC_CE (n : Nat) : Fld := ⟨(xmcBase n) + 0x10, 3, 1, .rw, 0x0, false, .any⟩
/-- XMC_IRQ_EN.DRIFT (R289, Table 7-12). -/
def XMC_IRQ_EN_DRIFT (n : Nat) : Fld := ⟨(xmcBase n) + 0x10, 2, 1, .rw, 0x0, false, .any⟩
/-- XMC_IRQ_EN.TRAIN_FAIL (R289, Table 7-12). -/
def XMC_IRQ_EN_TRAIN_FAIL (n : Nat) : Fld := ⟨(xmcBase n) + 0x10, 1, 1, .rw, 0x0, false, .any⟩
/-- XMC_IRQ_EN.TRAIN_DONE (R289, Table 7-12). -/
def XMC_IRQ_EN_TRAIN_DONE (n : Nat) : Fld := ⟨(xmcBase n) + 0x10, 0, 1, .rw, 0x0, false, .any⟩
/-- CX_IRQ_EN.REENC_WAIT (R325, Table 8-8). -/
def CX_IRQ_EN_REENC_WAIT : Fld := ⟨0x01000000 + 0x14, 8, 1, .rw, 0x0, false, .any⟩
/-- CX_IRQ_EN.CS_UE (R325, Table 8-8). -/
def CX_IRQ_EN_CS_UE : Fld := ⟨0x01000000 + 0x14, 7, 1, .rw, 0x0, false, .any⟩
/-- CX_IRQ_EN.CS_CE (R325, Table 8-8). -/
def CX_IRQ_EN_CS_CE : Fld := ⟨0x01000000 + 0x14, 6, 1, .rw, 0x0, false, .any⟩
/-- CX_IRQ_EN.KEY_DONE (R325, Table 8-8). -/
def CX_IRQ_EN_KEY_DONE : Fld := ⟨0x01000000 + 0x14, 5, 1, .rw, 0x0, false, .any⟩
/-- CX_IRQ_EN.CMD_DONE (R325, Table 8-8). -/
def CX_IRQ_EN_CMD_DONE : Fld := ⟨0x01000000 + 0x14, 4, 1, .rw, 0x0, false, .any⟩
/-- CX_IRQ_EN.MIG_DONE (R325, Table 8-8). -/
def CX_IRQ_EN_MIG_DONE : Fld := ⟨0x01000000 + 0x14, 3, 1, .rw, 0x0, false, .any⟩
/-- CX_IRQ_EN.REKEY_NEED (R325, Table 8-8). -/
def CX_IRQ_EN_REKEY_NEED : Fld := ⟨0x01000000 + 0x14, 2, 1, .rw, 0x0, false, .any⟩
/-- CX_IRQ_EN.FRAME_END (R325, Table 8-8). -/
def CX_IRQ_EN_FRAME_END : Fld := ⟨0x01000000 + 0x14, 1, 1, .rw, 0x0, false, .any⟩
/-- CX_IRQ_EN.FRAME_WARN (R325, Table 8-8). -/
def CX_IRQ_EN_FRAME_WARN : Fld := ⟨0x01000000 + 0x14, 0, 1, .rw, 0x0, false, .any⟩

/-- The fields of the xmGlobal registers that stand once per block. -/
def xmGlobalFlds : List Fld :=
  [XM_CFG_LOCK, XM_CFG_FREQ_MHZ, XM_CFG_DENSITY, XM_CFG_POP, XM_STATUS_FILE_ERR, XM_STATUS_PAGES]
/-- The fields of the register at address `a` of the xmGlobal registers, none where no register stands. -/
def xmGlobalAt (a : Nat) : List Fld :=
  (xmGlobalFlds).filter (fun f => f.addr == a)
  ++ arrayAt a (0x01400000 + 0x20000) 8 2048 (fun i => if i % 16 < 10 then [XM_SEAT_LO_SEAT0 i, XM_SEAT_LO_SEAT1 i, XM_SEAT_LO_SEAT2 i, XM_SEAT_LO_SEAT3 i] else [])
  ++ arrayAt a (0x01400000 + 0x20004) 8 2048 (fun i => if i % 16 < 10 then [XM_SEAT_HI_SEAT4 i, XM_SEAT_HI_SEAT5 i, XM_SEAT_HI_SEAT6 i, XM_SEAT_HI_SEAT7 i] else [])
  ++ arrayAt a (0x01400000 + 0x30000) 4 128 (fun i => [XM_RING_STAT_SEATLESS i, XM_RING_STAT_DENIED i])
/-- The fields of the file registers that stand once per block. -/
def fileFlds (f : Nat) : List Fld :=
  [XF_CFG_EN f, XF_CFG_MODE f, XF_CFG_HOST_R f, XF_CFG_HOST_W f, XF_CFG_KEY_IDX f, XF_BASE_BASE f, XF_SIZE_SIZE f]
/-- The fields of the register at address `a` of the file registers, none where no register stands. -/
def fileAt (f : Nat) (a : Nat) : List Fld :=
  (fileFlds f).filter (fun f => f.addr == a)
  ++ arrayAt a ((fileBase f) + 0x10) 4 8 (fun i => [XF_RIGHTS_RIGHTS f i])
/-- The fields of the xmc registers that stand once per block. -/
def xmcFlds (n : Nat) : List Fld :=
  [XMC_CTRL_EN n, XMC_STATUS_DRIFT_LOW n, XMC_STATUS_RETRAINED n, XMC_STATUS_WARM n, XMC_STATUS_STEP n, XMC_STATUS_STATE n, XMC_CMD_CLR_ECC n, XMC_CMD_CLR_STATS n, XMC_CMD_RETRAIN n, XMC_IRQ_CAUSE_ECC_UE n, XMC_IRQ_CAUSE_ECC_CE n, XMC_IRQ_CAUSE_DRIFT n, XMC_IRQ_CAUSE_TRAIN_FAIL n, XMC_IRQ_CAUSE_TRAIN_DONE n, XMC_ECC_UE_COUNT n, XMC_ECC_CE_COUNT n, XMC_ECC_ADDR_VALID n, XMC_ECC_ADDR_HOST n, XMC_ECC_ADDR_ENC n, XMC_ECC_ADDR_WORD n, XMC_ARB_ACTIVE_MAX n, XMC_ARB_MAX_WAIT n, XMC_TRAIN_SUM_VALID n, XMC_TRAIN_SUM_TJ_TRAIN n, XMC_TRAIN_SUM_EYE_MIN n, XMC_TRAIN_SUM_RD_LAT n, XMC_IRQ_EN_ECC_UE n, XMC_IRQ_EN_ECC_CE n, XMC_IRQ_EN_DRIFT n, XMC_IRQ_EN_TRAIN_FAIL n, XMC_IRQ_EN_TRAIN_DONE n]
/-- The fields of the register at address `a` of the xmc registers, none where no register stands. -/
def xmcAt (n : Nat) (a : Nat) : List Fld :=
  (xmcFlds n).filter (fun f => f.addr == a)
  ++ arrayAt a ((xmcBase n) + 0x100) 4 72 (fun i => [XMC_DQ_DLY_RD_DLY n i, XMC_DQ_DLY_WR_DLY n i])
/-- The fields of the crypto registers that stand once per block. -/
def cryptoFlds : List Fld :=
  [SEC_ALARM_CAUSE, SEC_CTRL_LOCK, SEC_CTRL_TEST, SEC_CTRL_AUTO_ZERO, CX_STATUS_ZEROISING, CX_STATUS_MIG_BUSY, CX_STATUS_PAGE_BUSY, CX_STATUS_QUEUED, CX_IRQ_CAUSE_REENC_WAIT, CX_IRQ_CAUSE_CS_UE, CX_IRQ_CAUSE_CS_CE, CX_IRQ_CAUSE_KEY_DONE, CX_IRQ_CAUSE_CMD_DONE, CX_IRQ_CAUSE_MIG_DONE, CX_IRQ_CAUSE_REKEY_NEED, CX_IRQ_CAUSE_FRAME_END, CX_IRQ_CAUSE_FRAME_WARN, CX_CS_ECC_UE_COUNT, CX_CS_ECC_CE_COUNT, CX_CS_LAST_VALID, CX_CS_LAST_PAGE, CX_THRESH_PRE, CX_CMD_OP, CX_CMD_FILE, CX_CMD_PAGE, CX_CMD_STAT_BUSY, CX_CMD_STAT_ABORT_LATE, CX_CMD_STAT_RESULT, CX_PAGE_SEL_PAGE, CX_PAGE_INFO_POISON, CX_PAGE_INFO_REENC, CX_PAGE_INFO_LINE_PTR, CX_PAGE_INFO_MAJOR, KS_CMD_OP, KS_CMD_USE, KS_CMD_SLOT, KS_CMD_STAT_BUSY, KS_CMD_STAT_ABORT_LATE, KS_CMD_STAT_SLOT, KS_CMD_STAT_RESULT, CX_IRQ_EN_REENC_WAIT, CX_IRQ_EN_CS_UE, CX_IRQ_EN_CS_CE, CX_IRQ_EN_KEY_DONE, CX_IRQ_EN_CMD_DONE, CX_IRQ_EN_MIG_DONE, CX_IRQ_EN_REKEY_NEED, CX_IRQ_EN_FRAME_END, CX_IRQ_EN_FRAME_WARN]
/-- The fields of the register at address `a` of the crypto registers, none where no register stands. -/
def cryptoAt (a : Nat) : List Fld :=
  (cryptoFlds).filter (fun f => f.addr == a)
  ++ arrayAt a (0x01000000 + 0x100) 4 8 (fun i => [KS_DATA_KEY i])
  ++ arrayAt a (0x01000000 + 0x200) 4 64 (fun i => [KS_STATE_FILE i, KS_STATE_WARN i, KS_STATE_FRESH i, KS_STATE_BOUND i, KS_STATE_USE i, KS_STATE_STATE i])
  ++ arrayAt a (0x01000000 + 0x400) 8 64 (fun i => [KS_FRAME_LO_CTR_LO i])
  ++ arrayAt a (0x01000000 + 0x404) 8 64 (fun i => [KS_FRAME_HI_CTR_HI i])
  ++ arrayAt a (0x01000000 + 0x1000) 16 256 (fun i => [CF_CTRL_NEXT_EN i, CF_CTRL_NEXT_SLOT i, CF_CTRL_EPOCH i, CF_CTRL_OLD_EPOCH i, CF_CTRL_OLD_SLOT i, CF_CTRL_STATE i])
  ++ arrayAt a (0x01000000 + 0x1004) 16 256 (fun i => [CF_MIG_POINTER i])
  ++ arrayAt a (0x01000000 + 0x1008) 16 256 (fun i => [CF_HW_LOST i, CF_HW_HW i])

end Sys2Proof.Machine.Reg
end

