-- ==== Sys2Proof/Machine/RegsNet.lean ====
section
/-! DEFINITION. Register fields, from the tables of the spec: address, lowest bit, width, type, reset value,
whether it keeps its value across warm reset, and how a disallowed value is stored. The Ethernet, swingboat and Ifeotte registers (R357 to R365, R393 to R399). -/
namespace Sys2Proof.Machine.Reg

/-- EP_CFG.EN (R357, Table 9-8). -/
def EP_CFG_EN (p : Nat) : Fld := ⟨(portBase p) + 0x0, 31, 1, .rw, 0x0, true, .any⟩
/-- EP_CFG.MODE (R357, Table 9-8). -/
def EP_CFG_MODE (p : Nat) : Fld := ⟨(portBase p) + 0x0, 27, 4, .rw, 0x0, true, .any⟩
/-- EP_CFG.KEEP_FCS (R357, Table 9-8). -/
def EP_CFG_KEEP_FCS (p : Nat) : Fld := ⟨(portBase p) + 0x0, 26, 1, .rw, 0x0, true, .any⟩
/-- EP_CFG.META (R357, Table 9-8). -/
def EP_CFG_META (p : Nat) : Fld := ⟨(portBase p) + 0x0, 25, 1, .rw, 0x0, true, .any⟩
/-- EP_CFG.PRIO_SRC (R357, Table 9-8). -/
def EP_CFG_PRIO_SRC (p : Nat) : Fld := ⟨(portBase p) + 0x0, 23, 2, .rw, 0x0, true, .any⟩
/-- EP_CFG.DEF_PRIO (R357, Table 9-8). -/
def EP_CFG_DEF_PRIO (p : Nat) : Fld := ⟨(portBase p) + 0x0, 20, 3, .rw, 0x0, true, .any⟩
/-- EP_CFG.PTP_PRIO_EN (R357, Table 9-8). -/
def EP_CFG_PTP_PRIO_EN (p : Nat) : Fld := ⟨(portBase p) + 0x0, 19, 1, .rw, 0x0, true, .any⟩
/-- EP_CFG.PTP_PRIO (R357, Table 9-8). -/
def EP_CFG_PTP_PRIO (p : Nat) : Fld := ⟨(portBase p) + 0x0, 16, 3, .rw, 0x0, true, .any⟩
/-- EP_CFG.PFC_TX (R357, Table 9-8). -/
def EP_CFG_PFC_TX (p : Nat) : Fld := ⟨(portBase p) + 0x0, 15, 1, .rw, 0x0, true, .any⟩
/-- EP_CFG.PFC_RX (R357, Table 9-8). -/
def EP_CFG_PFC_RX (p : Nat) : Fld := ⟨(portBase p) + 0x0, 14, 1, .rw, 0x0, true, .any⟩
/-- EP_CFG.MAX_FRAME (R357, Table 9-8). -/
def EP_CFG_MAX_FRAME (p : Nat) : Fld := ⟨(portBase p) + 0x0, 0, 14, .rw, 0x5f2, true, (.clamp 64 16000)⟩
/-- EP_STATUS.CFG_ERR (R358, Table 9-9). -/
def EP_STATUS_CFG_ERR (p : Nat) : Fld := ⟨(portBase p) + 0x4, 8, 1, .w1c, 0x0, false, .any⟩
/-- EP_STATUS.PAUSED (R358, Table 9-9). -/
def EP_STATUS_PAUSED (p : Nat) : Fld := ⟨(portBase p) + 0x4, 7, 1, .ro, 0x0, false, .any⟩
/-- EP_STATUS.FEC_LOCK (R358, Table 9-9). -/
def EP_STATUS_FEC_LOCK (p : Nat) : Fld := ⟨(portBase p) + 0x4, 6, 1, .ro, 0x0, false, .any⟩
/-- EP_STATUS.AN_DONE (R358, Table 9-9). -/
def EP_STATUS_AN_DONE (p : Nat) : Fld := ⟨(portBase p) + 0x4, 5, 1, .ro, 0x0, false, .any⟩
/-- EP_STATUS.TRAIN_DONE (R358, Table 9-9). -/
def EP_STATUS_TRAIN_DONE (p : Nat) : Fld := ⟨(portBase p) + 0x4, 4, 1, .ro, 0x0, false, .any⟩
/-- EP_STATUS.LINK_UP (R358, Table 9-9). -/
def EP_STATUS_LINK_UP (p : Nat) : Fld := ⟨(portBase p) + 0x4, 3, 1, .ro, 0x0, false, .any⟩
/-- EP_STATUS.STATE (R358, Table 9-9). -/
def EP_STATUS_STATE (p : Nat) : Fld := ⟨(portBase p) + 0x4, 0, 3, .ro, 0x0, false, .any⟩
/-- EP_AN.AN (R358, Table 9-9). -/
def EP_AN_AN (p : Nat) : Fld := ⟨(portBase p) + 0x8, 0, 1, .rw, 0x0, true, .any⟩
/-- EP_CLASS.EN (R359, Table 9-10). -/
def EP_CLASS_EN (p i : Nat) : Fld := ⟨(portBase p) + 0x10 + i * 4, 31, 1, .rw, 0x0, true, .any⟩
/-- EP_CLASS.QUEUE (R359, Table 9-10). -/
def EP_CLASS_QUEUE (p i : Nat) : Fld := ⟨(portBase p) + 0x10 + i * 4, 0, 14, .rw, 0x0, true, .any⟩
/-- EP_EGQ.EN (R359, Table 9-10). -/
def EP_EGQ_EN (p i : Nat) : Fld := ⟨(portBase p) + 0x30 + i * 4, 31, 1, .rw, 0x0, true, .any⟩
/-- EP_EGQ.META (R359, Table 9-10). -/
def EP_EGQ_META (p i : Nat) : Fld := ⟨(portBase p) + 0x30 + i * 4, 30, 1, .rw, 0x0, true, .any⟩
/-- EP_EGQ.PRIO (R359, Table 9-10). -/
def EP_EGQ_PRIO (p i : Nat) : Fld := ⟨(portBase p) + 0x30 + i * 4, 27, 3, .rw, 0x0, true, .any⟩
/-- EP_EGQ.QUEUE (R359, Table 9-10). -/
def EP_EGQ_QUEUE (p i : Nat) : Fld := ⟨(portBase p) + 0x30 + i * 4, 0, 14, .rw, 0x0, true, .any⟩
/-- EP_RX_FRAMES.FRAMES (R360, Table 9-11). -/
def EP_RX_FRAMES_FRAMES (p : Nat) : Fld := ⟨(portBase p) + 0x50, 0, 32, .ro, 0x0, false, .any⟩
/-- EP_RX_DROP.FRAMES (R360, Table 9-11). -/
def EP_RX_DROP_FRAMES (p : Nat) : Fld := ⟨(portBase p) + 0x54, 0, 32, .ro, 0x0, false, .any⟩
/-- EP_RX_BAD.FRAMES (R360, Table 9-11). -/
def EP_RX_BAD_FRAMES (p : Nat) : Fld := ⟨(portBase p) + 0x58, 0, 32, .ro, 0x0, false, .any⟩
/-- EP_TX_FRAMES.FRAMES (R360, Table 9-11). -/
def EP_TX_FRAMES_FRAMES (p : Nat) : Fld := ⟨(portBase p) + 0x5c, 0, 32, .ro, 0x0, false, .any⟩
/-- EP_TX_DROP.FRAMES (R360, Table 9-11). -/
def EP_TX_DROP_FRAMES (p : Nat) : Fld := ⟨(portBase p) + 0x60, 0, 32, .ro, 0x0, false, .any⟩
/-- EP_TX_LOST.FRAMES (R360, Table 9-11). -/
def EP_TX_LOST_FRAMES (p : Nat) : Fld := ⟨(portBase p) + 0x64, 0, 32, .ro, 0x0, false, .any⟩
/-- EP_TS_ADJ.RX_ADJ (R361, Table 9-12). -/
def EP_TS_ADJ_RX_ADJ (p : Nat) : Fld := ⟨(portBase p) + 0x70, 16, 16, .rw, 0x0, true, .any⟩
/-- EP_TS_ADJ.TX_ADJ (R361, Table 9-12). -/
def EP_TS_ADJ_TX_ADJ (p : Nat) : Fld := ⟨(portBase p) + 0x70, 0, 16, .rw, 0x0, true, .any⟩
/-- EP_TXTS0.VALID (R361, Table 9-12). -/
def EP_TXTS0_VALID (p : Nat) : Fld := ⟨(portBase p) + 0x74, 31, 1, .ro, 0x0, false, .any⟩
/-- EP_TXTS0.OVF (R361, Table 9-12). -/
def EP_TXTS0_OVF (p : Nat) : Fld := ⟨(portBase p) + 0x74, 30, 1, .w1c, 0x0, false, .any⟩
/-- EP_TXTS0.TAG (R361, Table 9-12). -/
def EP_TXTS0_TAG (p : Nat) : Fld := ⟨(portBase p) + 0x74, 0, 16, .ro, 0x0, false, .any⟩
/-- EP_TXTS1.SEC_LO (R361, Table 9-12). -/
def EP_TXTS1_SEC_LO (p : Nat) : Fld := ⟨(portBase p) + 0x78, 0, 32, .ro, 0x0, false, .any⟩
/-- EP_TXTS2.SEC_HI (R361, Table 9-12). -/
def EP_TXTS2_SEC_HI (p : Nat) : Fld := ⟨(portBase p) + 0x7c, 0, 16, .ro, 0x0, false, .any⟩
/-- EP_TXTS3.NS (R361, Table 9-12). -/
def EP_TXTS3_NS (p : Nat) : Fld := ⟨(portBase p) + 0x80, 2, 30, .ro, 0x0, false, .any⟩
/-- EP_TXTS3.QNS (R361, Table 9-12). -/
def EP_TXTS3_QNS (p : Nat) : Fld := ⟨(portBase p) + 0x80, 0, 2, .ro, 0x0, false, .any⟩
/-- EP_IRQ_CAUSE.RX_DROP (R362, Table 9-13). -/
def EP_IRQ_CAUSE_RX_DROP (p : Nat) : Fld := ⟨(portBase p) + 0x90, 4, 1, .w1c, 0x0, false, .any⟩
/-- EP_IRQ_CAUSE.TXTS_OVF (R362, Table 9-13). -/
def EP_IRQ_CAUSE_TXTS_OVF (p : Nat) : Fld := ⟨(portBase p) + 0x90, 3, 1, .w1c, 0x0, false, .any⟩
/-- EP_IRQ_CAUSE.TXTS (R362, Table 9-13). -/
def EP_IRQ_CAUSE_TXTS (p : Nat) : Fld := ⟨(portBase p) + 0x90, 2, 1, .w1c, 0x0, false, .any⟩
/-- EP_IRQ_CAUSE.CFG_ERR (R362, Table 9-13). -/
def EP_IRQ_CAUSE_CFG_ERR (p : Nat) : Fld := ⟨(portBase p) + 0x90, 1, 1, .w1c, 0x0, false, .any⟩
/-- EP_IRQ_CAUSE.LINK_CHG (R362, Table 9-13). -/
def EP_IRQ_CAUSE_LINK_CHG (p : Nat) : Fld := ⟨(portBase p) + 0x90, 0, 1, .w1c, 0x0, false, .any⟩
/-- SB_CFG.EN (R363, Table 9-14). -/
def SB_CFG_EN (s : Nat) : Fld := ⟨(boatBase s) + 0x0, 31, 1, .rw, 0x0, true, .any⟩
/-- SB_CFG.TX_EN (R363, Table 9-14). -/
def SB_CFG_TX_EN (s : Nat) : Fld := ⟨(boatBase s) + 0x0, 30, 1, .rw, 0x0, true, .any⟩
/-- SB_CFG.RX_EN (R363, Table 9-14). -/
def SB_CFG_RX_EN (s : Nat) : Fld := ⟨(boatBase s) + 0x0, 29, 1, .rw, 0x0, true, .any⟩
/-- SB_CFG.FILL (R363, Table 9-14). -/
def SB_CFG_FILL (s : Nat) : Fld := ⟨(boatBase s) + 0x0, 28, 1, .rw, 0x0, true, .any⟩
/-- SB_CFG.PRIO (R363, Table 9-14). -/
def SB_CFG_PRIO (s : Nat) : Fld := ⟨(boatBase s) + 0x0, 24, 3, .rw, 0x0, true, .any⟩
/-- SB_CFG.PORT (R363, Table 9-14). -/
def SB_CFG_PORT (s : Nat) : Fld := ⟨(boatBase s) + 0x0, 16, 6, .rw, 0x0, true, .any⟩
/-- SB_CFG.ETYPE (R363, Table 9-14). -/
def SB_CFG_ETYPE (s : Nat) : Fld := ⟨(boatBase s) + 0x0, 0, 16, .rw, 0x88b5, true, .any⟩
/-- SB_DMAC_LO.DMAC_LO (R363, Table 9-14). -/
def SB_DMAC_LO_DMAC_LO (s : Nat) : Fld := ⟨(boatBase s) + 0x4, 0, 32, .rw, 0x0, true, .any⟩
/-- SB_DMAC_HI.DMAC_HI (R363, Table 9-14). -/
def SB_DMAC_HI_DMAC_HI (s : Nat) : Fld := ⟨(boatBase s) + 0x8, 0, 16, .rw, 0x0, true, .any⟩
/-- SB_SMAC_LO.SMAC_LO (R363, Table 9-14). -/
def SB_SMAC_LO_SMAC_LO (s : Nat) : Fld := ⟨(boatBase s) + 0xc, 0, 32, .rw, 0x0, true, .any⟩
/-- SB_SMAC_HI.SMAC_HI (R363, Table 9-14). -/
def SB_SMAC_HI_SMAC_HI (s : Nat) : Fld := ⟨(boatBase s) + 0x10, 0, 16, .rw, 0x0, true, .any⟩
/-- SB_STATUS.CFG_ERR (R363, Table 9-14). -/
def SB_STATUS_CFG_ERR (s : Nat) : Fld := ⟨(boatBase s) + 0x14, 0, 1, .w1c, 0x0, false, .any⟩
/-- SB_TXS.EN (R364, Table 9-15). -/
def SB_TXS_EN (s j : Nat) : Fld := ⟨(boatBase s) + 0x100 + j * 4, 31, 1, .rw, 0x0, true, .any⟩
/-- SB_RXS.EN (R364, Table 9-15). -/
def SB_RXS_EN (s j : Nat) : Fld := ⟨(boatBase s) + 0x200 + j * 4, 31, 1, .rw, 0x0, true, .any⟩
/-- SB_TXS.M (R364, Table 9-15). -/
def SB_TXS_M (s j : Nat) : Fld := ⟨(boatBase s) + 0x100 + j * 4, 26, 5, .rw, 0x9, true, .any⟩
/-- SB_RXS.M (R364, Table 9-15). -/
def SB_RXS_M (s j : Nat) : Fld := ⟨(boatBase s) + 0x200 + j * 4, 26, 5, .rw, 0x9, true, .any⟩
/-- SB_TXS.CHANNEL (R364, Table 9-15). -/
def SB_TXS_CHANNEL (s j : Nat) : Fld := ⟨(boatBase s) + 0x100 + j * 4, 23, 3, .rw, 0x0, true, .any⟩
/-- SB_RXS.CHANNEL (R364, Table 9-15). -/
def SB_RXS_CHANNEL (s j : Nat) : Fld := ⟨(boatBase s) + 0x200 + j * 4, 23, 3, .rw, 0x0, true, .any⟩
/-- SB_TXS.NBLK (R364, Table 9-15). -/
def SB_TXS_NBLK (s j : Nat) : Fld := ⟨(boatBase s) + 0x100 + j * 4, 20, 3, .rw, 0x1, true, .any⟩
/-- SB_RXS.NBLK (R364, Table 9-15). -/
def SB_RXS_NBLK (s j : Nat) : Fld := ⟨(boatBase s) + 0x200 + j * 4, 20, 3, .rw, 0x1, true, .any⟩
/-- SB_RXS.LAG (R364, Table 9-15). -/
def SB_RXS_LAG (s j : Nat) : Fld := ⟨(boatBase s) + 0x200 + j * 4, 16, 4, .rw, 0x3, true, .any⟩
/-- SB_TXS.STREAM_ID (R364, Table 9-15). -/
def SB_TXS_STREAM_ID (s j : Nat) : Fld := ⟨(boatBase s) + 0x100 + j * 4, 0, 16, .rw, 0x0, true, .any⟩
/-- SB_RXS.STREAM_ID (R364, Table 9-15). -/
def SB_RXS_STREAM_ID (s j : Nat) : Fld := ⟨(boatBase s) + 0x200 + j * 4, 0, 16, .rw, 0x0, true, .any⟩
/-- SB_TX_FRAMES.FRAMES (R365, Table 9-16). -/
def SB_TX_FRAMES_FRAMES (s : Nat) : Fld := ⟨(boatBase s) + 0x20, 0, 32, .ro, 0x0, false, .any⟩
/-- SB_TX_BAD.EVENTS (R365, Table 9-16). -/
def SB_TX_BAD_EVENTS (s : Nat) : Fld := ⟨(boatBase s) + 0x24, 0, 32, .ro, 0x0, false, .any⟩
/-- SB_RX_FRAMES.FRAMES (R365, Table 9-16). -/
def SB_RX_FRAMES_FRAMES (s : Nat) : Fld := ⟨(boatBase s) + 0x28, 0, 32, .ro, 0x0, false, .any⟩
/-- SB_RX_REJECT.FRAMES (R365, Table 9-16). -/
def SB_RX_REJECT_FRAMES (s : Nat) : Fld := ⟨(boatBase s) + 0x2c, 0, 32, .ro, 0x0, false, .any⟩
/-- SB_RX_LATE.FRAMES (R365, Table 9-16). -/
def SB_RX_LATE_FRAMES (s : Nat) : Fld := ⟨(boatBase s) + 0x30, 0, 32, .ro, 0x0, false, .any⟩
/-- SB_RX_EARLY.FRAMES (R365, Table 9-16). -/
def SB_RX_EARLY_FRAMES (s : Nat) : Fld := ⟨(boatBase s) + 0x34, 0, 32, .ro, 0x0, false, .any⟩
/-- SB_RX_MISSING.STREAMS (R365, Table 9-16). -/
def SB_RX_MISSING_STREAMS (s : Nat) : Fld := ⟨(boatBase s) + 0x38, 0, 32, .ro, 0x0, false, .any⟩
/-- SB_OVERFLOW.STREAMS (R365, Table 9-16). -/
def SB_OVERFLOW_STREAMS (s : Nat) : Fld := ⟨(boatBase s) + 0x3c, 0, 32, .ro, 0x0, false, .any⟩
/-- SB_IRQ_CAUSE.RX_REJECT (R365, Table 9-16). -/
def SB_IRQ_CAUSE_RX_REJECT (s : Nat) : Fld := ⟨(boatBase s) + 0x40, 4, 1, .w1c, 0x0, false, .any⟩
/-- SB_IRQ_CAUSE.OVERFLOW (R365, Table 9-16). -/
def SB_IRQ_CAUSE_OVERFLOW (s : Nat) : Fld := ⟨(boatBase s) + 0x40, 3, 1, .w1c, 0x0, false, .any⟩
/-- SB_IRQ_CAUSE.TX_BAD (R365, Table 9-16). -/
def SB_IRQ_CAUSE_TX_BAD (s : Nat) : Fld := ⟨(boatBase s) + 0x40, 2, 1, .w1c, 0x0, false, .any⟩
/-- SB_IRQ_CAUSE.LATE (R365, Table 9-16). -/
def SB_IRQ_CAUSE_LATE (s : Nat) : Fld := ⟨(boatBase s) + 0x40, 1, 1, .w1c, 0x0, false, .any⟩
/-- SB_IRQ_CAUSE.MISSING (R365, Table 9-16). -/
def SB_IRQ_CAUSE_MISSING (s : Nat) : Fld := ⟨(boatBase s) + 0x40, 0, 1, .w1c, 0x0, false, .any⟩
/-- ICL_CFG.EN (R393, Table 10-10). -/
def ICL_CFG_EN : Fld := ⟨0x01c00000 + 0x0, 31, 1, .rw, 0x0, true, .any⟩
/-- ICL_CFG.TUN_ACCEPT (R393, Table 10-10). -/
def ICL_CFG_TUN_ACCEPT : Fld := ⟨0x01c00000 + 0x0, 30, 1, .rw, 0x0, true, .any⟩
/-- ICL_CFG.CTRL_SLOT (R393, Table 10-10). -/
def ICL_CFG_CTRL_SLOT : Fld := ⟨0x01c00000 + 0x0, 16, 6, .rw, 0x0, true, .any⟩
/-- ICL_CFG.HOP_NS (R393, Table 10-10). -/
def ICL_CFG_HOP_NS : Fld := ⟨0x01c00000 + 0x0, 0, 10, .rw, 0x1a4, true, (.clamp 120 420)⟩
/-- ICL_STATUS.K (R394, Table 10-11). -/
def ICL_STATUS_K : Fld := ⟨0x01c00000 + 0x4, 24, 8, .ro, 0x1, false, .any⟩
/-- ICL_STATUS.TO_MASTER (R394, Table 10-11). -/
def ICL_STATUS_TO_MASTER : Fld := ⟨0x01c00000 + 0x4, 20, 4, .ro, 0xf, false, .any⟩
/-- ICL_STATUS.CASC_ERR (R394, Table 10-11). -/
def ICL_STATUS_CASC_ERR : Fld := ⟨0x01c00000 + 0x4, 16, 3, .ro, 0x0, false, .any⟩
/-- ICL_STATUS.MASTER (R394, Table 10-11). -/
def ICL_STATUS_MASTER : Fld := ⟨0x01c00000 + 0x4, 8, 1, .ro, 0, false, .any⟩
/-- ICL_STATUS.CASC_ID (R394, Table 10-11). -/
def ICL_STATUS_CASC_ID : Fld := ⟨0x01c00000 + 0x4, 4, 4, .ro, 0, false, .any⟩
/-- ICL_STATUS.STATE (R394, Table 10-11). -/
def ICL_STATUS_STATE : Fld := ⟨0x01c00000 + 0x4, 0, 3, .ro, 0x0, false, .any⟩
/-- ICL_MAP.MASTERS (R394, Table 10-11). -/
def ICL_MAP_MASTERS : Fld := ⟨0x01c00000 + 0x8, 16, 16, .ro, 0x0, false, .any⟩
/-- ICL_MAP.PRESENT (R394, Table 10-11). -/
def ICL_MAP_PRESENT : Fld := ⟨0x01c00000 + 0x8, 0, 16, .ro, 0x0, false, .any⟩
/-- ICL_MEMBERS.MEMBERS (R394, Table 10-11). -/
def ICL_MEMBERS_MEMBERS : Fld := ⟨0x01c00000 + 0xc, 0, 16, .ro, 0x0, false, .any⟩
/-- ICL_JOIN_LO.J_LO (R394, Table 10-11). -/
def ICL_JOIN_LO_J_LO : Fld := ⟨0x01c00000 + 0x10, 0, 32, .ro, 0x0, false, .any⟩
/-- ICL_JOIN_HI.J_HI (R394, Table 10-11). -/
def ICL_JOIN_HI_J_HI : Fld := ⟨0x01c00000 + 0x14, 0, 32, .ro, 0x0, false, .any⟩
/-- ICL_UID_LO.UID_LO (R394, Table 10-11). -/
def ICL_UID_LO_UID_LO : Fld := ⟨0x01c00000 + 0x18, 0, 32, .ro, 0, true, .any⟩
/-- ICL_UID_HI.UID_HI (R394, Table 10-11). -/
def ICL_UID_HI_UID_HI : Fld := ⟨0x01c00000 + 0x1c, 0, 32, .ro, 0, true, .any⟩
/-- ICL_CMD.CLR_STATS (R395, Table 10-12). -/
def ICL_CMD_CLR_STATS : Fld := ⟨0x01c00000 + 0x20, 1, 1, .wo, 0x0, false, .any⟩
/-- ICL_CMD.LEAVE (R395, Table 10-12). -/
def ICL_CMD_LEAVE : Fld := ⟨0x01c00000 + 0x20, 0, 1, .wo, 0x0, false, .any⟩
/-- ICL_IRQ_CAUSE.PORT_FAULT (R395, Table 10-12). -/
def ICL_IRQ_CAUSE_PORT_FAULT : Fld := ⟨0x01c00000 + 0x24, 5, 1, .w1c, 0x0, false, .any⟩
/-- ICL_IRQ_CAUSE.ROUTE_CHG (R395, Table 10-12). -/
def ICL_IRQ_CAUSE_ROUTE_CHG : Fld := ⟨0x01c00000 + 0x24, 4, 1, .w1c, 0x0, false, .any⟩
/-- ICL_IRQ_CAUSE.MASTER_LOST (R395, Table 10-12). -/
def ICL_IRQ_CAUSE_MASTER_LOST : Fld := ⟨0x01c00000 + 0x24, 3, 1, .w1c, 0x0, false, .any⟩
/-- ICL_IRQ_CAUSE.FOLLOWER_LEFT (R395, Table 10-12). -/
def ICL_IRQ_CAUSE_FOLLOWER_LEFT : Fld := ⟨0x01c00000 + 0x24, 2, 1, .w1c, 0x0, false, .any⟩
/-- ICL_IRQ_CAUSE.CASC_ERR (R395, Table 10-12). -/
def ICL_IRQ_CAUSE_CASC_ERR : Fld := ⟨0x01c00000 + 0x24, 1, 1, .w1c, 0x0, false, .any⟩
/-- ICL_IRQ_CAUSE.JOINED (R395, Table 10-12). -/
def ICL_IRQ_CAUSE_JOINED : Fld := ⟨0x01c00000 + 0x24, 0, 1, .w1c, 0x0, false, .any⟩
/-- ICL_PORT_CFG.EN (R396, Table 10-13). -/
def ICL_PORT_CFG_EN (q : Nat) : Fld := ⟨(iclPortBase q) + 0x0, 31, 1, .rw, 0x0, true, .any⟩
/-- ICL_PORT_STATUS.UPSTREAM (R396, Table 10-13). -/
def ICL_PORT_STATUS_UPSTREAM (q : Nat) : Fld := ⟨(iclPortBase q) + 0x4, 16, 1, .ro, 0x0, false, .any⟩
/-- ICL_PORT_STATUS.P_VALID (R396, Table 10-13). -/
def ICL_PORT_STATUS_P_VALID (q : Nat) : Fld := ⟨(iclPortBase q) + 0x4, 15, 1, .ro, 0x0, false, .any⟩
/-- ICL_PORT_STATUS.P_MASTER (R396, Table 10-13). -/
def ICL_PORT_STATUS_P_MASTER (q : Nat) : Fld := ⟨(iclPortBase q) + 0x4, 14, 1, .ro, 0x0, false, .any⟩
/-- ICL_PORT_STATUS.P_PORT (R396, Table 10-13). -/
def ICL_PORT_STATUS_P_PORT (q : Nat) : Fld := ⟨(iclPortBase q) + 0x4, 12, 2, .ro, 0x0, false, .any⟩
/-- ICL_PORT_STATUS.P_ID (R396, Table 10-13). -/
def ICL_PORT_STATUS_P_ID (q : Nat) : Fld := ⟨(iclPortBase q) + 0x4, 8, 4, .ro, 0x0, false, .any⟩
/-- ICL_PORT_STATUS.WHY (R396, Table 10-13). -/
def ICL_PORT_STATUS_WHY (q : Nat) : Fld := ⟨(iclPortBase q) + 0x4, 4, 3, .ro, 0x0, false, .any⟩
/-- ICL_PORT_STATUS.STATE (R396, Table 10-13). -/
def ICL_PORT_STATUS_STATE (q : Nat) : Fld := ⟨(iclPortBase q) + 0x4, 0, 3, .ro, 0x0, false, .any⟩
/-- ICL_PORT_DLY.VALID (R396, Table 10-13). -/
def ICL_PORT_DLY_VALID (q : Nat) : Fld := ⟨(iclPortBase q) + 0x8, 31, 1, .ro, 0x0, false, .any⟩
/-- ICL_PORT_DLY.MEAS_NS (R396, Table 10-13). -/
def ICL_PORT_DLY_MEAS_NS (q : Nat) : Fld := ⟨(iclPortBase q) + 0x8, 0, 10, .ro, 0x0, false, .any⟩
/-- ICL_PORT_RXBAD.FRAMES (R397, Table 10-14). -/
def ICL_PORT_RXBAD_FRAMES (q : Nat) : Fld := ⟨(iclPortBase q) + 0x10, 0, 32, .ro, 0x0, false, .any⟩
/-- ICL_PORT_RXKEY.FRAMES (R397, Table 10-14). -/
def ICL_PORT_RXKEY_FRAMES (q : Nat) : Fld := ⟨(iclPortBase q) + 0x14, 0, 32, .ro, 0x0, false, .any⟩
/-- ICL_PORT_TXKEY.PACKETS (R397, Table 10-14). -/
def ICL_PORT_TXKEY_PACKETS (q : Nat) : Fld := ⟨(iclPortBase q) + 0x18, 0, 32, .ro, 0x0, false, .any⟩
/-- ICL_PORT_NOROUTE.FRAMES (R397, Table 10-14). -/
def ICL_PORT_NOROUTE_FRAMES (q : Nat) : Fld := ⟨(iclPortBase q) + 0x1c, 0, 32, .ro, 0x0, false, .any⟩
/-- ICL_PORT_LATE.BATCHES (R397, Table 10-14). -/
def ICL_PORT_LATE_BATCHES (q : Nat) : Fld := ⟨(iclPortBase q) + 0x20, 0, 32, .ro, 0x0, false, .any⟩
/-- ICL_PORT_SUPERSEDED.BATCHES (R397, Table 10-14). -/
def ICL_PORT_SUPERSEDED_BATCHES (q : Nat) : Fld := ⟨(iclPortBase q) + 0x24, 0, 32, .ro, 0x0, false, .any⟩
/-- ICL_PORT_OVERFLOW.BATCHES (R397, Table 10-14). -/
def ICL_PORT_OVERFLOW_BATCHES (q : Nat) : Fld := ⟨(iclPortBase q) + 0x28, 0, 32, .ro, 0x0, false, .any⟩
/-- ICL_PORT_RXFRAMES.FRAMES (R397, Table 10-14). -/
def ICL_PORT_RXFRAMES_FRAMES (q : Nat) : Fld := ⟨(iclPortBase q) + 0x2c, 0, 32, .ro, 0x0, false, .any⟩
/-- ICL_FWD.EN (R398, Table 10-15). -/
def ICL_FWD_EN (d : Nat) : Fld := ⟨0x01c00000 + 0x400 + d * 4, 31, 1, .rw, 0x0, true, .any⟩
/-- ICL_FWD.PORT (R398, Table 10-15). -/
def ICL_FWD_PORT (d : Nat) : Fld := ⟨0x01c00000 + 0x400 + d * 4, 0, 2, .rw, 0x0, true, .any⟩
/-- ICL_TCH_A.EN (R398, Table 10-15). -/
def ICL_TCH_A_EN (h : Nat) : Fld := ⟨0x01c00000 + 0x500 + h * 8, 31, 1, .rw, 0x0, true, .any⟩
/-- ICL_QTX_A.EN (R398, Table 10-15). -/
def ICL_QTX_A_EN (i : Nat) : Fld := ⟨0x01c00000 + 0x600 + i * 8, 31, 1, .rw, 0x0, true, .any⟩
/-- ICL_TCH_A.FB_EN (R398, Table 10-15). -/
def ICL_TCH_A_FB_EN (h : Nat) : Fld := ⟨0x01c00000 + 0x500 + h * 8, 30, 1, .rw, 0x0, true, .any⟩
/-- ICL_QTX_A.FB_EN (R398, Table 10-15). -/
def ICL_QTX_A_FB_EN (i : Nat) : Fld := ⟨0x01c00000 + 0x600 + i * 8, 30, 1, .rw, 0x0, true, .any⟩
/-- ICL_TCH_A.ACTIVE (R398, Table 10-15). -/
def ICL_TCH_A_ACTIVE (h : Nat) : Fld := ⟨0x01c00000 + 0x500 + h * 8, 29, 1, .ro, 0x0, true, .any⟩
/-- ICL_QTX_A.ACTIVE (R398, Table 10-15). -/
def ICL_QTX_A_ACTIVE (i : Nat) : Fld := ⟨0x01c00000 + 0x600 + i * 8, 29, 1, .ro, 0x0, true, .any⟩
/-- ICL_TCH_A.DOWN (R398, Table 10-15). -/
def ICL_TCH_A_DOWN (h : Nat) : Fld := ⟨0x01c00000 + 0x500 + h * 8, 28, 1, .ro, 0x0, true, .any⟩
/-- ICL_QTX_A.DOWN (R398, Table 10-15). -/
def ICL_QTX_A_DOWN (i : Nat) : Fld := ⟨0x01c00000 + 0x600 + i * 8, 28, 1, .ro, 0x0, true, .any⟩
/-- ICL_TCH_A.PRI_DEST (R398, Table 10-15). -/
def ICL_TCH_A_PRI_DEST (h : Nat) : Fld := ⟨0x01c00000 + 0x500 + h * 8, 24, 4, .rw, 0x0, true, .any⟩
/-- ICL_QTX_A.PRI_DEST (R398, Table 10-15). -/
def ICL_QTX_A_PRI_DEST (i : Nat) : Fld := ⟨0x01c00000 + 0x600 + i * 8, 24, 4, .rw, 0x0, true, .any⟩
/-- ICL_TCH_A.PRI_PORT (R398, Table 10-15). -/
def ICL_TCH_A_PRI_PORT (h : Nat) : Fld := ⟨0x01c00000 + 0x500 + h * 8, 22, 2, .rw, 0x0, true, .any⟩
/-- ICL_QTX_A.PRI_PORT (R398, Table 10-15). -/
def ICL_QTX_A_PRI_PORT (i : Nat) : Fld := ⟨0x01c00000 + 0x600 + i * 8, 22, 2, .rw, 0x0, true, .any⟩
/-- ICL_TCH_A.FB_PORT (R398, Table 10-15). -/
def ICL_TCH_A_FB_PORT (h : Nat) : Fld := ⟨0x01c00000 + 0x500 + h * 8, 20, 2, .rw, 0x0, true, .any⟩
/-- ICL_QTX_A.FB_PORT (R398, Table 10-15). -/
def ICL_QTX_A_FB_PORT (i : Nat) : Fld := ⟨0x01c00000 + 0x600 + i * 8, 20, 2, .rw, 0x0, true, .any⟩
/-- ICL_TCH_A.PRI_HOPS (R398, Table 10-15). -/
def ICL_TCH_A_PRI_HOPS (h : Nat) : Fld := ⟨0x01c00000 + 0x500 + h * 8, 16, 4, .rw, 0x1, true, .any⟩
/-- ICL_TCH_A.FB_HOPS (R398, Table 10-15). -/
def ICL_TCH_A_FB_HOPS (h : Nat) : Fld := ⟨0x01c00000 + 0x500 + h * 8, 12, 4, .rw, 0x1, true, .any⟩
/-- ICL_TCH_A.PRI_DCH (R398, Table 10-15). -/
def ICL_TCH_A_PRI_DCH (h : Nat) : Fld := ⟨0x01c00000 + 0x500 + h * 8, 5, 5, .rw, 0x0, true, .any⟩
/-- ICL_TCH_A.FB_DCH (R398, Table 10-15). -/
def ICL_TCH_A_FB_DCH (h : Nat) : Fld := ⟨0x01c00000 + 0x500 + h * 8, 0, 5, .rw, 0x0, true, .any⟩
/-- ICL_TCH_B.FB_DEST (R398, Table 10-15). -/
def ICL_TCH_B_FB_DEST (h : Nat) : Fld := ⟨0x01c00000 + 0x504 + h * 8, 0, 4, .rw, 0x0, true, .any⟩
/-- ICL_QTX_A.QUEUE (R398, Table 10-15). -/
def ICL_QTX_A_QUEUE (i : Nat) : Fld := ⟨0x01c00000 + 0x600 + i * 8, 0, 14, .rw, 0x0, true, .any⟩
/-- ICL_QTX_B.FB_DEST (R398, Table 10-15). -/
def ICL_QTX_B_FB_DEST (i : Nat) : Fld := ⟨0x01c00000 + 0x604 + i * 8, 28, 4, .rw, 0x0, true, .any⟩
/-- ICL_QTX_B.FB_QUEUE (R398, Table 10-15). -/
def ICL_QTX_B_FB_QUEUE (i : Nat) : Fld := ⟨0x01c00000 + 0x604 + i * 8, 14, 14, .rw, 0x0, true, .any⟩
/-- ICL_QTX_B.PRI_QUEUE (R398, Table 10-15). -/
def ICL_QTX_B_PRI_QUEUE (i : Nat) : Fld := ⟨0x01c00000 + 0x604 + i * 8, 0, 14, .rw, 0x0, true, .any⟩
/-- ICL_TUN_ADDR.OFFSET (R399, Table 10-16). -/
def ICL_TUN_ADDR_OFFSET : Fld := ⟨0x01c00000 + 0x800, 0, 27, .rw, 0x0, false, .any⟩
/-- ICL_TUN_DATA.DATA (R399, Table 10-16). -/
def ICL_TUN_DATA_DATA : Fld := ⟨0x01c00000 + 0x804, 0, 32, .rw, 0, false, .any⟩
/-- ICL_TUN_CMD.OP (R399, Table 10-16). -/
def ICL_TUN_CMD_OP : Fld := ⟨0x01c00000 + 0x808, 28, 4, .wo, 0x0, false, .any⟩
/-- ICL_TUN_CMD.DEST (R399, Table 10-16). -/
def ICL_TUN_CMD_DEST : Fld := ⟨0x01c00000 + 0x808, 24, 4, .wo, 0x0, false, .any⟩
/-- ICL_TUN_STAT.BUSY (R399, Table 10-16). -/
def ICL_TUN_STAT_BUSY : Fld := ⟨0x01c00000 + 0x80c, 31, 1, .ro, 0x0, false, .any⟩
/-- ICL_TUN_STAT.RESULT (R399, Table 10-16). -/
def ICL_TUN_STAT_RESULT : Fld := ⟨0x01c00000 + 0x80c, 0, 4, .ro, 0x0, false, .any⟩
/-- EP_IRQ_EN.RX_DROP (R362, Table 9-13). -/
def EP_IRQ_EN_RX_DROP (p : Nat) : Fld := ⟨(portBase p) + 0x94, 4, 1, .rw, 0x0, false, .any⟩
/-- EP_IRQ_EN.TXTS_OVF (R362, Table 9-13). -/
def EP_IRQ_EN_TXTS_OVF (p : Nat) : Fld := ⟨(portBase p) + 0x94, 3, 1, .rw, 0x0, false, .any⟩
/-- EP_IRQ_EN.TXTS (R362, Table 9-13). -/
def EP_IRQ_EN_TXTS (p : Nat) : Fld := ⟨(portBase p) + 0x94, 2, 1, .rw, 0x0, false, .any⟩
/-- EP_IRQ_EN.CFG_ERR (R362, Table 9-13). -/
def EP_IRQ_EN_CFG_ERR (p : Nat) : Fld := ⟨(portBase p) + 0x94, 1, 1, .rw, 0x0, false, .any⟩
/-- EP_IRQ_EN.LINK_CHG (R362, Table 9-13). -/
def EP_IRQ_EN_LINK_CHG (p : Nat) : Fld := ⟨(portBase p) + 0x94, 0, 1, .rw, 0x0, false, .any⟩
/-- SB_IRQ_EN.RX_REJECT (R365, Table 9-16). -/
def SB_IRQ_EN_RX_REJECT (s : Nat) : Fld := ⟨(boatBase s) + 0x44, 4, 1, .rw, 0x0, false, .any⟩
/-- SB_IRQ_EN.OVERFLOW (R365, Table 9-16). -/
def SB_IRQ_EN_OVERFLOW (s : Nat) : Fld := ⟨(boatBase s) + 0x44, 3, 1, .rw, 0x0, false, .any⟩
/-- SB_IRQ_EN.TX_BAD (R365, Table 9-16). -/
def SB_IRQ_EN_TX_BAD (s : Nat) : Fld := ⟨(boatBase s) + 0x44, 2, 1, .rw, 0x0, false, .any⟩
/-- SB_IRQ_EN.LATE (R365, Table 9-16). -/
def SB_IRQ_EN_LATE (s : Nat) : Fld := ⟨(boatBase s) + 0x44, 1, 1, .rw, 0x0, false, .any⟩
/-- SB_IRQ_EN.MISSING (R365, Table 9-16). -/
def SB_IRQ_EN_MISSING (s : Nat) : Fld := ⟨(boatBase s) + 0x44, 0, 1, .rw, 0x0, false, .any⟩
/-- ICL_IRQ_EN.PORT_FAULT (R395, Table 10-12). -/
def ICL_IRQ_EN_PORT_FAULT : Fld := ⟨0x01c00000 + 0x28, 5, 1, .rw, 0x0, false, .any⟩
/-- ICL_IRQ_EN.ROUTE_CHG (R395, Table 10-12). -/
def ICL_IRQ_EN_ROUTE_CHG : Fld := ⟨0x01c00000 + 0x28, 4, 1, .rw, 0x0, false, .any⟩
/-- ICL_IRQ_EN.MASTER_LOST (R395, Table 10-12). -/
def ICL_IRQ_EN_MASTER_LOST : Fld := ⟨0x01c00000 + 0x28, 3, 1, .rw, 0x0, false, .any⟩
/-- ICL_IRQ_EN.FOLLOWER_LEFT (R395, Table 10-12). -/
def ICL_IRQ_EN_FOLLOWER_LEFT : Fld := ⟨0x01c00000 + 0x28, 2, 1, .rw, 0x0, false, .any⟩
/-- ICL_IRQ_EN.CASC_ERR (R395, Table 10-12). -/
def ICL_IRQ_EN_CASC_ERR : Fld := ⟨0x01c00000 + 0x28, 1, 1, .rw, 0x0, false, .any⟩
/-- ICL_IRQ_EN.JOINED (R395, Table 10-12). -/
def ICL_IRQ_EN_JOINED : Fld := ⟨0x01c00000 + 0x28, 0, 1, .rw, 0x0, false, .any⟩

/-- The fields of the port registers that stand once per block. -/
def portFlds (p : Nat) : List Fld :=
  [EP_CFG_EN p, EP_CFG_MODE p, EP_CFG_KEEP_FCS p, EP_CFG_META p, EP_CFG_PRIO_SRC p, EP_CFG_DEF_PRIO p, EP_CFG_PTP_PRIO_EN p, EP_CFG_PTP_PRIO p, EP_CFG_PFC_TX p, EP_CFG_PFC_RX p, EP_CFG_MAX_FRAME p, EP_STATUS_CFG_ERR p, EP_STATUS_PAUSED p, EP_STATUS_FEC_LOCK p, EP_STATUS_AN_DONE p, EP_STATUS_TRAIN_DONE p, EP_STATUS_LINK_UP p, EP_STATUS_STATE p, EP_AN_AN p, EP_RX_FRAMES_FRAMES p, EP_RX_DROP_FRAMES p, EP_RX_BAD_FRAMES p, EP_TX_FRAMES_FRAMES p, EP_TX_DROP_FRAMES p, EP_TX_LOST_FRAMES p, EP_TS_ADJ_RX_ADJ p, EP_TS_ADJ_TX_ADJ p, EP_TXTS0_VALID p, EP_TXTS0_OVF p, EP_TXTS0_TAG p, EP_TXTS1_SEC_LO p, EP_TXTS2_SEC_HI p, EP_TXTS3_NS p, EP_TXTS3_QNS p, EP_IRQ_CAUSE_RX_DROP p, EP_IRQ_CAUSE_TXTS_OVF p, EP_IRQ_CAUSE_TXTS p, EP_IRQ_CAUSE_CFG_ERR p, EP_IRQ_CAUSE_LINK_CHG p, EP_IRQ_EN_RX_DROP p, EP_IRQ_EN_TXTS_OVF p, EP_IRQ_EN_TXTS p, EP_IRQ_EN_CFG_ERR p, EP_IRQ_EN_LINK_CHG p]
/-- The fields of the register at address `a` of the port registers, none where no register stands. -/
def portAt (p : Nat) (a : Nat) : List Fld :=
  (portFlds p).filter (fun f => f.addr == a)
  ++ arrayAt a ((portBase p) + 0x10) 4 8 (fun i => [EP_CLASS_EN p i, EP_CLASS_QUEUE p i])
  ++ arrayAt a ((portBase p) + 0x30) 4 8 (fun i => [EP_EGQ_EN p i, EP_EGQ_META p i, EP_EGQ_PRIO p i, EP_EGQ_QUEUE p i])
/-- The fields of the boat registers that stand once per block. -/
def boatFlds (s : Nat) : List Fld :=
  [SB_CFG_EN s, SB_CFG_TX_EN s, SB_CFG_RX_EN s, SB_CFG_FILL s, SB_CFG_PRIO s, SB_CFG_PORT s, SB_CFG_ETYPE s, SB_DMAC_LO_DMAC_LO s, SB_DMAC_HI_DMAC_HI s, SB_SMAC_LO_SMAC_LO s, SB_SMAC_HI_SMAC_HI s, SB_STATUS_CFG_ERR s, SB_TX_FRAMES_FRAMES s, SB_TX_BAD_EVENTS s, SB_RX_FRAMES_FRAMES s, SB_RX_REJECT_FRAMES s, SB_RX_LATE_FRAMES s, SB_RX_EARLY_FRAMES s, SB_RX_MISSING_STREAMS s, SB_OVERFLOW_STREAMS s, SB_IRQ_CAUSE_RX_REJECT s, SB_IRQ_CAUSE_OVERFLOW s, SB_IRQ_CAUSE_TX_BAD s, SB_IRQ_CAUSE_LATE s, SB_IRQ_CAUSE_MISSING s, SB_IRQ_EN_RX_REJECT s, SB_IRQ_EN_OVERFLOW s, SB_IRQ_EN_TX_BAD s, SB_IRQ_EN_LATE s, SB_IRQ_EN_MISSING s]
/-- The fields of the register at address `a` of the boat registers, none where no register stands. -/
def boatAt (s : Nat) (a : Nat) : List Fld :=
  (boatFlds s).filter (fun f => f.addr == a)
  ++ arrayAt a ((boatBase s) + 0x100) 4 32 (fun i => [SB_TXS_EN s i, SB_TXS_M s i, SB_TXS_CHANNEL s i, SB_TXS_NBLK s i, SB_TXS_STREAM_ID s i])
  ++ arrayAt a ((boatBase s) + 0x200) 4 32 (fun i => [SB_RXS_EN s i, SB_RXS_M s i, SB_RXS_CHANNEL s i, SB_RXS_NBLK s i, SB_RXS_LAG s i, SB_RXS_STREAM_ID s i])
/-- The fields of the ifeotte registers that stand once per block. -/
def ifeotteFlds : List Fld :=
  [ICL_CFG_EN, ICL_CFG_TUN_ACCEPT, ICL_CFG_CTRL_SLOT, ICL_CFG_HOP_NS, ICL_STATUS_K, ICL_STATUS_TO_MASTER, ICL_STATUS_CASC_ERR, ICL_STATUS_MASTER, ICL_STATUS_CASC_ID, ICL_STATUS_STATE, ICL_MAP_MASTERS, ICL_MAP_PRESENT, ICL_MEMBERS_MEMBERS, ICL_JOIN_LO_J_LO, ICL_JOIN_HI_J_HI, ICL_UID_LO_UID_LO, ICL_UID_HI_UID_HI, ICL_CMD_CLR_STATS, ICL_CMD_LEAVE, ICL_IRQ_CAUSE_PORT_FAULT, ICL_IRQ_CAUSE_ROUTE_CHG, ICL_IRQ_CAUSE_MASTER_LOST, ICL_IRQ_CAUSE_FOLLOWER_LEFT, ICL_IRQ_CAUSE_CASC_ERR, ICL_IRQ_CAUSE_JOINED, ICL_TUN_ADDR_OFFSET, ICL_TUN_DATA_DATA, ICL_TUN_CMD_OP, ICL_TUN_CMD_DEST, ICL_TUN_STAT_BUSY, ICL_TUN_STAT_RESULT, ICL_IRQ_EN_PORT_FAULT, ICL_IRQ_EN_ROUTE_CHG, ICL_IRQ_EN_MASTER_LOST, ICL_IRQ_EN_FOLLOWER_LEFT, ICL_IRQ_EN_CASC_ERR, ICL_IRQ_EN_JOINED]
/-- The fields of the register at address `a` of the ifeotte registers, none where no register stands. -/
def ifeotteAt (a : Nat) : List Fld :=
  (ifeotteFlds).filter (fun f => f.addr == a)
  ++ arrayAt a (0x01c00000 + 0x400) 4 16 (fun i => [ICL_FWD_EN i, ICL_FWD_PORT i])
  ++ arrayAt a (0x01c00000 + 0x500) 8 32 (fun i => [ICL_TCH_A_EN i, ICL_TCH_A_FB_EN i, ICL_TCH_A_ACTIVE i, ICL_TCH_A_DOWN i, ICL_TCH_A_PRI_DEST i, ICL_TCH_A_PRI_PORT i, ICL_TCH_A_FB_PORT i, ICL_TCH_A_PRI_HOPS i, ICL_TCH_A_FB_HOPS i, ICL_TCH_A_PRI_DCH i, ICL_TCH_A_FB_DCH i])
  ++ arrayAt a (0x01c00000 + 0x600) 8 16 (fun i => [ICL_QTX_A_EN i, ICL_QTX_A_FB_EN i, ICL_QTX_A_ACTIVE i, ICL_QTX_A_DOWN i, ICL_QTX_A_PRI_DEST i, ICL_QTX_A_PRI_PORT i, ICL_QTX_A_FB_PORT i, ICL_QTX_A_QUEUE i])
  ++ arrayAt a (0x01c00000 + 0x504) 8 32 (fun i => [ICL_TCH_B_FB_DEST i])
  ++ arrayAt a (0x01c00000 + 0x604) 8 16 (fun i => [ICL_QTX_B_FB_DEST i, ICL_QTX_B_FB_QUEUE i, ICL_QTX_B_PRI_QUEUE i])
/-- The fields of the iclPort registers that stand once per block. -/
def iclPortFlds (q : Nat) : List Fld :=
  [ICL_PORT_CFG_EN q, ICL_PORT_STATUS_UPSTREAM q, ICL_PORT_STATUS_P_VALID q, ICL_PORT_STATUS_P_MASTER q, ICL_PORT_STATUS_P_PORT q, ICL_PORT_STATUS_P_ID q, ICL_PORT_STATUS_WHY q, ICL_PORT_STATUS_STATE q, ICL_PORT_DLY_VALID q, ICL_PORT_DLY_MEAS_NS q, ICL_PORT_RXBAD_FRAMES q, ICL_PORT_RXKEY_FRAMES q, ICL_PORT_TXKEY_PACKETS q, ICL_PORT_NOROUTE_FRAMES q, ICL_PORT_LATE_BATCHES q, ICL_PORT_SUPERSEDED_BATCHES q, ICL_PORT_OVERFLOW_BATCHES q, ICL_PORT_RXFRAMES_FRAMES q]
/-- The fields of the register at address `a` of the iclPort registers, none where no register stands. -/
def iclPortAt (q : Nat) (a : Nat) : List Fld :=
  (iclPortFlds q).filter (fun f => f.addr == a)

end Sys2Proof.Machine.Reg
end

