-- ==== Sys2Proof/Machine/RegsQueue.lean ====
section
/-! DEFINITION. Register fields, from the tables of the spec: address, lowest bit, width, type, reset value,
whether it keeps its value across warm reset, and how a disallowed value is stored. The queue manager registers (R244 to R257). -/
namespace Sys2Proof.Machine.Reg

/-- QM_STATUS.STATE (R244, Table 6-10). -/
def QM_STATUS_STATE : Fld := ⟨0x00800000 + 0x0, 0, 2, .ro, 0x2, false, .any⟩
/-- QM_POOL.FREE (R244, Table 6-10). -/
def QM_POOL_FREE : Fld := ⟨0x00800000 + 0x4, 0, 19, .ro, 0x40000, false, .any⟩
/-- QM_QUAR.CELLS (R244, Table 6-10). -/
def QM_QUAR_CELLS : Fld := ⟨0x00800000 + 0x8, 0, 19, .ro, 0x0, false, .any⟩
/-- QM_POOL_LOW.LEVEL (R244, Table 6-10). -/
def QM_POOL_LOW_LEVEL : Fld := ⟨0x00800000 + 0xc, 0, 19, .rw, 0x0, true, .any⟩
/-- QM_SWEEP.PASSES (R245, Table 6-11). -/
def QM_SWEEP_PASSES : Fld := ⟨0x00800000 + 0x10, 16, 16, .ro, 0x0, false, .any⟩
/-- QM_SWEEP.LAST_US (R245, Table 6-11). -/
def QM_SWEEP_LAST_US : Fld := ⟨0x00800000 + 0x10, 0, 11, .ro, 0x0, false, .any⟩
/-- QM_SWEEP_FREED.CELLS (R245, Table 6-11). -/
def QM_SWEEP_FREED_CELLS : Fld := ⟨0x00800000 + 0x14, 0, 32, .ro, 0x0, false, .any⟩
/-- QM_ECC.UE_COUNT (R245, Table 6-11). -/
def QM_ECC_UE_COUNT : Fld := ⟨0x00800000 + 0x18, 16, 16, .ro, 0x0, false, .any⟩
/-- QM_ECC.CE_COUNT (R245, Table 6-11). -/
def QM_ECC_CE_COUNT : Fld := ⟨0x00800000 + 0x18, 0, 16, .ro, 0x0, false, .any⟩
/-- QM_IRQ_CAUSE.POOL_LOW (R246, Table 6-12). -/
def QM_IRQ_CAUSE_POOL_LOW : Fld := ⟨0x00800000 + 0x20, 4, 1, .w1c, 0x0, false, .any⟩
/-- QM_IRQ_CAUSE.ECC_UE (R246, Table 6-12). -/
def QM_IRQ_CAUSE_ECC_UE : Fld := ⟨0x00800000 + 0x20, 3, 1, .w1c, 0x0, false, .any⟩
/-- QM_IRQ_CAUSE.ECC_CE (R246, Table 6-12). -/
def QM_IRQ_CAUSE_ECC_CE : Fld := ⟨0x00800000 + 0x20, 2, 1, .w1c, 0x0, false, .any⟩
/-- QM_IRQ_CAUSE.PTR_ERR (R246, Table 6-12). -/
def QM_IRQ_CAUSE_PTR_ERR : Fld := ⟨0x00800000 + 0x20, 1, 1, .w1c, 0x0, false, .any⟩
/-- QM_IRQ_CAUSE.ATTN (R246, Table 6-12). -/
def QM_IRQ_CAUSE_ATTN : Fld := ⟨0x00800000 + 0x20, 0, 1, .w1c, 0x0, false, .any⟩
/-- QM_ERRLOG0.VALID (R247, Table 6-13). -/
def QM_ERRLOG0_VALID : Fld := ⟨0x00800000 + 0x30, 31, 1, .w1c, 0x0, true, .any⟩
/-- QM_ERRLOG0.KIND (R247, Table 6-13). -/
def QM_ERRLOG0_KIND : Fld := ⟨0x00800000 + 0x30, 28, 3, .ro, 0, true, .any⟩
/-- QM_ERRLOG0.QUEUE (R247, Table 6-13). -/
def QM_ERRLOG0_QUEUE : Fld := ⟨0x00800000 + 0x30, 0, 14, .ro, 0, true, .any⟩
/-- QM_ERRLOG1.COPY_A (R247, Table 6-13). -/
def QM_ERRLOG1_COPY_A : Fld := ⟨0x00800000 + 0x34, 0, 21, .ro, 0, true, .any⟩
/-- QM_ERRLOG2.COPY_B (R247, Table 6-13). -/
def QM_ERRLOG2_COPY_B : Fld := ⟨0x00800000 + 0x38, 0, 21, .ro, 0, true, .any⟩
/-- QM_ERRLOG3.TICK_LO (R247, Table 6-13). -/
def QM_ERRLOG3_TICK_LO : Fld := ⟨0x00800000 + 0x3c, 0, 32, .ro, 0, true, .any⟩
/-- QM_Q_CMD.OP (R248, Table 6-14). -/
def QM_Q_CMD_OP : Fld := ⟨0x00800000 + 0x40, 16, 4, .wo, 0x0, false, .any⟩
/-- QM_Q_CMD.QUEUE (R248, Table 6-14). -/
def QM_Q_CMD_QUEUE : Fld := ⟨0x00800000 + 0x40, 0, 14, .wo, 0x0, false, .any⟩
/-- QM_Q_CMD_STAT.BUSY (R248, Table 6-14). -/
def QM_Q_CMD_STAT_BUSY : Fld := ⟨0x00800000 + 0x44, 31, 1, .ro, 0x0, false, .any⟩
/-- QM_Q_CMD_STAT.ABORT_LATE (R248, Table 6-14). -/
def QM_Q_CMD_STAT_ABORT_LATE : Fld := ⟨0x00800000 + 0x44, 30, 1, .ro, 0x0, false, .any⟩
/-- QM_Q_CMD_STAT.RESULT (R248, Table 6-14). -/
def QM_Q_CMD_STAT_RESULT : Fld := ⟨0x00800000 + 0x44, 0, 4, .ro, 0x0, false, .any⟩
/-- QM_HOST_CMD.OP (R249, Table 6-15). -/
def QM_HOST_CMD_OP : Fld := ⟨0x00800000 + 0x50, 28, 4, .wo, 0x0, false, .any⟩
/-- QM_HOST_CMD.EOP (R249, Table 6-15). -/
def QM_HOST_CMD_EOP : Fld := ⟨0x00800000 + 0x50, 27, 1, .wo, 0x0, false, .any⟩
/-- QM_HOST_CMD.VB (R249, Table 6-15). -/
def QM_HOST_CMD_VB : Fld := ⟨0x00800000 + 0x50, 24, 3, .wo, 0x0, false, .any⟩
/-- QM_HOST_CMD.QUEUE (R249, Table 6-15). -/
def QM_HOST_CMD_QUEUE : Fld := ⟨0x00800000 + 0x50, 0, 14, .wo, 0x0, false, .any⟩
/-- QM_HOST_STAT.BUSY (R249, Table 6-15). -/
def QM_HOST_STAT_BUSY : Fld := ⟨0x00800000 + 0x54, 31, 1, .ro, 0x0, false, .any⟩
/-- QM_HOST_STAT.EMPTY (R249, Table 6-15). -/
def QM_HOST_STAT_EMPTY : Fld := ⟨0x00800000 + 0x54, 30, 1, .ro, 0x0, false, .any⟩
/-- QM_HOST_STAT.END (R249, Table 6-15). -/
def QM_HOST_STAT_END : Fld := ⟨0x00800000 + 0x54, 29, 1, .ro, 0x0, false, .any⟩
/-- QM_HOST_STAT.TRUNC (R249, Table 6-15). -/
def QM_HOST_STAT_TRUNC : Fld := ⟨0x00800000 + 0x54, 28, 1, .ro, 0x0, false, .any⟩
/-- QM_HOST_STAT.ERR (R249, Table 6-15). -/
def QM_HOST_STAT_ERR : Fld := ⟨0x00800000 + 0x54, 27, 1, .ro, 0x0, false, .any⟩
/-- QM_HOST_STAT.VB (R249, Table 6-15). -/
def QM_HOST_STAT_VB : Fld := ⟨0x00800000 + 0x54, 16, 6, .ro, 0x0, false, .any⟩
/-- QM_HOST_STAT.RESP (R249, Table 6-15). -/
def QM_HOST_STAT_RESP : Fld := ⟨0x00800000 + 0x54, 0, 4, .ro, 0x0, false, .any⟩
/-- QM_HOST_DATA.DATA (R249, Table 6-15). -/
def QM_HOST_DATA_DATA (i : Nat) : Fld := ⟨0x00800000 + 0x60 + i * 4, 0, 32, .rw, 0, false, .any⟩
/-- QM_ATTN.Q (R250, Table 6-16). -/
def QM_ATTN_Q (i : Nat) : Fld := ⟨0x00800000 + 0x1000 + i * 4, 0, 32, .ro, 0x0, false, .any⟩
/-- QM_SEAT.POP_SEATS (R251, Table 6-17). -/
def QM_SEAT_POP_SEATS (i : Nat) : Fld := ⟨0x00800000 + 0x10000 + i * 4, 8, 8, .rw, 0x0, true, .any⟩
/-- QM_SEAT.PUSH_SEATS (R251, Table 6-17). -/
def QM_SEAT_PUSH_SEATS (i : Nat) : Fld := ⟨0x00800000 + 0x10000 + i * 4, 0, 8, .rw, 0x0, true, .any⟩
/-- QM_PORT_STAT_P.SEATLESS (R252, Table 6-18). -/
def QM_PORT_STAT_P_SEATLESS (p : Nat) : Fld := ⟨0x00800000 + 0x20000 + p * 4, 16, 16, .ro, 0x0, false, .any⟩
/-- QM_PORT_STAT_C.SEATLESS (R252, Table 6-18). -/
def QM_PORT_STAT_C_SEATLESS (c : Nat) : Fld := ⟨0x00800000 + 0x20100 + c * 4, 16, 16, .ro, 0x0, false, .any⟩
/-- QM_PORT_STAT_P.BAD (R252, Table 6-18). -/
def QM_PORT_STAT_P_BAD (p : Nat) : Fld := ⟨0x00800000 + 0x20000 + p * 4, 0, 16, .ro, 0x0, false, .any⟩
/-- QM_PORT_STAT_C.BAD (R252, Table 6-18). -/
def QM_PORT_STAT_C_BAD (c : Nat) : Fld := ⟨0x00800000 + 0x20100 + c * 4, 0, 16, .ro, 0x0, false, .any⟩
/-- QM_SIN.EN (R253, Table 6-19). -/
def QM_SIN_EN (i : Nat) : Fld := ⟨0x00800000 + 0x30000 + i * 4, 31, 1, .rw, 0x0, true, .any⟩
/-- QM_SIN.WHOLE (R253, Table 6-19). -/
def QM_SIN_WHOLE (i : Nat) : Fld := ⟨0x00800000 + 0x30000 + i * 4, 16, 1, .rw, 0x0, true, .any⟩
/-- QM_SIN.QUEUE (R253, Table 6-19). -/
def QM_SIN_QUEUE (i : Nat) : Fld := ⟨0x00800000 + 0x30000 + i * 4, 0, 14, .rw, 0x0, true, .any⟩
/-- QD_CFG.EN (R254, Table 6-20). -/
def QD_CFG_EN (q : Nat) : Fld := ⟨(queueBase q) + 0x0, 31, 1, .rw, 0x0, true, .any⟩
/-- QD_CFG.MODE (R254, Table 6-20). -/
def QD_CFG_MODE (q : Nat) : Fld := ⟨(queueBase q) + 0x0, 29, 2, .rw, 0x0, true, (.zeroAt 3)⟩
/-- QD_CFG.PACK (R254, Table 6-20). -/
def QD_CFG_PACK (q : Nat) : Fld := ⟨(queueBase q) + 0x0, 28, 1, .rw, 0x0, true, .any⟩
/-- QD_CFG.WM_IRQ (R254, Table 6-20). -/
def QD_CFG_WM_IRQ (q : Nat) : Fld := ⟨(queueBase q) + 0x0, 27, 1, .rw, 0x0, true, .any⟩
/-- QD_CFG.KEY_EN (R254, Table 6-20). -/
def QD_CFG_KEY_EN (q : Nat) : Fld := ⟨(queueBase q) + 0x0, 26, 1, .rw, 0x0, true, .any⟩
/-- QD_CFG.KEY_IDX (R254, Table 6-20). -/
def QD_CFG_KEY_IDX (q : Nat) : Fld := ⟨(queueBase q) + 0x0, 20, 6, .rw, 0x0, true, .any⟩
/-- QD_CFG.MAX_CELLS (R254, Table 6-20). -/
def QD_CFG_MAX_CELLS (q : Nat) : Fld := ⟨(queueBase q) + 0x0, 0, 18, .rw, 0x0, true, .any⟩
/-- QD_BIND.CONS (R255, Table 6-21). -/
def QD_BIND_CONS (q : Nat) : Fld := ⟨(queueBase q) + 0x4, 8, 8, .rw, 0xff, true, .any⟩
/-- QD_BIND.PROD (R255, Table 6-21). -/
def QD_BIND_PROD (q : Nat) : Fld := ⟨(queueBase q) + 0x4, 0, 8, .rw, 0xff, true, .any⟩
/-- QD_WM.LEVEL (R255, Table 6-21). -/
def QD_WM_LEVEL (q : Nat) : Fld := ⟨(queueBase q) + 0x8, 0, 22, .rw, 0x0, true, .any⟩
/-- QD_OCC.OCC (R256, Table 6-22). -/
def QD_OCC_OCC (q : Nat) : Fld := ⟨(queueBase q) + 0xc, 0, 22, .ro, 0x0, false, .any⟩
/-- QD_DEPTH.DEPTH (R256, Table 6-22). -/
def QD_DEPTH_DEPTH (q : Nat) : Fld := ⟨(queueBase q) + 0x10, 0, 22, .ro, 0x0, false, .any⟩
/-- QD_PKT.GEN (R256, Table 6-22). -/
def QD_PKT_GEN (q : Nat) : Fld := ⟨(queueBase q) + 0x14, 24, 8, .ro, 0x0, false, .any⟩
/-- QD_PKT.PKT_COUNT (R256, Table 6-22). -/
def QD_PKT_PKT_COUNT (q : Nat) : Fld := ⟨(queueBase q) + 0x14, 0, 22, .ro, 0x0, false, .any⟩
/-- QD_STAT.WM_COUNT (R257, Table 6-23). -/
def QD_STAT_WM_COUNT (q : Nat) : Fld := ⟨(queueBase q) + 0x18, 16, 16, .ro, 0x0, false, .any⟩
/-- QD_STAT.LOCKED (R257, Table 6-23). -/
def QD_STAT_LOCKED (q : Nat) : Fld := ⟨(queueBase q) + 0x18, 10, 1, .ro, 0x0, false, .any⟩
/-- QD_STAT.DISCARDING (R257, Table 6-23). -/
def QD_STAT_DISCARDING (q : Nat) : Fld := ⟨(queueBase q) + 0x18, 9, 1, .ro, 0x0, false, .any⟩
/-- QD_STAT.MARKED (R257, Table 6-23). -/
def QD_STAT_MARKED (q : Nat) : Fld := ⟨(queueBase q) + 0x18, 8, 1, .ro, 0x0, false, .any⟩
/-- QD_STAT.ABOVE (R257, Table 6-23). -/
def QD_STAT_ABOVE (q : Nat) : Fld := ⟨(queueBase q) + 0x18, 7, 1, .ro, 0x0, false, .any⟩
/-- QD_STAT.TRUNC (R257, Table 6-23). -/
def QD_STAT_TRUNC (q : Nat) : Fld := ⟨(queueBase q) + 0x18, 3, 1, .w1c, 0x0, false, .any⟩
/-- QD_STAT.PTR_ERR (R257, Table 6-23). -/
def QD_STAT_PTR_ERR (q : Nat) : Fld := ⟨(queueBase q) + 0x18, 2, 1, .w1c, 0x0, false, .any⟩
/-- QD_STAT.OVERRUN (R257, Table 6-23). -/
def QD_STAT_OVERRUN (q : Nat) : Fld := ⟨(queueBase q) + 0x18, 1, 1, .w1c, 0x0, false, .any⟩
/-- QD_STAT.WM_EVENT (R257, Table 6-23). -/
def QD_STAT_WM_EVENT (q : Nat) : Fld := ⟨(queueBase q) + 0x18, 0, 1, .w1c, 0x0, false, .any⟩
/-- QD_DROP.WORDS (R257, Table 6-23). -/
def QD_DROP_WORDS (q : Nat) : Fld := ⟨(queueBase q) + 0x1c, 0, 32, .ro, 0x0, false, .any⟩
/-- QM_IRQ_EN.POOL_LOW (R246, Table 6-12). -/
def QM_IRQ_EN_POOL_LOW : Fld := ⟨0x00800000 + 0x24, 4, 1, .rw, 0x0, false, .any⟩
/-- QM_IRQ_EN.ECC_UE (R246, Table 6-12). -/
def QM_IRQ_EN_ECC_UE : Fld := ⟨0x00800000 + 0x24, 3, 1, .rw, 0x0, false, .any⟩
/-- QM_IRQ_EN.ECC_CE (R246, Table 6-12). -/
def QM_IRQ_EN_ECC_CE : Fld := ⟨0x00800000 + 0x24, 2, 1, .rw, 0x0, false, .any⟩
/-- QM_IRQ_EN.PTR_ERR (R246, Table 6-12). -/
def QM_IRQ_EN_PTR_ERR : Fld := ⟨0x00800000 + 0x24, 1, 1, .rw, 0x0, false, .any⟩
/-- QM_IRQ_EN.ATTN (R246, Table 6-12). -/
def QM_IRQ_EN_ATTN : Fld := ⟨0x00800000 + 0x24, 0, 1, .rw, 0x0, false, .any⟩

/-- The fields of the queueGlobal registers that stand once per block. -/
def queueGlobalFlds : List Fld :=
  [QM_STATUS_STATE, QM_POOL_FREE, QM_QUAR_CELLS, QM_POOL_LOW_LEVEL, QM_SWEEP_PASSES, QM_SWEEP_LAST_US, QM_SWEEP_FREED_CELLS, QM_ECC_UE_COUNT, QM_ECC_CE_COUNT, QM_IRQ_CAUSE_POOL_LOW, QM_IRQ_CAUSE_ECC_UE, QM_IRQ_CAUSE_ECC_CE, QM_IRQ_CAUSE_PTR_ERR, QM_IRQ_CAUSE_ATTN, QM_ERRLOG0_VALID, QM_ERRLOG0_KIND, QM_ERRLOG0_QUEUE, QM_ERRLOG1_COPY_A, QM_ERRLOG2_COPY_B, QM_ERRLOG3_TICK_LO, QM_Q_CMD_OP, QM_Q_CMD_QUEUE, QM_Q_CMD_STAT_BUSY, QM_Q_CMD_STAT_ABORT_LATE, QM_Q_CMD_STAT_RESULT, QM_HOST_CMD_OP, QM_HOST_CMD_EOP, QM_HOST_CMD_VB, QM_HOST_CMD_QUEUE, QM_HOST_STAT_BUSY, QM_HOST_STAT_EMPTY, QM_HOST_STAT_END, QM_HOST_STAT_TRUNC, QM_HOST_STAT_ERR, QM_HOST_STAT_VB, QM_HOST_STAT_RESP, QM_IRQ_EN_POOL_LOW, QM_IRQ_EN_ECC_UE, QM_IRQ_EN_ECC_CE, QM_IRQ_EN_PTR_ERR, QM_IRQ_EN_ATTN]
/-- The fields of the register at address `a` of the queueGlobal registers, none where no register stands. -/
def queueGlobalAt (a : Nat) : List Fld :=
  (queueGlobalFlds).filter (fun f => f.addr == a)
  ++ arrayAt a (0x00800000 + 0x60) 4 8 (fun i => [QM_HOST_DATA_DATA i])
  ++ arrayAt a (0x00800000 + 0x1000) 4 512 (fun i => [QM_ATTN_Q i])
  ++ arrayAt a (0x00800000 + 0x10000) 4 2048 (fun i => if i % 16 < 10 then [QM_SEAT_POP_SEATS i, QM_SEAT_PUSH_SEATS i] else [])
  ++ arrayAt a (0x00800000 + 0x20000) 4 64 (fun i => [QM_PORT_STAT_P_SEATLESS i, QM_PORT_STAT_P_BAD i])
  ++ arrayAt a (0x00800000 + 0x20100) 4 32 (fun i => [QM_PORT_STAT_C_SEATLESS i, QM_PORT_STAT_C_BAD i])
  ++ arrayAt a (0x00800000 + 0x30000) 4 512 (fun i => [QM_SIN_EN i, QM_SIN_WHOLE i, QM_SIN_QUEUE i])
/-- The fields of the queue registers that stand once per block. -/
def queueFlds (q : Nat) : List Fld :=
  [QD_CFG_EN q, QD_CFG_MODE q, QD_CFG_PACK q, QD_CFG_WM_IRQ q, QD_CFG_KEY_EN q, QD_CFG_KEY_IDX q, QD_CFG_MAX_CELLS q, QD_BIND_CONS q, QD_BIND_PROD q, QD_WM_LEVEL q, QD_OCC_OCC q, QD_DEPTH_DEPTH q, QD_PKT_GEN q, QD_PKT_PKT_COUNT q, QD_STAT_WM_COUNT q, QD_STAT_LOCKED q, QD_STAT_DISCARDING q, QD_STAT_MARKED q, QD_STAT_ABOVE q, QD_STAT_TRUNC q, QD_STAT_PTR_ERR q, QD_STAT_OVERRUN q, QD_STAT_WM_EVENT q, QD_DROP_WORDS q]
/-- The fields of the register at address `a` of the queue registers, none where no register stands. -/
def queueAt (q : Nat) (a : Nat) : List Fld :=
  (queueFlds q).filter (fun f => f.addr == a)

end Sys2Proof.Machine.Reg
end

