-- ==== Sys2Proof/Machine/RegsRing.lean ====
section
/-! DEFINITION. Register fields, from the tables of the spec: address, lowest bit, width, type, reset value,
whether it keeps its value across warm reset, and how a disallowed value is stored. The ring window (R48 to R58, R91 to R102). -/
namespace Sys2Proof.Machine.Reg

/-- RING_SCHED.ARM (R48, Table 1-6). -/
def RING_SCHED_ARM (r : Nat) : Fld := ⟨(ringBase r) + 0x0, 31, 1, .rw, 0x0, false, .any⟩
/-- RING_SCHED.SLIP_LIMIT (R48, Table 1-6). -/
def RING_SCHED_SLIP_LIMIT (r : Nat) : Fld := ⟨(ringBase r) + 0x0, 24, 4, .rw, 0x4, false, (.floor 1)⟩
/-- RING_SCHED.ACT_FIXED (R48, Table 1-6). -/
def RING_SCHED_ACT_FIXED (r : Nat) : Fld := ⟨(ringBase r) + 0x0, 20, 3, .rw, 0x0, false, .any⟩
/-- RING_SCHED.ACT_MODE (R48, Table 1-6). -/
def RING_SCHED_ACT_MODE (r : Nat) : Fld := ⟨(ringBase r) + 0x0, 18, 2, .rw, 0x0, false, .any⟩
/-- RING_SCHED.PHASE (R48, Table 1-6). -/
def RING_SCHED_PHASE (r : Nat) : Fld := ⟨(ringBase r) + 0x0, 8, 8, .rw, 0x0, false, .any⟩
/-- RING_SCHED.DIV (R48, Table 1-6). -/
def RING_SCHED_DIV (r : Nat) : Fld := ⟨(ringBase r) + 0x0, 0, 8, .rw, 0x0, false, .any⟩
/-- RING_ACT_SEQ.LEN (R49, Table 1-7). -/
def RING_ACT_SEQ_LEN (r : Nat) : Fld := ⟨(ringBase r) + 0x4, 24, 3, .rw, 0x0, false, .any⟩
/-- RING_ACT_SEQ.STEP (R49, Table 1-7). -/
def RING_ACT_SEQ_STEP (r : Nat) : Fld := ⟨(ringBase r) + 0x4, 0, 24, .rw, 0x0, false, .any⟩
/-- RING_ACT_DU.DU_TOTAL (R50, Table 1-8). -/
def RING_ACT_DU_DU_TOTAL (r a : Nat) : Fld := ⟨(ringBase r) + 0x10 + a * 4, 0, 29, .rw, 0x0, false, .any⟩
/-- RING_ACT_FIX.FIXED_NS (R50, Table 1-8). -/
def RING_ACT_FIX_FIXED_NS (r a : Nat) : Fld := ⟨(ringBase r) + 0x30 + a * 4, 0, 20, .rw, 0x0, false, .any⟩
/-- RING_STATUS.ACT_NOW (R51, Table 1-9). -/
def RING_STATUS_ACT_NOW (r : Nat) : Fld := ⟨(ringBase r) + 0x50, 21, 3, .ro, 0x0, false, .any⟩
/-- RING_STATUS.SEQ_POS (R51, Table 1-9). -/
def RING_STATUS_SEQ_POS (r : Nat) : Fld := ⟨(ringBase r) + 0x50, 18, 3, .ro, 0x0, false, .any⟩
/-- RING_STATUS.GROUPED (R51, Table 1-9). -/
def RING_STATUS_GROUPED (r : Nat) : Fld := ⟨(ringBase r) + 0x50, 17, 1, .ro, 0x0, false, .any⟩
/-- RING_STATUS.BUDGET_ERR (R51, Table 1-9). -/
def RING_STATUS_BUDGET_ERR (r : Nat) : Fld := ⟨(ringBase r) + 0x50, 16, 1, .ro, 0x0, false, .any⟩
/-- RING_STATUS.CONSEC (R51, Table 1-9). -/
def RING_STATUS_CONSEC (r : Nat) : Fld := ⟨(ringBase r) + 0x50, 12, 4, .ro, 0x0, false, .any⟩
/-- RING_STATUS.STALE_OUT (R51, Table 1-9). -/
def RING_STATUS_STALE_OUT (r : Nat) : Fld := ⟨(ringBase r) + 0x50, 11, 1, .ro, 0x0, false, .any⟩
/-- RING_STATUS.STATE (R51, Table 1-9). -/
def RING_STATUS_STATE (r : Nat) : Fld := ⟨(ringBase r) + 0x50, 0, 3, .ro, 0x0, false, .any⟩
/-- RING_CLOSE_LAST.LATE (R52, Table 1-10). -/
def RING_CLOSE_LAST_LATE (r : Nat) : Fld := ⟨(ringBase r) + 0x54, 31, 1, .ro, 0x0, false, .any⟩
/-- RING_CLOSE_LAST.CLOSE_NS (R52, Table 1-10). -/
def RING_CLOSE_LAST_CLOSE_NS (r : Nat) : Fld := ⟨(ringBase r) + 0x54, 0, 24, .ro, 0x0, false, .any⟩
/-- RING_SLACK_LAST.SLACK_NS (R52, Table 1-10). -/
def RING_SLACK_LAST_SLACK_NS (r : Nat) : Fld := ⟨(ringBase r) + 0x58, 0, 24, .ro, 0x0, false, .any⟩
/-- RING_SLACK_MIN.MIN_NS (R52, Table 1-10). -/
def RING_SLACK_MIN_MIN_NS (r : Nat) : Fld := ⟨(ringBase r) + 0x5c, 0, 24, .ro, 0xffffff, true, .any⟩
/-- RING_SLIP_COUNT.SLIPS (R53, Table 1-11). -/
def RING_SLIP_COUNT_SLIPS (r : Nat) : Fld := ⟨(ringBase r) + 0x60, 0, 32, .ro, 0x0, false, .any⟩
/-- RING_TICK_COUNT.TICKS (R53, Table 1-11). -/
def RING_TICK_COUNT_TICKS (r : Nat) : Fld := ⟨(ringBase r) + 0x64, 0, 32, .ro, 0x0, false, .any⟩
/-- RING_IRQ_CAUSE.REJOIN (R54, Table 1-12). -/
def RING_IRQ_CAUSE_REJOIN (r : Nat) : Fld := ⟨(ringBase r) + 0x68, 3, 1, .w1c, 0x0, false, .any⟩
/-- RING_IRQ_CAUSE.BUDGET_ERR (R54, Table 1-12). -/
def RING_IRQ_CAUSE_BUDGET_ERR (r : Nat) : Fld := ⟨(ringBase r) + 0x68, 2, 1, .w1c, 0x0, false, .any⟩
/-- RING_IRQ_CAUSE.FAULT (R54, Table 1-12). -/
def RING_IRQ_CAUSE_FAULT (r : Nat) : Fld := ⟨(ringBase r) + 0x68, 1, 1, .w1c, 0x0, false, .any⟩
/-- RING_IRQ_CAUSE.SLIP (R54, Table 1-12). -/
def RING_IRQ_CAUSE_SLIP (r : Nat) : Fld := ⟨(ringBase r) + 0x68, 0, 1, .w1c, 0x0, false, .any⟩
/-- RING_CMD.FORCE_SLIP (R55, Table 1-13). -/
def RING_CMD_FORCE_SLIP (r : Nat) : Fld := ⟨(ringBase r) + 0x70, 2, 1, .wo, 0x0, false, .any⟩
/-- RING_CMD.CLR_STATS (R55, Table 1-13). -/
def RING_CMD_CLR_STATS (r : Nat) : Fld := ⟨(ringBase r) + 0x70, 1, 1, .wo, 0x0, false, .any⟩
/-- RING_CMD.RESTART (R55, Table 1-13). -/
def RING_CMD_RESTART (r : Nat) : Fld := ⟨(ringBase r) + 0x70, 0, 1, .wo, 0x0, false, .any⟩
/-- RING_CFG_ID.DESIGN_ID (R91, Table 2-5). -/
def RING_CFG_ID_DESIGN_ID (r : Nat) : Fld := ⟨(ringBase r) + 0x100, 0, 32, .ro, 0x0, true, .any⟩
/-- RING_GROUP.EN (R92, Table 2-6). -/
def RING_GROUP_EN (r : Nat) : Fld := ⟨(ringBase r) + 0x104, 31, 1, .rw, 0x0, false, .any⟩
/-- RING_GROUP.LEAD (R92, Table 2-6). -/
def RING_GROUP_LEAD (r : Nat) : Fld := ⟨(ringBase r) + 0x104, 24, 7, .ro, r, false, .any⟩
/-- RING_GROUP.HEIGHT_M1 (R92, Table 2-6). -/
def RING_GROUP_HEIGHT_M1 (r : Nat) : Fld := ⟨(ringBase r) + 0x104, 4, 3, .rw, 0x0, false, .any⟩
/-- RING_GROUP.WIDTH_M1 (R92, Table 2-6). -/
def RING_GROUP_WIDTH_M1 (r : Nat) : Fld := ⟨(ringBase r) + 0x104, 0, 4, .rw, 0x0, false, .any⟩
/-- RING_EDGE_STATUS.MODE (R93, Table 2-7). -/
def RING_EDGE_STATUS_MODE (r : Nat) : Fld := ⟨(ringBase r) + 0x108, 16, 8, .ro, (edgeModeReset r), false, .any⟩
/-- RING_EDGE_STATUS.SENT (R93, Table 2-7). -/
def RING_EDGE_STATUS_SENT (r : Nat) : Fld := ⟨(ringBase r) + 0x108, 8, 8, .ro, 0xaa, false, .any⟩
/-- RING_EDGE_STATUS.RCVD (R93, Table 2-7). -/
def RING_EDGE_STATUS_RCVD (r : Nat) : Fld := ⟨(ringBase r) + 0x108, 0, 8, .ro, 0x0, false, .any⟩
/-- RING_SAFE_MODE.W_MODE (R94, Table 2-8). -/
def RING_SAFE_MODE_W_MODE (r : Nat) : Fld := ⟨(ringBase r) + 0x10c, 24, 8, .rw, 0x0, false, .any⟩
/-- RING_SAFE_MODE.S_MODE (R94, Table 2-8). -/
def RING_SAFE_MODE_S_MODE (r : Nat) : Fld := ⟨(ringBase r) + 0x10c, 16, 8, .rw, 0x0, false, .any⟩
/-- RING_SAFE_MODE.E_MODE (R94, Table 2-8). -/
def RING_SAFE_MODE_E_MODE (r : Nat) : Fld := ⟨(ringBase r) + 0x10c, 8, 8, .rw, 0x0, false, .any⟩
/-- RING_SAFE_MODE.N_MODE (R94, Table 2-8). -/
def RING_SAFE_MODE_N_MODE (r : Nat) : Fld := ⟨(ringBase r) + 0x10c, 0, 8, .rw, 0x0, false, .any⟩
/-- RING_SAFE_CONST_LO.CONST_LO (R95, Table 2-9). -/
def RING_SAFE_CONST_LO_CONST_LO (r : Nat) : Fld := ⟨(ringBase r) + 0x110, 0, 32, .rw, 0x0, false, .any⟩
/-- RING_SAFE_CONST_HI.CONST_HI (R95, Table 2-9). -/
def RING_SAFE_CONST_HI_CONST_HI (r : Nat) : Fld := ⟨(ringBase r) + 0x114, 0, 32, .rw, 0x0, false, .any⟩
/-- RING_MEM_HOST.SHARED (R96, Table 2-10). -/
def RING_MEM_HOST_SHARED (r : Nat) : Fld := ⟨(ringBase r) + 0x118, 0, 32, .rw, 0x0, false, .any⟩
/-- RING_MEM_ECC.UE_COUNT (R97, Table 2-11). -/
def RING_MEM_ECC_UE_COUNT (r : Nat) : Fld := ⟨(ringBase r) + 0x11c, 16, 16, .ro, 0x0, false, .any⟩
/-- RING_MEM_ECC.CE_COUNT (R97, Table 2-11). -/
def RING_MEM_ECC_CE_COUNT (r : Nat) : Fld := ⟨(ringBase r) + 0x11c, 0, 16, .ro, 0x0, false, .any⟩
/-- RING_MEM_ECC_ADDR.VALID (R97, Table 2-11). -/
def RING_MEM_ECC_ADDR_VALID (r : Nat) : Fld := ⟨(ringBase r) + 0x120, 31, 1, .ro, 0x0, false, .any⟩
/-- RING_MEM_ECC_ADDR.HOST (R97, Table 2-11). -/
def RING_MEM_ECC_ADDR_HOST (r : Nat) : Fld := ⟨(ringBase r) + 0x120, 30, 1, .ro, 0, false, .any⟩
/-- RING_MEM_ECC_ADDR.PORT (R97, Table 2-11). -/
def RING_MEM_ECC_ADDR_PORT (r : Nat) : Fld := ⟨(ringBase r) + 0x120, 29, 1, .ro, 0, false, .any⟩
/-- RING_MEM_ECC_ADDR.BLOCK (R97, Table 2-11). -/
def RING_MEM_ECC_ADDR_BLOCK (r : Nat) : Fld := ⟨(ringBase r) + 0x120, 10, 5, .ro, 0, false, .any⟩
/-- RING_MEM_ECC_ADDR.WORD (R97, Table 2-11). -/
def RING_MEM_ECC_ADDR_WORD (r : Nat) : Fld := ⟨(ringBase r) + 0x120, 0, 10, .ro, 0, false, .any⟩
/-- RING_QUIESCE.DONE (R98, Table 2-12). -/
def RING_QUIESCE_DONE (r : Nat) : Fld := ⟨(ringBase r) + 0x124, 31, 1, .ro, 0x0, false, .any⟩
/-- RING_QUIESCE_DL.DONE (R98, Table 2-12). -/
def RING_QUIESCE_DL_DONE (r : Nat) : Fld := ⟨(ringBase r) + 0x128, 31, 1, .ro, 0x0, false, .any⟩
/-- RING_QUIESCE.OUT_PENDING (R98, Table 2-12). -/
def RING_QUIESCE_OUT_PENDING (r : Nat) : Fld := ⟨(ringBase r) + 0x124, 30, 1, .ro, 0x0, false, .any⟩
/-- RING_QUIESCE_DL.OUT_PENDING (R98, Table 2-12). -/
def RING_QUIESCE_DL_OUT_PENDING (r : Nat) : Fld := ⟨(ringBase r) + 0x128, 30, 1, .ro, 0x0, false, .any⟩
/-- RING_QUIESCE.TOKENS (R98, Table 2-12). -/
def RING_QUIESCE_TOKENS (r : Nat) : Fld := ⟨(ringBase r) + 0x124, 29, 1, .ro, 0x0, false, .any⟩
/-- RING_QUIESCE_DL.TOKENS (R98, Table 2-12). -/
def RING_QUIESCE_DL_TOKENS (r : Nat) : Fld := ⟨(ringBase r) + 0x128, 29, 1, .ro, 0x0, false, .any⟩
/-- RING_QUIESCE.ENG_PENDING (R98, Table 2-12). -/
def RING_QUIESCE_ENG_PENDING (r : Nat) : Fld := ⟨(ringBase r) + 0x124, 16, 8, .ro, 0x0, false, .any⟩
/-- RING_QUIESCE_DL.ENG_PENDING (R98, Table 2-12). -/
def RING_QUIESCE_DL_ENG_PENDING (r : Nat) : Fld := ⟨(ringBase r) + 0x128, 16, 8, .ro, 0x0, false, .any⟩
/-- RING_QUIESCE.REQ_PENDING (R98, Table 2-12). -/
def RING_QUIESCE_REQ_PENDING (r : Nat) : Fld := ⟨(ringBase r) + 0x124, 0, 16, .ro, 0x0, false, .any⟩
/-- RING_QUIESCE_DL.REQ_PENDING (R98, Table 2-12). -/
def RING_QUIESCE_DL_REQ_PENDING (r : Nat) : Fld := ⟨(ringBase r) + 0x128, 0, 16, .ro, 0x0, false, .any⟩
/-- RING_FAB_STATUS.GROUP_ERR (R99, Table 2-13). -/
def RING_FAB_STATUS_GROUP_ERR (r : Nat) : Fld := ⟨(ringBase r) + 0x12c, 8, 1, .ro, 0x0, false, .any⟩
/-- RING_FAB_STATUS.MEM_BUSY (R99, Table 2-13). -/
def RING_FAB_STATUS_MEM_BUSY (r : Nat) : Fld := ⟨(ringBase r) + 0x12c, 4, 1, .ro, 0x0, false, .any⟩
/-- RING_FAB_STATUS.CLOSE_REASON (R99, Table 2-13). -/
def RING_FAB_STATUS_CLOSE_REASON (r : Nat) : Fld := ⟨(ringBase r) + 0x12c, 0, 3, .ro, 0x0, false, .any⟩
/-- RING_FAB_CMD.CLR_ECC (R100, Table 2-14). -/
def RING_FAB_CMD_CLR_ECC (r : Nat) : Fld := ⟨(ringBase r) + 0x130, 1, 1, .wo, 0x0, false, .any⟩
/-- RING_FAB_CMD.MEM_ZERO (R100, Table 2-14). -/
def RING_FAB_CMD_MEM_ZERO (r : Nat) : Fld := ⟨(ringBase r) + 0x130, 0, 1, .wo, 0x0, false, .any⟩
/-- RING_FAB_IRQ_CAUSE.ZERO_DONE (R102, Table 2-15). -/
def RING_FAB_IRQ_CAUSE_ZERO_DONE (r : Nat) : Fld := ⟨(ringBase r) + 0x134, 4, 1, .w1c, 0x0, false, .any⟩
/-- RING_FAB_IRQ_CAUSE.SAFE_ENTER (R102, Table 2-15). -/
def RING_FAB_IRQ_CAUSE_SAFE_ENTER (r : Nat) : Fld := ⟨(ringBase r) + 0x134, 3, 1, .w1c, 0x0, false, .any⟩
/-- RING_FAB_IRQ_CAUSE.GROUP_ERR (R102, Table 2-15). -/
def RING_FAB_IRQ_CAUSE_GROUP_ERR (r : Nat) : Fld := ⟨(ringBase r) + 0x134, 2, 1, .w1c, 0x0, false, .any⟩
/-- RING_FAB_IRQ_CAUSE.MEM_UE (R102, Table 2-15). -/
def RING_FAB_IRQ_CAUSE_MEM_UE (r : Nat) : Fld := ⟨(ringBase r) + 0x134, 1, 1, .w1c, 0x0, false, .any⟩
/-- RING_FAB_IRQ_CAUSE.MEM_CE (R102, Table 2-15). -/
def RING_FAB_IRQ_CAUSE_MEM_CE (r : Nat) : Fld := ⟨(ringBase r) + 0x134, 0, 1, .w1c, 0x0, false, .any⟩
/-- RING_IRQ_EN.REJOIN (R54, Table 1-12). -/
def RING_IRQ_EN_REJOIN (r : Nat) : Fld := ⟨(ringBase r) + 0x6c, 3, 1, .rw, 0x0, false, .any⟩
/-- RING_IRQ_EN.BUDGET_ERR (R54, Table 1-12). -/
def RING_IRQ_EN_BUDGET_ERR (r : Nat) : Fld := ⟨(ringBase r) + 0x6c, 2, 1, .rw, 0x0, false, .any⟩
/-- RING_IRQ_EN.FAULT (R54, Table 1-12). -/
def RING_IRQ_EN_FAULT (r : Nat) : Fld := ⟨(ringBase r) + 0x6c, 1, 1, .rw, 0x0, false, .any⟩
/-- RING_IRQ_EN.SLIP (R54, Table 1-12). -/
def RING_IRQ_EN_SLIP (r : Nat) : Fld := ⟨(ringBase r) + 0x6c, 0, 1, .rw, 0x0, false, .any⟩
/-- RING_FAB_IRQ_EN.ZERO_DONE (R102, Table 2-15). -/
def RING_FAB_IRQ_EN_ZERO_DONE (r : Nat) : Fld := ⟨(ringBase r) + 0x138, 4, 1, .rw, 0x0, false, .any⟩
/-- RING_FAB_IRQ_EN.SAFE_ENTER (R102, Table 2-15). -/
def RING_FAB_IRQ_EN_SAFE_ENTER (r : Nat) : Fld := ⟨(ringBase r) + 0x138, 3, 1, .rw, 0x0, false, .any⟩
/-- RING_FAB_IRQ_EN.GROUP_ERR (R102, Table 2-15). -/
def RING_FAB_IRQ_EN_GROUP_ERR (r : Nat) : Fld := ⟨(ringBase r) + 0x138, 2, 1, .rw, 0x0, false, .any⟩
/-- RING_FAB_IRQ_EN.MEM_UE (R102, Table 2-15). -/
def RING_FAB_IRQ_EN_MEM_UE (r : Nat) : Fld := ⟨(ringBase r) + 0x138, 1, 1, .rw, 0x0, false, .any⟩
/-- RING_FAB_IRQ_EN.MEM_CE (R102, Table 2-15). -/
def RING_FAB_IRQ_EN_MEM_CE (r : Nat) : Fld := ⟨(ringBase r) + 0x138, 0, 1, .rw, 0x0, false, .any⟩

/-- The fields of the ring registers that stand once per block. -/
def ringFlds0 (r : Nat) : List Fld :=
  [RING_SCHED_ARM r, RING_SCHED_SLIP_LIMIT r, RING_SCHED_ACT_FIXED r, RING_SCHED_ACT_MODE r, RING_SCHED_PHASE r, RING_SCHED_DIV r, RING_ACT_SEQ_LEN r, RING_ACT_SEQ_STEP r, RING_STATUS_ACT_NOW r, RING_STATUS_SEQ_POS r, RING_STATUS_GROUPED r, RING_STATUS_BUDGET_ERR r, RING_STATUS_CONSEC r, RING_STATUS_STALE_OUT r, RING_STATUS_STATE r, RING_CLOSE_LAST_LATE r, RING_CLOSE_LAST_CLOSE_NS r, RING_SLACK_LAST_SLACK_NS r, RING_SLACK_MIN_MIN_NS r, RING_SLIP_COUNT_SLIPS r, RING_TICK_COUNT_TICKS r, RING_IRQ_CAUSE_REJOIN r, RING_IRQ_CAUSE_BUDGET_ERR r, RING_IRQ_CAUSE_FAULT r, RING_IRQ_CAUSE_SLIP r, RING_CMD_FORCE_SLIP r, RING_CMD_CLR_STATS r, RING_CMD_RESTART r, RING_CFG_ID_DESIGN_ID r, RING_GROUP_EN r, RING_GROUP_LEAD r, RING_GROUP_HEIGHT_M1 r, RING_GROUP_WIDTH_M1 r, RING_EDGE_STATUS_MODE r, RING_EDGE_STATUS_SENT r, RING_EDGE_STATUS_RCVD r, RING_SAFE_MODE_W_MODE r, RING_SAFE_MODE_S_MODE r, RING_SAFE_MODE_E_MODE r, RING_SAFE_MODE_N_MODE r, RING_SAFE_CONST_LO_CONST_LO r, RING_SAFE_CONST_HI_CONST_HI r, RING_MEM_HOST_SHARED r, RING_MEM_ECC_UE_COUNT r, RING_MEM_ECC_CE_COUNT r, RING_MEM_ECC_ADDR_VALID r, RING_MEM_ECC_ADDR_HOST r, RING_MEM_ECC_ADDR_PORT r, RING_MEM_ECC_ADDR_BLOCK r, RING_MEM_ECC_ADDR_WORD r, RING_QUIESCE_DONE r, RING_QUIESCE_DL_DONE r, RING_QUIESCE_OUT_PENDING r, RING_QUIESCE_DL_OUT_PENDING r, RING_QUIESCE_TOKENS r, RING_QUIESCE_DL_TOKENS r, RING_QUIESCE_ENG_PENDING r, RING_QUIESCE_DL_ENG_PENDING r, RING_QUIESCE_REQ_PENDING r, RING_QUIESCE_DL_REQ_PENDING r]
/-- The fields of the ring registers that stand once per block. -/
def ringFlds1 (r : Nat) : List Fld :=
  [RING_FAB_STATUS_GROUP_ERR r, RING_FAB_STATUS_MEM_BUSY r, RING_FAB_STATUS_CLOSE_REASON r, RING_FAB_CMD_CLR_ECC r, RING_FAB_CMD_MEM_ZERO r, RING_FAB_IRQ_CAUSE_ZERO_DONE r, RING_FAB_IRQ_CAUSE_SAFE_ENTER r, RING_FAB_IRQ_CAUSE_GROUP_ERR r, RING_FAB_IRQ_CAUSE_MEM_UE r, RING_FAB_IRQ_CAUSE_MEM_CE r, RING_IRQ_EN_REJOIN r, RING_IRQ_EN_BUDGET_ERR r, RING_IRQ_EN_FAULT r, RING_IRQ_EN_SLIP r, RING_FAB_IRQ_EN_ZERO_DONE r, RING_FAB_IRQ_EN_SAFE_ENTER r, RING_FAB_IRQ_EN_GROUP_ERR r, RING_FAB_IRQ_EN_MEM_UE r, RING_FAB_IRQ_EN_MEM_CE r]
/-- All of them. -/
def ringFlds (r : Nat) : List Fld := ringFlds0 r ++ ringFlds1 r
/-- The fields of the register at address `a` of the ring registers, none where no register stands. -/
def ringAt (r : Nat) (a : Nat) : List Fld :=
  (ringFlds r).filter (fun f => f.addr == a)
  ++ arrayAt a ((ringBase r) + 0x10) 4 8 (fun i => [RING_ACT_DU_DU_TOTAL r i])
  ++ arrayAt a ((ringBase r) + 0x30) 4 8 (fun i => [RING_ACT_FIX_FIXED_NS r i])

end Sys2Proof.Machine.Reg
end

