-- ==== Sys2Proof/Machine/RegsService.lean ====
section
/-! DEFINITION. Register fields, from the tables of the spec: address, lowest bit, width, type, reset value,
whether it keeps its value across warm reset, and how a disallowed value is stored. The configuration, Carousel, trim, self-test, recorder, pin and TS_TIMEOUT registers (R199, R485 to R492, R523 to R528, R552 to R555). -/
namespace Sys2Proof.Machine.Reg

/-- TS_TIMEOUT.CYCLES (R199, Table 5-16). -/
def TS_TIMEOUT_CYCLES : Fld := ⟨0x00470000 + 0x0, 0, 16, .rw, 0x400, true, (.floor 64)⟩
/-- CFG_STATUS.MODE (R485, Table 13-10). -/
def CFG_STATUS_MODE : Fld := ⟨0x00300000 + 0x0, 24, 3, .ro, 0, false, .any⟩
/-- CFG_STATUS.LAST_WARM (R485, Table 13-10). -/
def CFG_STATUS_LAST_WARM : Fld := ⟨0x00300000 + 0x0, 23, 1, .ro, 0x0, false, .any⟩
/-- CFG_STATUS.ABIST_SKIPPED (R485, Table 13-10). -/
def CFG_STATUS_ABIST_SKIPPED : Fld := ⟨0x00300000 + 0x0, 22, 1, .ro, 0x0, false, .any⟩
/-- CFG_STATUS.CFG_SKIPPED (R485, Table 13-10). -/
def CFG_STATUS_CFG_SKIPPED : Fld := ⟨0x00300000 + 0x0, 21, 1, .ro, 0x0, false, .any⟩
/-- CFG_STATUS.FULL_DONE (R485, Table 13-10). -/
def CFG_STATUS_FULL_DONE : Fld := ⟨0x00300000 + 0x0, 20, 1, .ro, 0x0, false, .any⟩
/-- CFG_STATUS.RELEASED (R485, Table 13-10). -/
def CFG_STATUS_RELEASED : Fld := ⟨0x00300000 + 0x0, 19, 1, .ro, 0x0, false, .any⟩
/-- CFG_STATUS.DONE_PIN (R485, Table 13-10). -/
def CFG_STATUS_DONE_PIN : Fld := ⟨0x00300000 + 0x0, 18, 1, .ro, 0x0, false, .any⟩
/-- CFG_STATUS.INIT_PIN (R485, Table 13-10). -/
def CFG_STATUS_INIT_PIN : Fld := ⟨0x00300000 + 0x0, 17, 1, .ro, 0x0, false, .any⟩
/-- CFG_STATUS.ENC_LAST (R485, Table 13-10). -/
def CFG_STATUS_ENC_LAST : Fld := ⟨0x00300000 + 0x0, 16, 1, .ro, 0x0, false, .any⟩
/-- CFG_STATUS.PARTIAL_LAST (R485, Table 13-10). -/
def CFG_STATUS_PARTIAL_LAST : Fld := ⟨0x00300000 + 0x0, 15, 1, .ro, 0x0, false, .any⟩
/-- CFG_STATUS.ABORT_LATE (R485, Table 13-10). -/
def CFG_STATUS_ABORT_LATE : Fld := ⟨0x00300000 + 0x0, 14, 1, .ro, 0x0, false, .any⟩
/-- CFG_STATUS.BUSY (R485, Table 13-10). -/
def CFG_STATUS_BUSY : Fld := ⟨0x00300000 + 0x0, 13, 1, .ro, 0x0, false, .any⟩
/-- CFG_STATUS.STATE (R485, Table 13-10). -/
def CFG_STATUS_STATE : Fld := ⟨0x00300000 + 0x0, 0, 3, .ro, 0x0, false, .any⟩
/-- CFG_ERR.VALID (R486, Table 13-11). -/
def CFG_ERR_VALID : Fld := ⟨0x00300000 + 0x4, 31, 1, .w1c, 0x0, true, .any⟩
/-- CFG_ERR.CODE (R486, Table 13-11). -/
def CFG_ERR_CODE : Fld := ⟨0x00300000 + 0x4, 16, 5, .ro, 0x0, true, .any⟩
/-- CFG_ERR.RESP (R486, Table 13-11). -/
def CFG_ERR_RESP : Fld := ⟨0x00300000 + 0x4, 12, 4, .ro, 0x0, true, .any⟩
/-- CFG_ERR.RECORD (R486, Table 13-11). -/
def CFG_ERR_RECORD : Fld := ⟨0x00300000 + 0x4, 0, 6, .ro, 0x0, true, .any⟩
/-- CFG_ERR_FADDR.FADDR (R486, Table 13-11). -/
def CFG_ERR_FADDR_FADDR : Fld := ⟨0x00300000 + 0x8, 0, 32, .ro, 0, true, .any⟩
/-- CFG_CTRL.LOCK (R487, Table 13-12). -/
def CFG_CTRL_LOCK : Fld := ⟨0x00300000 + 0xc, 31, 1, .rwl, 0x0, true, .any⟩
/-- CFG_CTRL.REQUIRE_ENC (R487, Table 13-12). -/
def CFG_CTRL_REQUIRE_ENC : Fld := ⟨0x00300000 + 0xc, 30, 1, .rwl, 0x0, true, .any⟩
/-- CFG_CTRL.WAIT_XMC (R487, Table 13-12). -/
def CFG_CTRL_WAIT_XMC : Fld := ⟨0x00300000 + 0xc, 1, 1, .rw, 0x1, true, .any⟩
/-- CFG_CTRL.RETAIN (R487, Table 13-12). -/
def CFG_CTRL_RETAIN : Fld := ⟨0x00300000 + 0xc, 0, 1, .rw, 0x0, true, .any⟩
/-- CFG_CMD.ABORT (R487, Table 13-12). -/
def CFG_CMD_ABORT : Fld := ⟨0x00300000 + 0x10, 0, 1, .wo, 0x0, false, .any⟩
/-- CFG_DESIGN.DESIGN_ID (R488, Table 13-13). -/
def CFG_DESIGN_DESIGN_ID : Fld := ⟨0x00300000 + 0x18, 0, 32, .ro, 0x0, true, .any⟩
/-- CFG_FRAMES.FRAMES (R488, Table 13-13). -/
def CFG_FRAMES_FRAMES : Fld := ⟨0x00300000 + 0x1c, 0, 32, .ro, 0x0, true, .any⟩
/-- CFG_MASK.MASK (R488, Table 13-13). -/
def CFG_MASK_MASK (i : Nat) : Fld := ⟨0x00300000 + 0x20 + i * 4, 0, 32, .ro, 0x0, true, .any⟩
/-- CFG_KEY_STATUS.PROGRAMMED (R489, Table 13-14). -/
def CFG_KEY_STATUS_PROGRAMMED : Fld := ⟨0x00300000 + 0x30, 31, 1, .ro, 0, true, .any⟩
/-- CFG_KEY_STATUS.REQ_ENC_FUSE (R489, Table 13-14). -/
def CFG_KEY_STATUS_REQ_ENC_FUSE : Fld := ⟨0x00300000 + 0x30, 30, 1, .ro, 0, true, .any⟩
/-- CFG_KEY_STATUS.FUSE_BUSY (R489, Table 13-14). -/
def CFG_KEY_STATUS_FUSE_BUSY : Fld := ⟨0x00300000 + 0x30, 29, 1, .ro, 0x0, true, .any⟩
/-- CFG_KEY_STATUS.KCV (R489, Table 13-14). -/
def CFG_KEY_STATUS_KCV : Fld := ⟨0x00300000 + 0x30, 0, 16, .ro, 0, true, .any⟩
/-- CFG_FUSE_DATA.KEY (R489, Table 13-14). -/
def CFG_FUSE_DATA_KEY (i : Nat) : Fld := ⟨0x00300000 + 0x100 + i * 4, 0, 32, .wo, 0x0, false, .any⟩
/-- CFG_FUSE_CMD.UNLOCK (R489, Table 13-14). -/
def CFG_FUSE_CMD_UNLOCK : Fld := ⟨0x00300000 + 0x120, 16, 16, .wo, 0x0, false, .any⟩
/-- CFG_FUSE_CMD.BURN_REQ_ENC (R489, Table 13-14). -/
def CFG_FUSE_CMD_BURN_REQ_ENC : Fld := ⟨0x00300000 + 0x120, 1, 1, .wo, 0x0, false, .any⟩
/-- CFG_FUSE_CMD.BURN_KEY (R489, Table 13-14). -/
def CFG_FUSE_CMD_BURN_KEY : Fld := ⟨0x00300000 + 0x120, 0, 1, .wo, 0x0, false, .any⟩
/-- CFG_IRQ_CAUSE.REPLAY_DONE (R490, Table 13-15). -/
def CFG_IRQ_CAUSE_REPLAY_DONE : Fld := ⟨0x00300000 + 0x40, 4, 1, .w1c, 0x0, false, .any⟩
/-- CFG_IRQ_CAUSE.DONE_LOW (R490, Table 13-15). -/
def CFG_IRQ_CAUSE_DONE_LOW : Fld := ⟨0x00300000 + 0x40, 3, 1, .w1c, 0x0, false, .any⟩
/-- CFG_IRQ_CAUSE.RELEASE (R490, Table 13-15). -/
def CFG_IRQ_CAUSE_RELEASE : Fld := ⟨0x00300000 + 0x40, 2, 1, .w1c, 0x0, false, .any⟩
/-- CFG_IRQ_CAUSE.LOAD_ERR (R490, Table 13-15). -/
def CFG_IRQ_CAUSE_LOAD_ERR : Fld := ⟨0x00300000 + 0x40, 1, 1, .w1c, 0x0, false, .any⟩
/-- CFG_IRQ_CAUSE.LOAD_DONE (R490, Table 13-15). -/
def CFG_IRQ_CAUSE_LOAD_DONE : Fld := ⟨0x00300000 + 0x40, 0, 1, .w1c, 0x0, false, .any⟩
/-- TRIM_SOURCE.STORED (R491, Table 13-16). -/
def TRIM_SOURCE_STORED : Fld := ⟨0x00460000 + 0x0, 8, 2, .ro, 0, true, .any⟩
/-- TRIM_SOURCE.IN_FORCE (R491, Table 13-16). -/
def TRIM_SOURCE_IN_FORCE : Fld := ⟨0x00460000 + 0x0, 0, 2, .ro, 0, true, .any⟩
/-- TRIM_ADDR.ADDR (R491, Table 13-16). -/
def TRIM_ADDR_ADDR : Fld := ⟨0x00460000 + 0x4, 0, 13, .rw, 0x0, false, .any⟩
/-- TRIM_DATA.DATA (R491, Table 13-16). -/
def TRIM_DATA_DATA : Fld := ⟨0x00460000 + 0x8, 0, 32, .rw, 0, false, .any⟩
/-- TRIM_CMD.OP (R491, Table 13-16). -/
def TRIM_CMD_OP : Fld := ⟨0x00460000 + 0xc, 28, 4, .wo, 0x0, false, .any⟩
/-- TRIM_CMD.CODE (R491, Table 13-16). -/
def TRIM_CMD_CODE : Fld := ⟨0x00460000 + 0xc, 0, 16, .wo, 0x0, false, .any⟩
/-- TRIM_STAT.BUSY (R491, Table 13-16). -/
def TRIM_STAT_BUSY : Fld := ⟨0x00460000 + 0x10, 31, 1, .ro, 0x0, false, .any⟩
/-- TRIM_STAT.ABORT_LATE (R491, Table 13-16). -/
def TRIM_STAT_ABORT_LATE : Fld := ⟨0x00460000 + 0x10, 30, 1, .ro, 0x0, false, .any⟩
/-- TRIM_STAT.FIELD_BUF (R491, Table 13-16). -/
def TRIM_STAT_FIELD_BUF : Fld := ⟨0x00460000 + 0x10, 29, 1, .ro, 0x0, false, .any⟩
/-- TRIM_STAT.COMMITS (R491, Table 13-16). -/
def TRIM_STAT_COMMITS : Fld := ⟨0x00460000 + 0x10, 0, 12, .ro, 0, false, .any⟩
/-- TRIM_STAT_RES.RESULT (R492, Table 13-17). -/
def TRIM_STAT_RES_RESULT : Fld := ⟨0x00460000 + 0x14, 0, 3, .ro, 0x0, false, .any⟩
/-- CAR_CTRL.EN (R523, Table 14-9). -/
def CAR_CTRL_EN : Fld := ⟨0x00300000 + 0x400, 31, 1, .rw, 0x1, true, .any⟩
/-- CAR_CTRL.UE_ACTION (R523, Table 14-9). -/
def CAR_CTRL_UE_ACTION : Fld := ⟨0x00300000 + 0x400, 30, 1, .rw, 0x1, true, .any⟩
/-- CAR_STATUS.PASSES (R523, Table 14-9). -/
def CAR_STATUS_PASSES : Fld := ⟨0x00300000 + 0x404, 16, 16, .ro, 0x0, false, .any⟩
/-- CAR_STATUS.LAST_CLEAN (R523, Table 14-9). -/
def CAR_STATUS_LAST_CLEAN : Fld := ⟨0x00300000 + 0x404, 15, 1, .ro, 0x0, false, .any⟩
/-- CAR_STATUS.ABORT_LATE (R523, Table 14-9). -/
def CAR_STATUS_ABORT_LATE : Fld := ⟨0x00300000 + 0x404, 14, 1, .ro, 0x0, false, .any⟩
/-- CAR_STATUS.SHADOW_BAD (R523, Table 14-9). -/
def CAR_STATUS_SHADOW_BAD : Fld := ⟨0x00300000 + 0x404, 13, 1, .ro, 0x0, false, .any⟩
/-- CAR_STATUS.LAST_UE_KIND (R523, Table 14-9). -/
def CAR_STATUS_LAST_UE_KIND : Fld := ⟨0x00300000 + 0x404, 11, 2, .ro, 0x0, false, .any⟩
/-- CAR_STATUS.SKIPPED (R523, Table 14-9). -/
def CAR_STATUS_SKIPPED : Fld := ⟨0x00300000 + 0x404, 3, 8, .ro, 0x0, false, .any⟩
/-- CAR_STATUS.STATE (R523, Table 14-9). -/
def CAR_STATUS_STATE : Fld := ⟨0x00300000 + 0x404, 0, 3, .ro, 0x0, false, .any⟩
/-- CAR_CMD.CLR_STATS (R523, Table 14-9). -/
def CAR_CMD_CLR_STATS : Fld := ⟨0x00300000 + 0x408, 2, 1, .wo, 0x0, false, .any⟩
/-- CAR_CMD.ABORT (R523, Table 14-9). -/
def CAR_CMD_ABORT : Fld := ⟨0x00300000 + 0x408, 1, 1, .wo, 0x0, false, .any⟩
/-- CAR_CMD.PASS (R523, Table 14-9). -/
def CAR_CMD_PASS : Fld := ⟨0x00300000 + 0x408, 0, 1, .wo, 0x0, false, .any⟩
/-- CAR_POS.INDEX (R523, Table 14-9). -/
def CAR_POS_INDEX : Fld := ⟨0x00300000 + 0x40c, 0, 17, .ro, 0x0, false, .any⟩
/-- CAR_COUNT.UE (R524, Table 14-10). -/
def CAR_COUNT_UE : Fld := ⟨0x00300000 + 0x410, 16, 16, .ro, 0x0, true, .any⟩
/-- CAR_COUNT.CE (R524, Table 14-10). -/
def CAR_COUNT_CE : Fld := ⟨0x00300000 + 0x410, 0, 16, .ro, 0x0, true, .any⟩
/-- CAR_SEQ.TMR (R524, Table 14-10). -/
def CAR_SEQ_TMR : Fld := ⟨0x00300000 + 0x414, 16, 16, .ro, 0x0, true, .any⟩
/-- CAR_SEQ.RESTARTS (R524, Table 14-10). -/
def CAR_SEQ_RESTARTS : Fld := ⟨0x00300000 + 0x414, 0, 16, .ro, 0x0, true, .any⟩
/-- CAR_LAST_UE.FADDR (R524, Table 14-10). -/
def CAR_LAST_UE_FADDR : Fld := ⟨0x00300000 + 0x418, 0, 32, .ro, 0, true, .any⟩
/-- CAR_BAD.RINGS (R524, Table 14-10). -/
def CAR_BAD_RINGS (i : Nat) : Fld := ⟨0x00300000 + 0x420 + i * 4, 0, 32, .ro, 0x0, true, .any⟩
/-- CAR_IRQ_CAUSE.HALTED (R524, Table 14-10). -/
def CAR_IRQ_CAUSE_HALTED : Fld := ⟨0x00300000 + 0x430, 4, 1, .w1c, 0x0, false, .any⟩
/-- CAR_IRQ_CAUSE.RESTART (R524, Table 14-10). -/
def CAR_IRQ_CAUSE_RESTART : Fld := ⟨0x00300000 + 0x430, 3, 1, .w1c, 0x0, false, .any⟩
/-- CAR_IRQ_CAUSE.UE (R524, Table 14-10). -/
def CAR_IRQ_CAUSE_UE : Fld := ⟨0x00300000 + 0x430, 2, 1, .w1c, 0x0, false, .any⟩
/-- CAR_IRQ_CAUSE.CE (R524, Table 14-10). -/
def CAR_IRQ_CAUSE_CE : Fld := ⟨0x00300000 + 0x430, 1, 1, .w1c, 0x0, false, .any⟩
/-- CAR_IRQ_CAUSE.PASS_DONE (R524, Table 14-10). -/
def CAR_IRQ_CAUSE_PASS_DONE : Fld := ⟨0x00300000 + 0x430, 0, 1, .w1c, 0x0, false, .any⟩
/-- BIST_CMD.OP (R525, Table 14-11). -/
def BIST_CMD_OP : Fld := ⟨0x00400000 + 0x0, 28, 4, .wo, 0x0, false, .any⟩
/-- BIST_CMD.KIND (R525, Table 14-11). -/
def BIST_CMD_KIND : Fld := ⟨0x00400000 + 0x0, 24, 3, .wo, 0x0, false, .any⟩
/-- BIST_TARGET.TARGET (R525, Table 14-11). -/
def BIST_TARGET_TARGET : Fld := ⟨0x00400000 + 0x4, 0, 32, .rw, 0x0, false, .any⟩
/-- BIST_CFG.OWN_EXP (R525, Table 14-11). -/
def BIST_CFG_OWN_EXP : Fld := ⟨0x00400000 + 0x8, 31, 1, .rw, 0x0, false, .any⟩
/-- BIST_CFG.COUNT (R525, Table 14-11). -/
def BIST_CFG_COUNT : Fld := ⟨0x00400000 + 0x8, 0, 24, .rw, 0x0, false, .any⟩
/-- BIST_EXP.SIG (R525, Table 14-11). -/
def BIST_EXP_SIG : Fld := ⟨0x00400000 + 0xc, 0, 32, .rw, 0x0, false, .any⟩
/-- BIST_STATUS.BUSY (R525, Table 14-11). -/
def BIST_STATUS_BUSY : Fld := ⟨0x00400000 + 0x10, 31, 1, .ro, 0x0, false, .any⟩
/-- BIST_STATUS.ABORT_LATE (R525, Table 14-11). -/
def BIST_STATUS_ABORT_LATE : Fld := ⟨0x00400000 + 0x10, 30, 1, .ro, 0x0, false, .any⟩
/-- BIST_STATUS.AUTO (R525, Table 14-11). -/
def BIST_STATUS_AUTO : Fld := ⟨0x00400000 + 0x10, 29, 1, .ro, 0x0, false, .any⟩
/-- BIST_STATUS.KIND (R525, Table 14-11). -/
def BIST_STATUS_KIND : Fld := ⟨0x00400000 + 0x10, 26, 3, .ro, 0x0, false, .any⟩
/-- BIST_STATUS.RESULT (R525, Table 14-11). -/
def BIST_STATUS_RESULT : Fld := ⟨0x00400000 + 0x10, 4, 4, .ro, 0x0, false, .any⟩
/-- BIST_STATUS.VERDICT (R525, Table 14-11). -/
def BIST_STATUS_VERDICT : Fld := ⟨0x00400000 + 0x10, 0, 3, .ro, 0x0, true, .any⟩
/-- BIST_DONE.PATTERNS (R526, Table 14-12). -/
def BIST_DONE_PATTERNS : Fld := ⟨0x00400000 + 0x14, 0, 24, .ro, 0x0, true, .any⟩
/-- BIST_SIG.SIG (R526, Table 14-12). -/
def BIST_SIG_SIG : Fld := ⟨0x00400000 + 0x18, 0, 32, .ro, 0x0, true, .any⟩
/-- BIST_FAILS.FAILS (R526, Table 14-12). -/
def BIST_FAILS_FAILS : Fld := ⟨0x00400000 + 0x1c, 0, 32, .ro, 0x0, true, .any⟩
/-- BIST_FAIL_ADDR.ARRAY (R526, Table 14-12). -/
def BIST_FAIL_ADDR_ARRAY : Fld := ⟨0x00400000 + 0x20, 16, 16, .ro, 0, true, .any⟩
/-- BIST_FAIL_ADDR.WORD (R526, Table 14-12). -/
def BIST_FAIL_ADDR_WORD : Fld := ⟨0x00400000 + 0x20, 0, 16, .ro, 0, true, .any⟩
/-- BIST_LIMITS.VCORE_MV (R526, Table 14-12). -/
def BIST_LIMITS_VCORE_MV : Fld := ⟨0x00400000 + 0x24, 16, 10, .ro, 0, true, .any⟩
/-- BIST_LIMITS.REFCLK (R526, Table 14-12). -/
def BIST_LIMITS_REFCLK : Fld := ⟨0x00400000 + 0x24, 0, 16, .ro, 0, true, .any⟩
/-- BIST_ABIST_LAST.VALID (R526, Table 14-12). -/
def BIST_ABIST_LAST_VALID : Fld := ⟨0x00400000 + 0x28, 31, 1, .ro, 0x0, true, .any⟩
/-- BIST_ABIST_LAST.TJ (R526, Table 14-12). -/
def BIST_ABIST_LAST_TJ : Fld := ⟨0x00400000 + 0x28, 22, 9, .ro, 0, true, .any⟩
/-- BIST_ABIST_LAST.AGE_MIN (R526, Table 14-12). -/
def BIST_ABIST_LAST_AGE_MIN : Fld := ⟨0x00400000 + 0x28, 0, 22, .ro, 0, true, .any⟩
/-- BIST_IRQ_CAUSE.BAD (R526, Table 14-12). -/
def BIST_IRQ_CAUSE_BAD : Fld := ⟨0x00400000 + 0x30, 1, 1, .w1c, 0x0, false, .any⟩
/-- BIST_IRQ_CAUSE.DONE (R526, Table 14-12). -/
def BIST_IRQ_CAUSE_DONE : Fld := ⟨0x00400000 + 0x30, 0, 1, .w1c, 0x0, false, .any⟩
/-- BBR_CTRL.TRIG (R527, Table 14-13). -/
def BBR_CTRL_TRIG : Fld := ⟨0x00400000 + 0x1000, 16, 16, .rw, 0xffff, true, .any⟩
/-- BBR_CTRL.TAP_EN (R527, Table 14-13). -/
def BBR_CTRL_TAP_EN : Fld := ⟨0x00400000 + 0x1000, 15, 1, .rw, 0x0, true, .any⟩
/-- BBR_CTRL.POST (R527, Table 14-13). -/
def BBR_CTRL_POST : Fld := ⟨0x00400000 + 0x1000, 0, 12, .rw, 0x100, true, .any⟩
/-- BBR_STATUS.FROZEN (R527, Table 14-13). -/
def BBR_STATUS_FROZEN : Fld := ⟨0x00400000 + 0x1004, 31, 1, .ro, 0x0, true, .any⟩
/-- BBR_STATUS.PENDING (R527, Table 14-13). -/
def BBR_STATUS_PENDING : Fld := ⟨0x00400000 + 0x1004, 30, 1, .ro, 0x0, true, .any⟩
/-- BBR_STATUS.TRIG_IDX (R527, Table 14-13). -/
def BBR_STATUS_TRIG_IDX : Fld := ⟨0x00400000 + 0x1004, 12, 12, .ro, 0x0, true, .any⟩
/-- BBR_STATUS.WR_PTR (R527, Table 14-13). -/
def BBR_STATUS_WR_PTR : Fld := ⟨0x00400000 + 0x1004, 0, 12, .ro, 0x0, true, .any⟩
/-- BBR_LOST.FROZEN (R527, Table 14-13). -/
def BBR_LOST_FROZEN : Fld := ⟨0x00400000 + 0x1008, 16, 16, .ro, 0x0, true, .any⟩
/-- BBR_LOST.QUEUE (R527, Table 14-13). -/
def BBR_LOST_QUEUE : Fld := ⟨0x00400000 + 0x1008, 0, 16, .ro, 0x0, true, .any⟩
/-- BBR_CMD.MARK_FATAL (R527, Table 14-13). -/
def BBR_CMD_MARK_FATAL : Fld := ⟨0x00400000 + 0x100c, 4, 1, .wo, 0x0, true, .any⟩
/-- BBR_CMD.CLEAR (R527, Table 14-13). -/
def BBR_CMD_CLEAR : Fld := ⟨0x00400000 + 0x100c, 3, 1, .wo, 0x0, true, .any⟩
/-- BBR_CMD.FREEZE (R527, Table 14-13). -/
def BBR_CMD_FREEZE : Fld := ⟨0x00400000 + 0x100c, 2, 1, .wo, 0x0, true, .any⟩
/-- BBR_CMD.UNFREEZE (R527, Table 14-13). -/
def BBR_CMD_UNFREEZE : Fld := ⟨0x00400000 + 0x100c, 1, 1, .wo, 0x0, true, .any⟩
/-- BBR_CMD.MARK (R527, Table 14-13). -/
def BBR_CMD_MARK : Fld := ⟨0x00400000 + 0x100c, 0, 1, .wo, 0x0, true, .any⟩
/-- BBR_MARK.DATA (R527, Table 14-13). -/
def BBR_MARK_DATA : Fld := ⟨0x00400000 + 0x1010, 0, 32, .rw, 0x0, true, .any⟩
/-- BBR_TAP_SKIP.ENTRIES (R527, Table 14-13). -/
def BBR_TAP_SKIP_ENTRIES : Fld := ⟨0x00400000 + 0x1014, 0, 32, .ro, 0x0, true, .any⟩
/-- BIST_ABIST_MAP.FAILS (R528, Table 14-14). -/
def BIST_ABIST_MAP_FAILS (i : Nat) : Fld := ⟨0x00400000 + 0x40 + i * 4, 0, 32, .ro, 0x0, true, .any⟩
/-- GPIO_PIN_CFG.EVT (R552, Table 15-8). -/
def GPIO_PIN_CFG_EVT (n : Nat) : Fld := ⟨0x00450000 + 0x0 + n * 4, 16, 2, .rw, 0x0, true, .any⟩
/-- GPIO_PIN_CFG.FILT (R552, Table 15-8). -/
def GPIO_PIN_CFG_FILT (n : Nat) : Fld := ⟨0x00450000 + 0x0 + n * 4, 12, 2, .rw, 0x0, true, .any⟩
/-- GPIO_PIN_CFG.OD (R552, Table 15-8). -/
def GPIO_PIN_CFG_OD (n : Nat) : Fld := ⟨0x00450000 + 0x0 + n * 4, 9, 1, .rw, 0x0, true, .any⟩
/-- GPIO_PIN_CFG.SLEW (R552, Table 15-8). -/
def GPIO_PIN_CFG_SLEW (n : Nat) : Fld := ⟨0x00450000 + 0x0 + n * 4, 8, 1, .rw, 0x0, true, .any⟩
/-- GPIO_PIN_CFG.DRIVE (R552, Table 15-8). -/
def GPIO_PIN_CFG_DRIVE (n : Nat) : Fld := ⟨0x00450000 + 0x0 + n * 4, 6, 2, .rw, 0x1, true, .any⟩
/-- GPIO_PIN_CFG.PULL (R552, Table 15-8). -/
def GPIO_PIN_CFG_PULL (n : Nat) : Fld := ⟨0x00450000 + 0x0 + n * 4, 4, 2, .rw, 0x1, true, .any⟩
/-- GPIO_PIN_CFG.FUNC (R552, Table 15-8). -/
def GPIO_PIN_CFG_FUNC (n : Nat) : Fld := ⟨0x00450000 + 0x0 + n * 4, 0, 4, .rw, (if n < 35 then 1 else 0), true, .any⟩
/-- GPIO_OUT.OUT (R553, Table 15-9). -/
def GPIO_OUT_OUT (i : Nat) : Fld := ⟨0x00450000 + 0x200 + i * 4, 0, 32, .rw, 0x0, true, .any⟩
/-- GPIO_OUT_SET.SET (R553, Table 15-9). -/
def GPIO_OUT_SET_SET (i : Nat) : Fld := ⟨0x00450000 + 0x210 + i * 4, 0, 32, .wo, 0x0, false, .any⟩
/-- GPIO_OUT_CLR.CLR (R553, Table 15-9). -/
def GPIO_OUT_CLR_CLR (i : Nat) : Fld := ⟨0x00450000 + 0x220 + i * 4, 0, 32, .wo, 0x0, false, .any⟩
/-- GPIO_OE.OE (R553, Table 15-9). -/
def GPIO_OE_OE (i : Nat) : Fld := ⟨0x00450000 + 0x230 + i * 4, 0, 32, .rw, 0x0, true, .any⟩
/-- GPIO_IN.IN (R553, Table 15-9). -/
def GPIO_IN_IN (i : Nat) : Fld := ⟨0x00450000 + 0x240 + i * 4, 0, 32, .ro, 0, false, .any⟩
/-- GPIO_INF.INF (R553, Table 15-9). -/
def GPIO_INF_INF (i : Nat) : Fld := ⟨0x00450000 + 0x250 + i * 4, 0, 32, .ro, 0, false, .any⟩
/-- GPIO_IRQ_CAUSE.EDGE (R553, Table 15-9). -/
def GPIO_IRQ_CAUSE_EDGE (i : Nat) : Fld := ⟨0x00450000 + 0x260 + i * 4, 0, 32, .w1c, 0x0, false, .any⟩
/-- GPIO_BANK.VIO (R554, Table 15-10). -/
def GPIO_BANK_VIO (b : Nat) : Fld := ⟨0x00450000 + 0x300 + b * 4, 0, 3, .ro, 0, false, .any⟩
/-- GPIO_FILT.DEB_US (R554, Table 15-10). -/
def GPIO_FILT_DEB_US : Fld := ⟨0x00450000 + 0x320, 16, 16, .rw, 0x2710, true, (.floor 1)⟩
/-- GPIO_FILT.GLITCH (R554, Table 15-10). -/
def GPIO_FILT_GLITCH : Fld := ⟨0x00450000 + 0x320, 0, 4, .rw, 0x3, true, (.floor 1)⟩
/-- PIN_CONFLICT.MI2C_SDA (R554, Table 15-10). -/
def PIN_CONFLICT_MI2C_SDA : Fld := ⟨0x00450000 + 0x324, 27, 1, .w1c, 0x0, false, .any⟩
/-- PIN_CONFLICT.MI2C_SCL (R554, Table 15-10). -/
def PIN_CONFLICT_MI2C_SCL : Fld := ⟨0x00450000 + 0x324, 26, 1, .w1c, 0x0, false, .any⟩
/-- PIN_CONFLICT.ALERT_N (R554, Table 15-10). -/
def PIN_CONFLICT_ALERT_N : Fld := ⟨0x00450000 + 0x324, 25, 1, .w1c, 0x0, false, .any⟩
/-- PIN_CONFLICT.PPS_IN (R554, Table 15-10). -/
def PIN_CONFLICT_PPS_IN : Fld := ⟨0x00450000 + 0x324, 24, 1, .w1c, 0x0, false, .any⟩
/-- PIN_CONFLICT.MDIO (R554, Table 15-10). -/
def PIN_CONFLICT_MDIO : Fld := ⟨0x00450000 + 0x324, 18, 6, .w1c, 0x0, false, .any⟩
/-- PIN_CONFLICT.RXD (R554, Table 15-10). -/
def PIN_CONFLICT_RXD : Fld := ⟨0x00450000 + 0x324, 12, 6, .w1c, 0x0, false, .any⟩
/-- PIN_CONFLICT.I2C (R554, Table 15-10). -/
def PIN_CONFLICT_I2C : Fld := ⟨0x00450000 + 0x324, 0, 12, .w1c, 0x0, false, .any⟩
/-- GPIO_MISC_IRQ_CAUSE.BANK_CHG (R554, Table 15-10). -/
def GPIO_MISC_IRQ_CAUSE_BANK_CHG : Fld := ⟨0x00450000 + 0x328, 1, 1, .w1c, 0x0, false, .any⟩
/-- GPIO_MISC_IRQ_CAUSE.CONFLICT (R554, Table 15-10). -/
def GPIO_MISC_IRQ_CAUSE_CONFLICT : Fld := ⟨0x00450000 + 0x328, 0, 1, .w1c, 0x0, false, .any⟩
/-- I2C_CFG.EN (R555, Table 15-11). -/
def I2C_CFG_EN (b : Nat) : Fld := ⟨(i2cBase b) + 0x0, 31, 1, .rw, 0x0, true, .any⟩
/-- SPI_CFG.EN (R555, Table 15-11). -/
def SPI_CFG_EN (b : Nat) : Fld := ⟨(spiBase b) + 0x0, 31, 1, .rw, 0x0, true, .any⟩
/-- UART_CFG.EN (R555, Table 15-11). -/
def UART_CFG_EN (b : Nat) : Fld := ⟨(uartBase b) + 0x0, 31, 1, .rw, 0x0, true, .any⟩
/-- MDIO_CFG.EN (R555, Table 15-11). -/
def MDIO_CFG_EN (b : Nat) : Fld := ⟨(mdioBase b) + 0x0, 31, 1, .rw, 0x0, true, .any⟩
/-- I2C_CFG.TO_MS (R555, Table 15-11). -/
def I2C_CFG_TO_MS (b : Nat) : Fld := ⟨(i2cBase b) + 0x0, 16, 8, .rw, 0x19, true, .any⟩
/-- I2C_CFG.DIV (R555, Table 15-11). -/
def I2C_CFG_DIV (b : Nat) : Fld := ⟨(i2cBase b) + 0x0, 0, 10, .rw, 0xf9, true, .any⟩
/-- SPI_CFG.LSB (R555, Table 15-11). -/
def SPI_CFG_LSB (b : Nat) : Fld := ⟨(spiBase b) + 0x0, 18, 1, .rw, 0x0, true, .any⟩
/-- SPI_CFG.MODE (R555, Table 15-11). -/
def SPI_CFG_MODE (b : Nat) : Fld := ⟨(spiBase b) + 0x0, 16, 2, .rw, 0x0, true, .any⟩
/-- SPI_CFG.DIV (R555, Table 15-11). -/
def SPI_CFG_DIV (b : Nat) : Fld := ⟨(spiBase b) + 0x0, 0, 8, .rw, 0x9, true, .any⟩
/-- UART_CFG.FLOW (R555, Table 15-11). -/
def UART_CFG_FLOW (b : Nat) : Fld := ⟨(uartBase b) + 0x0, 20, 1, .rw, 0x0, true, .any⟩
/-- UART_CFG.PARITY (R555, Table 15-11). -/
def UART_CFG_PARITY (b : Nat) : Fld := ⟨(uartBase b) + 0x0, 18, 2, .rw, 0x0, true, .any⟩
/-- UART_CFG.STOP2 (R555, Table 15-11). -/
def UART_CFG_STOP2 (b : Nat) : Fld := ⟨(uartBase b) + 0x0, 17, 1, .rw, 0x0, true, .any⟩
/-- UART_CFG.DATA7 (R555, Table 15-11). -/
def UART_CFG_DATA7 (b : Nat) : Fld := ⟨(uartBase b) + 0x0, 16, 1, .rw, 0x0, true, .any⟩
/-- UART_CFG.DIV (R555, Table 15-11). -/
def UART_CFG_DIV (b : Nat) : Fld := ⟨(uartBase b) + 0x0, 0, 16, .rw, 0x35, true, .any⟩
/-- MDIO_CFG.DIV (R555, Table 15-11). -/
def MDIO_CFG_DIV (b : Nat) : Fld := ⟨(mdioBase b) + 0x0, 0, 8, .rw, 0x13, true, (.floor 3)⟩
/-- I2C_XFER.ADDR (R555, Table 15-11). -/
def I2C_XFER_ADDR (b : Nat) : Fld := ⟨(i2cBase b) + 0x4, 16, 7, .wo, 0x0, true, .any⟩
/-- I2C_XFER.RLEN (R555, Table 15-11). -/
def I2C_XFER_RLEN (b : Nat) : Fld := ⟨(i2cBase b) + 0x4, 8, 5, .wo, 0x0, true, .any⟩
/-- I2C_XFER.WLEN (R555, Table 15-11). -/
def I2C_XFER_WLEN (b : Nat) : Fld := ⟨(i2cBase b) + 0x4, 0, 5, .wo, 0x0, true, .any⟩
/-- SPI_XFER.CS (R555, Table 15-11). -/
def SPI_XFER_CS (b : Nat) : Fld := ⟨(spiBase b) + 0x4, 8, 1, .wo, 0x0, true, .any⟩
/-- SPI_XFER.LEN (R555, Table 15-11). -/
def SPI_XFER_LEN (b : Nat) : Fld := ⟨(spiBase b) + 0x4, 0, 5, .wo, 0x0, true, .any⟩
/-- MDIO_XFER.CL45 (R555, Table 15-11). -/
def MDIO_XFER_CL45 (b : Nat) : Fld := ⟨(mdioBase b) + 0x4, 28, 1, .wo, 0x0, true, .any⟩
/-- MDIO_XFER.OP (R555, Table 15-11). -/
def MDIO_XFER_OP (b : Nat) : Fld := ⟨(mdioBase b) + 0x4, 26, 2, .wo, 0x0, true, .any⟩
/-- MDIO_XFER.PHYAD (R555, Table 15-11). -/
def MDIO_XFER_PHYAD (b : Nat) : Fld := ⟨(mdioBase b) + 0x4, 21, 5, .wo, 0x0, true, .any⟩
/-- MDIO_XFER.REGAD (R555, Table 15-11). -/
def MDIO_XFER_REGAD (b : Nat) : Fld := ⟨(mdioBase b) + 0x4, 16, 5, .wo, 0x0, true, .any⟩
/-- MDIO_XFER.DATA (R555, Table 15-11). -/
def MDIO_XFER_DATA (b : Nat) : Fld := ⟨(mdioBase b) + 0x4, 0, 16, .wo, 0x0, true, .any⟩
/-- I2C_TXD.DATA (R555, Table 15-11). -/
def I2C_TXD_DATA (b : Nat) : Fld := ⟨(i2cBase b) + 0x8, 0, 8, .wo, 0x0, false, .any⟩
/-- I2C_RXD.VALID (R555, Table 15-11). -/
def I2C_RXD_VALID (b : Nat) : Fld := ⟨(i2cBase b) + 0xc, 31, 1, .ro, 0x0, false, .any⟩
/-- I2C_RXD.PERR (R555, Table 15-11). -/
def I2C_RXD_PERR (b : Nat) : Fld := ⟨(i2cBase b) + 0xc, 10, 1, .ro, 0x0, false, .any⟩
/-- I2C_RXD.FERR (R555, Table 15-11). -/
def I2C_RXD_FERR (b : Nat) : Fld := ⟨(i2cBase b) + 0xc, 9, 1, .ro, 0x0, false, .any⟩
/-- I2C_RXD.DATA (R555, Table 15-11). -/
def I2C_RXD_DATA (b : Nat) : Fld := ⟨(i2cBase b) + 0xc, 0, 8, .ro, 0x0, false, .any⟩
/-- I2C_STAT.BUSY (R555, Table 15-11). -/
def I2C_STAT_BUSY (b : Nat) : Fld := ⟨(i2cBase b) + 0x10, 31, 1, .ro, 0x0, false, .any⟩
/-- I2C_STAT.RXLVL (R555, Table 15-11). -/
def I2C_STAT_RXLVL (b : Nat) : Fld := ⟨(i2cBase b) + 0x10, 16, 7, .ro, 0x0, false, .any⟩
/-- I2C_STAT.TXLVL (R555, Table 15-11). -/
def I2C_STAT_TXLVL (b : Nat) : Fld := ⟨(i2cBase b) + 0x10, 8, 7, .ro, 0x0, false, .any⟩
/-- I2C_STAT.RX_OVF (R555, Table 15-11). -/
def I2C_STAT_RX_OVF (b : Nat) : Fld := ⟨(i2cBase b) + 0x10, 5, 1, .w1c, 0x0, false, .any⟩
/-- I2C_STAT.TX_OVF (R555, Table 15-11). -/
def I2C_STAT_TX_OVF (b : Nat) : Fld := ⟨(i2cBase b) + 0x10, 4, 1, .w1c, 0x0, false, .any⟩
/-- I2C_STAT.TIMEOUT (R555, Table 15-11). -/
def I2C_STAT_TIMEOUT (b : Nat) : Fld := ⟨(i2cBase b) + 0x10, 3, 1, .w1c, 0x0, false, .any⟩
/-- I2C_STAT.ARB_LOST (R555, Table 15-11). -/
def I2C_STAT_ARB_LOST (b : Nat) : Fld := ⟨(i2cBase b) + 0x10, 2, 1, .w1c, 0x0, false, .any⟩
/-- I2C_STAT.NACK (R555, Table 15-11). -/
def I2C_STAT_NACK (b : Nat) : Fld := ⟨(i2cBase b) + 0x10, 1, 1, .w1c, 0x0, false, .any⟩
/-- I2C_IRQ_CAUSE.ERR (R555, Table 15-11). -/
def I2C_IRQ_CAUSE_ERR (b : Nat) : Fld := ⟨(i2cBase b) + 0x14, 1, 1, .w1c, 0x0, false, .any⟩
/-- I2C_IRQ_CAUSE.DONE (R555, Table 15-11). -/
def I2C_IRQ_CAUSE_DONE (b : Nat) : Fld := ⟨(i2cBase b) + 0x14, 0, 1, .w1c, 0x0, false, .any⟩
/-- I2C_IRQ_EN.ERR (R555, Table 15-11). -/
def I2C_IRQ_EN_ERR (b : Nat) : Fld := ⟨(i2cBase b) + 0x18, 1, 1, .rw, 0x0, false, .any⟩
/-- I2C_IRQ_EN.DONE (R555, Table 15-11). -/
def I2C_IRQ_EN_DONE (b : Nat) : Fld := ⟨(i2cBase b) + 0x18, 0, 1, .rw, 0x0, false, .any⟩
/-- SPI_TXD.DATA (R555, Table 15-11). -/
def SPI_TXD_DATA (b : Nat) : Fld := ⟨(spiBase b) + 0x8, 0, 8, .wo, 0x0, false, .any⟩
/-- SPI_RXD.VALID (R555, Table 15-11). -/
def SPI_RXD_VALID (b : Nat) : Fld := ⟨(spiBase b) + 0xc, 31, 1, .ro, 0x0, false, .any⟩
/-- SPI_RXD.PERR (R555, Table 15-11). -/
def SPI_RXD_PERR (b : Nat) : Fld := ⟨(spiBase b) + 0xc, 10, 1, .ro, 0x0, false, .any⟩
/-- SPI_RXD.FERR (R555, Table 15-11). -/
def SPI_RXD_FERR (b : Nat) : Fld := ⟨(spiBase b) + 0xc, 9, 1, .ro, 0x0, false, .any⟩
/-- SPI_RXD.DATA (R555, Table 15-11). -/
def SPI_RXD_DATA (b : Nat) : Fld := ⟨(spiBase b) + 0xc, 0, 8, .ro, 0x0, false, .any⟩
/-- SPI_STAT.BUSY (R555, Table 15-11). -/
def SPI_STAT_BUSY (b : Nat) : Fld := ⟨(spiBase b) + 0x10, 31, 1, .ro, 0x0, false, .any⟩
/-- SPI_STAT.RXLVL (R555, Table 15-11). -/
def SPI_STAT_RXLVL (b : Nat) : Fld := ⟨(spiBase b) + 0x10, 16, 7, .ro, 0x0, false, .any⟩
/-- SPI_STAT.TXLVL (R555, Table 15-11). -/
def SPI_STAT_TXLVL (b : Nat) : Fld := ⟨(spiBase b) + 0x10, 8, 7, .ro, 0x0, false, .any⟩
/-- SPI_STAT.RX_OVF (R555, Table 15-11). -/
def SPI_STAT_RX_OVF (b : Nat) : Fld := ⟨(spiBase b) + 0x10, 5, 1, .w1c, 0x0, false, .any⟩
/-- SPI_STAT.TX_OVF (R555, Table 15-11). -/
def SPI_STAT_TX_OVF (b : Nat) : Fld := ⟨(spiBase b) + 0x10, 4, 1, .w1c, 0x0, false, .any⟩
/-- SPI_STAT.TIMEOUT (R555, Table 15-11). -/
def SPI_STAT_TIMEOUT (b : Nat) : Fld := ⟨(spiBase b) + 0x10, 3, 1, .w1c, 0x0, false, .any⟩
/-- SPI_STAT.ARB_LOST (R555, Table 15-11). -/
def SPI_STAT_ARB_LOST (b : Nat) : Fld := ⟨(spiBase b) + 0x10, 2, 1, .w1c, 0x0, false, .any⟩
/-- SPI_STAT.NACK (R555, Table 15-11). -/
def SPI_STAT_NACK (b : Nat) : Fld := ⟨(spiBase b) + 0x10, 1, 1, .w1c, 0x0, false, .any⟩
/-- SPI_IRQ_CAUSE.ERR (R555, Table 15-11). -/
def SPI_IRQ_CAUSE_ERR (b : Nat) : Fld := ⟨(spiBase b) + 0x14, 1, 1, .w1c, 0x0, false, .any⟩
/-- SPI_IRQ_CAUSE.DONE (R555, Table 15-11). -/
def SPI_IRQ_CAUSE_DONE (b : Nat) : Fld := ⟨(spiBase b) + 0x14, 0, 1, .w1c, 0x0, false, .any⟩
/-- SPI_IRQ_EN.ERR (R555, Table 15-11). -/
def SPI_IRQ_EN_ERR (b : Nat) : Fld := ⟨(spiBase b) + 0x18, 1, 1, .rw, 0x0, false, .any⟩
/-- SPI_IRQ_EN.DONE (R555, Table 15-11). -/
def SPI_IRQ_EN_DONE (b : Nat) : Fld := ⟨(spiBase b) + 0x18, 0, 1, .rw, 0x0, false, .any⟩
/-- UART_TXD.DATA (R555, Table 15-11). -/
def UART_TXD_DATA (b : Nat) : Fld := ⟨(uartBase b) + 0x8, 0, 8, .wo, 0x0, false, .any⟩
/-- UART_RXD.VALID (R555, Table 15-11). -/
def UART_RXD_VALID (b : Nat) : Fld := ⟨(uartBase b) + 0xc, 31, 1, .ro, 0x0, false, .any⟩
/-- UART_RXD.PERR (R555, Table 15-11). -/
def UART_RXD_PERR (b : Nat) : Fld := ⟨(uartBase b) + 0xc, 10, 1, .ro, 0x0, false, .any⟩
/-- UART_RXD.FERR (R555, Table 15-11). -/
def UART_RXD_FERR (b : Nat) : Fld := ⟨(uartBase b) + 0xc, 9, 1, .ro, 0x0, false, .any⟩
/-- UART_RXD.DATA (R555, Table 15-11). -/
def UART_RXD_DATA (b : Nat) : Fld := ⟨(uartBase b) + 0xc, 0, 8, .ro, 0x0, false, .any⟩
/-- UART_STAT.BUSY (R555, Table 15-11). -/
def UART_STAT_BUSY (b : Nat) : Fld := ⟨(uartBase b) + 0x10, 31, 1, .ro, 0x0, false, .any⟩
/-- UART_STAT.RXLVL (R555, Table 15-11). -/
def UART_STAT_RXLVL (b : Nat) : Fld := ⟨(uartBase b) + 0x10, 16, 7, .ro, 0x0, false, .any⟩
/-- UART_STAT.TXLVL (R555, Table 15-11). -/
def UART_STAT_TXLVL (b : Nat) : Fld := ⟨(uartBase b) + 0x10, 8, 7, .ro, 0x0, false, .any⟩
/-- UART_STAT.RX_OVF (R555, Table 15-11). -/
def UART_STAT_RX_OVF (b : Nat) : Fld := ⟨(uartBase b) + 0x10, 5, 1, .w1c, 0x0, false, .any⟩
/-- UART_STAT.TX_OVF (R555, Table 15-11). -/
def UART_STAT_TX_OVF (b : Nat) : Fld := ⟨(uartBase b) + 0x10, 4, 1, .w1c, 0x0, false, .any⟩
/-- UART_STAT.TIMEOUT (R555, Table 15-11). -/
def UART_STAT_TIMEOUT (b : Nat) : Fld := ⟨(uartBase b) + 0x10, 3, 1, .w1c, 0x0, false, .any⟩
/-- UART_STAT.ARB_LOST (R555, Table 15-11). -/
def UART_STAT_ARB_LOST (b : Nat) : Fld := ⟨(uartBase b) + 0x10, 2, 1, .w1c, 0x0, false, .any⟩
/-- UART_STAT.NACK (R555, Table 15-11). -/
def UART_STAT_NACK (b : Nat) : Fld := ⟨(uartBase b) + 0x10, 1, 1, .w1c, 0x0, false, .any⟩
/-- UART_IRQ_CAUSE.ERR (R555, Table 15-11). -/
def UART_IRQ_CAUSE_ERR (b : Nat) : Fld := ⟨(uartBase b) + 0x14, 1, 1, .w1c, 0x0, false, .any⟩
/-- UART_IRQ_CAUSE.DONE (R555, Table 15-11). -/
def UART_IRQ_CAUSE_DONE (b : Nat) : Fld := ⟨(uartBase b) + 0x14, 0, 1, .w1c, 0x0, false, .any⟩
/-- UART_IRQ_EN.ERR (R555, Table 15-11). -/
def UART_IRQ_EN_ERR (b : Nat) : Fld := ⟨(uartBase b) + 0x18, 1, 1, .rw, 0x0, false, .any⟩
/-- UART_IRQ_EN.DONE (R555, Table 15-11). -/
def UART_IRQ_EN_DONE (b : Nat) : Fld := ⟨(uartBase b) + 0x18, 0, 1, .rw, 0x0, false, .any⟩
/-- MDIO_RXD.VALID (R555, Table 15-11). -/
def MDIO_RXD_VALID (b : Nat) : Fld := ⟨(mdioBase b) + 0xc, 31, 1, .ro, 0x0, false, .any⟩
/-- MDIO_RXD.PERR (R555, Table 15-11). -/
def MDIO_RXD_PERR (b : Nat) : Fld := ⟨(mdioBase b) + 0xc, 10, 1, .ro, 0x0, false, .any⟩
/-- MDIO_RXD.FERR (R555, Table 15-11). -/
def MDIO_RXD_FERR (b : Nat) : Fld := ⟨(mdioBase b) + 0xc, 9, 1, .ro, 0x0, false, .any⟩
/-- MDIO_RXD.DATA (R555, Table 15-11). -/
def MDIO_RXD_DATA (b : Nat) : Fld := ⟨(mdioBase b) + 0xc, 0, 16, .ro, 0x0, false, .any⟩
/-- MDIO_STAT.BUSY (R555, Table 15-11). -/
def MDIO_STAT_BUSY (b : Nat) : Fld := ⟨(mdioBase b) + 0x10, 31, 1, .ro, 0x0, false, .any⟩
/-- MDIO_STAT.RXLVL (R555, Table 15-11). -/
def MDIO_STAT_RXLVL (b : Nat) : Fld := ⟨(mdioBase b) + 0x10, 16, 7, .ro, 0x0, false, .any⟩
/-- MDIO_STAT.TXLVL (R555, Table 15-11). -/
def MDIO_STAT_TXLVL (b : Nat) : Fld := ⟨(mdioBase b) + 0x10, 8, 7, .ro, 0x0, false, .any⟩
/-- MDIO_STAT.RX_OVF (R555, Table 15-11). -/
def MDIO_STAT_RX_OVF (b : Nat) : Fld := ⟨(mdioBase b) + 0x10, 5, 1, .w1c, 0x0, false, .any⟩
/-- MDIO_STAT.TX_OVF (R555, Table 15-11). -/
def MDIO_STAT_TX_OVF (b : Nat) : Fld := ⟨(mdioBase b) + 0x10, 4, 1, .w1c, 0x0, false, .any⟩
/-- MDIO_STAT.TIMEOUT (R555, Table 15-11). -/
def MDIO_STAT_TIMEOUT (b : Nat) : Fld := ⟨(mdioBase b) + 0x10, 3, 1, .w1c, 0x0, false, .any⟩
/-- MDIO_STAT.ARB_LOST (R555, Table 15-11). -/
def MDIO_STAT_ARB_LOST (b : Nat) : Fld := ⟨(mdioBase b) + 0x10, 2, 1, .w1c, 0x0, false, .any⟩
/-- MDIO_STAT.NACK (R555, Table 15-11). -/
def MDIO_STAT_NACK (b : Nat) : Fld := ⟨(mdioBase b) + 0x10, 1, 1, .w1c, 0x0, false, .any⟩
/-- MDIO_IRQ_CAUSE.ERR (R555, Table 15-11). -/
def MDIO_IRQ_CAUSE_ERR (b : Nat) : Fld := ⟨(mdioBase b) + 0x14, 1, 1, .w1c, 0x0, false, .any⟩
/-- MDIO_IRQ_CAUSE.DONE (R555, Table 15-11). -/
def MDIO_IRQ_CAUSE_DONE (b : Nat) : Fld := ⟨(mdioBase b) + 0x14, 0, 1, .w1c, 0x0, false, .any⟩
/-- MDIO_IRQ_EN.ERR (R555, Table 15-11). -/
def MDIO_IRQ_EN_ERR (b : Nat) : Fld := ⟨(mdioBase b) + 0x18, 1, 1, .rw, 0x0, false, .any⟩
/-- MDIO_IRQ_EN.DONE (R555, Table 15-11). -/
def MDIO_IRQ_EN_DONE (b : Nat) : Fld := ⟨(mdioBase b) + 0x18, 0, 1, .rw, 0x0, false, .any⟩
/-- CFG_IRQ_EN.REPLAY_DONE (R490, Table 13-15). -/
def CFG_IRQ_EN_REPLAY_DONE : Fld := ⟨0x00300000 + 0x44, 4, 1, .rw, 0x0, false, .any⟩
/-- CFG_IRQ_EN.DONE_LOW (R490, Table 13-15). -/
def CFG_IRQ_EN_DONE_LOW : Fld := ⟨0x00300000 + 0x44, 3, 1, .rw, 0x0, false, .any⟩
/-- CFG_IRQ_EN.RELEASE (R490, Table 13-15). -/
def CFG_IRQ_EN_RELEASE : Fld := ⟨0x00300000 + 0x44, 2, 1, .rw, 0x0, false, .any⟩
/-- CFG_IRQ_EN.LOAD_ERR (R490, Table 13-15). -/
def CFG_IRQ_EN_LOAD_ERR : Fld := ⟨0x00300000 + 0x44, 1, 1, .rw, 0x0, false, .any⟩
/-- CFG_IRQ_EN.LOAD_DONE (R490, Table 13-15). -/
def CFG_IRQ_EN_LOAD_DONE : Fld := ⟨0x00300000 + 0x44, 0, 1, .rw, 0x0, false, .any⟩
/-- CAR_IRQ_EN.HALTED (R524, Table 14-10). -/
def CAR_IRQ_EN_HALTED : Fld := ⟨0x00300000 + 0x434, 4, 1, .rw, 0x0, true, .any⟩
/-- CAR_IRQ_EN.RESTART (R524, Table 14-10). -/
def CAR_IRQ_EN_RESTART : Fld := ⟨0x00300000 + 0x434, 3, 1, .rw, 0x0, true, .any⟩
/-- CAR_IRQ_EN.UE (R524, Table 14-10). -/
def CAR_IRQ_EN_UE : Fld := ⟨0x00300000 + 0x434, 2, 1, .rw, 0x0, true, .any⟩
/-- CAR_IRQ_EN.CE (R524, Table 14-10). -/
def CAR_IRQ_EN_CE : Fld := ⟨0x00300000 + 0x434, 1, 1, .rw, 0x0, true, .any⟩
/-- CAR_IRQ_EN.PASS_DONE (R524, Table 14-10). -/
def CAR_IRQ_EN_PASS_DONE : Fld := ⟨0x00300000 + 0x434, 0, 1, .rw, 0x0, true, .any⟩
/-- BIST_IRQ_EN.BAD (R526, Table 14-12). -/
def BIST_IRQ_EN_BAD : Fld := ⟨0x00400000 + 0x34, 1, 1, .rw, 0x0, true, .any⟩
/-- BIST_IRQ_EN.DONE (R526, Table 14-12). -/
def BIST_IRQ_EN_DONE : Fld := ⟨0x00400000 + 0x34, 0, 1, .rw, 0x0, true, .any⟩
/-- GPIO_IRQ_EN.EDGE (R553, Table 15-9). -/
def GPIO_IRQ_EN_EDGE (i : Nat) : Fld := ⟨0x00450000 + 0x270 + i * 4, 0, 32, .rw, 0x0, true, .any⟩
/-- GPIO_MISC_IRQ_EN.BANK_CHG (R554, Table 15-10). -/
def GPIO_MISC_IRQ_EN_BANK_CHG : Fld := ⟨0x00450000 + 0x32c, 1, 1, .rw, 0x0, false, .any⟩
/-- GPIO_MISC_IRQ_EN.CONFLICT (R554, Table 15-10). -/
def GPIO_MISC_IRQ_EN_CONFLICT : Fld := ⟨0x00450000 + 0x32c, 0, 1, .rw, 0x0, false, .any⟩

/-- The fields of the tsTimeout registers that stand once per block. -/
def tsTimeoutFlds : List Fld :=
  [TS_TIMEOUT_CYCLES]
/-- The fields of the register at address `a` of the tsTimeout registers, none where no register stands. -/
def tsTimeoutAt (a : Nat) : List Fld :=
  (tsTimeoutFlds).filter (fun f => f.addr == a)
/-- The fields of the config registers that stand once per block. -/
def configFlds0 : List Fld :=
  [CFG_STATUS_MODE, CFG_STATUS_LAST_WARM, CFG_STATUS_ABIST_SKIPPED, CFG_STATUS_CFG_SKIPPED, CFG_STATUS_FULL_DONE, CFG_STATUS_RELEASED, CFG_STATUS_DONE_PIN, CFG_STATUS_INIT_PIN, CFG_STATUS_ENC_LAST, CFG_STATUS_PARTIAL_LAST, CFG_STATUS_ABORT_LATE, CFG_STATUS_BUSY, CFG_STATUS_STATE, CFG_ERR_VALID, CFG_ERR_CODE, CFG_ERR_RESP, CFG_ERR_RECORD, CFG_ERR_FADDR_FADDR, CFG_CTRL_LOCK, CFG_CTRL_REQUIRE_ENC, CFG_CTRL_WAIT_XMC, CFG_CTRL_RETAIN, CFG_CMD_ABORT, CFG_DESIGN_DESIGN_ID, CFG_FRAMES_FRAMES, CFG_KEY_STATUS_PROGRAMMED, CFG_KEY_STATUS_REQ_ENC_FUSE, CFG_KEY_STATUS_FUSE_BUSY, CFG_KEY_STATUS_KCV, CFG_FUSE_CMD_UNLOCK, CFG_FUSE_CMD_BURN_REQ_ENC, CFG_FUSE_CMD_BURN_KEY, CFG_IRQ_CAUSE_REPLAY_DONE, CFG_IRQ_CAUSE_DONE_LOW, CFG_IRQ_CAUSE_RELEASE, CFG_IRQ_CAUSE_LOAD_ERR, CFG_IRQ_CAUSE_LOAD_DONE, CAR_CTRL_EN, CAR_CTRL_UE_ACTION, CAR_STATUS_PASSES, CAR_STATUS_LAST_CLEAN, CAR_STATUS_ABORT_LATE, CAR_STATUS_SHADOW_BAD, CAR_STATUS_LAST_UE_KIND, CAR_STATUS_SKIPPED, CAR_STATUS_STATE, CAR_CMD_CLR_STATS, CAR_CMD_ABORT, CAR_CMD_PASS, CAR_POS_INDEX, CAR_COUNT_UE, CAR_COUNT_CE, CAR_SEQ_TMR, CAR_SEQ_RESTARTS, CAR_LAST_UE_FADDR, CAR_IRQ_CAUSE_HALTED, CAR_IRQ_CAUSE_RESTART, CAR_IRQ_CAUSE_UE, CAR_IRQ_CAUSE_CE, CAR_IRQ_CAUSE_PASS_DONE]
/-- The fields of the config registers that stand once per block. -/
def configFlds1 : List Fld :=
  [CFG_IRQ_EN_REPLAY_DONE, CFG_IRQ_EN_DONE_LOW, CFG_IRQ_EN_RELEASE, CFG_IRQ_EN_LOAD_ERR, CFG_IRQ_EN_LOAD_DONE, CAR_IRQ_EN_HALTED, CAR_IRQ_EN_RESTART, CAR_IRQ_EN_UE, CAR_IRQ_EN_CE, CAR_IRQ_EN_PASS_DONE]
/-- All of them. -/
def configFlds : List Fld := configFlds0 ++ configFlds1
/-- The fields of the register at address `a` of the config registers, none where no register stands. -/
def configAt (a : Nat) : List Fld :=
  (configFlds).filter (fun f => f.addr == a)
  ++ arrayAt a (0x00300000 + 0x20) 4 4 (fun i => [CFG_MASK_MASK i])
  ++ arrayAt a (0x00300000 + 0x100) 4 8 (fun i => [CFG_FUSE_DATA_KEY i])
  ++ arrayAt a (0x00300000 + 0x420) 4 4 (fun i => [CAR_BAD_RINGS i])
/-- The fields of the trim registers that stand once per block. -/
def trimFlds : List Fld :=
  [TRIM_SOURCE_STORED, TRIM_SOURCE_IN_FORCE, TRIM_ADDR_ADDR, TRIM_DATA_DATA, TRIM_CMD_OP, TRIM_CMD_CODE, TRIM_STAT_BUSY, TRIM_STAT_ABORT_LATE, TRIM_STAT_FIELD_BUF, TRIM_STAT_COMMITS, TRIM_STAT_RES_RESULT]
/-- The fields of the register at address `a` of the trim registers, none where no register stands. -/
def trimAt (a : Nat) : List Fld :=
  (trimFlds).filter (fun f => f.addr == a)
/-- The fields of the bist registers that stand once per block. -/
def bistFlds : List Fld :=
  [BIST_CMD_OP, BIST_CMD_KIND, BIST_TARGET_TARGET, BIST_CFG_OWN_EXP, BIST_CFG_COUNT, BIST_EXP_SIG, BIST_STATUS_BUSY, BIST_STATUS_ABORT_LATE, BIST_STATUS_AUTO, BIST_STATUS_KIND, BIST_STATUS_RESULT, BIST_STATUS_VERDICT, BIST_DONE_PATTERNS, BIST_SIG_SIG, BIST_FAILS_FAILS, BIST_FAIL_ADDR_ARRAY, BIST_FAIL_ADDR_WORD, BIST_LIMITS_VCORE_MV, BIST_LIMITS_REFCLK, BIST_ABIST_LAST_VALID, BIST_ABIST_LAST_TJ, BIST_ABIST_LAST_AGE_MIN, BIST_IRQ_CAUSE_BAD, BIST_IRQ_CAUSE_DONE, BBR_CTRL_TRIG, BBR_CTRL_TAP_EN, BBR_CTRL_POST, BBR_STATUS_FROZEN, BBR_STATUS_PENDING, BBR_STATUS_TRIG_IDX, BBR_STATUS_WR_PTR, BBR_LOST_FROZEN, BBR_LOST_QUEUE, BBR_CMD_MARK_FATAL, BBR_CMD_CLEAR, BBR_CMD_FREEZE, BBR_CMD_UNFREEZE, BBR_CMD_MARK, BBR_MARK_DATA, BBR_TAP_SKIP_ENTRIES, BIST_IRQ_EN_BAD, BIST_IRQ_EN_DONE]
/-- The fields of the register at address `a` of the bist registers, none where no register stands. -/
def bistAt (a : Nat) : List Fld :=
  (bistFlds).filter (fun f => f.addr == a)
  ++ arrayAt a (0x00400000 + 0x40) 4 3 (fun i => [BIST_ABIST_MAP_FAILS i])
/-- The fields of the gpio registers that stand once per block. -/
def gpioFlds : List Fld :=
  [GPIO_FILT_DEB_US, GPIO_FILT_GLITCH, PIN_CONFLICT_MI2C_SDA, PIN_CONFLICT_MI2C_SCL, PIN_CONFLICT_ALERT_N, PIN_CONFLICT_PPS_IN, PIN_CONFLICT_MDIO, PIN_CONFLICT_RXD, PIN_CONFLICT_I2C, GPIO_MISC_IRQ_CAUSE_BANK_CHG, GPIO_MISC_IRQ_CAUSE_CONFLICT, GPIO_MISC_IRQ_EN_BANK_CHG, GPIO_MISC_IRQ_EN_CONFLICT]
/-- The fields of the register at address `a` of the gpio registers, none where no register stands. -/
def gpioAt (a : Nat) : List Fld :=
  (gpioFlds).filter (fun f => f.addr == a)
  ++ arrayAt a (0x00450000 + 0x0) 4 96 (fun i => [GPIO_PIN_CFG_EVT i, GPIO_PIN_CFG_FILT i, GPIO_PIN_CFG_OD i, GPIO_PIN_CFG_SLEW i, GPIO_PIN_CFG_DRIVE i, GPIO_PIN_CFG_PULL i, GPIO_PIN_CFG_FUNC i])
  ++ arrayAt a (0x00450000 + 0x200) 4 3 (fun i => [GPIO_OUT_OUT i])
  ++ arrayAt a (0x00450000 + 0x210) 4 3 (fun i => [GPIO_OUT_SET_SET i])
  ++ arrayAt a (0x00450000 + 0x220) 4 3 (fun i => [GPIO_OUT_CLR_CLR i])
  ++ arrayAt a (0x00450000 + 0x230) 4 3 (fun i => [GPIO_OE_OE i])
  ++ arrayAt a (0x00450000 + 0x240) 4 3 (fun i => [GPIO_IN_IN i])
  ++ arrayAt a (0x00450000 + 0x250) 4 3 (fun i => [GPIO_INF_INF i])
  ++ arrayAt a (0x00450000 + 0x260) 4 3 (fun i => [GPIO_IRQ_CAUSE_EDGE i])
  ++ arrayAt a (0x00450000 + 0x300) 4 6 (fun i => [GPIO_BANK_VIO i])
  ++ arrayAt a (0x00450000 + 0x270) 4 3 (fun i => [GPIO_IRQ_EN_EDGE i])
/-- The fields of the i2c registers that stand once per block. -/
def i2cFlds (b : Nat) : List Fld :=
  [I2C_CFG_EN b, I2C_CFG_TO_MS b, I2C_CFG_DIV b, I2C_XFER_ADDR b, I2C_XFER_RLEN b, I2C_XFER_WLEN b, I2C_TXD_DATA b, I2C_RXD_VALID b, I2C_RXD_PERR b, I2C_RXD_FERR b, I2C_RXD_DATA b, I2C_STAT_BUSY b, I2C_STAT_RXLVL b, I2C_STAT_TXLVL b, I2C_STAT_RX_OVF b, I2C_STAT_TX_OVF b, I2C_STAT_TIMEOUT b, I2C_STAT_ARB_LOST b, I2C_STAT_NACK b, I2C_IRQ_CAUSE_ERR b, I2C_IRQ_CAUSE_DONE b, I2C_IRQ_EN_ERR b, I2C_IRQ_EN_DONE b]
/-- The fields of the register at address `a` of the i2c registers, none where no register stands. -/
def i2cAt (b : Nat) (a : Nat) : List Fld :=
  (i2cFlds b).filter (fun f => f.addr == a)
/-- The fields of the spi registers that stand once per block. -/
def spiFlds (b : Nat) : List Fld :=
  [SPI_CFG_EN b, SPI_CFG_LSB b, SPI_CFG_MODE b, SPI_CFG_DIV b, SPI_XFER_CS b, SPI_XFER_LEN b, SPI_TXD_DATA b, SPI_RXD_VALID b, SPI_RXD_PERR b, SPI_RXD_FERR b, SPI_RXD_DATA b, SPI_STAT_BUSY b, SPI_STAT_RXLVL b, SPI_STAT_TXLVL b, SPI_STAT_RX_OVF b, SPI_STAT_TX_OVF b, SPI_STAT_TIMEOUT b, SPI_STAT_ARB_LOST b, SPI_STAT_NACK b, SPI_IRQ_CAUSE_ERR b, SPI_IRQ_CAUSE_DONE b, SPI_IRQ_EN_ERR b, SPI_IRQ_EN_DONE b]
/-- The fields of the register at address `a` of the spi registers, none where no register stands. -/
def spiAt (b : Nat) (a : Nat) : List Fld :=
  (spiFlds b).filter (fun f => f.addr == a)
/-- The fields of the uart registers that stand once per block. -/
def uartFlds (b : Nat) : List Fld :=
  [UART_CFG_EN b, UART_CFG_FLOW b, UART_CFG_PARITY b, UART_CFG_STOP2 b, UART_CFG_DATA7 b, UART_CFG_DIV b, UART_TXD_DATA b, UART_RXD_VALID b, UART_RXD_PERR b, UART_RXD_FERR b, UART_RXD_DATA b, UART_STAT_BUSY b, UART_STAT_RXLVL b, UART_STAT_TXLVL b, UART_STAT_RX_OVF b, UART_STAT_TX_OVF b, UART_STAT_TIMEOUT b, UART_STAT_ARB_LOST b, UART_STAT_NACK b, UART_IRQ_CAUSE_ERR b, UART_IRQ_CAUSE_DONE b, UART_IRQ_EN_ERR b, UART_IRQ_EN_DONE b]
/-- The fields of the register at address `a` of the uart registers, none where no register stands. -/
def uartAt (b : Nat) (a : Nat) : List Fld :=
  (uartFlds b).filter (fun f => f.addr == a)
/-- The fields of the mdio registers that stand once per block. -/
def mdioFlds (b : Nat) : List Fld :=
  [MDIO_CFG_EN b, MDIO_CFG_DIV b, MDIO_XFER_CL45 b, MDIO_XFER_OP b, MDIO_XFER_PHYAD b, MDIO_XFER_REGAD b, MDIO_XFER_DATA b, MDIO_RXD_VALID b, MDIO_RXD_PERR b, MDIO_RXD_FERR b, MDIO_RXD_DATA b, MDIO_STAT_BUSY b, MDIO_STAT_RXLVL b, MDIO_STAT_TXLVL b, MDIO_STAT_RX_OVF b, MDIO_STAT_TX_OVF b, MDIO_STAT_TIMEOUT b, MDIO_STAT_ARB_LOST b, MDIO_STAT_NACK b, MDIO_IRQ_CAUSE_ERR b, MDIO_IRQ_CAUSE_DONE b, MDIO_IRQ_EN_ERR b, MDIO_IRQ_EN_DONE b]
/-- The fields of the register at address `a` of the mdio registers, none where no register stands. -/
def mdioAt (b : Nat) (a : Nat) : List Fld :=
  (mdioFlds b).filter (fun f => f.addr == a)

end Sys2Proof.Machine.Reg
end

