-- ==== Sys2Proof/Machine/RegsSlot.lean ====
section
/-! DEFINITION. Register fields, from the tables of the spec: address, lowest bit, width, type, reset value,
whether it keeps its value across warm reset, and how a disallowed value is stored. The Turnstile slot registers (R193 to R198). -/
namespace Sys2Proof.Machine.Reg

/-- TS_CFG.EN (R193, Table 5-10). -/
def TS_CFG_EN (r t : Nat) : Fld := ⟨(slotBase r t) + 0x0, 31, 1, .ro, 0x0, true, .any⟩
/-- TS_CFG.SNAP_MAX (R193, Table 5-10). -/
def TS_CFG_SNAP_MAX (r t : Nat) : Fld := ⟨(slotBase r t) + 0x0, 24, 7, .rw, 0x40, true, (.clamp 1 64)⟩
/-- TS_CFG.PUB (R193, Table 5-10). -/
def TS_CFG_PUB (r t : Nat) : Fld := ⟨(slotBase r t) + 0x0, 20, 4, .ro, (slotPub t), true, .any⟩
/-- TS_CFG.L (R193, Table 5-10). -/
def TS_CFG_L (r t : Nat) : Fld := ⟨(slotBase r t) + 0x0, 16, 2, .ro, 0x3, true, .any⟩
/-- TS_CFG.TARGET (R193, Table 5-10). -/
def TS_CFG_TARGET (r t : Nat) : Fld := ⟨(slotBase r t) + 0x0, 8, 8, .ro, 0x0, true, .any⟩
/-- TS_CFG.KIND (R193, Table 5-10). -/
def TS_CFG_KIND (r t : Nat) : Fld := ⟨(slotBase r t) + 0x0, 0, 4, .ro, (slotKind t), true, .any⟩
/-- TS_STATUS.OUT_STATUS (R194, Table 5-11). -/
def TS_STATUS_OUT_STATUS (r t : Nat) : Fld := ⟨(slotBase r t) + 0x4, 16, 2, .ro, (slotOutStatus t), true, .any⟩
/-- TS_STATUS.LEVEL (R194, Table 5-11). -/
def TS_STATUS_LEVEL (r t : Nat) : Fld := ⟨(slotBase r t) + 0x4, 8, 8, .ro, 0x0, true, .any⟩
/-- TS_STATUS.FAR_RST (R194, Table 5-11). -/
def TS_STATUS_FAR_RST (r t : Nat) : Fld := ⟨(slotBase r t) + 0x4, 3, 1, .ro, 0x0, true, .any⟩
/-- TS_STATUS.STATE (R194, Table 5-11). -/
def TS_STATUS_STATE (r t : Nat) : Fld := ⟨(slotBase r t) + 0x4, 0, 2, .ro, 0x0, true, .any⟩
/-- TS_IRQ_CAUSE.DROP (R195, Table 5-12). -/
def TS_IRQ_CAUSE_DROP (r t : Nat) : Fld := ⟨(slotBase r t) + 0x8, 3, 1, .w1c, 0x0, true, .any⟩
/-- TS_IRQ_CAUSE.PULSE_LOST (R195, Table 5-12). -/
def TS_IRQ_CAUSE_PULSE_LOST (r t : Nat) : Fld := ⟨(slotBase r t) + 0x8, 2, 1, .w1c, 0x0, true, .any⟩
/-- TS_IRQ_CAUSE.CLOCK_STOPPED (R195, Table 5-12). -/
def TS_IRQ_CAUSE_CLOCK_STOPPED (r t : Nat) : Fld := ⟨(slotBase r t) + 0x8, 1, 1, .w1c, 0x0, true, .any⟩
/-- TS_IRQ_CAUSE.RESYNC_DONE (R195, Table 5-12). -/
def TS_IRQ_CAUSE_RESYNC_DONE (r t : Nat) : Fld := ⟨(slotBase r t) + 0x8, 0, 1, .w1c, 0x0, true, .any⟩
/-- TS_DISCARD.ENTRIES (R196, Table 5-13). -/
def TS_DISCARD_ENTRIES (r t : Nat) : Fld := ⟨(slotBase r t) + 0x10, 0, 32, .ro, 0x0, true, .any⟩
/-- TS_DROP.TOKENS (R196, Table 5-13). -/
def TS_DROP_TOKENS (r t : Nat) : Fld := ⟨(slotBase r t) + 0x14, 0, 32, .ro, 0x0, true, .any⟩
/-- TS_PULSE.DISCARDED (R196, Table 5-13). -/
def TS_PULSE_DISCARDED (r t : Nat) : Fld := ⟨(slotBase r t) + 0x18, 16, 16, .ro, 0x0, true, .any⟩
/-- TS_PULSE.LOST (R196, Table 5-13). -/
def TS_PULSE_LOST (r t : Nat) : Fld := ⟨(slotBase r t) + 0x18, 0, 16, .ro, 0x0, true, .any⟩
/-- TS_VALUE_LO.VALUE_LO (R197, Table 5-14). -/
def TS_VALUE_LO_VALUE_LO (r t : Nat) : Fld := ⟨(slotBase r t) + 0x1c, 0, 32, .rw, 0x0, true, .any⟩
/-- TS_VALUE_HI.VALUE_HI (R197, Table 5-14). -/
def TS_VALUE_HI_VALUE_HI (r t : Nat) : Fld := ⟨(slotBase r t) + 0x20, 0, 24, .rw, 0x0, true, .any⟩
/-- TS_CMD.FLUSH (R198, Table 5-15). -/
def TS_CMD_FLUSH (r t : Nat) : Fld := ⟨(slotBase r t) + 0x2c, 1, 1, .wo, 0x0, true, .any⟩
/-- TS_CMD.CLR_STATS (R198, Table 5-15). -/
def TS_CMD_CLR_STATS (r t : Nat) : Fld := ⟨(slotBase r t) + 0x2c, 0, 1, .wo, 0x0, true, .any⟩
/-- TS_IRQ_EN.DROP (R195, Table 5-12). -/
def TS_IRQ_EN_DROP (r t : Nat) : Fld := ⟨(slotBase r t) + 0xc, 3, 1, .rw, 0x0, true, .any⟩
/-- TS_IRQ_EN.PULSE_LOST (R195, Table 5-12). -/
def TS_IRQ_EN_PULSE_LOST (r t : Nat) : Fld := ⟨(slotBase r t) + 0xc, 2, 1, .rw, 0x0, true, .any⟩
/-- TS_IRQ_EN.CLOCK_STOPPED (R195, Table 5-12). -/
def TS_IRQ_EN_CLOCK_STOPPED (r t : Nat) : Fld := ⟨(slotBase r t) + 0xc, 1, 1, .rw, 0x0, true, .any⟩
/-- TS_IRQ_EN.RESYNC_DONE (R195, Table 5-12). -/
def TS_IRQ_EN_RESYNC_DONE (r t : Nat) : Fld := ⟨(slotBase r t) + 0xc, 0, 1, .rw, 0x0, true, .any⟩

/-- The fields of the slot registers that stand once per block. -/
def slotFlds (r t : Nat) : List Fld :=
  [TS_CFG_EN r t, TS_CFG_SNAP_MAX r t, TS_CFG_PUB r t, TS_CFG_L r t, TS_CFG_TARGET r t, TS_CFG_KIND r t, TS_STATUS_OUT_STATUS r t, TS_STATUS_LEVEL r t, TS_STATUS_FAR_RST r t, TS_STATUS_STATE r t, TS_IRQ_CAUSE_DROP r t, TS_IRQ_CAUSE_PULSE_LOST r t, TS_IRQ_CAUSE_CLOCK_STOPPED r t, TS_IRQ_CAUSE_RESYNC_DONE r t, TS_DISCARD_ENTRIES r t, TS_DROP_TOKENS r t, TS_PULSE_DISCARDED r t, TS_PULSE_LOST r t, TS_VALUE_LO_VALUE_LO r t, TS_VALUE_HI_VALUE_HI r t, TS_CMD_FLUSH r t, TS_CMD_CLR_STATS r t, TS_IRQ_EN_DROP r t, TS_IRQ_EN_PULSE_LOST r t, TS_IRQ_EN_CLOCK_STOPPED r t, TS_IRQ_EN_RESYNC_DONE r t]
/-- The fields of the register at address `a` of the slot registers, none where no register stands. -/
def slotAt (r t : Nat) (a : Nat) : List Fld :=
  (slotFlds r t).filter (fun f => f.addr == a)

end Sys2Proof.Machine.Reg
end

