-- ==== Sys2Proof/Machine/Ops.lean ====
section
/-! DEFINITION. The named operations over the state: stores, register fields, whole registers, answers, free values,
boundary events, the recorder's event queue, saturating counters. -/
namespace Sys2Proof.Machine
open Sys2Proof.Machine.Reg

/-! ### Stores: lists of numbered values with rising keys and no default entry -/

/-- The value under `k`, the default `d` where none is listed. -/
def sget {α : Type} (d : α) (m : Store α) (k : Nat) : α :=
  match m with
  | [] => d
  | (j, v) :: rest => if j = k then v else sget d rest k

/-- `m` without an entry under `k`. -/
def sdel {α : Type} (m : Store α) (k : Nat) : Store α :=
  match m with
  | [] => []
  | (j, v) :: rest => if j = k then sdel rest k else (j, v) :: sdel rest k

/-- `m` with the entry `v` under `k` in front of the first greater key. -/
def splace {α : Type} (m : Store α) (k : Nat) (v : α) : Store α :=
  match m with
  | [] => [(k, v)]
  | (j, w) :: rest => if k < j then (k, v) :: (j, w) :: rest else (j, w) :: splace rest k v

/-- `m` with the one entry `v` under `k`, in its place. -/
def sput {α : Type} (m : Store α) (k : Nat) (v : α) : Store α := splace (sdel m k) k v

/-- Store `v` under `k`: an entry equal to the default is not listed. -/
def sset {α : Type} [DecidableEq α] (d : α) (m : Store α) (k : Nat) (v : α) : Store α :=
  if v = d then sdel m k else sput m k v

/-- The keys rise strictly. -/
def sorted {α : Type} : Store α → Bool
  | [] => true
  | [_] => true
  | (i, _) :: (j, v) :: rest => decide (i < j) && sorted ((j, v) :: rest)

/-- The canonical form of a store with default `d`: rising keys, no default entry. -/
def storeWf {α : Type} [DecidableEq α] (d : α) (m : Store α) : Bool :=
  sorted m && m.all (fun e => decide (e.2 ≠ d))

/-! ### Numbers in registers -/

/-- `v` as a `w`-bit two's complement number. -/
def signed (w v : Nat) : Int := if v % 2 ^ w < 2 ^ (w - 1) then (v % 2 ^ w : Nat) else (v % 2 ^ w : Nat) - (2 ^ w : Nat)
/-- The `w` low bits of an integer. -/
def wrap (w : Nat) (i : Int) : Nat := (i % (2 ^ w : Nat)).toNat
/-- An integer held between two bounds. -/
def clampInt (lo hi i : Int) : Int := if i < lo then lo else if hi < i then hi else i
/-- A rational held between two bounds. -/
def clampRat (lo hi x : Rat) : Rat := if x < lo then lo else if hi < x then hi else x
/-- A rational as a register of whole units shows it: itself where it is whole, otherwise rounded in a way that no
rule states (log 8). -/
def wholeOf (x : Rat) : Int := if x.den = 1 then x.num else Config.roundFraction x

/-! ### Register fields -/

/-- How a field stores a written value (the "stored as" notes of the register tables). -/
def limitTo (l : Limit) (v : Nat) : Nat :=
  match l with
  | .any => v
  | .floor n => if v < n then n else v
  | .cap n => if n < v then n else v
  | .clamp lo hi => if v < lo then lo else if hi < v then hi else v
  | .zeroAt n => if v = n then 0 else v

/-- The value of a field: a number of its width. -/
def Ctl.get (c : Ctl) (f : Fld) : Nat := sget f.rst c.rf f.key % 2 ^ f.w
/-- Store a value into a field, cut to its width. -/
def Ctl.set (c : Ctl) (f : Fld) (v : Nat) : Ctl := { c with rf := sset f.rst c.rf f.key (v % 2 ^ f.w) }
/-- The value of a field. -/
def Dev.get (d : Dev) (f : Fld) : Nat := d.ctl.get f
/-- Whether a one-bit field is set. -/
def Dev.flag (d : Dev) (f : Fld) : Bool := d.ctl.get f != 0
/-- Store a value into a field. -/
def Dev.set (d : Dev) (f : Fld) (v : Nat) : Dev := { d with ctl := d.ctl.set f v }
/-- Set every bit of a field: a cause or status bit raised by the hardware. -/
def Dev.raise (d : Dev) (f : Fld) : Dev := d.set f (2 ^ f.w - 1)
/-- Clear a field. -/
def Dev.clear (d : Dev) (f : Fld) : Dev := d.set f 0
/-- Add `n` to a counter that saturates at its width. -/
def Dev.addSat (d : Dev) (f : Fld) (n : Nat) : Dev := d.set f (Nat.min (d.get f + n) (2 ^ f.w - 1))
/-- Count one in a saturating counter. -/
def Dev.incSat (d : Dev) (f : Fld) : Dev := d.addSat f 1
/-- Count one in a wrapping counter. -/
def Dev.incWrap (d : Dev) (f : Fld) : Dev := d.set f (d.get f + 1)
/-- Set bit `i` of a field. -/
def Dev.setBit (d : Dev) (f : Fld) (i : Nat) : Dev := d.set f (d.get f ||| 2 ^ i)
/-- Clear bit `i` of a field. -/
def Dev.clrBit (d : Dev) (f : Fld) (i : Nat) : Dev := d.set f (d.get f - (if bitAt (d.get f) i then 2 ^ i else 0))
/-- Give every field of a list its reset value. -/
def Dev.resetFlds (d : Dev) (fs : List Fld) : Dev := fs.foldl (fun d f => d.set f f.rst) d

/-- The word that a register's fields spell, WO fields reading 0 (Table 0-3). -/
def wordOf (c : Ctl) (fs : List Fld) : Nat :=
  fs.foldl (fun w f => w + (match f.ty with | .wo => 0 | _ => c.get f) * 2 ^ f.lo) 0

/-- What a write of `v` makes of one field (Table 0-3, R5): `locked` is the block's LOCK. -/
def fieldAfter (c : Ctl) (locked : Bool) (v : Nat) (f : Fld) : Nat :=
  match f.ty with
  | .ro => c.get f
  | .rw => limitTo f.lim (bitsAt v f.lo f.w)
  | .w1c => c.get f - (c.get f &&& bitsAt v f.lo f.w)
  | .w1s => c.get f
  | .wo => bitsAt v f.lo f.w
  | .rwl => if locked then c.get f else limitTo f.lim (bitsAt v f.lo f.w)

/-- A write of `v` to a register, field by field. -/
def writeFlds (c : Ctl) (locked : Bool) (v : Nat) (fs : List Fld) : Ctl :=
  fs.foldl (fun c f => c.set f (fieldAfter c locked v f)) c

/-- R5: whether a write of `v` to a register whose block is locked would change one of its RWL fields (a LOCK field
itself is RWL, and clearing it is such a change). -/
def lockedChange (c : Ctl) (locked : Bool) (v : Nat) (fs : List Fld) : Bool :=
  locked && fs.any (fun f => f.ty == .rwl && limitTo f.lim (bitsAt v f.lo f.w) != c.get f)

/-! ### Answers (R7) -/

/-- Precedence of a response code (Table 0-5). -/
def Resp.prec : Resp → Nat
  | .closed => 1 | .clockStopped => 2 | .addr => 3 | .perm => 4 | .key => 5 | .poison => 6 | .tag => 7
  | .ecc => 8 | .timeout => 9 | .aborted => 10 | .retry => 11 | .ok => 12

/-- Code number of a response (Table 0-5). -/
def Resp.code : Resp → Nat
  | .ok => 0 | .retry => 1 | .closed => 2 | .addr => 3 | .perm => 4 | .ecc => 5 | .key => 6 | .tag => 7
  | .poison => 8 | .timeout => 9 | .clockStopped => 10 | .aborted => 11

/-- The response that a code number names, OK for numbers Table 0-5 does not list. -/
def respOf (n : Nat) : Resp :=
  match n with
  | 1 => .retry | 2 => .closed | 3 => .addr | 4 => .perm | 5 => .ecc | 6 => .key | 7 => .tag | 8 => .poison
  | 9 => .timeout | 10 => .clockStopped | 11 => .aborted | _ => .ok

/-- R7: of two codes that apply, the one with the lower precedence number. -/
def Resp.worst (a b : Resp) : Resp := if a.prec ≤ b.prec then a else b

/-- Record the answer of the request in hand. -/
def Dev.answer (d : Dev) (code : Resp) (data : List Nat := []) : Dev :=
  { d with ctl := { d.ctl with ans := { code := code, data := data } } }

/-! ### Free values, boundary events, recorder events -/

/-- A free value of `w` bits: an opaque constant of Config at the next number of the state's counter (log 2). -/
def Dev.freeVal (d : Dev) (w : Nat) : Nat := Config.freeNat d.ctl.fresh % 2 ^ w
/-- The counter after a free value was taken. -/
def Dev.bump (d : Dev) : Dev := { d with ctl := { d.ctl with fresh := d.ctl.fresh + 1 } }
/-- Send something out of the device. -/
def Dev.emit (d : Dev) (e : OutEvent) : Dev := { d with ctl := { d.ctl with out := e :: d.ctl.out } }

/-- The device's own count of time, quarter nanoseconds. -/
def Dev.tb (d : Dev) : Nat := d.ctl.time.tb
/-- The timebase TB as it reads, quarter nanoseconds (R400, R417). -/
def Dev.tbNow (d : Dev) : Int := (d.ctl.time.tb : Int) + d.ctl.time.tbOff
/-- The device's own count at the TB `tb`. -/
def Dev.ownTb (d : Dev) (tb : Int) : Nat := (tb - d.ctl.time.tbOff).toNat
/-- The timebase time in whole nanoseconds (R400). -/
def Dev.ns (d : Dev) : Nat := (d.tbNow / 4).toNat
/-- Replace the time part. -/
def Dev.withTime (d : Dev) (t : TimeSt) : Dev := { d with ctl := { d.ctl with time := t } }
/-- Move the timebase forward to `tb`; time never goes back. -/
def Dev.advance (d : Dev) (tb : Nat) : Dev :=
  d.withTime { d.ctl.time with tb := Nat.max d.ctl.time.tb tb }

/-- Time of day in quarter nanoseconds (R402). -/
def Dev.tod (d : Dev) : Int := (d.ctl.time.tb : Int) + d.ctl.time.todOff

/-- Replace the recorder. -/
def Dev.withBbr (d : Dev) (b : Bbr) : Dev := { d with ctl := { d.ctl with bbr := b } }

/-- An event enters the recorder's queue: behind what waits, but before events of its own housekeeping cycle with a greater
SOURCE (R518). -/
def enterQueue (e : BbrEvent) : List BbrEvent → List BbrEvent
  | [] => [e]
  | x :: xs => if x.tbNs / 10 = e.tbNs / 10 ∧ e.source < x.source then e :: x :: xs else x :: enterQueue e xs
/-- Raise an event for the recorder (R517, R518): it enters the queue of 16, or one event is lost and counted, the last of
the queue's order. -/
def Dev.bbr (d : Dev) (source event : Nat) (fatal : Bool := false) (arg : Nat := 0) (data : Nat := 0) : Dev :=
  let b := d.ctl.bbr
  let e : BbrEvent := { source := source, event := event, fatal := fatal, arg := arg % 2 ^ 16, data := data % 2 ^ 32,
                        tbNs := d.ns % 2 ^ 48, tickLo := d.ctl.time.count % 2 ^ 12 }
  let d1 := d.withBbr { b with queue := (enterQueue e b.queue).take 16,
                               lostNow := if b.queue.length < 16 then b.lostNow else b.lostNow + 1 }
  if b.queue.length < 16 then d1 else d1.incSat BBR_LOST_QUEUE

/-! ### The parts of the device -/

/-- Ring `r`. -/
def Dev.ring (d : Dev) (r : Nat) : Ring := sget {} d.rings r
/-- Replace ring `r`. -/
def Dev.setRing (d : Dev) (r : Nat) (x : Ring) : Dev := { d with rings := sset {} d.rings r x }

/-- Repeat a change for each number of a list, in order. -/
def forEach {α : Type} (xs : List α) (d : Dev) (f : α → Dev → Dev) : Dev := xs.foldl (fun d x => f x d) d

/-- A step with no command waiting: one nanosecond of TB passes (log 1). -/
def idle (s : State) : Host.Outcome State Fault Refusal := .next { s with dev := s.dev.advance (s.dev.tb + 4) }

/-- Run a meaning: a command's effect on the device leaves the waiting commands as they are, and the machine goes on. -/
def run (s : State) (f : Dev → Dev) : Host.Outcome State Fault Refusal := .next { s with dev := f s.dev }

end Sys2Proof.Machine
end

