-- ==== Sys2Proof/Machine/Mem.lean ====
section
/-! DEFINITION. The memories as lists of cells in canonical form: rising addresses, no entry equal to what an unlisted
address reads as, which is 0 (log 5). -/
namespace Sys2Proof.Machine
open Sys2Proof.Machine.Reg

/-- What an address that is not listed reads as (log 5). -/
def unlisted : Byte := 0

/-- One byte. -/
def rdByte (m : List Host.Cell) (a : Nat) : Byte := sget unlisted m a
/-- Write one byte. -/
def wrByte (m : List Host.Cell) (a : Nat) (v : Byte) : List Host.Cell := sset unlisted m a v
/-- `n` bytes from `a` up. -/
def rdBytes (m : List Host.Cell) (a : Nat) : Nat → List Byte
  | 0 => []
  | n + 1 => rdByte m a :: rdBytes m (a + 1) n
/-- Write a list of bytes from `a` up. -/
def wrBytes (m : List Host.Cell) (a : Nat) : List Byte → List Host.Cell
  | [] => m
  | b :: bs => wrBytes (wrByte m a b) (a + 1) bs
/-- Write the bytes whose enable is set. -/
def wrEnabled (m : List Host.Cell) (a : Nat) : List (Bool × Byte) → List Host.Cell
  | [] => m
  | (en, b) :: bs => wrEnabled (if en then wrByte m a b else m) (a + 1) bs
/-- Take away every cell from `a` up to `a + n − 1`: they read 0. -/
def zeroCells (m : List Host.Cell) (a n : Nat) : List Host.Cell := m.filter (fun c => !(decide (a ≤ c.1 ∧ c.1 < a + n)))
/-- Take away every listed flaw in a range. -/
def zeroFlaws (m : Store Flaw) (a n : Nat) : Store Flaw := m.filter (fun c => !(decide (a ≤ c.1 ∧ c.1 < a + n)))

/-- The number that bytes spell, lowest first (little-endian). -/
def leNat : List Byte → Nat
  | [] => 0
  | b :: bs => b.toNat + 256 * leNat bs
/-- `n` bytes of a number, lowest first. -/
def leBytes (n v : Nat) : List Byte :=
  match n with
  | 0 => []
  | k + 1 => BitVec.ofNat 8 v :: leBytes k (v / 256)
/-- `n` bytes as a number. -/
def rdLe (m : List Host.Cell) (a n : Nat) : Nat := leNat (rdBytes m a n)
/-- Store a number in `n` bytes. -/
def wrLe (m : List Host.Cell) (a n v : Nat) : List Host.Cell := wrBytes m a (leBytes n v)

/-- The memory form: rising addresses and no listed 0. -/
abbrev memWf (m : List Host.Cell) : Bool := storeWf unlisted m

/-- Write on-chip bytes. -/
def Dev.chipWrite (d : Dev) (a : Nat) (bs : List Byte) : Dev :=
  { d with chip := { d.chip with cells := wrBytes d.chip.cells a bs } }
/-- Error state of a protected word. -/
def Dev.chipFlaw (d : Dev) (a : Nat) : Flaw := sget Flaw.none d.chip.flaws a
/-- Set the error state of a protected word. -/
def Dev.setChipFlaw (d : Dev) (a : Nat) (f : Flaw) : Dev :=
  { d with chip := { d.chip with flaws := sset Flaw.none d.chip.flaws a f } }
/-- Zero a range of on-chip memory, with valid check bits. -/
def Dev.chipZero (d : Dev) (a n : Nat) : Dev :=
  { d with chip := { cells := zeroCells d.chip.cells a n, flaws := zeroFlaws d.chip.flaws a n } }

end Sys2Proof.Machine
end

