-- ==== Sys2Proof/Machine/Aes.lean ====
section
/-! DEFINITION. AES-256 (FIPS 197), counter mode and GCM, as R292 and R468 use them. Bytes are numbers below 256. -/
namespace Sys2Proof.Machine

/-- The S-box of FIPS 197, 32 entries a number, entry `i` of a number at bits 8i + 7 to 8i. -/
def aesBox : List Nat :=
  [0xc072a49cafa2d4adf04759fa7dc982ca76abd7fe2b670130c56f6bf27b777c63,
   0x75b227ebe28012079a059618c323c7041531d871f1e5a534ccf73f362693fdb7,
   0xcf584c4a39becb6a5bb1fc20ed00d153842fe329b3d63b52a05a6e1b1a2c8309,
   0xd2f3ff1021dab6bcf5389d928f40a351a89f3c507f02f94585334d43fbaaefd0,
   0xdb0b5ede14b8ee4688902a22dc4f816073195d643d7ea7c41744975fec130ccd,
   0x08ae7a65eaf4566ca94ed58d6d37c8e779e4959162acd3c25c2406490a3a32e0,
   0x9e1dc186b95735610ef6034866b53e708a8bbd4b1f74dde8c6b4a61c2e2578ba,
   0x16bb54b00f2d99416842e6bf0d89a18cdf2855cee9871e9b948ed9691198f8e1]
/-- SubBytes of one byte. -/
def aesSub (b : Nat) : Nat := bitsAt (aesBox.getD (b / 32) 0) (8 * (b % 32)) 8
/-- Multiplication by x in the field of AES. -/
def aesX (b : Nat) : Nat := if b < 128 then 2 * b else (2 * b - 256) ^^^ 27
/-- Two lists of bytes, added bit by bit. -/
def xorBytes (a b : List Nat) : List Nat := List.zipWith (fun x y => x ^^^ y) a b

/-- MixColumns of one column. -/
def aesMix (c : List Nat) : List Nat :=
  match c with
  | [a, b, e, f] =>
    [aesX a ^^^ aesX b ^^^ b ^^^ e ^^^ f, a ^^^ aesX b ^^^ aesX e ^^^ e ^^^ f,
     a ^^^ b ^^^ aesX e ^^^ aesX f ^^^ f, aesX a ^^^ a ^^^ b ^^^ e ^^^ aesX f]
  | _ => c
/-- SubBytes and ShiftRows. -/
def aesShift (s : List Nat) : List Nat :=
  (List.range 16).map (fun i => aesSub (s.getD (4 * ((i / 4 + i % 4) % 4) + i % 4) 0))
/-- MixColumns of the state. -/
def aesMixAll (s : List Nat) : List Nat :=
  (List.range 4).flatMap (fun c => aesMix ((s.drop (4 * c)).take 4))

/-- Round constants. -/
def aesRcon : List Nat := [1, 2, 4, 8, 16, 32, 64]
/-- Word `i` of the key schedule from the words before it, newest first. -/
def aesNextWord (i : Nat) (acc : List (List Nat)) : List Nat :=
  let t := acc.headD []
  let u :=
    if i % 8 = 0 then
      match t with
      | [a, b, c, d] => [aesSub b ^^^ aesRcon.getD (i / 8 - 1) 0, aesSub c, aesSub d, aesSub a]
      | _ => t
    else if i % 8 = 4 then t.map aesSub else t
  xorBytes (acc.getD 7 []) u
/-- `n` more words of the key schedule. -/
def aesExpand (n i : Nat) (acc : List (List Nat)) : List (List Nat) :=
  match n with
  | 0 => acc
  | k + 1 => aesExpand k (i + 1) (aesNextWord i acc :: acc)
/-- The 240 bytes of the key schedule of a 32-byte key. -/
def aesSchedule (key : List Nat) : List Nat :=
  (aesExpand 52 8 ((List.range 8).map (fun i => (key.drop (4 * i)).take 4)).reverse).reverse.flatten
/-- Round key `i`. -/
def aesRoundKey (w : List Nat) (i : Nat) : List Nat := (w.drop (16 * i)).take 16
/-- AES-256 of one 16-byte block under a key schedule. -/
def aesBlock (w block : List Nat) : List Nat :=
  let s := (List.range 13).foldl (fun s i => xorBytes (aesMixAll (aesShift s)) (aesRoundKey w (i + 1)))
    (xorBytes block (aesRoundKey w 0))
  xorBytes (aesShift s) (aesRoundKey w 14)

/-- `n` bytes of a number, highest first (R292: byte j of a block is bits 127 − 8j to 120 − 8j). -/
def beBytes (n v : Nat) : List Nat := (List.range n).map (fun j => v / 256 ^ (n - 1 - j) % 256)
/-- The number that bytes spell, highest first. -/
def beNat (bs : List Nat) : Nat := bs.foldl (fun a b => 256 * a + b) 0
/-- The keystream block of a counter block. -/
def keystream (w : List Nat) (counter : Nat) : List Nat := aesBlock w (beBytes 16 counter)

/-- A key as it is held, 32 bytes; a zeroised slot holds zeros. -/
def keyNats (key : List Byte) : List Nat :=
  let k := key.map (·.toNat)
  k.take 32 ++ List.replicate (32 - k.length) 0

/-- Counter-mode encryption, which is also decryption: block `i` of the data under counter block `counter i`. -/
def ctrCrypt (key : List Byte) (counter : Nat → Nat) (data : List Byte) : List Byte :=
  let w := aesSchedule (keyNats key)
  let ks := (List.range ((data.length + 15) / 16)).flatMap (fun i => keystream w (counter i))
  List.zipWith (fun d k => d ^^^ BitVec.ofNat 8 k) data ks

/-! ### GCM (NIST SP 800-38D), for ENC packets -/

/-- One step of the product in GF(2^128): bit `127 - i` of `x`. -/
def gcmStep (x : Nat) (zv : Nat × Nat) (i : Nat) : Nat × Nat :=
  (if bitAt x (127 - i) then zv.1 ^^^ zv.2 else zv.1,
   if bitAt zv.2 0 then (zv.2 / 2) ^^^ (0xE1 * 2 ^ 120) else zv.2 / 2)
/-- The product in GF(2^128). -/
def gcmMul (x y : Nat) : Nat := ((List.range 128).foldl (gcmStep x) (0, y)).1
/-- Bytes in blocks of 16, the last filled with zeros. -/
def gcmBlocks (bs : List Nat) : List Nat :=
  (List.range ((bs.length + 15) / 16)).map (fun i =>
    let b := (bs.drop (16 * i)).take 16
    beNat (b ++ List.replicate (16 - b.length) 0))
/-- The authentication tag of GCM with a 96-bit IV. -/
def gcmTag (key : List Byte) (iv : List Nat) (aad cipher : List Nat) : Nat :=
  let w := aesSchedule (keyNats key)
  let h := beNat (aesBlock w (List.replicate 16 0))
  let blocks := gcmBlocks aad ++ gcmBlocks cipher ++ [8 * aad.length * 2 ^ 64 + 8 * cipher.length]
  let s := blocks.foldl (fun y b => gcmMul (y ^^^ b) h) 0
  s ^^^ beNat (keystream w (beNat iv * 2 ^ 32 + 1))
/-- The plaintext of GCM with a 96-bit IV. -/
def gcmPlain (key : List Byte) (iv : List Nat) (cipher : List Byte) : List Byte :=
  ctrCrypt key (fun i => beNat iv * 2 ^ 32 + (i + 2) % 2 ^ 32) cipher

end Sys2Proof.Machine
end

