-- ==== Sys2Proof/Machine/Crc.lean ====
section
/-! DEFINITION. Cyclic redundancy checks: the Ethernet frame check sequence of IEEE 802.3 (R335) and CRC-32C (R369,
R463), both over bytes, least significant bit first, from all ones, inverted at the end. -/
namespace Sys2Proof.Machine

/-- One bit of a reflected CRC with polynomial `poly`. -/
def crcBit (poly c : Nat) : Nat := if c % 2 = 1 then (c / 2) ^^^ poly else c / 2
/-- One byte. -/
def crcByte (poly c : Nat) (b : Byte) : Nat := (List.range 8).foldl (fun c _ => crcBit poly c) (c ^^^ b.toNat)
/-- The CRC of a list of bytes. -/
def crcOf (poly : Nat) (bs : List Byte) : Nat := bs.foldl (crcByte poly) 0xFFFFFFFF ^^^ 0xFFFFFFFF
/-- The frame check sequence of IEEE 802.3 (log 14). -/
def crc32 (bs : List Byte) : Nat := crcOf 0xEDB88320 bs
/-- CRC-32C. -/
def crc32c (bs : List Byte) : Nat := crcOf 0x82F63B78 bs
/-- Whether a list of bytes ends in its CRC, least significant byte first. -/
def crcGood (crc : List Byte → Nat) (bs : List Byte) : Bool :=
  decide (4 ≤ bs.length) && crc (bs.take (bs.length - 4)) == leNat (bs.drop (bs.length - 4))

/-- The number that bytes spell in network order. -/
def netNat (bs : List Byte) : Nat := bs.foldl (fun v b => 256 * v + b.toNat) 0
/-- `n` bytes of a number in network order. -/
def netBytes (n v : Nat) : List Byte := (leBytes n v).reverse
/-- Bytes `o` to `o + n - 1`, zeros beyond the end. -/
def bytesAt (bs : List Byte) (o n : Nat) : List Byte :=
  let part := (bs.drop o).take n
  part ++ List.replicate (n - part.length) 0

end Sys2Proof.Machine
end

