-- ==== Sys2Proof/Machine/Numerics.lean ====
section
/-! DEFINITION. Engine numbers (R106, R148, R149, R153, R157): data types, lanes, saturation, and floating-point values
computed exactly and rounded once. -/
namespace Sys2Proof.Machine

/-- The data types of Table 3-2. -/
inductive ETy where
  | int8 | int16 | bf16 | fp16 | int32 | fp32
  deriving DecidableEq, Repr, Inhabited

/-- The type that a TY code of a VA slot names (R141). -/
def etyOf (n : Nat) : Option ETy :=
  match n with
  | 0 => some .int8 | 1 => some .int16 | 2 => some .bf16 | 3 => some .fp16 | 4 => some .int32 | 5 => some .fp32
  | _ => none
/-- Width of a lane in bits. -/
def ETy.width : ETy → Nat
  | .int8 => 8 | .int16 => 16 | .bf16 => 16 | .fp16 => 16 | .int32 => 32 | .fp32 => 32
/-- Whether a type is a floating-point type. -/
def ETy.isFloat : ETy → Bool
  | .bf16 => true | .fp16 => true | .fp32 => true | _ => false
/-- Exponent bits of a floating-point type. -/
def ETy.eb : ETy → Nat
  | .fp16 => 5 | _ => 8
/-- Fraction bits of a floating-point type. -/
def ETy.fb : ETy → Nat
  | .bf16 => 7 | .fp16 => 10 | _ => 23
/-- Lanes of a vector register (R106). -/
def ETy.lanes (t : ETy) : Nat := 512 / t.width

/-! ### Lanes (R106) -/

/-- Lanes of `w` bits of a number, lowest first. -/
def lanesOf (w : Nat) : Nat → Nat → List Nat
  | 0, _ => []
  | n + 1, v => v % 2 ^ w :: lanesOf w n (v / 2 ^ w)
/-- The number that lanes of `w` bits spell. -/
def packLanes (w : Nat) : List Nat → Nat
  | [] => 0
  | x :: xs => x % 2 ^ w + 2 ^ w * packLanes w xs
/-- R148: a saturated result. -/
def saturate (w : Nat) (i : Int) : Nat := wrap w (clampInt (-(2 ^ (w - 1) : Nat)) ((2 ^ (w - 1) : Nat) - 1) i)
/-- Floor of `i / 2 ^ s`: an arithmetic shift right. -/
def ashr (i : Int) (s : Nat) : Int := i / (2 ^ s : Nat)
/-- R148: a shift right with rounding at full precision. -/
def roundShift (i : Int) (s : Nat) : Int := if s = 0 then i else ashr (i + (2 ^ (s - 1) : Nat)) s

/-! ### Floating-point values (R106, R149) -/

/-- A floating-point value: a NaN, an infinity, or a sign with an exact magnitude. -/
inductive FVal where
  | nan | inf (neg : Bool) | fin (neg : Bool) (mag : Rat)
  deriving DecidableEq, Repr

/-- A power of two. -/
def pow2 (e : Int) : Rat := if e < 0 then 1 / ((2 ^ e.natAbs : Nat) : Rat) else ((2 ^ e.natAbs : Nat) : Rat)
/-- Exponent bias. -/
def ETy.bias (t : ETy) : Nat := 2 ^ (t.eb - 1) - 1
/-- The canonical quiet NaN (R106). -/
def ETy.qnan (t : ETy) : Nat := (2 ^ t.eb - 1) * 2 ^ t.fb + 2 ^ (t.fb - 1)
/-- An encoding from its sign, biased exponent and fraction. -/
def ETy.enc (t : ETy) (neg : Bool) (e f : Nat) : Nat := b2n neg * 2 ^ (t.eb + t.fb) + e * 2 ^ t.fb + f

/-- The value of an encoding; a subnormal is a zero of the same sign (R106). -/
def fdec (t : ETy) (v : Nat) : FVal :=
  let neg := bitAt v (t.eb + t.fb)
  let e := bitsAt v t.fb t.eb
  let f := bitsAt v 0 t.fb
  if e = 2 ^ t.eb - 1 then (if f = 0 then .inf neg else .nan)
  else if e = 0 then .fin neg 0
  else .fin neg (((2 ^ t.fb + f : Nat) : Rat) * pow2 ((e : Int) - t.bias - t.fb))

/-- Nearest whole number, ties to even, of a number that is not negative. -/
def rne (x : Rat) : Nat :=
  let n := x.num.natAbs
  let q := n / x.den
  let r := n % x.den
  if x.den < 2 * r ∨ (2 * r = x.den ∧ q % 2 = 1) then q + 1 else q

/-- ⌊log2 x⌋ of a positive number. -/
def floorLog2 (x : Rat) : Int :=
  let e : Int := (Nat.log2 x.num.natAbs : Int) - Nat.log2 x.den
  if x < pow2 e then e - 1 else e

/-- R106, R149: a magnitude rounded to nearest even with an unbounded exponent; what is then below the smallest normal
number is flushed to zero of the same sign, what is above the largest is an infinity. -/
def fround (t : ETy) (neg : Bool) (mag : Rat) : Nat :=
  if mag = 0 then t.enc neg 0 0
  else
    let e := floorLog2 mag
    let q := rne (mag * pow2 ((t.fb : Int) - e))
    let e' := if q = 2 ^ (t.fb + 1) then e + 1 else e
    let f := q % 2 ^ t.fb
    if (t.bias : Int) < e' then t.enc neg (2 ^ t.eb - 1) 0
    else if e' < 1 - (t.bias : Int) then t.enc neg 0 0
    else t.enc neg (e' + t.bias).toNat f

/-- The encoding of a value (R106, R149). -/
def fenc (t : ETy) (x : FVal) : Nat :=
  match x with
  | .nan => t.qnan
  | .inf neg => t.enc neg (2 ^ t.eb - 1) 0
  | .fin neg mag => fround t neg mag

/-- The sign of a value inverted. -/
def FVal.neg : FVal → FVal
  | .nan => .nan | .inf s => .inf (!s) | .fin s m => .fin (!s) m
/-- The sign of a value cleared. -/
def FVal.abs : FVal → FVal
  | .nan => .nan | .inf _ => .inf false | .fin _ m => .fin false m
/-- A finite value with its sign. -/
def sval (neg : Bool) (mag : Rat) : Rat := if neg then -mag else mag
/-- Exact sum; a sum of zeros is −0 only of −0 and −0, and numbers that cancel give +0 (IEEE 754, round to nearest). -/
def FVal.add (x y : FVal) : FVal :=
  match x, y with
  | .nan, _ => .nan
  | _, .nan => .nan
  | .inf a, .inf b => if a = b then .inf a else .nan
  | .inf a, _ => .inf a
  | _, .inf b => .inf b
  | .fin a m, .fin b n =>
    let s := sval a m + sval b n
    if s = 0 then .fin (a && b) 0 else if s < 0 then .fin true (-s) else .fin false s
/-- Exact product. -/
def FVal.mul (x y : FVal) : FVal :=
  match x, y with
  | .nan, _ => .nan
  | _, .nan => .nan
  | .inf a, .inf b => .inf (a != b)
  | .inf a, .fin b n => if n = 0 then .nan else .inf (a != b)
  | .fin a m, .inf b => if m = 0 then .nan else .inf (a != b)
  | .fin a m, .fin b n => .fin (a != b) (m * n)
/-- Exact reciprocal (VRCP, R151). -/
def FVal.rcp (x : FVal) : FVal :=
  match x with
  | .nan => .nan
  | .inf a => .fin a 0
  | .fin a m => if m = 0 then .inf a else .fin a (1 / m)
/-- `x ≤ y` where neither is a NaN, −0 equal to +0. -/
def FVal.le (x y : FVal) : Bool :=
  match x, y with
  | .nan, _ => false
  | _, .nan => false
  | .inf true, _ => true
  | _, .inf false => true
  | .inf false, _ => false
  | _, .inf true => false
  | .fin a m, .fin b n => decide (sval a m ≤ sval b n)
/-- A zero of negative sign. -/
def FVal.isNegZero : FVal → Bool
  | .fin true m => m = 0
  | _ => false
/-- Whether `x` orders below `y`, −0 below +0 (R149). -/
def FVal.below (x y : FVal) : Bool :=
  (x.le y && !(y.le x)) || (x.le y && y.le x && x.isNegZero && !y.isNegZero)
/-- R149: the smaller of two values, a NaN where either is one. -/
def FVal.min (x y : FVal) : FVal :=
  match x, y with
  | .nan, _ => .nan
  | _, .nan => .nan
  | a, b => if b.below a then b else a
/-- R149: the larger of two values, a NaN where either is one. -/
def FVal.max (x y : FVal) : FVal :=
  match x, y with
  | .nan, _ => .nan
  | _, .nan => .nan
  | a, b => if a.below b then b else a

/-! ### Conversions (R153) -/

/-- Float to integer: nearest even, saturating, a NaN gives 0. -/
def ftoi (w : Nat) (x : FVal) : Nat :=
  match x with
  | .nan => 0
  | .inf neg => saturate w (if neg then -(2 ^ w : Nat) else (2 ^ w : Nat))
  | .fin neg m => saturate w (if neg then -(rne m : Int) else rne m)
/-- One lane converted from one type to another. -/
def convertLane (src dst : ETy) (v : Nat) : Nat :=
  if src.isFloat then
    (if dst.isFloat then fenc dst (fdec src v) else ftoi dst.width (fdec src v))
  else
    let i := signed src.width v
    if dst.isFloat then fround dst (decide (i < 0)) ((i.natAbs : Nat) : Rat) else saturate dst.width i

end Sys2Proof.Machine
end

