-- ==== Sys2Proof/Machine/Operands.lean ====
section
/-! DEFINITION. Engine bundles (R139 to R162, R167): what the five slots of a bundle say, decoded from its 128 bits; a
bundle that decodes to none is a reserved encoding (R141). -/
namespace Sys2Proof.Machine

/-! ### What a slot can say -/

/-- Vector operations of format VV (Table 4-5); those of VB = 0 ignore it. -/
inductive VecOp where
  | add | adds | sub | subs | min | max | abs | neg | and | or | xor | not | mul | mulq | mla | mov | shuf | rcp
  deriving DecidableEq, Repr
/-- Vector operations of format VI. -/
inductive ImmOp where
  | shl | shr | sra | srar | ext
  deriving DecidableEq, Repr
/-- Compares. -/
inductive CmpOp where
  | eq | lt | le
  deriving DecidableEq, Repr
/-- Predicate operations. -/
inductive PredOp where
  | and | or | xor | andn
  deriving DecidableEq, Repr
/-- Scalar operations of format SS. -/
inductive ScaOp where
  | add | sub | and | or | xor | shl | shr | sra | mul | min | max
  deriving DecidableEq, Repr

/-- An operation of VA0 or VA1 (Table 4-5, Table 4-6). -/
inductive VaOp where
  | nop
  | vv (op : VecOp) (ty : ETy) (vd va vb : Nat)
  | vi (op : ImmOp) (ty : ETy) (vd va imm : Nat)
  | cvt (high : Bool) (ty src : ETy) (vd va : Nat)
  | cmp (op : CmpOp) (ty : ETy) (pd va vb : Nat)
  | bcast (ty : ETy) (vd sa : Nat)
  | red (largest : Bool) (ty : ETy) (sd va : Nat)
  | pp (op : PredOp) (pd pa pb : Nat)
  | pmovs (pd sa : Nat)
  | smovp (sd pa : Nat)
  | ss (op : ScaOp) (sd sa sb : Nat)
  | saddi (sd sa : Nat) (imm : Int)
  | smovi (sd : Nat) (imm : Int)
  | smovu (sd imm : Nat)
  | sxst (sd tag : Nat)
  | smovlc (sd lc : Nat)
  deriving DecidableEq, Repr

/-- Multiply-accumulate operations with two factors. -/
inductive MulOp where
  | mac | msb | mula | macb
  deriving DecidableEq, Repr
/-- An operation of the MAC slot (Table 4-7). -/
inductive MacOp where
  | nop
  | mul (op : MulOp) (ty : ETy) (ad va vb lane : Nat)
  | accz (ad : Nat)
  | accwr (ty : ETy) (ad va : Nat)
  | accrd (ty : ETy) (ad vd shift : Nat) (round sat : Bool)
  deriving DecidableEq, Repr

/-- An operation of the LS slot (Table 4-8). -/
inductive LsOp where
  | nop
  | vld (rt b : Nat) (inc : Bool) (ofs : Int)
  | vst (rt b : Nat) (inc : Bool) (ofs : Int)
  | sld (rt b : Nat) (inc : Bool) (ofs : Int)
  | sst (rt b : Nat) (inc : Bool) (ofs : Int)
  | recv (rt port n : Nat)
  | send (rt port n : Nat)
  | srecv (rt port : Nat)
  | ssend (rt port : Nat)
  deriving DecidableEq, Repr

/-- An operation of the XS slot (Table 4-9). -/
inductive XsOp where
  | nop
  | push (tag : Nat) (seat : Bool) (sa sp : Nat) (eop : Bool)
  | pop (tag : Nat) (seat : Bool) (sa sp : Nat) (whole : Bool)
  | mark (tag : Nat) (seat : Bool) (sp : Nat)
  | rewind (tag : Nat) (seat : Bool) (sp : Nat)
  | release (tag : Nat) (seat : Bool) (sp : Nat)
  | commit (tag : Nat) (seat : Bool) (sp : Nat) (discard : Bool)
  | xrd (tag : Nat) (seat : Bool) (sa sp : Nat)
  | xwr (tag : Nat) (seat : Bool) (sa sp : Nat)
  | wait (tag : Nat) (all : Bool)
  deriving DecidableEq, Repr

/-- A loop count: an immediate or a scalar register (Table 4-10). -/
inductive LoopCount where
  | imm (n : Nat) | reg (s : Nat)
  deriving DecidableEq, Repr

/-- What the bits [127:84] of a bundle carry. -/
inductive Tail where
  | normal (mac : MacOp) (xs : XsOp)
  | loop (endb bound : Nat) (count : LoopCount)
  deriving DecidableEq, Repr

/-- A code bundle (Table 4-1, Table 4-2): END, or the slots under their header. -/
inductive Bundle where
  | stop
  | ops (pred : Nat) (pinv pls : Bool) (ls : LsOp) (va0 va1 : VaOp) (tail : Tail)
  deriving DecidableEq, Repr

/-! ### Decoding (R141, R150) -/

/-- The answer where a condition on the encoding holds. -/
def allow {α : Type} (ok : Bool) (x : α) : Option α := if ok then some x else none

/-- R153: whether a conversion from `src` to `ty` exists; VCVTH has no form of the same width. -/
def cvtOk (high : Bool) (ty src : ETy) : Bool :=
  if src.width = ty.width then
    !high && (match src, ty with
      | .int16, .fp16 => true | .fp16, .int16 => true | .int16, .bf16 => true | .bf16, .int16 => true
      | .int32, .fp32 => true | .fp32, .int32 => true | .fp16, .bf16 => true | .bf16, .fp16 => true
      | _, _ => false)
  else src.width == 2 * ty.width || ty.width == 2 * src.width

/-- Format VV of an opcode: the operation, whether its types are limited (0 all, 1 int, 2 fl, 3 int8 and int16), whether
VB must be 0. -/
def vvRow (op : Nat) : Option (VecOp × Nat × Bool) :=
  match op with
  | 0x01 => some (.add, 0, false) | 0x02 => some (.adds, 1, false) | 0x03 => some (.sub, 0, false)
  | 0x04 => some (.subs, 1, false) | 0x05 => some (.min, 0, false) | 0x06 => some (.max, 0, false)
  | 0x07 => some (.abs, 0, true) | 0x08 => some (.neg, 0, true) | 0x09 => some (.and, 0, false)
  | 0x0A => some (.or, 0, false) | 0x0B => some (.xor, 0, false) | 0x0C => some (.not, 0, true)
  | 0x11 => some (.mul, 0, false) | 0x12 => some (.mulq, 3, false) | 0x13 => some (.mla, 0, false)
  | 0x1A => some (.mov, 0, true) | 0x1C => some (.shuf, 0, false) | 0x1F => some (.rcp, 2, true)
  | _ => none
/-- Whether a type is one of a row's types. -/
def typeOk (rule : Nat) (ty : ETy) : Bool :=
  match rule with
  | 0 => true
  | 1 => !ty.isFloat
  | 2 => ty.isFloat
  | _ => ty == .int8 || ty == .int16

/-- The vector opcodes 0x01 to 0x1F with type `ty` (Table 4-5). -/
def decodeVec (x op : Nat) (ty : ETy) : Option VaOp :=
  let vd := bitsAt x 10 5
  let va := bitsAt x 5 5
  let vb := bitsAt x 0 5
  match vvRow op with
  | some (o, rule, zero) => allow (typeOk rule ty && (!zero || vb == 0)) (.vv o ty vd va vb)
  | none =>
    match op with
    | 0x0D => allow (typeOk 1 ty) (.vi .shl ty vd va vb)
    | 0x0E => allow (typeOk 1 ty) (.vi .shr ty vd va vb)
    | 0x0F => allow (typeOk 1 ty) (.vi .sra ty vd va vb)
    | 0x10 => allow (typeOk 1 ty) (.vi .srar ty vd va vb)
    | 0x1B => allow (va != 31 && decide (vb ≤ ty.lanes)) (.vi .ext ty vd va vb)
    | 0x14 => (etyOf (bitsAt x 0 3)).bind (fun src => allow (bitsAt x 3 2 == 0 && cvtOk false ty src) (.cvt false ty src vd va))
    | 0x15 => (etyOf (bitsAt x 0 3)).bind (fun src => allow (bitsAt x 3 2 == 0 && cvtOk true ty src) (.cvt true ty src vd va))
    | 0x16 => allow (bitsAt x 13 2 == 0) (.cmp .eq ty (bitsAt x 10 3) va vb)
    | 0x17 => allow (bitsAt x 13 2 == 0) (.cmp .lt ty (bitsAt x 10 3) va vb)
    | 0x18 => allow (bitsAt x 13 2 == 0) (.cmp .le ty (bitsAt x 10 3) va vb)
    | 0x19 => allow (bitsAt x 9 1 == 0 && vb == 0) (.bcast ty vd (bitsAt x 5 4))
    | 0x1D => allow (bitsAt x 14 1 == 0 && vb == 0) (.red false ty (bitsAt x 10 4) va)
    | 0x1E => allow (bitsAt x 14 1 == 0 && vb == 0) (.red true ty (bitsAt x 10 4) va)
    | _ => none

/-- The operation of format SS that an opcode names. -/
def ssRow (op : Nat) : Option ScaOp :=
  match op with
  | 0x30 => some .add | 0x31 => some .sub | 0x32 => some .and | 0x33 => some .or | 0x34 => some .xor | 0x35 => some .shl
  | 0x36 => some .shr | 0x37 => some .sra | 0x38 => some .mul | 0x39 => some .min | 0x3A => some .max | _ => none
/-- The operation of format PP that an opcode names. -/
def ppRow (op : Nat) : Option PredOp :=
  match op with
  | 0x20 => some .and | 0x21 => some .or | 0x22 => some .xor | 0x23 => some .andn | _ => none
/-- The scalar and predicate opcodes (Table 4-6). -/
def decodeScalar (x op : Nat) : Option VaOp :=
  let sd := bitsAt x 14 4
  let sa := bitsAt x 10 4
  match ssRow op, ppRow op with
  | some o, _ => allow (bitsAt x 0 6 == 0) (.ss o sd sa (bitsAt x 6 4))
  | none, some o => allow (bitsAt x 0 9 == 0) (.pp o (bitsAt x 15 3) (bitsAt x 12 3) (bitsAt x 9 3))
  | none, none =>
    match op with
    | 0x24 => allow (bitsAt x 14 1 == 0 && bitsAt x 0 10 == 0) (.pmovs (bitsAt x 15 3) sa)
    | 0x25 => allow (bitsAt x 13 1 == 0 && bitsAt x 0 10 == 0) (.smovp sd (bitsAt x 10 3))
    | 0x3B => some (.saddi sd sa (signed 10 (bitsAt x 0 10)))
    | 0x3C => some (.smovi sd (signed 14 (bitsAt x 0 14)))
    | 0x3D => some (.smovu sd (bitsAt x 0 14))
    | 0x3E => allow (bitsAt x 0 10 == 0) (.sxst sd sa)
    | 0x3F => allow (bitsAt x 0 10 == 0 && decide (sa < 4)) (.smovlc sd sa)
    | _ => none
/-- A VA slot of 24 bits. -/
def decodeVa (x : Nat) : Option VaOp :=
  let op := bitsAt x 18 6
  if op = 0 then allow (x == 0) .nop
  else if op < 0x20 then (etyOf (bitsAt x 15 3)).bind (decodeVec x op)
  else decodeScalar x op

/-- The type of a MAC slot (R156). -/
def macTy (n : Nat) : ETy :=
  match n with
  | 0 => .int8 | 1 => .int16 | 2 => .bf16 | _ => .fp16
/-- The MAC slot of 24 bits (Table 4-7). -/
def decodeMac (x : Nat) : Option MacOp :=
  let ty := macTy (bitsAt x 17 2)
  let ad := bitsAt x 14 3
  let va := bitsAt x 9 5
  let vb := bitsAt x 4 5
  let md := bitsAt x 0 4
  match bitsAt x 19 5 with
  | 0 => allow (x == 0) .nop
  | 1 => allow (md == 0) (.mul .mac ty ad va vb 0)
  | 2 => allow (md == 0) (.mul .msb ty ad va vb 0)
  | 3 => allow (md == 0) (.mul .mula ty ad va vb 0)
  | 4 => some (.mul .macb ty ad va vb md)
  | 5 => allow (bitsAt x 17 2 == 0 && va == 0 && vb == 0 && md == 0) (.accz ad)
  | 6 => allow (vb == 0 && md == 0) (.accwr ty ad va)
  | 7 => allow (!bitAt md 3 && (!ty.isFloat || (vb == 0 && md == 0)))
      (.accrd ty ad va (vb + 32 * bitsAt md 0 1) (bitAt md 1) (bitAt md 2))
  | _ => none

/-- The LS slot of 28 bits (Table 4-8). -/
def decodeLs (x : Nat) : Option LsOp :=
  let rt := bitsAt x 19 5
  let b := bitsAt x 15 4
  let inc := bitAt x 14
  let ofs := signed 14 (bitsAt x 0 14)
  let port := bitsAt x 17 2
  let n := bitsAt x 14 3
  let zero : Bool := bitsAt x 0 14 == 0
  let pair : Bool := decide (rt < 16) && rt % 2 == 0 && n == 0
  match bitsAt x 24 4 with
  | 0x0 => allow (x == 0) .nop
  | 0x1 => some (.vld rt b inc ofs)
  | 0x2 => some (.vst rt b inc ofs)
  | 0x3 => allow (decide (rt < 16) && !(inc && rt == b && b != 0)) (.sld rt b inc ofs)
  | 0x4 => allow (decide (rt < 16)) (.sst rt b inc ofs)
  | 0x8 => allow zero (.recv rt port n)
  | 0x9 => allow zero (.send rt port n)
  | 0xA => allow (zero && pair) (.srecv rt port)
  | 0xB => allow (zero && pair) (.ssend rt port)
  | _ => none

/-- The XS slot of 20 bits (Table 4-9). -/
def decodeXs (x : Nat) : Option XsOp :=
  let tag := bitsAt x 12 4
  let seat := bitAt x 11
  let sa := bitsAt x 7 4
  let sp := bitsAt x 4 3
  let fl := bitsAt x 0 4
  match bitsAt x 16 4 with
  | 0x0 => allow (x == 0) .nop
  | 0x1 => allow (decide (fl < 2)) (.push tag seat sa sp (fl == 1))
  | 0x2 => allow (decide (fl < 2)) (.pop tag seat sa sp (fl == 1))
  | 0x3 => allow (fl == 0 && sa == 0) (.mark tag seat sp)
  | 0x4 => allow (fl == 0 && sa == 0) (.rewind tag seat sp)
  | 0x5 => allow (fl == 0 && sa == 0) (.release tag seat sp)
  | 0x6 => allow (decide (fl < 2) && sa == 0) (.commit tag seat sp (fl == 1))
  | 0x8 => allow (fl == 0) (.xrd tag seat sa sp)
  | 0x9 => allow (fl == 0) (.xwr tag seat sa sp)
  | 0xC => allow (decide (fl < 2) && !seat && sa == 0 && sp == 0) (.wait tag (fl == 1))
  | _ => none

/-- The loop fields (Table 4-10). -/
def decodeLoop (w : Nat) : Option Tail :=
  let count := bitsAt w 99 16
  allow (bitsAt w 115 13 == 0 && (!bitAt w 98 || decide (count < 16)))
    (.loop (bitsAt w 84 10) (bitsAt w 94 4) (if bitAt w 98 then .reg count else .imm count))

/-! ### What a slot writes (R143), what it costs (R146) -/

/-- A register that a slot names as a destination. -/
inductive Dest where
  | v (n : Nat) | s (n : Nat) | p (n : Nat) | a (n : Nat)
  deriving DecidableEq, Repr
/-- A written scalar register; S0 is not counted. -/
def sDest (n : Nat) : List Dest := if n = 0 then [] else [.s n]
/-- A written predicate register; P0 is not counted. -/
def pDest (n : Nat) : List Dest := if n = 0 then [] else [.p n]
/-- Destination of a VA slot. -/
def VaOp.dests : VaOp → List Dest
  | .nop => []
  | .vv _ _ vd _ _ => [.v vd]
  | .vi _ _ vd _ _ => [.v vd]
  | .cvt _ _ _ vd _ => [.v vd]
  | .cmp _ _ pd _ _ => pDest pd
  | .bcast _ vd _ => [.v vd]
  | .red _ _ sd _ => sDest sd
  | .pp _ pd _ _ => pDest pd
  | .pmovs pd _ => pDest pd
  | .smovp sd _ => sDest sd
  | .ss _ sd _ _ => sDest sd
  | .saddi sd _ _ => sDest sd
  | .smovi sd _ => sDest sd
  | .smovu sd _ => sDest sd
  | .sxst sd _ => sDest sd
  | .smovlc sd _ => sDest sd
/-- Destination of the MAC slot. -/
def MacOp.dests : MacOp → List Dest
  | .nop => []
  | .mul _ _ ad _ _ _ => [.a ad]
  | .accz ad => [.a ad]
  | .accwr _ ad _ => [.a ad]
  | .accrd _ _ vd _ _ _ => [.v vd]
/-- The base register, where it is updated. -/
def baseDest (b : Nat) (inc : Bool) : List Dest := if inc then sDest b else []
/-- Destinations of the LS slot. -/
def LsOp.dests : LsOp → List Dest
  | .nop => []
  | .vld rt b inc _ => .v rt :: baseDest b inc
  | .vst _ b inc _ => baseDest b inc
  | .sld rt b inc _ => sDest rt ++ baseDest b inc
  | .sst _ b inc _ => baseDest b inc
  | .recv rt _ _ => [.v rt]
  | .send _ _ _ => []
  | .srecv rt _ => sDest rt ++ sDest (rt + 1)
  | .ssend _ _ => []
/-- Destinations of the tail of a bundle. -/
def Tail.dests : Tail → List Dest
  | .normal mac _ => mac.dests
  | .loop _ _ _ => []
/-- No two entries are equal. -/
def distinct : List Dest → Bool
  | [] => true
  | x :: xs => !xs.contains x && distinct xs

/-- A bundle of 128 bits, none for a reserved encoding (R141). -/
def decodeBundle (w : Nat) : Option Bundle :=
  if bitAt w 7 then none
  else match bitsAt w 0 2 with
    | 2 => allow (w == 2) .stop
    | 3 => none
    | form =>
      match decodeLs (bitsAt w 8 28), decodeVa (bitsAt w 36 24), decodeVa (bitsAt w 60 24),
        (if form = 1 then decodeLoop w
         else (decodeMac (bitsAt w 84 24)).bind (fun m => (decodeXs (bitsAt w 108 20)).map (Tail.normal m))) with
      | some ls, some v0, some v1, some t =>
        allow (distinct (ls.dests ++ v0.dests ++ v1.dests ++ t.dests))
          (.ops (bitsAt w 2 3) (bitAt w 5) (bitAt w 6) ls v0 v1 t)
      | _, _, _, _ => none

/-- Time classes (Table 4-3). -/
def duA : Nat := 9
/-- Class B. -/
def duB : Nat := 11
/-- Class C. -/
def duC : Nat := 14
/-- Cost of a VV operation (Table 4-5). -/
def vecDu (op : VecOp) (ty : ETy) : Nat :=
  match op with
  | .add => if ty.isFloat then duB else duA
  | .sub => if ty.isFloat then duB else duA
  | .min => if ty.isFloat then duB else duA
  | .max => if ty.isFloat then duB else duA
  | .mul => if ty.width = 32 then duC else duB
  | .mulq => duB
  | .mla => if ty = .int8 ∨ ty = .int16 then duB else duC
  | .shuf => duC
  | .rcp => duC
  | _ => duA
/-- Cost of a VA slot. -/
def VaOp.du : VaOp → Nat
  | .nop => duA
  | .vv op ty _ _ _ => vecDu op ty
  | .vi _ _ _ _ _ => duA
  | .cvt _ _ _ _ _ => duB
  | .cmp _ ty _ _ _ => if ty.isFloat then duB else duA
  | .red _ _ _ _ => duC
  | .ss op _ _ _ => if op = .mul then duB else duA
  | .bcast _ _ _ => duA
  | .pp _ _ _ _ => duA
  | .pmovs _ _ => duA
  | .smovp _ _ => duA
  | .saddi _ _ _ => duA
  | .smovi _ _ => duA
  | .smovu _ _ => duA
  | .sxst _ _ => duA
  | .smovlc _ _ => duA
/-- Cost of the MAC slot (Table 4-7). -/
def MacOp.du : MacOp → Nat
  | .nop => duA
  | .mul _ ty _ _ _ _ => if ty.isFloat then duB else duA
  | .accz _ => duA
  | .accwr _ _ _ => duA
  | .accrd _ _ _ _ _ _ => duB
/-- R146: a bundle costs its largest class; LS, XS, a loop and END are class A. -/
def Bundle.du : Bundle → Nat
  | .stop => duA
  | .ops _ _ _ _ v0 v1 t =>
    Nat.max (Nat.max v0.du v1.du) (match t with | .normal m _ => m.du | .loop _ _ _ => duA)

end Sys2Proof.Machine
end

