-- ==== Sys2Proof/Machine/EngineAlu.lean ====
section
/-! DEFINITION. What the slots of a bundle compute from the register files (R105 to R108, R142 to R144, R148 to R158,
R160): every slot reads the registers as they stood at issue. -/
namespace Sys2Proof.Machine

/-! ### Register files (R105) -/

/-- V register. -/
def EngSt.rdV (x : EngSt) (n : Nat) : Nat := sget 0 x.v n
/-- S register; S0 reads 0. -/
def EngSt.rdS (x : EngSt) (n : Nat) : Nat := if n = 0 then 0 else sget 0 x.s n
/-- P register; P0 reads all ones. -/
def EngSt.rdP (x : EngSt) (n : Nat) : Nat := if n = 0 then 0xFFFFFFFF else sget 0 x.p n
/-- A register. -/
def EngSt.rdA (x : EngSt) (n : Nat) : Nat := sget 0 x.a n
/-- LC register: the iteration index of the loop at depth `n`, 0 where none is active (R121). -/
def EngSt.rdLc (x : EngSt) (n : Nat) : Nat := ((x.loops.reverse[n]?).map (·.idx)).getD 0
/-- Status word of a tag (R164). -/
def EngSt.rdTag (x : EngSt) (n : Nat) : Nat := sget 0 x.tags n
/-- Write a register; writes to S0 and P0 are discarded. -/
def EngSt.wrReg (x : EngSt) (d : Dest) (v : Nat) : EngSt :=
  match d with
  | .v n => { x with v := sset 0 x.v n (v % 2 ^ 512) }
  | .s n => if n = 0 then x else { x with s := sset 0 x.s n (v % 2 ^ 32) }
  | .p n => if n = 0 then x else { x with p := sset 0 x.p n (v % 2 ^ 32) }
  | .a n => { x with a := sset 0 x.a n (v % 2 ^ 1536) }
/-- Apply the writes of a bundle at its retirement. -/
def EngSt.wrRegs (x : EngSt) (ws : List (Dest × Nat)) : EngSt := ws.foldl (fun x w => x.wrReg w.1 w.2) x

/-! ### Predication (R107, R144) -/

/-- The governing predicate of a bundle. -/
def governing (x : EngSt) (pred : Nat) (pinv : Bool) : Nat :=
  if pinv then 0xFFFFFFFF - x.rdP pred else x.rdP pred
/-- Whether G governs lane `i` of width `w` on. -/
def laneOn (w g i : Nat) : Bool := bitAt g (if w = 8 then i / 2 else if w = 16 then i else 2 * i)
/-- Lanes from `i` on: new where `on` says so, old elsewhere. -/
def mergeLanes (on : Nat → Bool) (i : Nat) : List Nat → List Nat → List Nat
  | new :: ns, old :: os => (if on i then new else old) :: mergeLanes on (i + 1) ns os
  | _, _ => []
/-- A V destination of type width `w` under G. -/
def underG (w g old : Nat) (new : List Nat) : Nat :=
  packLanes w (mergeLanes (laneOn w g) 0 new (lanesOf w (512 / w) old))

/-! ### Vector operations (R148 to R153) -/

/-- An integer lane: `c` is the lane of the destination. -/
def intLane (op : VecOp) (w : Nat) (a b c : Nat) : Nat :=
  let x := signed w a
  let y := signed w b
  match op with
  | .add => wrap w (x + y)
  | .adds => saturate w (x + y)
  | .sub => wrap w (x - y)
  | .subs => saturate w (x - y)
  | .min => if y < x then b else a
  | .max => if x < y then b else a
  | .abs => saturate w (if x < 0 then -x else x)
  | .neg => saturate w (-x)
  | .mul => wrap w (x * y)
  | .mulq => saturate w (roundShift (x * y) (w - 1))
  | .mla => wrap w (signed w c + x * y)
  | .and => a &&& b
  | .or => a ||| b
  | .xor => a ^^^ b
  | .not => 2 ^ w - 1 - a
  | .mov => a
  | .shuf => a
  | .rcp => a
/-- A floating-point lane. -/
def floatLane (op : VecOp) (ty : ETy) (a b c : Nat) : Nat :=
  let x := fdec ty a
  let y := fdec ty b
  match op with
  | .add => fenc ty (x.add y)
  | .sub => fenc ty (x.add y.neg)
  | .min => fenc ty (x.min y)
  | .max => fenc ty (x.max y)
  | .abs => fenc ty x.abs
  | .neg => fenc ty x.neg
  | .mul => fenc ty (x.mul y)
  | .mla => fenc ty ((fdec ty c).add (x.mul y))
  | .rcp => fenc ty x.rcp
  | .and => a &&& b
  | .or => a ||| b
  | .xor => a ^^^ b
  | .not => 2 ^ ty.width - 1 - a
  | .mov => a
  | .adds => a
  | .subs => a
  | .mulq => a
  | .shuf => a
/-- Lane by lane over three lists. -/
def zip3 (f : Nat → Nat → Nat → Nat) : List Nat → List Nat → List Nat → List Nat
  | a :: as, b :: bs, c :: cs => f a b c :: zip3 f as bs cs
  | _, _, _ => []
/-- A VV operation on whole registers (R151, R152). -/
def vecLanes (op : VecOp) (ty : ETy) (va vb vd : Nat) : List Nat :=
  let la := lanesOf ty.width ty.lanes va
  let lb := lanesOf ty.width ty.lanes vb
  match op with
  | .shuf => lb.map (fun k => la.getD (k % ty.lanes) 0)
  | _ => zip3 (if ty.isFloat then floatLane op ty else intLane op ty.width) la lb (lanesOf ty.width ty.lanes vd)
/-- Shifts by an immediate (R148). -/
def shiftLane (op : ImmOp) (w imm a : Nat) : Nat :=
  match op with
  | .shl => a * 2 ^ imm % 2 ^ w
  | .shr => a / 2 ^ imm
  | .sra => wrap w (ashr (signed w a) imm)
  | .srar => wrap w (roundShift (signed w a) imm)
  | .ext => a
/-- A VI operation: a shift, or the lanes of a register pair from lane IMM up (R152). -/
def immLanes (op : ImmOp) (ty : ETy) (va next imm : Nat) : List Nat :=
  let la := lanesOf ty.width ty.lanes va
  match op with
  | .ext => ((la ++ lanesOf ty.width ty.lanes next).drop imm).take ty.lanes
  | _ => la.map (shiftLane op ty.width imm)
/-- VCVT and VCVTH (R153): the new lanes of the destination, old ones where a narrowing leaves them. -/
def cvtLanes (high : Bool) (ty src : ETy) (va vd : Nat) : List Nat :=
  let ls := lanesOf src.width src.lanes va
  let old := lanesOf ty.width ty.lanes vd
  let new := ls.map (convertLane src ty)
  if ty.width = src.width then new
  else if src.width < ty.width then (if high then new.drop ty.lanes else new.take ty.lanes)
  else if high then old.take src.lanes ++ new else new ++ old.drop src.lanes

/-- A lane of a compare (R149). -/
def cmpLane (op : CmpOp) (ty : ETy) (a b : Nat) : Bool :=
  if ty.isFloat then
    let x := fdec ty a
    let y := fdec ty b
    match op with
    | .eq => x.le y && y.le x
    | .lt => x.le y && !(y.le x)
    | .le => x.le y
  else
    let x := signed ty.width a
    let y := signed ty.width b
    match op with
    | .eq => decide (x = y) | .lt => decide (x < y) | .le => decide (x ≤ y)
/-- The 32 predicate bits that a compare spells: one per 16 bits; int8 asks for both lanes, a 32-bit lane gives both
(R107). -/
def cmpBit (op : CmpOp) (ty : ETy) (la lb : List Nat) (i : Nat) : Bool :=
  let at' (k : Nat) : Bool := cmpLane op ty (la.getD k 0) (lb.getD k 0)
  match ty.width with
  | 8 => at' (2 * i) && at' (2 * i + 1)
  | 16 => at' i
  | _ => at' (i / 2)
/-- Whether G governs predicate bit `i` of a compare. -/
def cmpOn (ty : ETy) (g i : Nat) : Bool := if ty.width = 32 then bitAt g (2 * (i / 2)) else bitAt g i
/-- A compare into PD. -/
def cmpWord (op : CmpOp) (ty : ETy) (g va vb pd : Nat) : Nat :=
  let la := lanesOf ty.width ty.lanes va
  let lb := lanesOf ty.width ty.lanes vb
  packLanes 1 (mergeLanes (cmpOn ty g) 0 ((List.range 32).map (fun i => b2n (cmpBit op ty la lb i))) (lanesOf 1 32 pd))

/-! ### Reductions (R154) -/

/-- The lanes that G governs on. -/
def governed (w g : Nat) (ls : List Nat) : List Nat := ((ls.zipIdx).filter (fun p => laneOn w g p.2)).map (·.1)
/-- One level of the tree of fp32 additions. -/
def sumLevel : List Nat → List Nat
  | a :: b :: rest => fenc .fp32 ((fdec .fp32 a).add (fdec .fp32 b)) :: sumLevel rest
  | xs => xs
/-- The tree, level by level. -/
def sumTree : Nat → List Nat → Nat
  | 0, xs => xs.headD 0
  | n + 1, xs => match xs with
    | _ :: _ :: _ => sumTree n (sumLevel xs)
    | _ => xs.headD 0
/-- VREDADD and VREDMAX. -/
def reduce (largest : Bool) (ty : ETy) (g va : Nat) : Nat :=
  let ls := lanesOf ty.width ty.lanes va
  let on := governed ty.width g ls
  match largest, ty.isFloat with
  | false, false => saturate 32 (on.foldl (fun s x => s + signed ty.width x) (0 : Int))
  | false, true =>
    sumTree 6 ((ls.zipIdx).map (fun p => if laneOn ty.width g p.2 then convertLane ty .fp32 p.1 else 0))
  | true, false =>
    match on with
    | [] => 0x80000000
    | x :: xs => wrap 32 (xs.foldl (fun m y => if m < signed ty.width y then signed ty.width y else m) (signed ty.width x))
  | true, true =>
    match on with
    | [] => 0xFF800000
    | x :: xs => fenc .fp32 (xs.foldl (fun m y => m.max (fdec ty y)) (fdec ty x))

/-! ### Scalar and predicate operations (R148, R155) -/

/-- Format PP. -/
def predWord (op : PredOp) (a b : Nat) : Nat :=
  match op with
  | .and => a &&& b | .or => a ||| b | .xor => a ^^^ b | .andn => a &&& (0xFFFFFFFF - b)
/-- Format SS. -/
def scalarWord (op : ScaOp) (a b : Nat) : Nat :=
  match op with
  | .add => (a + b) % 2 ^ 32
  | .sub => wrap 32 ((a : Int) - b)
  | .and => a &&& b
  | .or => a ||| b
  | .xor => a ^^^ b
  | .shl => a * 2 ^ (b % 32) % 2 ^ 32
  | .shr => a / 2 ^ (b % 32)
  | .sra => wrap 32 (ashr (signed 32 a) (b % 32))
  | .mul => a * b % 2 ^ 32
  | .min => if signed 32 b < signed 32 a then b else a
  | .max => if signed 32 a < signed 32 b then b else a

/-- What a VA slot writes. -/
def VaOp.result (o : VaOp) (x : EngSt) (g : Nat) : List (Dest × Nat) :=
  match o with
  | .nop => []
  | .vv op ty vd va vb => [(.v vd, underG ty.width g (x.rdV vd) (vecLanes op ty (x.rdV va) (x.rdV vb) (x.rdV vd)))]
  | .vi op ty vd va imm => [(.v vd, underG ty.width g (x.rdV vd) (immLanes op ty (x.rdV va) (x.rdV (va + 1)) imm))]
  | .cvt high ty src vd va => [(.v vd, underG ty.width g (x.rdV vd) (cvtLanes high ty src (x.rdV va) (x.rdV vd)))]
  | .cmp op ty pd va vb => [(.p pd, cmpWord op ty g (x.rdV va) (x.rdV vb) (x.rdP pd))]
  | .bcast ty vd sa => [(.v vd, underG ty.width g (x.rdV vd) (List.replicate ty.lanes (x.rdS sa % 2 ^ ty.width)))]
  | .red largest ty sd va => [(.s sd, reduce largest ty g (x.rdV va))]
  | .pp op pd pa pb => [(.p pd, predWord op (x.rdP pa) (x.rdP pb))]
  | .pmovs pd sa => [(.p pd, x.rdS sa)]
  | .smovp sd pa => [(.s sd, x.rdP pa)]
  | .ss op sd sa sb => [(.s sd, scalarWord op (x.rdS sa) (x.rdS sb))]
  | .saddi sd sa imm => [(.s sd, wrap 32 ((x.rdS sa : Int) + imm))]
  | .smovi sd imm => [(.s sd, wrap 32 imm)]
  | .smovu sd imm => [(.s sd, (x.rdS sd * 2 ^ 14 + imm) % 2 ^ 32)]
  | .sxst sd tag => [(.s sd, x.rdTag tag)]
  | .smovlc sd lc => [(.s sd, x.rdLc lc)]

/-! ### The MAC slot (R108, R144, R156 to R158) -/

/-- Width of an accumulator lane: ACC24 for int8, ACC48 and FACC otherwise. -/
def accWidth (ty : ETy) : Nat := if ty = .int8 then 24 else 48
/-- Lanes of the view. -/
def accLanes (ty : ETy) (a : Nat) : List Nat := lanesOf (accWidth ty) (1536 / accWidth ty) a
/-- Whether G governs lane `i` of a view on. -/
def accOn (ty : ETy) (g i : Nat) : Bool := bitAt g (if ty = .int8 then i / 2 else i)
/-- An accumulator under G. -/
def accUnderG (ty : ETy) (g old : Nat) (new : List Nat) : Nat :=
  packLanes (accWidth ty) (mergeLanes (accOn ty g) 0 new (accLanes ty old))
/-- One lane of VMAC, VMSB, VMULA, VMACB (R157). -/
def mulLane (op : MulOp) (ty : ETy) (a b c : Nat) : Nat :=
  if ty.isFloat then
    let p := (fdec ty a).mul (fdec ty b)
    let acc := fdec .fp32 (c % 2 ^ 32)
    match op with
    | .mula => fenc .fp32 p
    | .msb => fenc .fp32 (acc.add p.neg)
    | .mac => fenc .fp32 (acc.add p)
    | .macb => fenc .fp32 (acc.add p)
  else
    let p := signed ty.width a * signed ty.width b
    let acc := signed (accWidth ty) c
    match op with
    | .mula => saturate (accWidth ty) p
    | .msb => saturate (accWidth ty) (acc - p)
    | .mac => saturate (accWidth ty) (acc + p)
    | .macb => saturate (accWidth ty) (acc + p)
/-- One lane of ACCRD (R158). -/
def readLane (ty : ETy) (shift : Nat) (round sat : Bool) (c : Nat) : Nat :=
  if ty.isFloat then convertLane .fp32 ty (c % 2 ^ 32)
  else
    let i := signed (accWidth ty) c
    let y := if round then roundShift i shift else ashr i shift
    if sat then saturate ty.width y else wrap ty.width y
/-- What the MAC slot writes. -/
def MacOp.result (o : MacOp) (x : EngSt) (g : Nat) : List (Dest × Nat) :=
  match o with
  | .nop => []
  | .mul op ty ad va vb lane =>
    let la := lanesOf ty.width ty.lanes (x.rdV va)
    let lb := lanesOf ty.width ty.lanes (x.rdV vb)
    let lb' := if op = .macb then lb.map (fun _ => lb.getD lane 0) else lb
    [(.a ad, accUnderG ty g (x.rdA ad) (zip3 (mulLane op ty) la lb' (accLanes ty (x.rdA ad))))]
  | .accz ad => [(.a ad, accUnderG .int16 g (x.rdA ad) (List.replicate 32 0))]
  | .accwr ty ad va =>
    [(.a ad, accUnderG ty g (x.rdA ad) ((lanesOf ty.width ty.lanes (x.rdV va)).map (fun v =>
      if ty.isFloat then convertLane ty .fp32 v else wrap (accWidth ty) (signed ty.width v))))]
  | .accrd ty ad vd shift round sat =>
    [(.v vd, underG ty.width g (x.rdV vd) ((accLanes ty (x.rdA ad)).map (readLane ty shift round sat)))]

/-! ### The LS slot: addresses (R160) -/

/-- The address of an access of `z` bytes. -/
def lsAddr (x : EngSt) (b : Nat) (inc : Bool) (ofs : Int) (z : Nat) : Nat :=
  if inc then x.rdS b else wrap 32 ((x.rdS b : Int) + ofs * z)
/-- The update of the base register. -/
def lsBase (x : EngSt) (b : Nat) (inc : Bool) (ofs : Int) (z : Nat) : List (Dest × Nat) :=
  if inc then [(.s b, wrap 32 ((x.rdS b : Int) + ofs * z))] else []
/-- The data memory access of an LS slot: its address and size. -/
def LsOp.access (o : LsOp) (x : EngSt) : Option (Nat × Nat) :=
  match o with
  | .vld _ b inc ofs => some (lsAddr x b inc ofs 64, 64)
  | .vst _ b inc ofs => some (lsAddr x b inc ofs 64, 64)
  | .sld _ b inc ofs => some (lsAddr x b inc ofs 4, 4)
  | .sst _ b inc ofs => some (lsAddr x b inc ofs 4, 4)
  | _ => none
/-- R109: an address that faults. -/
def badAddr (a z : Nat) : Bool := decide (0xC000 ≤ a) || a % z != 0

end Sys2Proof.Machine
end

