-- ==== Sys2Proof/Machine/Contract.lean ====
section
/-! DEFINITION. The timing contract (R21 to R31) and the parts of a ring's schedule state that arming and disarming
change (R27, R42, R47). -/
namespace Sys2Proof.Machine
open Sys2Proof.Machine.Reg

/-! ### Ring groups (R45, R83) -/

/-- The lead of the group of ring `r`: `r` itself where it is in none. -/
def Dev.lead (d : Dev) (r : Nat) : Nat := d.get (RING_GROUP_LEAD r)
/-- The rings that lead `l` stands for: the members of its group, or itself. -/
def Dev.members (d : Dev) (l : Nat) : List Nat := (List.range 128).filter (fun r => d.lead r == l)
/-- The rings whose schedule registers are used: ungrouped rings and leads (R45). -/
def Dev.leads (d : Dev) : List Nat := (List.range 128).filter (fun r => d.lead r == r)
/-- STATE of a ring (Table 1-9). -/
def Dev.rstate (d : Dev) (r : Nat) : Nat := d.get (RING_STATUS_STATE (d.lead r))
/-- Show STATE `st` in lead `l` and every member (R45). -/
def setRState (l st : Nat) (d : Dev) : Dev :=
  forEach (d.members l) d (fun m d => d.set (RING_STATUS_STATE m) st)
/-- Whether the schedule of ring `r` is armed: its lead's ARM. -/
def Dev.armed (d : Dev) (r : Nat) : Bool := d.flag (RING_SCHED_ARM (d.lead r))
/-- Whether a ring is closed for inspection (R82). -/
def Dev.inspected (d : Dev) (r : Nat) : Bool :=
  d.get (RING_STATUS_STATE r) == 5 && d.get (RING_FAB_STATUS_CLOSE_REASON r) == 1

/-! ### The contract delay table (R22, R23) -/

/-- The row of Table 1-2 at or below `mv` millivolts, none below 0.650 V. -/
def duRow (mv : Nat) : Option Nat := if mv < 650 then none else some (Nat.min ((mv - 650) / 25) 10)
/-- Column temperatures in quarter degrees C. -/
def duCols : List Int := [-160, 0, 180, 340, 500, 600]
/-- The readings as R23 takes them: a failed sensor counts as both −40 °C and 150 °C (R437). -/
def readingsR23 (temps : List (Option Int)) : List Int :=
  temps.foldr (fun t acc => match t with | some x => x :: acc | none => (-160) :: 600 :: acc) []
/-- Lowest of a list of readings. -/
def lowest (xs : List Int) : Option Int :=
  xs.foldl (fun m x => match m with | none => some x | some y => some (if x < y then x else y)) none
/-- Highest of a list of readings. -/
def highest (xs : List Int) : Option Int :=
  xs.foldl (fun m x => match m with | none => some x | some y => some (if y < x then x else y)) none
/-- Whether a reading lies outside −40 °C to 150 °C; a failed sensor gives none (R437). -/
def tempOutside (temps : List (Option Int)) : Bool :=
  temps.any (fun t => match t with | some x => decide (x < -160 ∨ 600 < x) | none => false)

/-- R23 in one row: the largest value among the columns from the one at or below the lowest reading to the one at or
above the highest; none where a reading lies outside the table. -/
def duInRow (temps : List (Option Int)) (row : Nat) : Option Nat :=
  if tempOutside temps then none else
  match lowest (readingsR23 temps), highest (readingsR23 temps) with
  | some lo, some hi =>
    let first := (duCols.filter (fun t => decide (t ≤ lo))).length - 1
    let last := 6 - (duCols.filter (fun t => decide (hi ≤ t))).length
    some (((List.range 6).filter (fun c => decide (first ≤ c ∧ c ≤ last))).foldl
      (fun m c => Nat.max m (duTable (6 * row + c))) 0)
  | _, _ => none
/-- R23 at `mv` and the present readings. -/
def duNow (d : Dev) (mv : Nat) : Option Nat := (duRow mv).bind (duInRow d.tg.temps)

/-! ### Window, check, ceiling, floor (R26 to R29) -/

/-- c of R26: 3 ns while a cascade is formed. -/
def cascNs (d : Dev) : Nat := if d.flag RM_CONTRACT_CTRL_CASC_ALLOW then 3 else 0
/-- W of R26 in ns, for divisor `div` and period `p`. -/
def window (d : Dev) (div p : Nat) : Int := (div * p : Nat) - 24 - (cascNs d : Nat)
/-- The acts that the act mode can select (R27). -/
def actsChecked (v : SchedVals) : List Nat :=
  if v.mode = 1 then ((List.range (v.len + 1)).map (fun i => bitsAt v.steps (3 * i) 3)).eraseDups
  else if v.mode = 2 then List.range 8 else [v.fixed]
/-- The check of R27 for one act, in ps, at safety net `vsafe`, column `tj` and period `p`. -/
def actFits (d : Dev) (r vsafe tj p : Nat) (v : SchedVals) (a : Nat) : Bool :=
  match duRow vsafe with
  | none => false
  | some row => decide (((d.get (RING_ACT_DU_DU_TOTAL r a) * duTable (6 * row + tj)
      + d.get (RING_ACT_FIX_FIXED_NS r a) * 1000 : Nat) : Int) ≤ window d v.div p * 1000)
/-- R27 for a ring with schedule values `v`. -/
def ringFits (d : Dev) (r vsafe tj p : Nat) (v : SchedVals) : Bool := (actsChecked v).all (actFits d r vsafe tj p v)
/-- ⌊P⌋ in force. -/
def periodNow (d : Dev) : Nat := d.get RM_PERIOD_NOW_NS
/-- The period R27 checks at arming: the smaller of the one in force and a pending one (R409). -/
def periodCheck (d : Dev) : Nat :=
  match d.ctl.time.pend with
  | some (.period ns _ _ _) => Nat.min (periodNow d) ns
  | _ => periodNow d
/-- The armed leads. -/
def armedLeads (d : Dev) : List Nat := d.leads.filter (fun r => d.flag (RING_SCHED_ARM r))
/-- The armed leads that would fail R27 at these values. -/
def failing (d : Dev) (vsafe tj p : Nat) : List Nat :=
  (armedLeads d).filter (fun r => !ringFits d r vsafe tj p (d.ring r).vals)

/-- The terms of the ceiling (R28): ring, (W − FIX) in ns, DU. -/
def ceilTerms (d : Dev) : List (Nat × Nat × Nat) :=
  (armedLeads d).flatMap (fun r =>
    ((actsChecked (d.ring r).vals).filter (fun a => d.get (RING_ACT_DU_DU_TOTAL r a) != 0)).map (fun a =>
      (r, (window d (d.ring r).vals.div (periodNow d) - (d.get (RING_ACT_FIX_FIXED_NS r a) : Nat)).toNat,
       d.get (RING_ACT_DU_DU_TOTAL r a))))
/-- The smallest term, the first of equal ones. -/
def ceilMin (ts : List (Nat × Nat × Nat)) : Option (Nat × Nat × Nat) :=
  ts.foldl (fun m t => match m with
    | none => some t
    | some u => if t.2.1 * u.2.2 < u.2.1 * t.2.2 then some t else some u) none
/-- R28: recompute the ceiling. A ceiling above the 24 bits of CEIL shows as 0xFFFFFF (DESIGN CHOICE, log 55). With no
armed ring that contributes one, VSAFE_LOW is 0 (Table 1-15). -/
def recomputeCeil (d : Dev) : Dev :=
  match ceilMin (ceilTerms d) with
  | none => (((d.set RM_CONTRACT_CEIL_NONE 1).set RM_CONTRACT_CEIL_LIMIT_RING 0).set RM_CONTRACT_CEIL_CEIL 0xFFFFFF).set
      RM_CONTRACT_STATUS_VSAFE_LOW 0
  | some (r, ns, du) => ((d.set RM_CONTRACT_CEIL_NONE 0).set RM_CONTRACT_CEIL_LIMIT_RING r).set RM_CONTRACT_CEIL_CEIL
      (Nat.min (ns * 1000 * 256 / du) 0xFFFFFF)

/-- The lowest row whose DU value at the present readings does not exceed the ceiling; with no ceiling, the lowest row
that has a value (R29). -/
def floorRow (d : Dev) : Option Nat :=
  (List.range 11).find? (fun row => match duInRow d.tg.temps row with
    | none => false
    | some du => d.flag RM_CONTRACT_CEIL_NONE || decide (du * 256 ≤ d.get RM_CONTRACT_CEIL_CEIL))
/-- VSAFE_LOW (Table 1-15): the value in the row at TG_VSAFE exceeds the ceiling while an armed ring contributes one. Where
a reading lies outside the table, R23 gives no value: the bit then reads 1 (DESIGN CHOICE, log 55). -/
def vsafeLow (d : Dev) : Bool :=
  !d.flag RM_CONTRACT_CEIL_NONE && (match duNow d (d.get TG_VSAFE_MV) with
    | none => true
    | some du => decide (d.get RM_CONTRACT_CEIL_CEIL < du * 256))
/-- R29: the contract floor and its status bits. -/
def recomputeFloor (d : Dev) : Dev :=
  let d1 := match floorRow d with
    | some row => (d.set RM_CONTRACT_STATUS_FLOOR_MV (650 + 25 * row)).set RM_CONTRACT_STATUS_FLOOR_NONE 0
    | none => (d.set RM_CONTRACT_STATUS_FLOOR_MV 900).set RM_CONTRACT_STATUS_FLOOR_NONE 1
  (d1.set RM_CONTRACT_STATUS_T_RANGE (b2n (tempOutside d.tg.temps))).set RM_CONTRACT_STATUS_VSAFE_LOW (b2n (vsafeLow d))

/-! ### Schedule values, arming, disarming -/

/-- The schedule values as the registers stand (R46, R48, R49). -/
def schedRegs (d : Dev) (r : Nat) : SchedVals :=
  { div := d.get (RING_SCHED_DIV r) + 1, phase := d.get (RING_SCHED_PHASE r),
    mode := if d.get (RING_SCHED_ACT_MODE r) = 3 then 0 else d.get (RING_SCHED_ACT_MODE r),
    fixed := d.get (RING_SCHED_ACT_FIXED r), limit := d.get (RING_SCHED_SLIP_LIMIT r),
    len := d.get (RING_ACT_SEQ_LEN r), steps := d.get (RING_ACT_SEQ_STEP r) }
/-- Bring the schedule registers of ring `r` into force. -/
def syncSched (r : Nat) (d : Dev) : Dev := d.setRing r { d.ring r with vals := schedRegs d r, schedAt := none }
/-- A schedule register of ring `r` was written: it waits for the end edge while the ring is in the schedule, and is in
force at once otherwise (R46). No bullet of R31 names a change of DIV, ACT_MODE, ACT_FIXED or RING_ACT_SEQ of an armed
ring: it is taken unchecked, also where the ring then fails R27 (DESIGN CHOICE, log 55). -/
def schedWritten (r : Nat) (d : Dev) : Dev :=
  if d.rstate r = 1 ∨ d.rstate r = 2 ∨ d.rstate r = 3 then d.setRing r { d.ring r with schedAt := some d.tb }
  else syncSched r d

/-- R27 fails or R31 disarms: BUDGET_ERR in the status and the cause. -/
def budgetErr (r : Nat) (d : Dev) : Dev := (d.raise (RING_STATUS_BUDGET_ERR r)).raise (RING_IRQ_CAUSE_BUDGET_ERR r)

/-- ARM of ring `r` is cleared (R47, R42): a ring in a ring tick finishes it first, a waiting ring goes to IDLE, a
faulted or closed ring only stores ARM = 0. -/
def disarm (r : Nat) (d : Dev) : Dev :=
  if d.flag (RING_SCHED_ARM r) then
    let d1 := d.set (RING_SCHED_ARM r) 0
    let d2 := match (d.ring r).run with
      | .out => if d.rstate r = 1 then
          setRState r 0 (forEach (d.members r) (syncSched r d1) (fun m d =>
            d.setRing m { d.ring m with restart := false, leaving := !(d.ring m).safe })) else d1
      | _ => d1.setRing r { d.ring r with disarm := true }
    recomputeCeil d2
  else d

end Sys2Proof.Machine
end

