-- ==== Sys2Proof/Machine/Fabric.lean ====
section
/-! DEFINITION. The handshake fabric (R60 to R102): tokens, cells, gateways, ring memory, quiescence, ring groups, host
access to ring memory. A token stands at its consumer's input; a firing takes its inputs and places its output in one
step (log 10). -/
namespace Sys2Proof.Machine
open Sys2Proof.Machine.Reg

/-! ### The grid and the edges (R60, R70) -/

/-- The neighbour of ring `r` across edge `e` (0 N, 1 E, 2 S, 3 W). -/
def neighbour (r e : Nat) : Option Nat :=
  match e with
  | 0 => if r < 16 then none else some (r - 16)
  | 1 => if r % 16 = 15 then none else some (r + 1)
  | 2 => if r / 16 = 7 then none else some (r + 16)
  | 3 => if r % 16 = 0 then none else some (r - 1)
  | _ => none
/-- The edge that faces edge `e` in the neighbour. -/
def facing (e : Nat) : Nat := (e + 2) % 4
/-- Mode of an edge: 0 OFF, 1 CAPTURED, 2 THROUGH (R70). -/
def edgeMode (d : Dev) (r e : Nat) : Nat :=
  match neighbour r e with
  | none => 0
  | some n => if d.lead n = d.lead r then 2 else 1

/-! ### Tokens (R62, R67, R68) -/

/-- The number of a wide token's source. -/
def wsrcKey : WSrc → Nat
  | .pack g => g
  | .mem b p => 128 + 2 * b + b2n p
  | .eng k p => 192 + 4 * k + p
  | .slot t => 224 + t

/-- Change a ring's fabric. -/
def Dev.mapFab (d : Dev) (r : Nat) (f : FabSt → FabSt) : Dev := d.setRing r { d.ring r with fab := f (d.ring r).fab }

/-- Digit `i` of `v` replaced by `x`. -/
def putDigit4 (v i : Nat) (x : Digit) : Nat := v - bitsAt v (2 * i) 2 * 4 ^ i + x.val * 4 ^ i
/-- Digit `i` of `v`. -/
def digitOf (v i : Nat) : Digit := Fin.ofNat 4 (v / 4 ^ i)

/-- The places a digit source drives, followed across THROUGH edges (R70). -/
def sinksOf (d : Dev) (fuel r : Nat) (src : DSrc) : List (Nat × DSink) :=
  match fuel with
  | 0 => []
  | n + 1 =>
    ((d.ring r).cfg.droutes.filter (fun p => p.1 == src)).flatMap (fun p => p.2.flatMap (fun s =>
      match s with
      | .edge e i => if edgeMode d r e = 2 then sinksOf d n ((neighbour r e).getD r) (.edge (facing e) i) else [(r, s)]
      | _ => [(r, s)]))
/-- The places a source drives; no path crosses more than the 32 rings of a group. -/
def drives (d : Dev) (r : Nat) (src : DSrc) : List (Nat × DSink) := sinksOf d 33 r src

/-- Whether a digit's place is free. -/
def sinkFree (d : Dev) (p : Nat × DSink) : Bool :=
  let f := (d.ring p.1).fab
  match p.2 with
  | .cell c 0 => (sget none f.cellA c).isNone
  | .cell c _ => (sget none f.cellB c).isNone
  | .pack g i => (sget none f.packs (32 * g + i)).isNone
  | .slot 25 i => (sget none f.pulses i).isNone
  | _ => true

/-- Write digit `i` of a capture register (R77). -/
def capWrite (i : Nat) (v : Digit) (c : CapSt) : CapSt :=
  { reg := putDigit4 c.reg i v, written := if c.written.contains i then c.written else i :: c.written }

/-- Place a digit. -/
def placeDigit (v : Digit) (d : Dev) (p : Nat × DSink) : Dev :=
  match p.2 with
  | .cell c 0 => d.mapFab p.1 (fun f => { f with cellA := sset none f.cellA c (some v) })
  | .cell c _ => d.mapFab p.1 (fun f => { f with cellB := sset none f.cellB c (some v) })
  | .pack g i => d.mapFab p.1 (fun f => { f with packs := sset none f.packs (32 * g + i) (some v) })
  | .slot 25 i => d.mapFab p.1 (fun f => { f with pulses := sset none f.pulses i (some v) })
  | .slot t i =>
    let x := d.ring p.1
    d.setRing p.1 { x with caps := sset {} x.caps t (capWrite i v (sget {} x.caps t)) }
  | .actSel i =>
    let x := d.ring p.1
    d.setRing p.1 { x with caps := sset {} x.caps 32 (capWrite i v (sget {} x.caps 32)) }
  | .edge e i =>
    let x := d.ring p.1
    let g := sget {} x.edges e
    let g' := { g with reg := putDigit4 g.reg i v, written := if g.written.contains i then g.written else i :: g.written }
    d.setRing p.1 { x with edges := sset {} x.edges e g' }

/-- Drive a digit to every place of its source. -/
def drive (r : Nat) (src : DSrc) (v : Digit) (d : Dev) : Dev := (drives d r src).foldl (placeDigit v) d
/-- Whether every place of a source is free. -/
def canDrive (d : Dev) (r : Nat) (src : DSrc) : Bool := (drives d r src).all (sinkFree d)

/-- Where a wide source's tokens go. -/
def wsinkOf (d : Dev) (r : Nat) (src : WSrc) : Option WSink :=
  (((d.ring r).cfg.wroutes.find? (fun p => p.1 == src)).map (·.2))
/-- The source that feeds a wide place. -/
def wsrcOf (d : Dev) (r : Nat) (snk : WSink) : Option WSrc :=
  (((d.ring r).cfg.wroutes.find? (fun p => p.2 == snk)).map (·.1))
/-- The tokens that wait at a wide source. -/
def wideAt (d : Dev) (r : Nat) (src : WSrc) : List Token := sget [] (d.ring r).fab.wide (wsrcKey src)
/-- The tokens that wait for a wide place. -/
def waiting (d : Dev) (r : Nat) (snk : WSink) : List Token :=
  match wsrcOf d r snk with | some s => wideAt d r s | none => []
/-- Replace the tokens of a wide source. -/
def setWide (r : Nat) (src : WSrc) (ts : List Token) (d : Dev) : Dev :=
  d.mapFab r (fun f => { f with wide := sset [] f.wide (wsrcKey src) ts })

/-- A memory port that is free takes the next command token that waits for it (R72). -/
def feedPort (r b : Nat) (portB : Bool) (d : Dev) : Dev :=
  match sget none (d.ring r).fab.memCmd (2 * b + b2n portB), wsrcOf d r (.mem b portB) with
  | none, some s => match wideAt d r s with
    | t :: ts => (setWide r s ts d).mapFab r (fun f => { f with memCmd := sset none f.memCmd (2 * b + b2n portB) (some t) })
    | [] => d
  | _, _ => d

/-- Present wide tokens at a source: a token of a source that the configuration leads nowhere is taken by nothing and
is not kept (log 10). -/
def present (r : Nat) (src : WSrc) (ts : List Token) (d : Dev) : Dev :=
  match wsinkOf d r src with
  | none => d
  | some (.mem b p) => feedPort r b p (setWide r src (wideAt d r src ++ ts) d)
  | some _ => setWide r src (wideAt d r src ++ ts) d
/-- Whether a wide source may present another token: its last one has been taken; a Turnstile slot takes tokens as they
come. -/
def wideRoom (d : Dev) (r : Nat) (src : WSrc) : Bool :=
  match wsinkOf d r src with
  | some (.slot _) => true
  | _ => (wideAt d r src).isEmpty
/-- Take the oldest token that waits for a wide place. -/
def takeWide (r : Nat) (snk : WSink) (d : Dev) : Dev :=
  match wsrcOf d r snk with
  | some s => setWide r s ((wideAt d r s).drop 1) d
  | none => d

/-! ### Cells (R63, R64) -/

/-- The configuration of a cell. -/
def cellCfg (d : Dev) (r c : Nat) : Option HlcCfg :=
  (((d.ring r).cfg.cells.find? (fun p => p.1 == c)).map (·.2))
/-- The digit at input A of a cell. -/
def inA (d : Dev) (r c : Nat) : Option Digit := sget none (d.ring r).fab.cellA c
/-- The digit at input B of a cell. -/
def inB (d : Dev) (r c : Nat) : Option Digit := sget none (d.ring r).fab.cellB c
/-- Take the digit at input A. -/
def clearA (r c : Nat) (d : Dev) : Dev := d.mapFab r (fun f => { f with cellA := sset none f.cellA c none })
/-- Take the digit at input B. -/
def clearB (r c : Nat) (d : Dev) : Dev := d.mapFab r (fun f => { f with cellB := sset none f.cellB c none })
/-- A cell's output where its consumers have room: the inputs that `taken` takes, then the output. -/
def fireOut (r : Nat) (src : DSrc) (v : Digit) (taken : Dev → Dev) (d : Dev) : Dev :=
  if canDrive d r src then drive r src v (taken d) else d

/-- HLC_FIRE (R63): the cell takes its inputs and emits its output by its mode; a cell without its inputs, or whose
consumers still hold a token, waits. -/
def hlcFire (r c : Nat) (d : Dev) : Dev :=
  match cellCfg d r c with
  | none => d
  | some h =>
    match h.mode, inA d r c, inB d r c with
    | .func, some a, some b => fireOut r (.cell c 0) (h.table.getD (4 * a.val + b.val) 0) (fun d => clearB r c (clearA r c d)) d
    | .func1, some a, _ => fireOut r (.cell c 0) (h.table.getD a.val 0) (clearA r c) d
    | .buf, some a, _ => fireOut r (.cell c 0) a (clearA r c) d
    | .fork, some a, _ => fireOut r (.cell c 0) a (clearA r c) d
    | .steer, some a, some b =>
      fireOut r (.cell c (if b.val < 2 then 0 else 1)) a (fun d => clearB r c (clearA r c d)) d
    | .merge, some a, _ => fireOut r (.cell c 0) a (clearA r c) d
    | .merge, none, some b => fireOut r (.cell c 0) b (clearB r c) d
    | .sink, some _, _ => clearA r c d
    | .state, some a, _ => (clearA r c d).mapFab r (fun f => { f with next := sset none f.next c (some a) })
    | _, _, _ => d

/-- The STATE cells of a ring. -/
def stateCells (d : Dev) (r : Nat) : List (Nat × HlcCfg) := (d.ring r).cfg.cells.filter (fun p => p.2.mode == .state)
/-- R64: every STATE cell takes its configured initial digit. -/
def initStates (r : Nat) (d : Dev) : Dev :=
  d.mapFab r (fun f => { f with
    stored := (stateCells d r).foldl (fun m p => sset 0 m p.1 p.2.digit) f.stored, next := [] })
/-- At input release every STATE cell takes the digit it received in the ring tick before and emits it, and every SOURCE
emits its constant (R63, R64). -/
def releaseCells (r : Nat) (d : Dev) : Dev :=
  let d1 := d.mapFab r (fun f => { f with
    stored := (stateCells d r).foldl (fun m p => match sget none f.next p.1 with | some v => sset 0 m p.1 v | none => m) f.stored,
    next := [] })
  let d2 := forEach (stateCells d1 r) d1 (fun p d => drive r (.cell p.1 0) (sget 0 (d.ring r).fab.stored p.1) d)
  forEach ((d2.ring r).cfg.cells.filter (fun p => p.2.mode == .source)) d2 (fun p d => drive r (.cell p.1 0) p.2.digit d)

/-! ### Gateways (R68) -/

/-- PACK_GATEWAY: all 32 digits, into one wide token. -/
def packGateway (r g : Nat) (d : Dev) : Dev :=
  let digs := (List.range 32).map (fun i => sget none (d.ring r).fab.packs (32 * g + i))
  if digs.all (·.isSome) ∧ wideRoom d r (.pack g) then
    let v := (digs.map (·.getD 0)).foldr (fun x acc => x.val + 4 * acc) 0
    let d1 := d.mapFab r (fun f => { f with
      packs := (List.range 32).foldl (fun m i => sset none m (32 * g + i) none) f.packs })
    present r (.pack g) [BitVec.ofNat 64 v] d1
  else d

/-- UNPACK_GATEWAY: one wide token, into its 32 digits. -/
def unpackGateway (r g : Nat) (d : Dev) : Dev :=
  match waiting d r (.unpack g) with
  | [] => d
  | t :: _ =>
    if (List.range 32).all (fun i => canDrive d r (.unpack g i)) then
      forEach (List.range 32) (takeWide r (.unpack g) d) (fun i d => drive r (.unpack g i) (digitOf t.toNat i) d)
    else d

/-! ### Ring memory (R72, R73, R97) -/

/-- BAR2 offset of a word of ring memory (R87). -/
def ringWordAt (r b w : Nat) : Nat := r * 0x40000 + b * 0x2000 + 8 * w
/-- A corrected error is counted. -/
def ringCe (r : Nat) (d : Dev) : Dev := (d.incSat (RING_MEM_ECC_CE_COUNT r)).raise (RING_FAB_IRQ_CAUSE_MEM_CE r)
/-- An uncorrectable error is counted and recorded. -/
def ringUe (r b w : Nat) (host portB : Bool) (d : Dev) : Dev :=
  let d1 := ((d.incSat (RING_MEM_ECC_UE_COUNT r)).raise (RING_FAB_IRQ_CAUSE_MEM_UE r)).set (RING_MEM_ECC_ADDR_VALID r) 1
  (((d1.set (RING_MEM_ECC_ADDR_HOST r) (b2n host)).set (RING_MEM_ECC_ADDR_PORT r) (b2n portB)).set
    (RING_MEM_ECC_ADDR_BLOCK r) b).set (RING_MEM_ECC_ADDR_WORD r) w
/-- What one word read meets: its data and status (0 OK, 1 CORRECTED, 2 UNCORRECTABLE), the errors counted. The data of
an uncorrectable word is a free value (log 2). -/
def ringRead (r b w : Nat) (host portB : Bool) (d : Dev) : Token × Nat × Dev :=
  let a := ringWordAt r b w
  match d.chipFlaw a with
  | .none => (BitVec.ofNat 64 (rdLe d.chip.cells a 8), 0, d)
  | .single => (BitVec.ofNat 64 (rdLe d.chip.cells a 8), 1, ringCe r d)
  | .double => (BitVec.ofNat 64 (d.freeVal 64), 2, (ringUe r b w host portB d).bump)
/-- Byte `i` of a word with its enable. -/
def enabled (en : Nat) (v : Token) : List (Bool × Byte) :=
  (List.range 8).map (fun i => (bitAt en i, BitVec.ofNat 8 (v.toNat / 256 ^ i)))
/-- A write of one word with its byte enables (R73). -/
def ringWrite (r b w en : Nat) (v : Token) (host portB : Bool) (d : Dev) : Nat × Dev :=
  let a := ringWordAt r b w
  let put (d : Dev) : Dev :=
    ({ d with chip := { d.chip with cells := wrEnabled d.chip.cells a (enabled en v) } } : Dev).setChipFlaw a .none
  if en % 256 = 255 then (0, put d)
  else match d.chipFlaw a with
    | .none => (0, put d)
    | .single => (1, put (ringCe r d))
    | .double => (2, ringUe r b w host portB d)

/-- Operation of a command token: a write (1) or a read (0, 2, 3) (R72). -/
def isWriteCmd (t : Token) : Bool := bitsAt t.toNat 10 2 == 1
/-- The port is free for its next command. -/
def portDone (r b : Nat) (portB : Bool) (d : Dev) : Dev :=
  feedPort r b portB (d.mapFab r (fun f => { f with memCmd := sset none f.memCmd (2 * b + b2n portB) none }))

/-- RING_MEM_READ (R72): the read command that the port holds. -/
def ringMemRead (r b : Nat) (portB : Bool) (d : Dev) : Dev :=
  match sget none (d.ring r).fab.memCmd (2 * b + b2n portB) with
  | none => d
  | some t =>
    if isWriteCmd t || !canDrive d r (.memStatus b portB) || !wideRoom d r (.mem b portB) then d
    else
      let (v, st, d1) := ringRead r b (bitsAt t.toNat 0 10) false portB d
      portDone r b portB (drive r (.memStatus b portB) (Fin.ofNat 4 st) (present r (.mem b portB) [v] d1))

/-- RING_MEM_WRITE (R72, R73): the write command that the port holds, with the data token that follows it. -/
def ringMemWrite (r b : Nat) (portB : Bool) (d : Dev) : Dev :=
  match sget none (d.ring r).fab.memCmd (2 * b + b2n portB), waiting d r (.mem b portB) with
  | some t, v :: _ =>
    if !isWriteCmd t || !canDrive d r (.memStatus b portB) then d
    else
      let (st, d1) := ringWrite r b (bitsAt t.toNat 0 10) (bitsAt t.toNat 12 8) v false portB
        (takeWide r (.mem b portB) d)
      portDone r b portB (drive r (.memStatus b portB) (Fin.ofNat 4 st) d1)
  | _, _ => d

/-! ### Host access to ring memory (R87 to R89) -/

/-- The crossings without a slot, by number (R173): the host's into ring memory of ring `r`. -/
def xRing (r : Nat) : Nat := r
/-- The host's crossing into data memory of engine `e`. -/
def xData (e : Nat) : Nat := 1024 + e
/-- The host's crossing into program memory of engine `e`. -/
def xProg (e : Nat) : Nat := 2048 + e
/-- Carousel's frame port (R495). -/
def xCarousel : Nat := 4096
/-- The crossing into controller XMC`n`. -/
def xMem (n : Nat) : Nat := 4097 + n
/-- The crossing between the adapters of Ethernet port `p` and its own clock. -/
def xEth (p : Nat) : Nat := 4105 + p
/-- The crossing into the configuration controller. -/
def xConfig : Nat := 4153
/-- Whether the far side of a crossing without a slot is stopped or in reset (R88, R173, R190). -/
def xStopped (d : Dev) (x : Nat) : Bool := sget 0 d.xstop x != 0

/-- The code that refuses a host access to a block, OK where it is served (R81, R88, R101, R173). -/
def ringHostCode (d : Dev) (r b : Nat) : Resp :=
  let st := d.rstate r
  if st = 5 then .closed
  else if xStopped d (xRing r) then .clockStopped
  else if (st = 1 ∨ st = 2 ∨ st = 3) ∧ !bitAt (d.get (RING_MEM_HOST_SHARED r)) b then .perm
  else if d.flag (RING_FAB_STATUS_MEM_BUSY r) then .retry
  else .ok

/-- A host read of `n` bytes (4 or 8) at byte `o` of a word: code, data. -/
def ringHostRead (r b w o n : Nat) (d : Dev) : Resp × Nat × Dev :=
  match ringHostCode d r b with
  | .ok =>
    let (v, st, d1) := ringRead r b w true true d
    if st = 2 then (.ecc, 0, d1) else (.ok, v.toNat / 256 ^ o % 256 ^ n, d1)
  | c => (c, 0, d)
/-- A host write of `n` bytes (4 or 8) at byte `o` of a word (R87). -/
def ringHostWrite (r b w o n v : Nat) (d : Dev) : Resp × Dev :=
  match ringHostCode d r b with
  | .ok =>
    let (st, d1) := ringWrite r b w (if n = 8 then 255 else 15 * 2 ^ o) (BitVec.ofNat 64 (v * 256 ^ o)) true true d
    (if st = 2 then .ecc else .ok, d1)
  | c => (c, d)

/-- Whether a host access of `n` bytes at offset `o` is one that R87 and R112 allow: 4 or 8 bytes, naturally aligned. -/
def unitOk (o n : Nat) : Bool := (n == 4 || n == 8) && o % n == 0

/-- RING_MEM_HOST_ACCESS (R87, R88): one access of `n` bytes at an offset of ring memory; a read where `data` is none. -/
def ringMemHostAccess (off n : Nat) (data : Option Nat) (d : Dev) : Dev :=
  let r := off / 0x40000
  let b := off / 0x2000 % 32
  let w := off / 8 % 1024
  if !decide (off < 0x2000000) then d.answer .addr
  else if !unitOk off n then d.answer (Resp.worst .addr (ringHostCode d r b))
  else match data with
    | none => let (c, v, d1) := ringHostRead r b w (off % 8) n d; d1.answer c (if c = .ok then [v] else [])
    | some v => let (c, d1) := ringHostWrite r b w (off % 8) n v d; d1.answer c

/-! ### Quiescence (R76, R98) -/

/-- Whether any token stands in a ring's fabric. -/
def tokensIn (d : Dev) (r : Nat) : Bool :=
  let f := (d.ring r).fab
  !(f.cellA.isEmpty && f.cellB.isEmpty && f.packs.isEmpty && f.pulses.isEmpty && f.wide.isEmpty && f.memCmd.isEmpty)
/-- Whether a STATE cell has not stored its next digit. -/
def statesOpen (d : Dev) (r : Nat) : Bool := (stateCells d r).any (fun p => (sget none (d.ring r).fab.next p.1).isNone)
/-- Whether a capture register has been written in this ring tick. -/
def capWritten (d : Dev) (r : Nat) : CapReg → Bool
  | .edge e i => (sget {} (d.ring r).edges e).written.contains i
  | .slot t i => (sget {} (d.ring r).caps t).written.contains i
  | .actSel i => (sget {} (d.ring r).caps 32).written.contains i
/-- Whether a register of the required set of the present act is still to be written. -/
def outPending (d : Dev) (r : Nat) : Bool :=
  (d.ring r).cfg.required.any (fun p => p.1 == d.get (RING_STATUS_ACT_NOW (d.lead r)) && p.2.any (fun c => !capWritten d r c))

/-! ### Ring groups (R83, R84) -/

/-- The rings of a rectangle with its top left ring `r`. -/
def rectangle (r w h : Nat) : List Nat := (List.range h).flatMap (fun y => (List.range w).map (fun x => r + 16 * y + x))
/-- Whether R83 refuses a group. -/
def groupRefused (d : Dev) (r w h : Nat) : Bool :=
  decide (16 < r % 16 + w) || decide (8 < r / 16 + h) || decide (32 < w * h) ||
  (rectangle r w h).any (fun m => d.flag (RING_GROUP_EN m) || d.flag (RING_SCHED_ARM m) || d.get (RING_STATUS_STATE m) == 5)

/-- A write of RING_GROUP is refused: GROUP_ERR in the status and the cause of the ring written (R83, Table 2-13,
Table 2-15). -/
def groupErr (r : Nat) (d : Dev) : Dev :=
  ((d.set (RING_FAB_STATUS_GROUP_ERR r) 1).raise (RING_FAB_IRQ_CAUSE_GROUP_ERR r)).answer .perm
/-- The write of RING_GROUP with EN = 1 (R83). -/
def groupForm (r w h : Nat) (d : Dev) : Dev :=
  if d.inspected r then d.answer .closed
  else if groupRefused d r w h then groupErr r d
  else
    let st := d.get (RING_STATUS_STATE r)
    let d1 := forEach (rectangle r w h) d (fun m d =>
      ((((d.set (RING_GROUP_EN m) 1).set (RING_GROUP_LEAD m) r).set (RING_STATUS_GROUPED m) (b2n (m != r))).set
        (RING_STATUS_STATE m) st))
    (((d1.set (RING_GROUP_WIDTH_M1 r) (w - 1)).set (RING_GROUP_HEIGHT_M1 r) (h - 1)).set
      (RING_FAB_STATUS_GROUP_ERR r) 0).answer .ok

/-- The handshake state of a ring is cleared: no token, no ring-done, nothing written, no request waited for (R41).
Ring memory and the capture registers keep their contents. -/
def clearWork (r : Nat) (d : Dev) : Dev :=
  let x := d.ring r
  d.setRing r { x with
    fab := { stored := x.fab.stored, next := x.fab.next }, qdone := false, done := none, reqs := 0,
    edges := x.edges.map (fun p => (p.1, { p.2 with written := [] })),
    caps := x.caps.map (fun p => (p.1, { p.2 with written := [] })) }

/-- No ring tick of ring `m` goes on. -/
def endTick (m : Nat) (d : Dev) : Dev :=
  match (d.ring m).run with
  | .out => d
  | _ => (clearWork m d).setRing m { (clearWork m d).ring m with run := .out, disarm := false, leaving := true }

/-- A ring is on its own again: no group, IDLE, its STATE cells at their initial digits (R84). -/
def ungroup (m : Nat) (d : Dev) : Dev :=
  initStates m (((((endTick m d).set (RING_GROUP_EN m) 0).set (RING_GROUP_LEAD m) m).set (RING_STATUS_GROUPED m) 0).set
    (RING_STATUS_STATE m) (if d.get (RING_STATUS_STATE m) = 5 then 5 else 0))

/-- The write of RING_GROUP with EN = 0 (R84), with the width and height it carries. An accepted one is the last write of
EN, and no refused one: GROUP_ERR reads 0 (Table 2-13). -/
def groupDissolve (r w h : Nat) (d : Dev) : Dev :=
  if d.inspected r then d.answer .closed
  else if d.lead r ≠ r then groupErr r d
  else if d.flag (RING_GROUP_EN r) ∧ d.flag (RING_SCHED_ARM r) then groupErr r d
  else
    let d1 := if d.flag (RING_GROUP_EN r) then forEach (d.members r) d ungroup else d
    (((d1.set (RING_GROUP_WIDTH_M1 r) (w - 1)).set (RING_GROUP_HEIGHT_M1 r) (h - 1)).set
      (RING_FAB_STATUS_GROUP_ERR r) 0).answer .ok

/-! ### Fabric commands (R100, R101) -/

/-- The ring memory of a ring is being zeroed: MEM_ZERO (R101). -/
def ringMemZero (r : Nat) (d : Dev) : Dev :=
  if d.inspected r then d.answer .closed
  else if d.rstate r ≠ 0 ∧ d.rstate r ≠ 4 then d.answer .perm
  else (d.set (RING_FAB_STATUS_MEM_BUSY r) 1).answer .ok
/-- Zeroing ends (R100, R102). -/
def ringMemZeroDone (r : Nat) (d : Dev) : Dev :=
  if d.flag (RING_FAB_STATUS_MEM_BUSY r) then
    ((d.chipZero (ringWordAt r 0 0) 0x40000).set (RING_FAB_STATUS_MEM_BUSY r) 0).raise (RING_FAB_IRQ_CAUSE_ZERO_DONE r)
  else d
/-- CLR_ECC (R100). -/
def ringClrEcc (r : Nat) (d : Dev) : Dev :=
  if d.inspected r then d.answer .closed
  else (((d.set (RING_MEM_ECC_CE_COUNT r) 0).set (RING_MEM_ECC_UE_COUNT r) 0).set (RING_MEM_ECC_ADDR_VALID r) 0).answer .ok

/-! ### The meanings -/

/-- HLC_FIRE (R63). -/
def execHlcFire (r : Fin 128) (c : Fin 24576) (s : State) : Host.Outcome State Fault Refusal := run s (hlcFire r c)
/-- PACK_GATEWAY (R68). -/
def execPackGateway (r g : Fin 128) (s : State) : Host.Outcome State Fault Refusal := run s (packGateway r g)
/-- UNPACK_GATEWAY (R68). -/
def execUnpackGateway (r g : Fin 128) (s : State) : Host.Outcome State Fault Refusal := run s (unpackGateway r g)
/-- RING_MEM_READ (R72). -/
def execRingMemRead (r : Fin 128) (b : Fin 32) (portB : Bool) (s : State) : Host.Outcome State Fault Refusal :=
  run s (ringMemRead r b portB)
/-- RING_MEM_WRITE (R73). -/
def execRingMemWrite (r : Fin 128) (b : Fin 32) (portB : Bool) (s : State) : Host.Outcome State Fault Refusal :=
  run s (ringMemWrite r b portB)
/-- GROUP_FORM (R83). -/
def execGroupForm (r : Fin 128) (widthM1 : Fin 16) (heightM1 : Fin 8) (s : State) : Host.Outcome State Fault Refusal :=
  run s (groupForm r (widthM1.val + 1) (heightM1.val + 1))
/-- GROUP_DISSOLVE (R84). -/
def execGroupDissolve (r : Fin 128) (widthM1 : Fin 16) (heightM1 : Fin 8) (s : State) : Host.Outcome State Fault Refusal :=
  run s (groupDissolve r (widthM1.val + 1) (heightM1.val + 1))
/-- RING_MEM_HOST_ACCESS (R88). -/
def execRingMemHostAccess (off : BitVec 25) (len : Fin 16) (data : Option Token) (s : State) :
    Host.Outcome State Fault Refusal := run s (ringMemHostAccess off.toNat len.val (data.map (·.toNat)))
/-- RING_MEM_ZERO (R101). -/
def execRingMemZero (r : Fin 128) (s : State) : Host.Outcome State Fault Refusal := run s (ringMemZero r)
/-- RING_MEM_ZERO_DONE (R100). -/
def execRingMemZeroDone (r : Fin 128) (s : State) : Host.Outcome State Fault Refusal := run s (ringMemZeroDone r)
/-- RING_CLR_ECC (R100). -/
def execRingClrEcc (r : Fin 128) (s : State) : Host.Outcome State Fault Refusal := run s (ringClrEcc r)

end Sys2Proof.Machine
end

