-- ==== Sys2Proof/Machine/Queue.lean ====
section
/-! DEFINITION. The queue manager (R200 to R257): pool, queues, packets, marks, drops, watermarks, resets, the sweep,
host access. A piece of a request is carried out whole, word by word in order (log 12); QueuePorts.lean has the ports that serve
requests. -/
namespace Sys2Proof.Machine
open Sys2Proof.Machine.Reg

/-! ### Queues and the pool -/

/-- Queue `q`. -/
def Dev.queue (d : Dev) (q : Nat) : QSt := sget {} d.qm.queues q
/-- Replace queue `q`. -/
def Dev.setQueue (d : Dev) (q : Nat) (x : QSt) : Dev := { d with qm := { d.qm with queues := sset {} d.qm.queues q x } }
/-- The number of the QCLK cycle (1.6 GHz, 0.625 ns) in which a command takes effect. -/
def Dev.qclk (d : Dev) : Nat := 2 * d.tb / 5
/-- Both copies of the pointers (R235). -/
def QSt.setPtrs (x : QSt) (p : QPtrs) : QSt := { x with ptrA := p, ptrB := p }

/-- Free cells. -/
def poolFree (d : Dev) : Nat := 262144 - d.qm.pool.length
/-- Quarantined cells. -/
def quarantined (d : Dev) : Nat := (d.qm.pool.filter (fun p => match p.2 with | some c => c.quar | none => false)).length
/-- The lowest number from `n` up that is not a key (which free cell a queue takes: log 13). -/
def firstGap {α : Type} (n : Nat) : Store α → Nat
  | [] => n
  | (k, _) :: rest => if k = n then firstGap (n + 1) rest else n

/-- QM_IRQ_CAUSE.POOL_LOW and its arming (R242). -/
def poolLow (d : Dev) : Dev :=
  let level := d.get QM_POOL_LOW_LEVEL
  if level = 0 then { d with qm := { d.qm with lowArm := true } }
  else if level ≤ poolFree d then { d with qm := { d.qm with lowArm := true } }
  else if d.qm.lowArm then { d.raise QM_IRQ_CAUSE_POOL_LOW with qm := { d.qm with lowArm := false } }
  else d

/-- Take a cell for queue `q`. -/
def takeCell (q : Nat) (d : Dev) : Nat × Dev :=
  let c := firstGap 0 d.qm.pool
  (c, poolLow { d with qm := { d.qm with pool := sput d.qm.pool c (some { q := q, gen := (d.queue q).gen }) } })
/-- Give cells back. -/
def freeCells (cs : List Nat) (d : Dev) : Dev :=
  poolLow { d with qm := { d.qm with pool := cs.foldl (fun m c => sdel m c) d.qm.pool } }

/-! ### What the descriptor shows (Table 6-2) -/

/-- Mode: 0 STREAM, 1 PACKET, 2 COMMIT (R254). -/
def qMode (d : Dev) (q : Nat) : Nat := d.get (QD_CFG_MODE q)
/-- OCC. -/
def QSt.occ (x : QSt) : Nat := x.ptrA.tail - x.ptrA.mark.getD x.ptrA.rd
/-- Where DEPTH ends. -/
def QSt.depthEnd (x : QSt) (mode : Nat) : Nat :=
  if mode = 2 then x.ptrA.commit else x.ptrA.tail - (if x.openN = 0 then 0 else 1)
/-- DEPTH. -/
def QSt.depth (x : QSt) (mode : Nat) : Nat := x.depthEnd mode - x.ptrA.rd
/-- The words a pop can return. -/
def QSt.visible (x : QSt) (mode : Nat) : List QWord := (x.words.drop (x.ptrA.rd - x.base)).take (x.depth mode)
/-- PKT_COUNT (R217). -/
def QSt.pkts (x : QSt) (mode : Nat) : Nat := ((x.visible mode).filter (fun w => w.fin)).length
/-- DISCARDING (R257). -/
def QSt.discarding (x : QSt) : Bool := !x.discard.isEmpty || x.failed

/-- Bit `q` of QM_ATTN (R250). -/
def attn (d : Dev) (q : Nat) : Bool :=
  d.flag (QD_STAT_OVERRUN q) || d.flag (QD_STAT_PTR_ERR q) || (d.flag (QD_STAT_WM_EVENT q) && d.flag (QD_CFG_WM_IRQ q))
/-- QM_IRQ_CAUSE.ATTN where a change sets the queue's bit (R246). -/
def withAttn (q : Nat) (f : Dev → Dev) (d : Dev) : Dev :=
  if !attn d q && attn (f d) q then (f d).raise QM_IRQ_CAUSE_ATTN else f d

/-! ### The watermark (R231, R232, R345) -/

/-- The port and class that send PFC for queue `q`. -/
def pfcPorts (d : Dev) (q : Nat) : List (Nat × Nat) :=
  ((List.range 48).filter (fun p => d.flag (EP_CFG_PFC_TX p) && d.get (EP_STATUS_STATE p) == 2)).flatMap (fun p =>
    ((List.range 8).filter (fun i => d.flag (EP_CLASS_EN p i) && d.get (EP_CLASS_QUEUE p i) == q)).map (fun i => (p, i)))
/-- PFC XOFF or XON for queue `q` (R345). -/
def pfcSend (q : Nat) (xoff : Bool) (d : Dev) : Dev :=
  forEach (pfcPorts d q) d (fun pi d => d.emit (.pause pi.1 pi.2 (if xoff then Config.pauseTime else 0)))

/-- The watermark at the end of a cycle (R231). -/
def wmEval (q : Nat) (d : Dev) : Dev :=
  let level := d.get (QD_WM_LEVEL q)
  let occ := (d.queue q).occ
  if level = 0 then d.set (QD_STAT_ABOVE q) 0
  else if d.flag (QD_STAT_ABOVE q) then
    if occ < level then pfcSend q false (d.set (QD_STAT_ABOVE q) 0) else d
  else if level ≤ occ then
    pfcSend q true (((d.set (QD_STAT_ABOVE q) 1).incSat (QD_STAT_WM_COUNT q)).raise (QD_STAT_WM_EVENT q))
  else d

/-! ### Freeing cells (R206), queue reset (R237), pointer check (R235, R236) -/

/-- How many leading cells may be freed where nothing before word `lim` is needed; the tail cell stays. -/
def freeable (base lim : Nat) : List Nat → Nat
  | _ :: c :: rest => if base + 8 ≤ lim then 1 + freeable (base + 8) lim (c :: rest) else 0
  | _ => 0
/-- Free the cells that the read pointer has passed and no mark holds (R206). -/
def trimCells (q : Nat) (d : Dev) : Dev :=
  let x := d.queue q
  let n := freeable x.base (Nat.min x.ptrA.rd (x.ptrA.mark.getD x.ptrA.rd)) x.cells
  if n = 0 then d
  else freeCells (x.cells.take n)
    (d.setQueue q { x with base := x.base + 8 * n, words := x.words.drop (8 * n), cells := x.cells.drop n })

/-- Whether cell `c` of the pool still belongs to queue `q`: the sweep returns a cell whose owner tag is uncorrectable,
whoever holds it (R238). -/
def owns (q gen : Nat) (p : Option PCell) : Bool :=
  match p with | some c => c.q == q && c.gen == gen | none => false
/-- Mark the cells of a queue quarantined. -/
def quarantine (q gen : Nat) (cs : List Nat) (m : Store (Option PCell)) : Store (Option PCell) :=
  m.map (fun p => if cs.contains p.1 && owns q gen p.2 then (p.1, p.2.map (fun c => { c with quar := true })) else p)
/-- A queue reset (R237): everything but the configuration, the W1C bits, WM_COUNT and QD_DROP. -/
def queueReset (q : Nat) (d : Dev) : Dev :=
  let x := d.queue q
  let d1 : Dev := { d with qm := { d.qm with pool := quarantine q x.gen x.cells d.qm.pool } }
  let d2 := d1.setQueue q { gen := (x.gen + 1) % 256 }
  if d2.flag (QD_STAT_ABOVE q) then pfcSend q false (d2.set (QD_STAT_ABOVE q) 0) else d2

/-- A pointer as QM_ERRLOG shows it: cell and word. -/
def ptrShow (x : QSt) (i : Nat) : Nat := (x.cells.getD ((i - x.base) / 8) 0) * 8 + i % 8
/-- The first disagreement of the two copies: its kind and both copies (R247). -/
def mismatch (x : QSt) : Option (Nat × Nat × Nat) :=
  if x.ptrA.rd ≠ x.ptrB.rd then some (1, ptrShow x x.ptrA.rd, ptrShow x x.ptrB.rd)
  else if x.ptrA.tail ≠ x.ptrB.tail then some (2, ptrShow x x.ptrA.tail, ptrShow x x.ptrB.tail)
  else if x.ptrA.mark ≠ x.ptrB.mark then some (3, ptrShow x (x.ptrA.mark.getD 0), ptrShow x (x.ptrB.mark.getD 0))
  else if x.ptrA.commit ≠ x.ptrB.commit then some (4, ptrShow x x.ptrA.commit, ptrShow x x.ptrB.commit)
  else none
/-- An uncorrectable link or owner tag in a cell the queue holds (R201), or an owner tag that names another (DEDUCED: log
58). -/
def badCell (d : Dev) (q : Nat) : Option Nat :=
  let x := d.queue q
  if x.cells.any (fun c => match sget none d.qm.pool c with | some p => p.link == .double | none => false) then some 5
  else if x.cells.any (fun c => match sget none d.qm.pool c with
    | some p => p.owner == .double || !owns q x.gen (some p) | none => true) then some 7
  else none
/-- A corrected pool error is counted (R201, R246). -/
def poolCe (d : Dev) : Dev := (d.incSat QM_ECC_CE_COUNT).raise QM_IRQ_CAUSE_ECC_CE
/-- An uncorrectable pool error is counted (R201, R246). -/
def poolUe (d : Dev) : Dev := (d.incSat QM_ECC_UE_COUNT).raise QM_IRQ_CAUSE_ECC_UE
/-- Single-bit errors of the links and owner tags of some cells are corrected in place and counted (R201; log 58). -/
def cellCes (cs : List Nat) (d : Dev) : Dev :=
  forEach cs d (fun c d => match sget none d.qm.pool c with
    | some p =>
      if p.owner ≠ .single ∧ p.link ≠ .single then d else
      let fix (f : Flaw) : Flaw := if f = .single then .none else f
      let d1 : Dev := { d with qm := { d.qm with pool := sput d.qm.pool c (some { p with owner := fix p.owner, link := fix p.link }) } }
      let d2 := if p.owner = .single then poolCe d1 else d1
      if p.link = .single then poolCe d2 else d2
    | none => d)

/-- R236: the queue is reset, PTR_ERR is set, the first error is kept in QM_ERRLOG, the recorder writes an entry. -/
def ptrError (q kind a b : Nat) (d : Dev) : Dev :=
  let d1 := (withAttn q (fun d => (queueReset q d).raise (QD_STAT_PTR_ERR q)) d).raise QM_IRQ_CAUSE_PTR_ERR
  let d2 := if d1.flag QM_ERRLOG0_VALID then d1 else
    ((((d1.set QM_ERRLOG0_VALID 1).set QM_ERRLOG0_KIND kind).set QM_ERRLOG0_QUEUE q).set QM_ERRLOG1_COPY_A a).set
      QM_ERRLOG2_COPY_B b |>.set QM_ERRLOG3_TICK_LO (d.ctl.time.count)
  d2.bbr 4 1 true q kind
/-- The comparison at the start of every access (R235): whether it failed, and the queue after it. -/
def ptrCheck (q : Nat) (d : Dev) : Bool × Dev :=
  match mismatch (d.queue q), badCell d q with
  | some (k, a, b), _ => (true, ptrError q k a b d)
  | none, some k => (true, ptrError q k 0 0 (poolUe d))
  | none, none => (false, cellCes (d.queue q).cells d)

/-! ### Pushing (R205, R215 to R228) -/

/-- A word pushed: the bytes of a narrow word (8) or of an adapter's wide word, its valid bytes, whether it ends the
packet, the producer's error mark. -/
structure PushWord where
  data : List Byte
  vb   : Nat
  fin  : Bool := false
  err  : Bool := false
  wide : Bool := false
  deriving DecidableEq, Repr, Inhabited

/-- Whether the word fits into the open word (R216). -/
def fitsOpen (d : Dev) (q : Nat) (w : PushWord) : Bool :=
  !w.wide && (d.queue q).openN != 0 && !d.flag (QD_CFG_PACK q)
/-- Whether a queue is full for a word (R205). -/
def isFull (d : Dev) (q : Nat) (w : PushWord) : Bool :=
  let x := d.queue q
  !fitsOpen d q w && x.ptrA.tail == x.base + 8 * x.cells.length &&
    (poolFree d == 0 || (d.get (QD_CFG_MAX_CELLS q) != 0 && decide (d.get (QD_CFG_MAX_CELLS q) ≤ x.cells.length)))

/-- Change the last word of a queue. -/
def QSt.mapLast (x : QSt) (f : QWord → QWord) : QSt :=
  match x.words.reverse with
  | [] => x
  | w :: rest => { x with words := (f w :: rest).reverse }
/-- The bytes a word delivers: those beyond VB are 0 (R202). -/
def validBytes (vb : Nat) (bs : List Byte) : List Byte := bs.take vb
/-- Store a word that has a place (R215, R216). -/
def storeWord (q : Nat) (w : PushWord) (d : Dev) : Dev :=
  let x := d.queue q
  if fitsOpen d q w then
    let n := x.openN
    let x1 := x.mapLast (fun o => { o with data := o.data ++ List.replicate (8 * n - o.data.length) 0 ++ validBytes w.vb w.data,
                                           vb := 8 * n + w.vb, fin := w.fin, err := o.err || w.err })
    d.setQueue q { x1 with openN := if n + 1 = 4 ∨ w.fin then 0 else n + 1, pktLen := x.pktLen + 1 }
  else
    let d1 := if x.ptrA.tail = x.base + 8 * x.cells.length then
        let (c, d') := takeCell q d
        d'.setQueue q { x with cells := x.cells ++ [c] }
      else d
    let y := d1.queue q
    let nw : QWord := { data := validBytes w.vb w.data, vb := w.vb, fin := w.fin, err := w.err }
    let op := if !w.wide && !d1.flag (QD_CFG_PACK q) && !w.fin then 1 else 0
    d1.setQueue q (({ y with words := y.words ++ [nw], openN := op, pktLen := y.pktLen + 1 }).setPtrs
      { y.ptrA with tail := y.ptrA.tail + 1 })

/-- QD_DROP counts a word dropped or discarded. -/
def countDrop (q : Nat) (d : Dev) : Dev := d.incSat (QD_DROP_WORDS q)
/-- The last stored word takes END and TRUNC and closes; the lock is released (R227). -/
def truncate (q : Nat) (d : Dev) : Dev :=
  let x := (d.queue q).mapLast (fun w => { w with fin := true, trunc := true })
  (d.setQueue q { x with openN := 0, lock := none, pktLen := 0 }).raise (QD_STAT_TRUNC q)

/-- Discard the open COMMIT packet: the tail returns to the commit point, cells wholly past it are freed (R220). -/
def discardOpen (q : Nat) (d : Dev) : Dev :=
  let x := d.queue q
  let n := x.ptrA.commit - x.base
  let keep := (n + 7) / 8
  freeCells (x.cells.drop keep)
    (d.setQueue q (({ x with words := x.words.take n, cells := x.cells.take keep, openN := 0, lock := none,
                             failed := false, pktLen := 0 }).setPtrs { x.ptrA with tail := x.ptrA.commit }))
/-- QCOMMIT on the open packet (R220, R221): units. -/
def commitOpen (q : Nat) (discard : Bool) (d : Dev) : Nat × Dev :=
  let x := d.queue q
  if discard ∨ x.failed then (0, discardOpen q d)
  else
    let y := x.mapLast (fun w => { w with fin := true })
    (x.pktLen, d.setQueue q (({ y with openN := 0, lock := none, pktLen := 0, doneAt := some d.qclk }).setPtrs
      { y.ptrA with commit := y.ptrA.tail }))

/-- A push word finds the queue full (R226 to R228, R221). -/
def dropWord (src : QSource) (q : Nat) (w : PushWord) (d : Dev) : Dev :=
  let d1 := withAttn q (fun d => d.raise (QD_STAT_OVERRUN q)) (countDrop q d)
  match qMode d q with
  | 1 =>
    let d2 := if (d1.queue q).lock = some src then truncate q d1 else d1
    if w.fin then d2 else d2.setQueue q { d2.queue q with discard := src :: (d2.queue q).discard }
  | 2 =>
    let x := d1.queue q
    let d2 := d1.setQueue q { x with lock := some src, failed := true, pktLen := if x.lock.isNone then 0 else x.pktLen }
    if w.fin then discardOpen q d2 else d2
  | _ => d1

/-- What becomes of one push word. -/
inductive Pushed where
  | stored | dropped | locked
  deriving DecidableEq, Repr

/-- The word an adapter brings to a STREAM queue closes the open word first (R215). -/
def closeOpen (q : Nat) (w : PushWord) (d : Dev) : Dev :=
  if w.wide ∧ (d.queue q).openN ≠ 0 then d.setQueue q { d.queue q with openN := 0 } else d

/-- Whether another source's lock holds the words of `src` off (R218): words of a source in discard-to-end are no such
words. -/
def lockedOut (d : Dev) (src : QSource) (q : Nat) : Bool :=
  let x := d.queue q
  qMode d q != 0 && !x.discard.contains src && x.lock.isSome && x.lock != some src
/-- One push word of `src`, bound and enabled (R215 to R228). -/
def pushWord (src : QSource) (q : Nat) (w : PushWord) (d : Dev) : Pushed × Dev :=
  let x := d.queue q
  let mode := qMode d q
  if mode = 0 then
    let d0 := closeOpen q w d
    if isFull d0 q w then (.dropped, dropWord src q w d0) else (.stored, storeWord q w d0)
  else if x.discard.contains src then
    (.dropped, countDrop q (if w.fin then d.setQueue q { x with discard := x.discard.filter (fun s => s != src) } else d))
  else if lockedOut d src q then (.locked, d)
  else if x.failed then (.dropped, countDrop q (if w.fin then discardOpen q d else d))
  else if isFull d q w then (.dropped, dropWord src q w d)
  else
    let d0 := d.setQueue q { x with lock := some src, pktLen := if x.lock.isNone then 0 else x.pktLen }
    if mode = 1 then
      let d1 := storeWord q w d0
      (.stored, if w.fin then d1.setQueue q { d1.queue q with lock := none, pktLen := 0, doneAt := some d.qclk } else d1)
    else
      let d1 := storeWord q { w with fin := false } d0
      (.stored, if w.fin then (commitOpen q false d1).2 else d1)

/-- The words of one push, in order, each followed by the watermark: words stored, and whether the first word met
another source's lock (R218). -/
def pushWords (src : QSource) (q : Nat) : List PushWord → Dev → Nat × Bool × Dev
  | [], d => (0, false, d)
  | w :: ws, d =>
    match pushWord src q w d with
    | (.locked, d1) => (0, true, d1)
    | (.stored, d1) => let (n, l, d2) := pushWords src q ws (withAttn q (wmEval q) (trimCells q d1)); (n + 1, l, d2)
    | (.dropped, d1) => let (n, l, d2) := pushWords src q ws (withAttn q (wmEval q) d1); (n, l, d2)

/-- The code that stops every request (R212, R240, R241). -/
def qmBlocked (d : Dev) : Option Resp :=
  match d.get QM_STATUS_STATE with | 1 => some .closed | 2 => some .retry | _ => none
/-- Whether a producer may push (R207). -/
def producerOk (d : Dev) (src : QSource) (q : Nat) : Bool :=
  d.flag (QD_CFG_EN q) && (d.get (QD_BIND_PROD q) == 0xFF || d.get (QD_BIND_PROD q) == src.1)
/-- Whether a consumer may pop or mark (R207). -/
def consumerOk (d : Dev) (src : QSource) (q : Nat) : Bool :=
  d.flag (QD_CFG_EN q) && d.get (QD_BIND_CONS q) != 0xFF && d.get (QD_BIND_CONS q) == src.1

/-- The code of a request that the queue does not serve (R7, R212): closed, LEN 0 (`empty`), not allowed, in INIT. -/
def unserved (d : Dev) (empty allowed : Bool) : Option Resp :=
  match qmBlocked d with
  | some .closed => some .closed
  | b => if empty then some (b.getD .ok) else if !allowed then some .perm else b
/-- A push (R211, R212): the response code and the units. -/
def qPush (src : QSource) (q : Nat) (ws : List PushWord) (d : Dev) : Resp × Nat × Dev :=
  match unserved d ws.isEmpty (producerOk d src q) with
  | some c => (c, 0, d)
  | none =>
    let (bad, d1) := ptrCheck q d
    if bad then (.ecc, 0, d1)
    else
      let (n, locked, d2) := pushWords src q ws d1
      (if locked then .retry else .ok, n, d2)

/-! ### Popping (R211, R215, R229) -/

/-- What the errors of a popped word count, one for each 8 bytes of data and one for the tag (R201). -/
def popFlaws (w : QWord) (d : Dev) : Dev :=
  forEach (w.tagFlaw :: w.flaws) d (fun f d => match f with | .none => d | .single => poolCe d | .double => poolUe d)
/-- Whether data of a word is uncorrectable. -/
def QWord.bad (w : QWord) : Bool := w.flaws.contains .double
/-- The bytes of a word as they are delivered: 8 bytes whose code is uncorrectable are free values (R201; log 2). -/
def deliverBytes (d : Dev) (i : Nat) (fs : List Flaw) (bs : List Byte) : List Byte :=
  match fs with
  | [] => bs
  | f :: rest =>
    (if f = .double then (leBytes 8 (Config.freeNat (d.ctl.fresh + i))).take (bs.take 8).length else bs.take 8) ++
      deliverBytes d (i + 1) rest (bs.drop 8)
/-- A word as it is delivered. -/
def delivered (w : QWord) (d : Dev) : QWord := { w with data := deliverBytes d 0 w.flaws w.data }
/-- The counter of free values after a word was delivered. -/
def deliveredDev (w : QWord) (d : Dev) : Dev := if w.bad then forEach w.flaws d (fun _ d => d.bump) else d

/-- One word is popped; `join`: what a push of the same cycle does, judged like the pop against the start of the cycle
(R229). The watermark is evaluated once for both (R231). -/
def popWord (q : Nat) (w : QWord) (join : Option (Dev → Dev)) (d : Dev) : Dev :=
  let d1 := match join with | none => d | some f => f d
  let x := d1.queue q
  let d2 := trimCells q (d1.setQueue q (x.setPtrs { x.ptrA with rd := x.ptrA.rd + 1 }))
  withAttn q (wmEval q) (popFlaws w (deliveredDev w d2))
/-- The cycle of a pop that returns nothing (R229). -/
def joinOnly (q : Nat) (join : Option (Dev → Dev)) (d : Dev) : Dev :=
  match join with | none => d | some f => withAttn q (wmEval q) (f d)
/-- Pop up to `n` words: the words, whether a word's data was uncorrectable, whether a tag was (R201, R215, R236). -/
def popWords (q : Nat) (whole : Bool) (join : Option (Dev → Dev)) : Nat → Dev → List QWord × Bool × Bool × Dev
  | 0, d => ([], false, false, joinOnly q join d)
  | n + 1, d =>
    match ((d.queue q).visible (qMode d q)) with
    | [] => ([], false, false, joinOnly q join d)
    | w :: _ =>
      if w.tagFlaw = .double then ([], false, true, ptrError q 6 0 0 (poolUe (joinOnly q join d)))
      else
        let d1 := popWord q w join d
        if whole ∧ w.fin then ([delivered w d], w.bad, false, d1)
        else
          let (ws, e, t, d2) := popWords q whole none n d1
          (delivered w d :: ws, w.bad || e, t, d2)

/-- A pop of up to `n` wide words (R211, R212, R215); `join`: a push whose word falls in the first cycle of the pop
(R229). -/
def qPopJoin (src : QSource) (q n : Nat) (whole : Bool) (join : Option (Dev → Dev)) (d : Dev) : Resp × List QWord × Dev :=
  match unserved d (n == 0) (consumerOk d src q) with
  | some c => (c, [], d)
  | none =>
    let (bad, d1) := ptrCheck q d
    if bad then (.ecc, [], d1)
    else if whole ∧ (d1.queue q).pkts (qMode d1 q) = 0 then (.ok, [], joinOnly q join d1)
    else
      let (ws, e, t, d2) := popWords q whole join n d1
      (if e ∨ t then .ecc else .ok, ws, d2)
/-- A pop that meets no push in its first cycle. -/
def qPop (src : QSource) (q n : Nat) (whole : Bool) (d : Dev) : Resp × List QWord × Dev := qPopJoin src q n whole none d

/-! ### Marks (R222 to R225) and QCOMMIT (R220) -/

/-- A consumer command with its checks. -/
def consumerCmd (src : QSource) (q : Nat) (f : Dev → Dev) (d : Dev) : Resp × Dev :=
  match unserved d false (consumerOk d src q) with
  | some c => (c, d)
  | none => let (bad, d1) := ptrCheck q d; if bad then (.ecc, d1) else (.ok, f d1)
/-- QMARK: the mark is set at the read pointer (R223). -/
def qMark (q : Nat) (d : Dev) : Dev :=
  let x := d.queue q
  withAttn q (wmEval q) (trimCells q (d.setQueue q (x.setPtrs { x.ptrA with mark := some x.ptrA.rd })))
/-- QREWIND: the read pointer returns to the mark (R224). -/
def qRewind (q : Nat) (d : Dev) : Dev :=
  let x := d.queue q
  match x.ptrA.mark with
  | some m => withAttn q (wmEval q) (d.setQueue q (x.setPtrs { x.ptrA with rd := m }))
  | none => d
/-- QRELEASE: the mark is cleared (R225). -/
def qRelease (q : Nat) (d : Dev) : Dev :=
  let x := d.queue q
  withAttn q (wmEval q) (trimCells q (d.setQueue q (x.setPtrs { x.ptrA with mark := none })))

/-- QCOMMIT (R212, R220): code and units. -/
def qCommit (src : QSource) (q : Nat) (discard : Bool) (d : Dev) : Resp × Nat × Dev :=
  match unserved d false (producerOk d src q && qMode d q == 2) with
  | some c => (c, 0, d)
  | none =>
    let (bad, d1) := ptrCheck q d
    if bad then (.ecc, 0, d1)
    else match (d1.queue q).lock with
      | none => (.ok, 0, d1)
      | some s =>
        if s = src then
          let (n, d2) := commitOpen q discard d1
          (.ok, n, withAttn q (wmEval q) d2)
        else (.retry, 0, d1)

/-! ### Sources and seats (R208, R233) -/

/-- Request slot `t` of ring `r` as a producer, and as a consumer. -/
def prodSrc (r t : Nat) : QSource := (r / 2, 32 * r + t)
/-- Request slot `t` of ring `r` as a consumer. -/
def consSrc (r t : Nat) : QSource := (r / 4, 32 * r + t)
/-- Whether a request goes to a producer port: QPUSH, QCOMMIT, a stream-out segment (16). -/
def pushSide (op : Nat) : Bool := op == 1 || op == 6 || op == 16
/-- The seats that a request takes (R233): one covers 32 narrow words, 8 wide words or one command. -/
def seatsFor (q : SlotReq) : Nat :=
  match q.op with | 1 => (q.data.length + 31) / 32 | 2 => (q.len + 7) / 8 | _ => 1
/-- Seats of a request slot that no waiting request travels on (R233). -/
def seatsLeft (d : Dev) (r t : Nat) (push : Bool) : Nat :=
  let (a, b) := sget (0, 0) d.qm.seats (16 * r + t)
  let mine := d.qm.work.filter (fun w => w.r == r && w.t == t && pushSide w.q.op == push)
  (if push then a else b) - mine.foldl (fun n w => n + w.seats) 0
/-- Seats of a request slot are used. -/
def takeSeats (r t n : Nat) (push : Bool) (d : Dev) : Dev :=
  let (a, b) := sget (0, 0) d.qm.seats (16 * r + t)
  { d with qm := { d.qm with seats := sset (0, 0) d.qm.seats (16 * r + t) (if push then (a - n, b) else (a, b - n)) } }
/-- A request with SEAT = 1, or a part of one, is served dynamically (R252). -/
def countSeatless (r : Nat) (push : Bool) (d : Dev) : Dev :=
  d.incSat (if push then QM_PORT_STAT_P_SEATLESS (r / 2) else QM_PORT_STAT_C_SEATLESS (r / 4))
/-- The seats of every request slot of a ring at its start edge (R233). -/
def refillSeats (r : Nat) (d : Dev) : Dev :=
  let seats := (List.range 10).foldl (fun m t => sset (0, 0) m (16 * r + t)
    (d.get (QM_SEAT_PUSH_SEATS (16 * r + t)), d.get (QM_SEAT_POP_SEATS (16 * r + t)))) d.qm.seats
  { d with qm := { d.qm with seats := seats } }
/-- Seats unused at the end edge lapse (R233). -/
def lapseSeats (r : Nat) (d : Dev) : Dev :=
  { d with qm := { d.qm with seats := (List.range 10).foldl (fun m t => sset (0, 0) m (16 * r + t) (0, 0)) d.qm.seats } }

/-- Narrow words; the end mark and the VB (0: 8) of the last. -/
def narrowWords (ws : List Token) (eop : Bool) (vb : Nat) : List PushWord :=
  match ws with
  | [] => []
  | [w] => [{ data := leBytes 8 w.toNat, vb := if vb = 0 then 8 else vb, fin := eop }]
  | w :: rest => { data := leBytes 8 w.toNat, vb := 8 } :: narrowWords rest eop vb
/-- The words of a QPUSH: VB counts with EOP alone (Table 6-5). -/
def requestWords (q : SlotReq) : List PushWord := narrowWords q.data q.flag (if q.flag then q.vb else 0)
/-- Four tokens of a wide word, bytes 0 to 7 first (R213). -/
def wordTokens (w : QWord) : List Token :=
  (List.range 4).map (fun i => BitVec.ofNat 64 (leNat ((w.data.drop (8 * i)).take 8)))
/-- The units of a response token: six bits, more than they hold is a free value (Table 6-5; log 58). -/
def unitsField (d : Dev) (units : Nat) : Nat := if units < 64 then units else d.freeVal 6
/-- The response token of a queue request (Table 6-5). -/
def respToken (c : Resp) (units : Nat) (last : Option QWord) : Nat :=
  c.code + 16 * units + (match last with
    | some w => 1024 * (if w.fin then w.vb else 0) + 65536 * b2n w.fin + 131072 * b2n w.trunc + 262144 * b2n w.err
    | none => 0)
/-- VB of the last word of a pop that ended on an end mark (R164). -/
def lastVb (ws : List QWord) : Nat := match ws.getLast? with | some w => if w.fin then w.vb else 0 | none => 0

/-! ### The service of one request (R211, R212) -/

/-- The code with which a request is answered without service (Table 6-9): also RETRY where another source holds the packet
lock. -/
def withoutService (r t : Nat) (q : SlotReq) (d : Dev) : Option Resp :=
  let sound := (mismatch (d.queue q.tgt)).isNone && (badCell d q.tgt).isNone
  match q.op with
  | 1 => (unserved d q.data.isEmpty (producerOk d (prodSrc r t) q.tgt)).orElse (fun _ =>
      if sound && lockedOut d (prodSrc r t) q.tgt then some .retry else none)
  | 2 => unserved d (q.len == 0) (consumerOk d (consSrc r t) q.tgt)
  | 6 => (unserved d false (producerOk d (prodSrc r t) q.tgt && qMode d q.tgt == 2)).orElse (fun _ =>
      if sound && (d.queue q.tgt).lock.isSome && (d.queue q.tgt).lock != some (prodSrc r t) then some .retry else none)
  | _ => unserved d false (consumerOk d (consSrc r t) q.tgt)
/-- A request is served: code, units, popped words. -/
def serve (r t : Nat) (q : SlotReq) (d : Dev) : Resp × Nat × List QWord × Dev :=
  match q.op with
  | 1 => let (c, n, d1) := qPush (prodSrc r t) q.tgt (requestWords q) d; (c, n, [], d1)
  | 2 => let (c, ws, d1) := qPop (consSrc r t) q.tgt q.len q.flag d; (c, ws.length, ws, d1)
  | 6 => let (c, n, d1) := qCommit (prodSrc r t) q.tgt q.flag d; (c, n, [], d1)
  | op =>
    let (c, d1) := consumerCmd (consSrc r t) q.tgt (match op with | 3 => qMark q.tgt | 4 => qRewind q.tgt | _ => qRelease q.tgt) d
    (c, 0, [], d1)
/-- A request is answered: to the row that is the request itself, or on its way back through its slot (Table 6-5). -/
def respond (r t : Nat) (q : SlotReq) (c : Resp) (n : Nat) (ws : List QWord) (d : Dev) : Dev :=
  match q.who with
  | .bare => d.answer c (match q.op with
    | 1 => [n] | 6 => [n] | 2 => n :: (ws.flatMap wordTokens).map (·.toNat) | _ => [])
  | .gone => d
  | w =>
    let d1 : Dev := { d with xm := { d.xm with resps := d.xm.resps ++
      [{ r := r, t := t, who := w, op := q.op, code := c, units := n, data := ws.flatMap wordTokens, vb := lastVb ws,
         token := respToken c (unitsField d n) ws.getLast? }] } }
    if n < 64 then d1 else d1.bump

/-! ### The pool sweep (R238, R245) -/

/-- Whether the sweep returns a cell. -/
def sweepFrees (d : Dev) (c : PCell) : Bool :=
  !d.flag (QD_CFG_EN c.q) || c.gen != (d.queue c.q).gen || c.owner == .double
/-- The sweep visits its next cell. -/
def poolSweep (d : Dev) : Dev :=
  let pos := d.qm.sweepPos
  let d1 := match sget none d.qm.pool pos with
    | some c =>
      let d0 := match c.owner with
        | .none => d
        | .single => poolCe { d with qm := { d.qm with pool := sput d.qm.pool pos (some { c with owner := .none }) } }
        | .double => poolUe d
      if sweepFrees d c then (freeCells [pos] d0).incSat QM_SWEEP_FREED_CELLS else d0
    | none => d
  if pos + 1 < 262144 then { d1 with qm := { d1.qm with sweepPos := pos + 1 } }
  else
    let us := (d1.tb - d1.qm.passStart) / 4000
    let d2 := (d1.incWrap QM_SWEEP_PASSES).set QM_SWEEP_LAST_US (Nat.max 164 (Nat.min us 2000))
    { d2 with qm := { d2.qm with sweepPos := 0, passStart := d2.tb } }

/-! ### INIT (R240) -/

/-- Cold start, warm reset, end of an inspection: INIT, the pool empty, every queue empty at GEN 0 with its watermark state
below (R240); an XON is sent where XOFF was (R345). Requests that wait at the ports are answered by what they then meet. -/
def qmInit (d : Dev) : Dev :=
  let d1 := forEach (d.qm.queues.map (·.1)) d (fun q d =>
    if d.flag (QD_STAT_ABOVE q) then pfcSend q false (d.set (QD_STAT_ABOVE q) 0) else d)
  { d1.set QM_STATUS_STATE 2 with qm := { passStart := d1.tb, work := d1.qm.work, turn := d1.qm.turn,
                                          hostTill := d1.qm.hostTill, cmdTill := d1.qm.cmdTill } }
/-- QM_INIT_DONE: RUN. POOL_LOW is armed where the free count is at or above its level (R242). -/
def qmInitDone (d : Dev) : Dev :=
  if d.get QM_STATUS_STATE = 2 then
    let d1 := d.set QM_STATUS_STATE 0
    { d1 with qm := { d1.qm with lowArm := d1.get QM_POOL_LOW_LEVEL == 0 || decide (d1.get QM_POOL_LOW_LEVEL ≤ poolFree d1) } }
  else d

/-! ### Host commands (R237, R239, R241, R243, R248) -/

/-- A host write that the closed queue manager ignores (R241). -/
def qmHost (f : Dev → Dev) (d : Dev) : Dev := if d.get QM_STATUS_STATE = 1 then d.answer .closed else f d
/-- The TB at which the BUSY of a command that starts now clears: within 1 µs (R243, R248), at an open instant. -/
def busyTill (d : Dev) : Nat := d.tb + 1 + Config.freeNat d.ctl.fresh % 4000
/-- A QM_Q_CMD command ends: QM_Q_CMD_STAT shows its code. -/
def qCmdEnd (c : Resp) (d : Dev) : Dev := (d.set QM_Q_CMD_STAT_RESULT c.code).answer c
/-- A write of QM_Q_CMD: RETRY while a command is in progress (R248). -/
def qCmdOpen (f : Dev → Dev) (d : Dev) : Dev :=
  qmHost (fun d => if d.tb < d.qm.cmdTill then d.answer .retry else f d) d
/-- A QM_Q_CMD command starts: INIT answers RETRY, the pointers are compared. -/
def qCmd (q : Nat) (f : Dev → Dev) (d : Dev) : Dev :=
  qCmdOpen (fun d =>
    let d0 : Dev := ({ d with qm := { d.qm with cmdTill := busyTill d } } : Dev).bump.set QM_Q_CMD_STAT_ABORT_LATE 0
    if d0.get QM_STATUS_STATE = 2 then qCmdEnd .retry d0
    else
      let (bad, d1) := ptrCheck q d0
      if bad then qCmdEnd .ecc d1 else f d1) d
/-- Whether cells of the queue's next generation are still quarantined (R239). -/
def nextGenBusy (d : Dev) (q : Nat) : Bool :=
  d.qm.pool.any (fun p => match p.2 with
    | some c => c.q == q && c.quar && c.gen == ((d.queue q).gen + 1) % 256
    | none => false)
/-- QUEUE_RESET. -/
def qmReset (q : Nat) (d : Dev) : Dev :=
  qCmd q (fun d => if nextGenBusy d q then qCmdEnd .retry d else qCmdEnd .ok (queueReset q d)) d
/-- ABORT_PKT (R248). With no open packet it does nothing, or comes late where the packet was completed in its cycle
(R230). In COMMIT mode the packet is failed as by R221 and holds the lock until its QCOMMIT (log 58). -/
def qmAbort (q : Nat) (d : Dev) : Dev :=
  qCmd q (fun d => match (d.queue q).lock with
    | none => qCmdEnd .ok (if (d.queue q).doneAt = some d.qclk then d.set QM_Q_CMD_STAT_ABORT_LATE 1 else d)
    | some s =>
      if qMode d q = 2 then qCmdEnd .ok (d.setQueue q { d.queue q with failed := true })
      else
        let d1 := truncate q d
        qCmdEnd .ok (d1.setQueue q { d1.queue q with discard := s :: (d1.queue q).discard })) d
/-- CLR_STATS of a queue. -/
def qmClrStats (q : Nat) (d : Dev) : Dev :=
  qCmd q (fun d => qCmdEnd .ok ((d.set (QD_DROP_WORDS q) 0).set (QD_STAT_WM_COUNT q) 0)) d

/-- A write of QM_HOST_CMD: RETRY while BUSY is 1 (R243). -/
def hostCmdOpen (f : Dev → Dev) (d : Dev) : Dev :=
  qmHost (fun d => if d.tb < d.qm.hostTill then d.answer .retry else f d) d
/-- A host command starts: BUSY is 1 until an open instant within 1 µs (R243). -/
def hostCmd (f : Dev → Dev) (d : Dev) : Dev :=
  hostCmdOpen (fun d => f ({ d with qm := { d.qm with hostTill := busyTill d } } : Dev).bump) d
/-- The host's push (R243, Table 6-15): one narrow word from QM_HOST_DATA0 and 1, with its VB. -/
def hostPush (q : Nat) (eop : Bool) (vb : Nat) (d : Dev) : Dev :=
  hostCmd (fun d =>
    let v := d.get (QM_HOST_DATA_DATA 0) + 2 ^ 32 * d.get (QM_HOST_DATA_DATA 1)
    let (c, _, d1) := qPush (0x5C, 0) q (narrowWords [BitVec.ofNat 64 v] eop vb) d
    (d1.set QM_HOST_STAT_RESP c.code).answer .ok) d
/-- The host's pop (R243): one wide word and its tag. -/
def hostPop (q : Nat) (d : Dev) : Dev :=
  hostCmd (fun d =>
    let (c, ws, d1) := qPop (0x5C, 0) q 1 false d
    let d2 := (d1.set QM_HOST_STAT_RESP c.code).set QM_HOST_STAT_EMPTY (b2n ws.isEmpty)
    (match ws with
      | [] => d2
      | w :: _ =>
        let d3 := forEach (List.range 8) d2 (fun i d => d.set (QM_HOST_DATA_DATA i) (leNat ((w.data.drop (4 * i)).take 4)))
        (((d3.set QM_HOST_STAT_END (b2n w.fin)).set QM_HOST_STAT_TRUNC (b2n w.trunc)).set QM_HOST_STAT_ERR (b2n w.err)).set
          QM_HOST_STAT_VB w.vb).answer .ok) d

/-- A write of QD_CFG (R254). -/
def qdCfgWrite (q v : Nat) (d : Dev) : Dev :=
  qmHost (fun d =>
    let fs := queueAt q (0x00900000 + 0x20 * q)
    let en := bitAt v 31
    let was := d.flag (QD_CFG_EN q)
    let mode := limitTo (.zeroAt 3) (bitsAt v 29 2)
    let changes := mode != d.get (QD_CFG_MODE q) || bitsAt v 28 1 != d.get (QD_CFG_PACK q) ||
      bitsAt v 26 1 != d.get (QD_CFG_KEY_EN q) || bitsAt v 20 6 != d.get (QD_CFG_KEY_IDX q)
    let cons := d.get (QD_BIND_CONS q)
    if was && en && changes then d.answer .perm
    else if en && decide (0x58 ≤ cons ∧ cons ≤ 0x5B) && !bitAt v 26 then d.answer .perm
    else
      (withAttn q (fun d =>
        let d1 : Dev := { d with ctl := writeFlds d.ctl false v fs }
        if was && !en then queueReset q d1 else d1) d).answer .ok) d
/-- A write of QD_WM.LEVEL (R232): ABOVE follows without an event. -/
def watermarkWrite (q level : Nat) (d : Dev) : Dev :=
  qmHost (fun d =>
    let d1 := d.set (QD_WM_LEVEL q) level
    let l := d1.get (QD_WM_LEVEL q)
    let above := l != 0 && decide (l ≤ (d1.queue q).occ)
    let d2 := d1.set (QD_STAT_ABOVE q) (b2n above)
    (if above = d.flag (QD_STAT_ABOVE q) then d2 else pfcSend q above d2).answer .ok) d
/-- A write of QM_POOL_LOW.LEVEL (R242). -/
def poolLowWrite (level : Nat) (d : Dev) : Dev :=
  qmHost (fun d =>
    let d1 := d.set QM_POOL_LOW_LEVEL level
    ({ d1 with qm := { d1.qm with lowArm := d1.get QM_POOL_LOW_LEVEL == 0 || decide (d1.get QM_POOL_LOW_LEVEL ≤ poolFree d1) } } : Dev).answer .ok) d
/-- A binding as it is stored: a value Table 6-3 does not list is stored as 0xFF (R207). -/
def bindStored (v ports : Nat) : Nat := if v < ports ∨ (0x40 ≤ v ∧ v ≤ 0x5C) then v else 0xFF
/-- A write of QD_BIND (R207, R255). -/
def qdBindWrite (q v : Nat) (d : Dev) : Dev :=
  qmHost (fun d => ((d.set (QD_BIND_CONS q) (bindStored (bitsAt v 8 8) 0x20)).set (QD_BIND_PROD q)
    (bindStored (bitsAt v 0 8) 0x40)).answer .ok) d

/-! ### The meanings -/

/-- POOL_SWEEP (R238). -/
def execPoolSweep (s : State) : Host.Outcome State Fault Refusal := run s poolSweep
/-- QM_INIT_DONE (R240). -/
def execQmInitDone (s : State) : Host.Outcome State Fault Refusal := run s qmInitDone
/-- QUEUE_RESET (R237, R239). -/
def execQueueReset (q : Fin 16384) (s : State) : Host.Outcome State Fault Refusal := run s (qmReset q)
/-- ABORT_PKT (R248). -/
def execAbortPkt (q : Fin 16384) (s : State) : Host.Outcome State Fault Refusal := run s (qmAbort q)
/-- Q_CLR_STATS (R248). -/
def execQClrStats (q : Fin 16384) (s : State) : Host.Outcome State Fault Refusal := run s (qmClrStats q)
/-- HOST_PUSH (R243). -/
def execHostPush (q : Fin 16384) (eop : Bool) (vb : Fin 8) (s : State) : Host.Outcome State Fault Refusal :=
  run s (hostPush q eop vb)
/-- HOST_POP (R243). -/
def execHostPop (q : Fin 16384) (s : State) : Host.Outcome State Fault Refusal := run s (hostPop q)
/-- QD_CFG_WRITE (R254). -/
def execQdCfgWrite (q : Fin 16384) (v : Word) (s : State) : Host.Outcome State Fault Refusal := run s (qdCfgWrite q v.toNat)
/-- WATERMARK_LEVEL_WRITE (R232). -/
def execWatermarkLevelWrite (q : Fin 16384) (level : BitVec 22) (s : State) : Host.Outcome State Fault Refusal :=
  run s (watermarkWrite q level.toNat)
/-- POOL_LOW_LEVEL_WRITE (R242). -/
def execPoolLowLevelWrite (level : BitVec 19) (s : State) : Host.Outcome State Fault Refusal := run s (poolLowWrite level.toNat)

end Sys2Proof.Machine
end

