-- ==== Sys2Proof/Machine/Security.lean ====
section
/-! DEFINITION. The security alarm (R11, R12, R323) and the key slots of the crypto unit (R293 to R298, R321). -/
namespace Sys2Proof.Machine
open Sys2Proof.Machine.Reg

/-- Replace the crypto unit's hidden state. -/
def Dev.withCx (d : Dev) (c : CxSt) : Dev := { d with cx := c }
/-- A host write that the closed crypto unit ignores (chapter 8, Registers). -/
def cxHost (f : Dev → Dev) (d : Dev) : Dev := if d.cx.closed then d.answer .closed else f d

/-! ### Key slots (Table 8-1) -/

/-- State of a slot: 0 EMPTY, 1 LOADED, 2 DRAINING, 3 COOLDOWN. -/
def slotState (d : Dev) (k : Nat) : Nat := d.get (KS_STATE_STATE k)
/-- The key of a slot. -/
def keyOf (d : Dev) (k : Nat) : List Byte := sget [] d.cx.keys k
/-- The frame counter of a slot (R321). -/
def frameCtr (d : Dev) (k : Nat) : Nat := d.get (KS_FRAME_LO_CTR_LO k) + 2 ^ 32 * d.get (KS_FRAME_HI_CTR_HI k)
/-- Store a frame counter. -/
def setFrameCtr (k v : Nat) (d : Dev) : Dev := (d.set (KS_FRAME_LO_CTR_LO k) (v % 2 ^ 32)).set (KS_FRAME_HI_CTR_HI k) (v / 2 ^ 32)
/-- Zeroisation of a slot's key and frame counter; the slot becomes COOLDOWN (R296, R298). -/
def zeroSlot (k : Nat) (d : Dev) : Dev :=
  let d1 := (setFrameCtr k 0 d).resetFlds [KS_STATE_FILE k, KS_STATE_WARN k, KS_STATE_FRESH k, KS_STATE_BOUND k, KS_STATE_USE k]
  (d1.withCx { d1.cx with keys := sset [] d1.cx.keys k [], spent := d1.cx.spent.filter (· != k) }).set (KS_STATE_STATE k) 3
/-- A retirement is complete (R296): a commanded one ends its command. -/
def retireDone (k : Nat) (d : Dev) : Dev :=
  let d0 := d.raise CX_IRQ_CAUSE_KEY_DONE
  let d1 := d0.withCx { d0.cx with retired := k :: d0.cx.retired.filter (· != k) }
  if d1.cx.retire = some k then (d1.withCx { d1.cx with retire := none }).set KS_CMD_STAT_RESULT Resp.ok.code
  else d1
/-- KS_CMD_STAT.BUSY: a load or a retirement is in progress, whatever started it (R328). -/
def ksBusy (d : Dev) : Bool := d.cx.load.isSome || (List.range 64).any (fun k => slotState d k == 2)
/-- R298: every slot that is not EMPTY is zeroised and goes to COOLDOWN, KS_DATA is zeroed; a retirement in progress
completes. -/
def zeroiseAll (d : Dev) : Dev :=
  let d1 := forEach ((List.range 64).filter (fun k => slotState d k != 0)) d (fun k d =>
    if slotState d k = 2 then retireDone k (zeroSlot k d) else zeroSlot k d)
  d1.resetFlds ((List.range 8).map KS_DATA_KEY)

/-- R11: a security cause of Table 8-5 is raised. -/
def secAlarm (bit arg data : Nat) (d : Dev) : Dev :=
  let d1 := (d.setBit SEC_ALARM_CAUSE bit).bbr 6 (bit + 1) (bit != 5) arg data
  if d1.flag SEC_CTRL_AUTO_ZERO then zeroiseAll d1 else d1
/-- KEY_USE (R295), with the slot. -/
def keyUse (k : Nat) (d : Dev) : Dev := secAlarm 1 k 0 d
/-- ALARM_N is driven low (R12). -/
def alarmLow (d : Dev) : Bool := d.flag SEC_ALARM_CAUSE

/-- Whether a slot serves a use (0 MEM, 1 LINK) (R295). -/
def slotServes (d : Dev) (k use : Nat) : Bool := slotState d k == 1 && d.get (KS_STATE_USE k) == use

/-- Whether frames may be sent under a slot (R321): its last frame is the one with the value 2^48 − 1. -/
def slotSends (d : Dev) (k : Nat) : Bool := slotServes d k 1 && !d.cx.spent.contains k

/-- A LOADED slot starts its retirement, commanded or not (R296, step 1; R10). -/
def retireSlot (k : Nat) (d : Dev) : Dev :=
  if slotState d k = 1 then (d.set (KS_STATE_STATE k) 2).set KS_CMD_STAT_ABORT_LATE 0 else d

/-- KS_CMD with its SLOT and its answer. -/
def ksEnd (k : Nat) (c : Resp) (d : Dev) : Dev :=
  ((d.set KS_CMD_STAT_SLOT k).set KS_CMD_STAT_RESULT c.code).answer c
/-- KS_CMD LOAD (R294). -/
def keyLoad (k use : Nat) (d : Dev) : Dev :=
  cxHost (fun d =>
    if ksBusy d then d.answer .retry
    else match slotState d k with
      | 0 => ksEnd k .ok ((d.withCx { d.cx with load := some (k, use), retired := d.cx.retired.filter (· != k) }).set
          KS_CMD_STAT_ABORT_LATE 0)
      | 3 => ksEnd k .retry d
      | _ => ksEnd k .perm d) d
/-- The key in KS_DATA: byte 4i + j in bits 8j + 7 to 8j of KS_DATAi (R294). -/
def ksData (d : Dev) : List Byte := (List.range 8).flatMap (fun i => leBytes 4 (d.get (KS_DATA_KEY i)))
/-- The load ends (R294): LOADED with FRESH set, KS_DATA zeroed. -/
def keyLoadDone (d : Dev) : Dev :=
  match d.cx.load with
  | none => d
  | some (k, use) =>
    let d1 := d.withCx { d.cx with keys := sset [] d.cx.keys k (ksData d), load := none }
    let d2 := ((((setFrameCtr k 0 d1).set (KS_STATE_STATE k) 1).set (KS_STATE_FRESH k) 1).set (KS_STATE_USE k) use).resetFlds
      [KS_STATE_FILE k, KS_STATE_BOUND k, KS_STATE_WARN k]
    d2.resetFlds ((List.range 8).map KS_DATA_KEY)
/-- KS_CMD RETIRE (R296). -/
def keyRetire (k : Nat) (d : Dev) : Dev :=
  cxHost (fun d =>
    if ksBusy d then d.answer .retry
    else if slotState d k = 1 then ksEnd k .ok ((retireSlot k d).withCx { d.cx with retire := some k })
    else ksEnd k .perm d) d
/-- KS_CMD ABORT (R297): accepted also while a retirement keeps BUSY set (DEDUCED: log 59). Late is an abort of a slot whose
retirement is complete, in COOLDOWN or EMPTY, until the slot is loaded again: R297 gives R9 to an abort after completion, and
its next sentence, of no retirement in progress, to every other slot (DEDUCED: log 59). -/
def keyAbort (k : Nat) (d : Dev) : Dev :=
  cxHost (fun d =>
    if d.cx.load.isSome then d.answer .retry
    else match slotState d k with
      | 2 =>
        let d1 := d.set (KS_STATE_STATE k) 1
        let d2 := if d1.cx.retire = some k then d1.withCx { d1.cx with retire := none } else d1
        ((d2.set KS_CMD_STAT_SLOT k).set KS_CMD_STAT_RESULT Resp.aborted.code).answer .ok
      | _ =>
        let late := d.cx.retired.contains k && (slotState d k == 3 || slotState d k == 0)
        ksEnd k .ok (if late then d.set KS_CMD_STAT_ABORT_LATE 1 else d)) d
/-- Whether a request that passed the key lookup under a slot is still in the arbiter trees (R295). -/
def slotInFlight (d : Dev) (k : Nat) : Bool :=
  d.xm.reqs.any (fun q => q.parts.any (fun p => p.key == some k && p.code.isNone))
/-- The slot has drained (R296, steps 2 to 4). -/
def keyDrainDone (k : Nat) (d : Dev) : Dev :=
  if slotState d k = 2 ∧ !slotInFlight d k then retireDone k (zeroSlot k d) else d
/-- COOLDOWN ends (R296, step 5). -/
def keyCooldownEnd (k : Nat) (d : Dev) : Dev := if slotState d k = 3 then d.set (KS_STATE_STATE k) 0 else d

/-- R321: a frame takes the counter of its LINK slot, which warns at 2^47 and retires the slot at its end. -/
def takeFrame (k : Nat) (d : Dev) : Nat × Dev :=
  let v := frameCtr d k
  if v = 2 ^ 48 - 1 then
    (v, retireSlot k ((d.withCx { d.cx with spent := k :: d.cx.spent }).raise CX_IRQ_CAUSE_FRAME_END))
  else
    let d1 := setFrameCtr k (v + 1) d
    (v, if v + 1 = 2 ^ 47 then (d1.set (KS_STATE_WARN k) 1).raise CX_IRQ_CAUSE_FRAME_WARN else d1)

/-! ### Register writes -/

/-- A write of SEC_CTRL (R5, R324): TEST raises its cause, AUTO_ZERO and LOCK obey LOCK. -/
def secCtrlWrite (v : Nat) (d : Dev) : Dev :=
  cxHost (fun d =>
    let fs := [SEC_CTRL_LOCK, SEC_CTRL_AUTO_ZERO]
    if lockedChange d.ctl (d.flag SEC_CTRL_LOCK) v fs then d.answer .perm
    else
      let d1 : Dev := { d with ctl := writeFlds d.ctl (d.flag SEC_CTRL_LOCK) v fs }
      (if bitAt v 1 then secAlarm 5 0 0 d1 else d1).answer .ok) d
/-- A write of SEC_ALARM (R12): the causes written 1 are cleared. -/
def alarmClear (v : Nat) (d : Dev) : Dev :=
  cxHost (fun d => (d.set SEC_ALARM_CAUSE (fieldAfter d.ctl false v SEC_ALARM_CAUSE)).answer .ok) d

/-! ### The meanings -/

/-- ALARM_CLEAR (R12). -/
def execAlarmClear (mask : BitVec 6) (s : State) : Host.Outcome State Fault Refusal := run s (alarmClear mask.toNat)
/-- SEC_TEST (R323). -/
def execSecTest (s : State) : Host.Outcome State Fault Refusal :=
  run s (fun d => secCtrlWrite (wordOf d.ctl [SEC_CTRL_LOCK, SEC_CTRL_AUTO_ZERO] + 2) d)
/-- KEY_LOAD (R294). -/
def execKeyLoad (k : Fin 64) (link : Bool) (s : State) : Host.Outcome State Fault Refusal := run s (keyLoad k (b2n link))
/-- KEY_LOAD_DONE (R294). -/
def execKeyLoadDone (s : State) : Host.Outcome State Fault Refusal := run s keyLoadDone
/-- KEY_RETIRE (R296). -/
def execKeyRetire (k : Fin 64) (s : State) : Host.Outcome State Fault Refusal := run s (keyRetire k)
/-- KEY_DRAIN_DONE (R296). -/
def execKeyDrainDone (k : Fin 64) (s : State) : Host.Outcome State Fault Refusal := run s (keyDrainDone k)
/-- KEY_COOLDOWN_END (R296). -/
def execKeyCooldownEnd (k : Fin 64) (s : State) : Host.Outcome State Fault Refusal := run s (keyCooldownEnd k)
/-- KEY_ABORT (R297). -/
def execKeyAbort (k : Fin 64) (s : State) : Host.Outcome State Fault Refusal := run s (keyAbort k)

end Sys2Proof.Machine
end

