-- ==== Sys2Proof/Machine/ExtMem.lean ====
section
/-! DEFINITION. External memory as words and lines (R258, R259, R264 to R268): the address map, files, reading and
writing a plain word and an encrypted line, with their codes and epoch tags. -/
namespace Sys2Proof.Machine
open Sys2Proof.Machine.Reg

/-! ### The address map (R259, R267) -/

/-- Populated controllers. -/
def popCount (d : Dev) : Nat := 2 ^ d.get XM_CFG_POP
/-- Bytes of the external address space. -/
def extSize (d : Dev) : Nat := popCount d * (if d.flag XM_CFG_DENSITY then 0x2000000 else 0x1000000)
/-- Pages below the training region, the top 4 KB (R259). -/
def usablePages (d : Dev) : Nat := extSize d / 4096 - 1
/-- The controller of an external address. -/
def ctlOf (d : Dev) (g : Nat) : Nat := g / 64 % popCount d
/-- The device address of an external address. -/
def devAddr (d : Dev) (g : Nat) : Nat := 8 * (g / 64 / popCount d) + g / 8 % 8
/-- The place of an external address in the devices: 2^25 × controller + byte address there (R267). -/
def placeOf (d : Dev) (g : Nat) : Nat := 2 ^ 25 * ctlOf d g + 64 * (g / 64 / popCount d) + g % 64
/-- STATE of a controller. -/
def xmcState (d : Dev) (n : Nat) : Nat := d.get (XMC_STATUS_STATE n)

/-! ### Files (R268) -/

/-- First external address of a file. -/
def fileStart (d : Dev) (f : Nat) : Nat := d.get (XF_BASE_BASE f) * 4096
/-- Bytes of a file. -/
def fileBytes (d : Dev) (f : Nat) : Nat := d.get (XF_SIZE_SIZE f) * 4096
/-- Whether a file is ENCRYPTED. -/
def fileEnc (d : Dev) (f : Nat) : Bool := d.flag (XF_CFG_MODE f)
/-- The enabled file that holds a page: none for the training region and beyond the space (R259). -/
def fileOfPage (d : Dev) (p : Nat) : Option Nat :=
  (List.range 256).find? (fun f => decide (p < usablePages d) && d.flag (XF_CFG_EN f) && decide (d.get (XF_BASE_BASE f) ≤ p ∧
    p < d.get (XF_BASE_BASE f) + d.get (XF_SIZE_SIZE f)))
/-- Whether ring `r` may read (write) file `f`. -/
def ringRight (d : Dev) (r f : Nat) (write : Bool) : Bool :=
  bitAt (d.get (XF_RIGHTS_RIGHTS f (r / 16))) (2 * (r % 16) + b2n write)
/-- Crypto state of a file: 0 OFF, 1 INIT, 2 READY, 3 MIGRATING, 4 PAUSED. -/
def cfState (d : Dev) (f : Nat) : Nat := d.get (CF_CTRL_STATE f)
/-- Whether a file is between two keys (R308, R313, R315). -/
def migrating (d : Dev) (f : Nat) : Bool := cfState d f == 3 || cfState d f == 4

/-! ### Words as they stand -/

/-- Change the contents of external memory. -/
def Dev.mapExt (d : Dev) (f : ExtMem → ExtMem) : Dev := { d with xm := { d.xm with mem := f d.xm.mem } }
/-- An error state by number. -/
def flawOf (n : Nat) : Flaw := match n with | 0 => .none | 1 => .single | _ => .double
/-- The error state of two words under one code (R265): an error in each is a double error. -/
def flawJoin (a b : Flaw) : Flaw :=
  match a, b with
  | .none, x => x
  | x, .none => x
  | _, _ => .double
/-- Word `w` as a reader of mode `m` (1 plain, 2 encrypted) finds it: error state and bytes. A word last written in the
other mode carries bits of the other code, so what the check finds, and what it corrects, are free values (log 2). -/
def wordRead (m w : Nat) (d : Dev) : Flaw × List Byte × Dev :=
  let u := placeOf d (8 * w) / 8
  let was := sget 0 d.xm.mem.modes u
  let bs := rdBytes d.xm.mem.cells (8 * u) 8
  if was = 0 ∨ was = m then (sget Flaw.none d.xm.mem.flaws u, bs, d)
  else
    let fl := flawOf (d.freeVal 2)
    let d1 := d.bump
    match fl with
    | .single => (fl, leBytes 8 (d1.freeVal 64), d1.bump)
    | _ => (fl, bs, d1)
/-- Store a word with valid check bits. -/
def wordWrite (m w : Nat) (bs : List Byte) (d : Dev) : Dev :=
  let u := placeOf d (8 * w) / 8
  d.mapExt (fun x => { x with cells := wrBytes x.cells (8 * u) bs, modes := sset 0 x.modes u m,
                              flaws := sset Flaw.none x.flaws u .none })

/-! ### Error records (R266, R290) -/

/-- A corrected error at an address. -/
def xmCe (g : Nat) (d : Dev) : Dev :=
  let n := ctlOf d g
  (d.incSat (XMC_ECC_CE_COUNT n)).raise (XMC_IRQ_CAUSE_ECC_CE n)
/-- An uncorrectable error at an address. -/
def xmUe (g : Nat) (host enc : Bool) (d : Dev) : Dev :=
  let n := ctlOf d g
  let d1 := ((d.incSat (XMC_ECC_UE_COUNT n)).raise (XMC_IRQ_CAUSE_ECC_UE n)).set (XMC_ECC_ADDR_VALID n) 1
  ((d1.set (XMC_ECC_ADDR_HOST n) (b2n host)).set (XMC_ECC_ADDR_ENC n) (b2n enc)).set (XMC_ECC_ADDR_WORD n) (devAddr d g)
/-- Count what a read found. -/
def xmNote (fl : Flaw) (g : Nat) (host enc : Bool) (d : Dev) : Dev :=
  match fl with
  | .none => d
  | .single => xmCe g d
  | .double => xmUe g host enc d

/-! ### Plain words (R264, R266, R273) -/

/-- Bytes `o` to `o + n − 1` of a list. -/
def slice {α : Type} (bs : List α) (o n : Nat) : List α := (bs.drop o).take n
/-- A list with the bytes from `o` on replaced. -/
def splice {α : Type} (bs : List α) (o : Nat) (new : List α) : List α := bs.take o ++ new ++ bs.drop (o + new.length)

/-- Read `n` bytes of a plain word: code and bytes. -/
def plainRead (host : Bool) (g n : Nat) (d : Dev) : Resp × List Byte × Dev :=
  let (fl, bs, d1) := wordRead 1 (g / 8) d
  (if fl = .double then .ecc else .ok, slice bs (g % 8) n, xmNote fl g host false d1)
/-- Write bytes into a plain word; part of a word is a read-modify-write (R273). -/
def plainWrite (host : Bool) (g : Nat) (new : List Byte) (d : Dev) : Resp × Dev :=
  if new.length = 8 then (.ok, wordWrite 1 (g / 8) new d)
  else
    let (fl, bs, d1) := wordRead 1 (g / 8) d
    let d2 := xmNote fl g host false d1
    if fl = .double then (.ecc, d2) else (.ok, wordWrite 1 (g / 8) (splice bs (g % 8) new) d2)

/-! ### Encrypted lines (R265, R299, R307, R308) -/

/-- A line as read: ciphertext, the error states of its four groups, its tag. -/
structure LineRead where
  bytes  : List Byte
  groups : List Flaw
  tag    : Nat
  deriving DecidableEq, Repr

/-- The eight words of line `l`. -/
def lineWords (l : Nat) (d : Dev) : List Flaw × List Byte × Dev :=
  (List.range 8).foldl (fun (acc : List Flaw × List Byte × Dev) i =>
    let (fl, bs, d1) := wordRead 2 (8 * l + i) acc.2.2
    (acc.1 ++ [fl], acc.2.1 ++ bs, d1)) ([], [], d)
/-- Read line `l`. The tag bits stand in the two words of group 0: where one of them was written by a plain file, they
are bits of another code (log 2). -/
def lineRead (l : Nat) (host : Bool) (d : Dev) : LineRead × Dev :=
  let (fls, bs, d1) := lineWords l d
  let groups := (List.range 4).map (fun g => flawJoin (fls.getD (2 * g) .none) (fls.getD (2 * g + 1) .none))
  let d2 := forEach (List.range 4) d1 (fun g d => xmNote (groups.getD g .none) (64 * l + 16 * g) host true d)
  let u := placeOf d (64 * l) / 64
  let plain := sget 0 d.xm.mem.modes (8 * u) == 1 || sget 0 d.xm.mem.modes (8 * u + 1) == 1
  if plain then ({ bytes := bs, groups := groups, tag := d2.freeVal 4 }, d2.bump)
  else ({ bytes := bs, groups := groups, tag := sget 0 d.xm.mem.tags u }, d2)
/-- Whether a group of the line was uncorrectable. -/
def LineRead.bad (x : LineRead) : Bool := x.groups.contains .double

/-- The counter block of a memory line (Table 8-3). -/
def memCounter (major minor l b : Nat) : Nat := major * 2 ^ 96 + minor * 2 ^ 90 + 4 * l + b
/-- Encrypt or decrypt a line under the key of a slot. -/
def lineCrypt (d : Dev) (k major minor l : Nat) (bs : List Byte) : List Byte :=
  ctrCrypt (keyOf d k) (memCounter major minor l) bs
/-- Store line `l`: ciphertext and tag. -/
def lineWrite (l tag : Nat) (cipher : List Byte) (d : Dev) : Dev :=
  (forEach (List.range 8) d (fun i d => wordWrite 2 (8 * l + i) (slice cipher (8 * i) 8) d)).mapExt
    (fun x => { x with tags := sset 0 x.tags (placeOf d (64 * l) / 64) tag })

/-- R270: whether a request that was checked under slot `own` runs under that slot alone, because the file is no longer
enabled or has been enabled anew under another slot since. -/
def underEntry (d : Dev) (f own : Nat) : Bool :=
  !d.flag (XF_CFG_EN f) || (d.get (XF_CFG_KEY_IDX f) != own && d.get (CF_CTRL_OLD_SLOT f) != own)
/-- R308: the slot whose epoch a tag names, none where the file does not expect it; the request was checked under slot `own`
and `epoch`. -/
def slotOfTag (d : Dev) (f own epoch tag : Nat) : Option Nat :=
  if underEntry d f own then (if tag = epoch then some own else none)
  else if tag = d.get (CF_CTRL_EPOCH f) then some (d.get (XF_CFG_KEY_IDX f))
  else if migrating d f ∧ tag = d.get (CF_CTRL_OLD_EPOCH f) then some (d.get (CF_CTRL_OLD_SLOT f))
  else none
/-- R313: slot and epoch of a write to line `l` of file `f`, checked under slot `own` and `epoch`. -/
def writeKey (d : Dev) (f own epoch l : Nat) : Nat × Nat :=
  if underEntry d f own then (own, epoch)
  else if migrating d f ∧ d.get (CF_MIG_POINTER f) ≤ l - 64 * d.get (XF_BASE_BASE f) then
    (d.get (CF_CTRL_OLD_SLOT f), d.get (CF_CTRL_OLD_EPOCH f))
  else (d.get (XF_CFG_KEY_IDX f), d.get (CF_CTRL_EPOCH f))

end Sys2Proof.Machine
end

