-- ==== Sys2Proof/Machine/Crypto.lean ====
section
/-! DEFINITION. Memory counters, page operations, migration and PAGE_RESET of the crypto unit (R300 to R319). -/
namespace Sys2Proof.Machine
open Sys2Proof.Machine.Reg

/-! ### The counter store (R300, R317) -/

/-- The entry of a page as it stands. -/
def csEntry (d : Dev) (p : Nat) : CsEntry := sget {} d.cx.cs p
/-- Replace an entry. -/
def setCs (p : Nat) (e : CsEntry) (d : Dev) : Dev := d.withCx { d.cx with cs := sset {} d.cx.cs p e }
/-- The error state of word `i` of an entry. -/
def csFlaw (e : CsEntry) (i : Nat) : Flaw := sget Flaw.none e.flaws i
/-- COUNTER_LOSS of a page (R317, R318). -/
def counterLoss (p : Nat) (d : Dev) : Dev := secAlarm 2 ((fileOfPage d p).getD 0) p d
/-- R317: counter loss poisons the page. -/
def poisonPage (p : Nat) (d : Dev) : Dev :=
  let d1 := ((d.incSat CX_CS_ECC_UE_COUNT).set CX_CS_LAST_VALID 1).set CX_CS_LAST_PAGE p
  counterLoss p (setCs p { poison := true } (d1.raise CX_IRQ_CAUSE_CS_UE))
/-- Read the entry of a page (R317): the corrected entry is written back and counted; a double-bit error in word 7
while REENC is 0 counts as corrected, one anywhere else poisons the page. The first result says whether this read
poisoned it. -/
def csRead (p : Nat) (d : Dev) : Bool × CsEntry × Dev :=
  let e := csEntry d p
  if e.flaws.isEmpty then (false, e, d)
  else
    let doubles := (List.range 8).filter (fun i => csFlaw e i == .double)
    if doubles.isEmpty ∨ (doubles = [7] ∧ !e.reenc) then
      let e1 := if doubles = [7] then { e with flaws := [], oldMajor := 0, linePtr := 0 } else { e with flaws := [] }
      (false, e1, (setCs p e1 (d.incSat CX_CS_ECC_CE_COUNT)).raise CX_IRQ_CAUSE_CS_CE)
    else (true, { poison := true }, poisonPage p d)
/-- The major and the minor under which line `i` of the page stands (R303). -/
def lineMajor (e : CsEntry) (i : Nat) : Nat := if e.reenc ∧ e.linePtr ≤ i then e.oldMajor else e.major
/-- The minor of line `i`. -/
def lineMinor (e : CsEntry) (i : Nat) : Nat := sget 0 e.minors i
/-- The background sweep reads its next entry (R317). -/
def csSweep (d : Dev) : Dev :=
  let p := d.cx.sweep
  let (_, _, d1) := csRead p d
  d1.withCx { d1.cx with sweep := (p + 1) % 65536 }

/-! ### Migration starts (R305, R306, R310, R311) -/

/-- The key checks of R310. -/
def keyChecks (d : Dev) (k : Nat) : Bool := slotServes d k 0 && d.flag (KS_STATE_FRESH k)
/-- Bind a slot to a file. -/
def bindSlot (k f : Nat) (d : Dev) : Dev :=
  ((d.set (KS_STATE_FILE k) f).set (KS_STATE_BOUND k) 1).set (KS_STATE_FRESH k) 0
/-- Set the three high-water copies (R305). -/
def setHw (f v : Nat) (d : Dev) : Dev :=
  (d.withCx { d.cx with hw := sset (0, 0, 0) d.cx.hw f (v, v, v) }).set (CF_HW_HW f) v
/-- Whether migration of a file can start (R311). -/
def canMigrate (d : Dev) (f : Nat) : Bool :=
  d.flag (CF_CTRL_NEXT_EN f) && keyChecks d (d.get (CF_CTRL_NEXT_SLOT f)) && cfState d f == 2
/-- R311: the start of a migration. -/
def migStart (f : Nat) (d : Dev) : Dev :=
  let k := d.get (CF_CTRL_NEXT_SLOT f)
  let d1 := bindSlot k f d
  let d2 := (d1.set (CF_CTRL_OLD_SLOT f) (d1.get (XF_CFG_KEY_IDX f))).set (CF_CTRL_OLD_EPOCH f) (d1.get (CF_CTRL_EPOCH f))
  let d3 := (d2.set (XF_CFG_KEY_IDX f) k).set (CF_CTRL_EPOCH f) ((d1.get (CF_CTRL_EPOCH f) + 1) % 16)
  let d4 := ((setHw f 0 d3).set (CF_CTRL_NEXT_EN f) 0).set (CF_HW_LOST f) 0
  let d5 := ((d4.set (CF_MIG_POINTER f) 0).set (CF_CTRL_STATE f) 3).set CX_CMD_STAT_ABORT_LATE 0
  d5.withCx { d5.cx with migrated := d5.cx.migrated.filter (· != f) }
/-- A file needs a new key: migration starts where it can, otherwise REKEY_NEED is set (R305, R306); so it is too where a
migration of the file is already on its way (log 59). -/
def needRekey (f : Nat) (d : Dev) : Dev :=
  if cfState d f = 0 ∨ cfState d f = 1 then d
  else if canMigrate d f then migStart f d else d.raise CX_IRQ_CAUSE_REKEY_NEED
/-- The high-water major of a file by majority of its three copies, a copy that disagrees rewritten; none where it is
lost (R305). -/
def hwVote (f : Nat) (d : Dev) : Option Nat × Dev :=
  if d.flag (CF_HW_LOST f) then (none, d)
  else
    let (a, b, c) := sget (0, 0, 0) d.cx.hw f
    if a = b ∨ a = c then (some a, setHw f a d)
    else if b = c then (some b, setHw f b d)
    else (none, needRekey f (secAlarm 3 f 0 (d.set (CF_HW_LOST f) 1)))

/-! ### The re-encryption queue (R302, R304) -/

/-- The page on which a page operation runs. -/
def opPage (d : Dev) : Option Nat :=
  match d.cx.op with | some (.reenc p) => some p | some (.migrate _ p) => some p | _ => none
/-- A write left MINOR at or above PRE: the page joins the queue (R302). -/
def queuePage (p : Nat) (d : Dev) : Dev :=
  if d.cx.queue.contains p ∨ opPage d = some p ∨ 64 ≤ d.cx.queue.length then d
  else d.withCx { d.cx with queue := d.cx.queue ++ [p] }
/-- A write waits for the page: it goes to the head of the queue (R304). -/
def queueHead (p : Nat) (d : Dev) : Dev :=
  if d.cx.queue.contains p then d else d.withCx { d.cx with queue := (p :: d.cx.queue).take 64 }

/-! ### PAGE_RESET (R319) and initialisation (R310) -/

/-- A CX_CMD ends with a code. -/
def cxEnd (c : Resp) (d : Dev) : Dev := (d.set CX_CMD_STAT_BUSY 0).set CX_CMD_STAT_RESULT c.code
/-- A CX_CMD operation that ran has ended. -/
def cxDone (c : Resp) (d : Dev) : Dev := (cxEnd c d).raise CX_IRQ_CAUSE_CMD_DONE
/-- Whether every line of a page stands on a controller that is ready. -/
def pageReady (d : Dev) (p : Nat) : Bool := (List.range 64).all (fun i => xmcState d (ctlOf d (4096 * p + 64 * i)) == 2)
/-- R319: the checks of PAGE_RESET: its code, and the new MAJOR. -/
def resetChecks (f p : Nat) (d : Dev) : Resp × Nat × Dev :=
  if !d.flag (XF_CFG_EN f) ∨ !fileEnc d f ∨ fileOfPage d p ≠ some f then (.addr, 0, d)
  else if !slotServes d (d.get (XF_CFG_KEY_IDX f)) 0 then (.key, 0, keyUse (d.get (XF_CFG_KEY_IDX f)) d)
  else if cfState d f ≠ 2 then (.retry, 0, d)
  else
    let (hw, d1) := hwVote f d
    match hw with
    | none => (.retry, 0, d1)
    | some v => if v + 1 < 2 ^ 24 then (.ok, v + 1, d1) else (.retry, 0, d1)
/-- R319: PAGE_RESET itself. -/
def pageReset (f p major : Nat) (d : Dev) : Dev :=
  let d1 := setHw f major d
  let k := d1.get (XF_CFG_KEY_IDX f)
  let d2 := forEach (List.range 64) d1 (fun i d =>
    lineWrite (64 * p + i) (d.get (CF_CTRL_EPOCH f)) (lineCrypt d k major 0 (64 * p + i) (List.replicate 64 0)) d)
  setCs p { major := major } d2
/-- A PAGE_RESET that waits for the unit runs when no page operation does (R302). -/
def tryReset (d : Dev) : Dev :=
  match d.cx.resets, d.cx.op with
  | some (f, p), none =>
    let (c, major, d1) := resetChecks f p d
    if c ≠ .ok then cxDone c (d1.withCx { d1.cx with resets := none })
    else if pageReady d1 p then cxDone .ok (pageReset f p major (d1.withCx { d1.cx with resets := none }))
    else d1
  | _, _ => d
/-- The unit is free: the next initialisation starts, and a PAGE_RESET that waits (R302). -/
def unitFree (d : Dev) : Dev :=
  match d.cx.op, d.cx.inits with
  | none, f :: rest => d.withCx { d.cx with op := some (.init f), inits := rest }
  | none, [] => tryReset d
  | _, _ => d
/-- A page operation ends. -/
def opEnd (d : Dev) : Dev := unitFree (d.withCx { d.cx with op := none })
/-- R310: the initialisation of a file starts, or waits for the unit. -/
def initStart (f : Nat) (d : Dev) : Dev :=
  unitFree ((d.set (CF_CTRL_STATE f) 1).withCx { d.cx with inits := d.cx.inits ++ [f] })
/-- R310: the initialisation ends: counter entries zeroed, high-water 0, READY. -/
def fileInitDone (f : Nat) (d : Dev) : Dev :=
  if d.cx.op = some (.init f) then
    let lo := d.get (XF_BASE_BASE f)
    let n := d.get (XF_SIZE_SIZE f)
    let d1 := d.withCx { d.cx with cs := d.cx.cs.filter (fun e => !decide (lo ≤ e.1 ∧ e.1 < lo + n)) }
    opEnd (((setHw f 0 d1).set (CF_CTRL_STATE f) 2).set (CF_HW_LOST f) 0)
  else d

/-! ### Page re-encryption and migration (R303, R305, R306, R312, R314) -/

/-- Index of a page in its file. -/
def pageIndex (d : Dev) (f p : Nat) : Nat := p - d.get (XF_BASE_BASE f)
/-- R303, R305, R306: a page re-encryption starts, unless a rule keeps it from starting. -/
def startReenc (p : Nat) (d : Dev) : Dev :=
  match fileOfPage d p with
  | none => d
  | some f =>
    if !fileEnc d f ∨ cfState d f = 0 ∨ cfState d f = 1 ∨
        (migrating d f ∧ 64 * pageIndex d f p < d.get (CF_MIG_POINTER f)) then d
    else
      let (_, e, d1) := csRead p d
      if e.poison ∨ e.reenc ∨ e.major = 0xFFFFFF then d1
      else
        let (hw, d2) := hwVote f d1
        match hw with
        | none => d2
        | some v =>
          let m := e.major + 1
          let d3 := setCs p { e with oldMajor := e.major, major := m, linePtr := 0, reenc := true, migr := false } d2
          let d4 := if migrating d f then d3 else setHw f (Nat.max v m) d3
          let d5 := d4.withCx { d4.cx with op := some (.reenc p) }
          if 0xFFF000 ≤ m then needRekey f d5 else d5
/-- R312: the migration of a page starts; a page that was paused goes on where it stands. -/
def startMigrate (f p : Nat) (d : Dev) : Dev :=
  let (_, e, d1) := csRead p d
  let d2 := if e.reenc ∧ e.migr then d1
    else (setCs p { e with oldMajor := e.major, major := 0, linePtr := 0, reenc := true, migr := true } d1).set
      (CF_MIG_POINTER f) (64 * pageIndex d f p)
  d2.withCx { d2.cx with op := some (.migrate f p) }
/-- The file that migrates next. -/
def nextMigration (d : Dev) : Option Nat := (List.range 256).find? (fun f => cfState d f == 3)
/-- PAGE_OPERATION_START: a queued page re-encryption goes before the next migration page (R302). -/
def pageOpStart (d : Dev) : Dev :=
  let d := unitFree d
  match d.cx.op, d.cx.queue, nextMigration d with
  | none, p :: rest, _ => startReenc p (d.withCx { d.cx with queue := rest })
  | none, [], some f => startMigrate f (d.get (XF_BASE_BASE f) + d.get (CF_MIG_POINTER f) / 64) d
  | _, _, _ => d

/-- R314: the last line of a file is rewritten. -/
def migComplete (f : Nat) (d : Dev) : Dev :=
  if d.get (CF_MIG_POINTER f) = 64 * d.get (XF_SIZE_SIZE f) then
    let k := d.get (CF_CTRL_OLD_SLOT f)
    let d1 := (d.set (CF_CTRL_STATE f) 2).raise CX_IRQ_CAUSE_MIG_DONE
    retireSlot k ((d1.withCx { d1.cx with migrated := f :: d1.cx.migrated }).set (KS_STATE_BOUND k) 0)
  else d
/-- A line has been rewritten: LINE_PTR advances; the page ends with its last line. -/
def lineDone (p i : Nat) (e : CsEntry) (d : Dev) : Bool × Dev :=
  let e1 := { e with minors := sset 0 e.minors i 0, linePtr := (i + 1) % 64 }
  if i = 63 then
    (true, setCs p { e1 with reenc := false, migr := false, poison := false, oldMajor := 0 } d)
  else (false, setCs p e1 d)
/-- The key slot whose key a page operation needs can be used: LOADED, or DRAINING with the work in flight (R295). -/
def slotHolds (d : Dev) (k : Nat) : Bool := slotState d k == 1 || slotState d k == 2
/-- Rewrite line `l` under slot `k`, tag `tag` and `major`, MINOR 0 (R303): a line whose tag fails R308 stays as it
is and raises TAG; what was uncorrectable stays uncorrectable (log 20). -/
def rewriteLine (f l k tag major : Nat) (e : CsEntry) (d : Dev) : Option Dev :=
  let (x, d1) := lineRead l false d
  match slotOfTag d1 f (d1.get (XF_CFG_KEY_IDX f)) (d1.get (CF_CTRL_EPOCH f)) x.tag with
  | none => some (secAlarm 0 f (l / 64) d1)
  | some old =>
    if slotHolds d1 old ∧ slotHolds d1 k then
      let plain := lineCrypt d1 old (lineMajor e (l % 64)) (lineMinor e (l % 64)) l x.bytes
      let d2 := lineWrite l tag (lineCrypt d1 k major 0 l plain) d1
      some (forEach ((List.range 4).filter (fun g => x.groups.getD g .none == .double)) d2 (fun g d =>
        d.mapExt (fun m => { m with flaws := sset Flaw.none m.flaws (placeOf d (64 * l) / 8 + 2 * g) .double })))
    else none
/-- The line that the page operation is to rewrite (R303, R312). -/
def opLine (d : Dev) : Option Nat := (opPage d).map (fun p => 64 * p + (csEntry d p).linePtr)
/-- Transactions of a line that is rewritten: read and written, or written alone where its page is poisoned (R312). -/
def opCost (d : Dev) : Nat := match opPage d with | some p => if (csEntry d p).poison then 8 else 16 | none => 0
/-- Whether the crypto unit waits for transactions of controller `n` (R279). -/
def opWants (d : Dev) (n : Nat) : Bool :=
  match opLine d with | some l => ctlOf d (64 * l) == n && decide (d.cx.grants < opCost d) | none => false
/-- PAGE_LINE_REWRITE: the line at LINE_PTR of the page operation's page, when its transactions have been granted (R279) and
its controller is ready (R303, R312). -/
def pageLine (d0 : Dev) : Dev :=
  let d := d0.withCx { d0.cx with grants := 0 }
  if d0.cx.grants < opCost d0 then d0
  else match d.cx.op with
  | some (.reenc p) =>
    let (_, e, d1) := csRead p d
    match fileOfPage d1 p with
    | none => opEnd d1
    | some f =>
      if e.poison ∨ !e.reenc then opEnd d1
      else
        let i := e.linePtr
        let l := 64 * p + i
        if xmcState d1 (ctlOf d1 (64 * l)) ≠ 2 then d1
        else
          let (k, tag) := writeKey d1 f (d1.get (XF_CFG_KEY_IDX f)) (d1.get (CF_CTRL_EPOCH f)) l
          match rewriteLine f l k tag e.major e d1 with
          | none => d1
          | some d2 => let (last, d3) := lineDone p i e d2; if last then opEnd d3 else d3
  | some (.migrate f p) =>
    let (lost, e0, d1) := csRead p d
    let (e, d1) := if lost then
        (({ poison := true, reenc := true, migr := true } : CsEntry),
          (setCs p { poison := true, reenc := true, migr := true } d1).set (CF_MIG_POINTER f) (64 * pageIndex d f p))
      else (e0, d1)
    let i := e.linePtr
    let l := 64 * p + i
    let k := d1.get (XF_CFG_KEY_IDX f)
    let tag := d1.get (CF_CTRL_EPOCH f)
    if xmcState d1 (ctlOf d1 (64 * l)) ≠ 2 then d1
    else
      let r := if e.poison then
          (if slotHolds d1 k then some (lineWrite l tag (lineCrypt d1 k 0 0 l (List.replicate 64 0)) d1) else none)
        else rewriteLine f l k tag 0 e d1
      match r with
      | none => d1
      | some d2 =>
        let (last, d3) := lineDone p i e d2
        let d4 := d3.set (CF_MIG_POINTER f) (64 * pageIndex d3 f p + i + 1)
        if last then opEnd (migComplete f d4) else d4
  | _ => d

/-! ### CX_CMD (R311, R315, R316, R319, R327) -/

/-- A CX_CMD is taken: RETRY while BUSY. -/
def cxCmd (f : Dev → Dev) (d : Dev) : Dev :=
  cxHost (fun d => if d.flag CX_CMD_STAT_BUSY then d.answer .retry else f d) d
/-- PAGE_RESET. -/
def cxPageReset (f p : Nat) (d : Dev) : Dev :=
  cxCmd (fun d =>
    let (c, _, d1) := resetChecks f p d
    if c ≠ .ok then (cxEnd c d1).answer c
    else
      let d2 := (d1.set CX_CMD_STAT_BUSY 1).set CX_CMD_STAT_ABORT_LATE 0
      (unitFree (d2.withCx { d2.cx with resets := some (f, p) })).answer .ok) d
/-- REKEY (R311). -/
def cxRekey (f : Nat) (d : Dev) : Dev :=
  cxCmd (fun d =>
    let next := d.flag (CF_CTRL_NEXT_EN f) && keyChecks d (d.get (CF_CTRL_NEXT_SLOT f))
    if !next ∨ cfState d f = 0 then (cxEnd .perm d).answer .perm
    else if canMigrate d f then (cxDone .ok (migStart f d)).answer .ok
    else (cxEnd .retry d).answer .retry) d
/-- ABORT (R315): the line in progress is whole, since a line is rewritten in one step. It comes late for a file whose
migration is complete, until another starts or the file is disabled (R9); it does nothing for any other file that does not
migrate (DEDUCED: log 59). -/
def cxAbort (f : Nat) (d : Dev) : Dev :=
  cxCmd (fun d =>
    if cfState d f = 3 then
      let mine := match d.cx.op with | some (.migrate g _) => g == f | _ => false
      let d1 := d.set (CF_CTRL_STATE f) 4
      (cxDone .aborted (if mine then opEnd (d1.withCx { d1.cx with grants := 0 }) else d1)).answer .ok
    else if cfState d f = 2 ∧ d.cx.migrated.contains f then ((cxEnd .ok d).set CX_CMD_STAT_ABORT_LATE 1).answer .ok
    else (cxEnd .ok d).answer .ok) d
/-- RESUME (R315). -/
def cxResume (f : Nat) (d : Dev) : Dev :=
  cxCmd (fun d =>
    if cfState d f = 4 then (cxDone .ok ((d.set (CF_CTRL_STATE f) 3).set CX_CMD_STAT_ABORT_LATE 0)).answer .ok
    else (cxEnd .ok d).answer .ok) d
/-- A write of CF_CTRL (R330): EPOCH only while the file is not enabled. -/
def cfCtrlWrite (f v : Nat) (d : Dev) : Dev :=
  cxHost (fun d =>
    if d.flag (XF_CFG_EN f) ∧ bitsAt v 16 4 ≠ d.get (CF_CTRL_EPOCH f) then d.answer .perm
    else (((d.set (CF_CTRL_NEXT_EN f) (bitsAt v 31 1)).set (CF_CTRL_NEXT_SLOT f) (bitsAt v 24 6)).set (CF_CTRL_EPOCH f)
      (bitsAt v 16 4)).answer .ok) d

/-! ### The meanings -/

/-- PAGE_OPERATION_START (R302). -/
def execPageOperationStart (s : State) : Host.Outcome State Fault Refusal := run s pageOpStart
/-- PAGE_LINE_REWRITE (R303, R312). -/
def execPageLineRewrite (s : State) : Host.Outcome State Fault Refusal := run s pageLine
/-- FILE_INIT_DONE (R310). -/
def execFileInitDone (f : Fin 256) (s : State) : Host.Outcome State Fault Refusal := run s (fileInitDone f)
/-- REKEY (R311). -/
def execRekey (f : Fin 256) (s : State) : Host.Outcome State Fault Refusal := run s (cxRekey f)
/-- MIGRATION_ABORT (R315). -/
def execMigrationAbort (f : Fin 256) (s : State) : Host.Outcome State Fault Refusal := run s (cxAbort f)
/-- MIGRATION_RESUME (R315). -/
def execMigrationResume (f : Fin 256) (s : State) : Host.Outcome State Fault Refusal := run s (cxResume f)
/-- PAGE_RESET (R319). -/
def execPageReset (f : Fin 256) (p : Fin 65536) (s : State) : Host.Outcome State Fault Refusal := run s (cxPageReset f p)
/-- COUNTER_STORE_SWEEP (R317). -/
def execCounterStoreSweep (s : State) : Host.Outcome State Fault Refusal := run s csSweep

end Sys2Proof.Machine
end

