-- ==== Sys2Proof/Machine/HostLog.lean ====
section
/-! DEFINITION. The error log of the host port (R8, R570). -/
namespace Sys2Proof.Machine
open Sys2Proof.Machine.Reg

/-- R8: what an access of the host reads where it was not answered OK. -/
def allOnes : Nat := 0xFFFFFFFF

/-- R570: the first error since VALID was cleared is recorded, later ones are counted; every one sets ERR. The route is
0 BAR0, 1 BAR2, 2 BAR4, 3 DMA, 4 MI2C. -/
def hostErr (route : Nat) (code : Resp) (channel reqId lo hi : Nat) (d : Dev) : Dev :=
  let d1 := d.raise HOST_IRQ_CAUSE_ERR
  if d1.flag HOST_ERRLOG0_VALID then d1.incSat HOST_ERRLOG3_COUNT
  else
    let d2 := (((d1.set HOST_ERRLOG0_VALID 1).set HOST_ERRLOG0_ROUTE route).set HOST_ERRLOG0_CODE code.code).set
      HOST_ERRLOG0_CHANNEL channel
    ((d2.set HOST_ERRLOG0_REQ_ID reqId).set HOST_ERRLOG1_ADDR_LO lo).set HOST_ERRLOG2_ADDR_HI hi

/-- A host request of a BAR ends (R8): a read completes with its data or all ones, a failed one is logged; a posted write
that fails is reported as an error. -/
def hostEnd (route reqId addr : Nat) (code : Resp) (data : List Nat) (d : Dev) : Dev :=
  let d1 := if code = .ok then d else hostErr route code 0 reqId addr 0 d
  let data' := if code = .ok then data else data.map (fun _ => allOnes)
  (if code = .ok ∧ data'.isEmpty then d1 else d1.emit (.completion code data')).answer code data'

end Sys2Proof.Machine
end

