-- ==== Sys2Proof/Machine/Xmem.lean ====
section
/-! DEFINITION. Requests to external memory and the arbiter trees (R268 to R281, R301, R304, R308, R309, R318), training
(R260 to R263) and the registers of files and controllers (R269, R284 to R291, R316). -/
namespace Sys2Proof.Machine
open Sys2Proof.Machine.Reg

/-! ### Performing a part (R273, R274) -/

/-- Raise a cause once for a request (R323). -/
def raiseOnce (bit arg data : Nat) (raised : List Nat) (d : Dev) : List Nat × Dev :=
  if raised.contains bit then (raised, d) else (bit :: raised, secAlarm bit arg data d)
/-- What the slot a line needs makes of a request that was checked under slot `own`: OK where it is LOADED, or drains
with this request in flight; otherwise KEY, and KEY_USE where the request names it only now (R295, R298). -/
def partKey (k : Nat) (own : Option Nat) (raised : List Nat) (d : Dev) : Bool × List Nat × Dev :=
  if slotServes d k 0 ∨ (slotState d k = 2 ∧ own = some k) then (true, raised, d)
  else if own = some k then (false, raised, d)
  else let (rs, d1) := raiseOnce 1 k 0 raised d; (false, rs, d1)
/-- Whether the page operation in progress has still to rewrite line `i` of page `p`. -/
def willRewrite (d : Dev) (p i : Nat) : Bool := opPage d == some p && decide ((csEntry d p).linePtr ≤ i)

/-- Store line `l` of file `f` with its MINOR advanced (R301, R302, R307, R313). -/
def storeLine (f l own epoch : Nat) (e : CsEntry) (plain : List Byte) (raised : List Nat) (d : Dev) :
    Resp × List Nat × Dev :=
  let (k, tag) := writeKey d f own epoch l
  let (ok, rs, d1) := partKey k (some own) raised d
  if !ok then (.key, rs, d1)
  else
    let i := l % 64
    let m := lineMinor e i + 1
    let d2 := lineWrite l tag (lineCrypt d1 k (lineMajor e i) m l plain) d1
    let d3 := setCs (l / 64) { e with minors := sset 0 e.minors i m } d2
    (.ok, rs, if d3.get CX_THRESH_PRE ≤ m then queuePage (l / 64) d3 else d3)

/-- What an encrypted part meets. The last result but one says whether the part waits for its page (R304). -/
def encPart (host : Bool) (x : XPart) (own : Nat) (new : Option (List Byte)) (raised : List Nat) (d : Dev) :
    Option Resp × List Byte × List Nat × Dev :=
  let f := x.file
  let l := x.addr / 64
  let p := x.addr / 4096
  let i := l % 64
  let zeros := List.replicate x.len (0 : Byte)
  let (lost, e, d1) := csRead p d
  if e.poison then
    let (rs, d2) := if lost then (2 :: raised, d1) else raiseOnce 2 f p raised d1
    let (ok, rs3, d3) := partKey own (some own) rs d2
    (some (if ok then .poison else .key), zeros, rs3, d3)
  else
    let full := match new with | some bs => bs.length == 64 | none => false
    let last := new.isSome && lineMinor e i == 63
    if last && willRewrite d1 p i then (none, zeros, raised, d1)
    else
      let (hw, d2) := if last then hwVote f d1 else (some 0, d1)
      let stuck := last && (hw.isNone || e.major == 0xFFFFFF || underEntry d2 f own)
      if last && !stuck then (none, zeros, raised, queueHead p d2)
      else if full then
        if stuck then
          let (ok, rs, d3) := partKey (writeKey d2 f own x.epoch l).1 (some own) raised d2
          (some (if ok then .retry else .key), zeros, rs, d3)
        else
          let (c, rs, d3) := storeLine f l own x.epoch e (new.getD []) raised d2
          (some c, [], rs, d3)
      else
        let (y, d3) := lineRead l host d2
        match slotOfTag d3 f own x.epoch y.tag with
        | none =>
          let (rs, d4) := raiseOnce 0 f p raised d3
          let (ok, rs2, d5) := partKey own (some own) rs d4
          (some (if ok then .tag else .key), zeros, rs2, d5)
        | some k =>
          let (ok, rs, d4) := partKey k (some own) raised d3
          if !ok then (some .key, zeros, rs, d4)
          else
            let plain := lineCrypt d4 k (lineMajor e i) (lineMinor e i) l y.bytes
            match new with
            | none => (some (if y.bad then .ecc else .ok), slice plain (x.addr % 64) x.len, rs, d4)
            | some bs =>
              if y.bad then (some .ecc, [], rs, d4)
              else if stuck then (some .retry, [], rs, d4)
              else
                let (c, rs2, d5) := storeLine f l own x.epoch e (splice plain (x.addr % 64) bs) rs d4
                (some c, [], rs2, d5)

/-- Perform a part: its code (none: it waits), the bytes it delivers, the causes raised. -/
def performPart (host : Bool) (x : XPart) (new : Option (List Byte)) (raised : List Nat) (d : Dev) :
    Option Resp × List Byte × List Nat × Dev :=
  match x.key with
  | some own => encPart host x own new raised d
  | none => match new with
    | none => let (c, bs, d1) := plainRead host x.addr x.len d; (some c, bs, raised, d1)
    | some bs => let (c, d1) := plainWrite host x.addr bs d; (some c, [], raised, d1)

/-! ### Parts and transactions (R273) -/

/-- Bytes from `g` on that one part covers: up to the end of its word, or of its line. -/
def partLen (enc : Bool) (g n : Nat) : Nat := let u := if enc then 64 else 8; Nat.min n (u - g % u)
/-- Transactions of a part. -/
def partCost (enc write : Bool) (n : Nat) : Nat :=
  if enc then (if write ∧ n ≠ 64 then 16 else 8) else if write ∧ n ≠ 8 then 2 else 1
/-- A part that enters the tree under the file's entry as it stands (R270). -/
def newPart (d : Dev) (f : Nat) (key : Option Nat) (write : Bool) (g n : Nat) : XPart :=
  { ctl := ctlOf d g, file := f, key := key, epoch := d.get (CF_CTRL_EPOCH f), addr := g, len := n,
    rmw := write && n != (if key.isSome then 64 else 8), dyn := partCost key.isSome write n }
/-- The parts of `n` bytes from external address `g` on, in ascending order. -/
def splitParts (d : Dev) (f : Nat) (key : Option Nat) (write : Bool) (fuel g n : Nat) : List XPart :=
  match fuel with
  | 0 => []
  | k + 1 =>
    if n = 0 then []
    else
      let len := partLen key.isSome g n
      newPart d f key write g len ::
        splitParts d f key write k (g + len) (n - len)

/-! ### Seats (R276) -/

/-- Seats booked for a source (16 × ring + slot) on a controller. -/
def seatsBooked (d : Dev) (i n : Nat) : Nat :=
  match n with
  | 0 => d.get (XM_SEAT_LO_SEAT0 i) | 1 => d.get (XM_SEAT_LO_SEAT1 i) | 2 => d.get (XM_SEAT_LO_SEAT2 i)
  | 3 => d.get (XM_SEAT_LO_SEAT3 i) | 4 => d.get (XM_SEAT_HI_SEAT4 i) | 5 => d.get (XM_SEAT_HI_SEAT5 i)
  | 6 => d.get (XM_SEAT_HI_SEAT6 i) | _ => d.get (XM_SEAT_HI_SEAT7 i)
/-- Seats are refilled at the ring's start edge. -/
def refillXSeats (r : Nat) (d : Dev) : Dev :=
  let seats := (List.range 10).foldl (fun m t => (List.range 8).foldl (fun m n =>
    sset 0 m (8 * (16 * r + t) + n) (seatsBooked d (16 * r + t) n)) m) d.xm.seats
  { d with xm := { d.xm with seats := seats } }
/-- Seats lapse at the ring's end edge. -/
def lapseXSeats (r : Nat) (d : Dev) : Dev :=
  { d with xm := { d.xm with seats := d.xm.seats.filter (fun e => e.1 / 128 != r) } }
/-- A part takes seats of its source; a transaction that finds none is counted SEATLESS. -/
def seatPart (src : Nat) (x : XPart) (d : Dev) : XPart × Dev :=
  let key := 8 * src + x.ctl
  let have' := sget 0 d.xm.seats key
  let took := Nat.min x.dyn have'
  let d1 : Dev := { d with xm := { d.xm with seats := sset 0 d.xm.seats key (have' - took) } }
  ({ x with seated := took, dyn := x.dyn - took }, d1.addSat (XM_RING_STAT_SEATLESS (src / 16)) (x.dyn - took))
/-- All parts of a seated request. -/
def seatParts (src : Nat) (xs : List XPart) (d : Dev) : List XPart × Dev :=
  match xs with
  | [] => ([], d)
  | x :: rest =>
    let (y, d1) := seatPart src x d
    let (ys, d2) := seatParts src rest d1
    (y :: ys, d2)

/-! ### Answers (R272, R274) -/

/-- Tokens of bytes, eight a token. -/
def bytesTokens (n : Nat) (bs : List Byte) : List Token :=
  (List.range n).map (fun i => BitVec.ofNat 64 (leNat (slice bs (8 * i) 8)))
/-- 32-bit words of bytes. -/
def bytesDws (n : Nat) (bs : List Byte) : List Nat := (List.range n).map (fun i => leNat (slice bs (4 * i) 4))
/-- The answer of a request goes to the one that waits for it. -/
def xAnswer (q : XReq) (code : Resp) (units : Nat) (bs : List Byte) (d : Dev) : Dev :=
  let write := q.data.isSome
  match q.who with
  | .bare => d.answer code (units :: (if write then [] else (bytesTokens q.words bs).map (·.toNat)))
  | .gone => d
  | .dma => { d with host := { d.host with dmaAns := some (code, bs) } }
  | .host id => hostEnd 2 id q.addr code (if write then [] else bytesDws q.words bs) d
  | _ =>
    { d with xm := { d.xm with resps := d.xm.resps ++
      [{ r := q.src / 16, t := q.src % 16, who := q.who, op := if write then 9 else 8, code := code, units := units,
         data := if write then [] else bytesTokens q.words bs, token := code.code + 16 * units }] } }
/-- The code of a request: the lowest in precedence of its parts' (R274). -/
def worstOf (ps : List XPart) : Resp := ps.foldl (fun c x => Resp.worst c (x.code.getD .ok)) .ok
/-- Words that a part delivered or wrote, ECC reads included (R274). -/
def partUnits (write : Bool) (x : XPart) : Nat :=
  match x.code with
  | some .ok => (x.len + 7) / 8
  | some .ecc => if write then 0 else (x.len + 7) / 8
  | _ => 0
/-- A request whose parts all have their codes is answered. -/
def finishReq (q : XReq) (d : Dev) : Dev :=
  xAnswer q (worstOf q.parts) (q.parts.foldl (fun n x => n + partUnits q.data.isSome x) 0) (q.parts.flatMap (·.out)) d
/-- Answer and take out the requests that are complete. -/
def finishDone (d : Dev) : Dev :=
  let done := d.xm.reqs.filter (fun q => q.parts.all (·.code.isSome))
  let d1 : Dev := { d with xm := { d.xm with reqs := d.xm.reqs.filter (fun q => !q.parts.all (·.code.isSome)) } }
  forEach done d1 finishReq

/-! ### Entry (R271, R295, R310) -/

/-- R271: the code of the touched controllers, of two that apply the one of lower precedence number; a controller whose
crossing has stopped answers CLOCK_STOPPED (R173). -/
def ctlCode (d : Dev) (ns : List Nat) : Resp :=
  ns.foldl (fun c n => Resp.worst c (Resp.worst (if xStopped d (xMem n) then .clockStopped else .ok)
    (match xmcState d n with | 1 => .retry | 4 => .closed | 2 => .ok | _ => .timeout))) .ok
/-- The controllers touched by `n` bytes from `g` on. -/
def ctlsOf (d : Dev) (g n : Nat) : List Nat :=
  if n = 0 then [] else ((List.range ((g % 64 + n - 1) / 64 + 1)).map (fun i => ctlOf d (g + 64 * i))).eraseDups
/-- The code of the key lookup of a file: KEY where the slot does not serve memory, RETRY while the file is initialised,
OK otherwise (R295, R310). -/
def lookupCode (d : Dev) (f : Nat) : Resp :=
  if fileEnc d f then
    Resp.worst (if slotServes d (d.get (XF_CFG_KEY_IDX f)) 0 then .ok else .key) (if cfState d f = 1 then .retry else .ok)
  else .ok
/-- Whether a page that the request touches is poisoned; only an encrypted file has counters (R318). -/
def poisonedIn (d : Dev) (f g n : Nat) : Option Nat :=
  if fileEnc d f ∧ n ≠ 0 then
    ((List.range ((g % 4096 + n - 1) / 4096 + 1)).map (fun i => g / 4096 + i)).find? (fun p => (csEntry d p).poison)
  else none
/-- A request that is stopped at entry for a reason behind KEY in precedence (R7): the causes that apply are raised, each once
for the request (R323), and a poisoned page goes before what is of higher precedence number. -/
def lookupStop (c : Resp) (f g n : Nat) (raised : List Nat) (d : Dev) : Resp × List Nat × Dev :=
  let k := d.get (XF_CFG_KEY_IDX f)
  let (rs, d1) := if fileEnc d f ∧ !slotServes d k 0 then raiseOnce 1 k 0 raised d else (raised, d)
  match poisonedIn d f g n with
  | some p => let (rs2, d2) := raiseOnce 2 f p rs d1; (Resp.worst c .poison, rs2, d2)
  | none => (c, rs, d1)

/-- A request of `words` words at byte offset `off` of file `f` from slot `t` of ring `r` (R271 to R276). -/
def xEnter (who : XWho) (r t f off words : Nat) (seat : Bool) (data : Option (List Byte)) (d : Dev) : Dev :=
  let g := fileStart d f + off
  let n := 8 * words
  let q : XReq := { src := 16 * r + t, who := who, addr := g, data := data, words := words }
  let zeros := List.replicate n (0 : Byte)
  let perm := !d.flag (XF_CFG_EN f) || !ringRight d r f data.isSome
  let addr := off % 8 != 0 || decide (fileBytes d f < off + n) || decide (4096 * usablePages d < g + n)
  let c := Resp.worst (Resp.worst (if perm then .perm else .ok) (if addr then .addr else .ok)) (ctlCode d (ctlsOf d g n))
  if c ≠ .ok ∧ c.prec < Resp.key.prec then
    xAnswer q c 0 zeros (if c = .perm then d.incSat (XM_RING_STAT_DENIED r) else d)
  else
    let c2 := if words = 0 then Resp.ok else Resp.worst c (lookupCode d f)
    if c2 ≠ .ok then
      let (c3, _, d1) := lookupStop c2 f g n [] d
      xAnswer q c3 0 zeros d1
    else if words = 0 then xAnswer q .ok 0 [] d
    else
      let parts := splitParts d f (if fileEnc d f then some (d.get (XF_CFG_KEY_IDX f)) else none) data.isSome (words + 1) g n
      let (parts', d1) := if seat then seatParts q.src parts d else (parts, d)
      { d1 with xm := { d1.xm with reqs := d1.xm.reqs ++ [{ q with parts := parts' }] } }

/-- One unit of a host access to external memory (R559, R560): its part, with a code where it is stopped at entry. -/
def hostPart (write : Bool) (g n : Nat) (raised : List Nat) (d : Dev) : XPart × List Nat × Dev :=
  let stopped (c : Resp) : XPart := { ctl := ctlOf d g, addr := g, len := n, code := some c, out := List.replicate n 0 }
  match fileOfPage d (g / 4096) with
  | none => (stopped (Resp.worst .addr (ctlCode d [ctlOf d g])), raised, d)
  | some f =>
    let right := if write then d.flag (XF_CFG_HOST_W f) else d.flag (XF_CFG_HOST_R f)
    let c := Resp.worst (if right then .ok else .perm) (Resp.worst (ctlCode d [ctlOf d g]) (lookupCode d f))
    if c = .ok then
      (newPart d f (if fileEnc d f then some (d.get (XF_CFG_KEY_IDX f)) else none) write g n, raised, d)
    else if c.prec < Resp.key.prec then (stopped c, raised, d)
    else
      let (c2, rs, d1) := lookupStop c f g n raised d
      (stopped c2, rs, d1)
/-- The length of the unit that starts at `g`: a line of an encrypted file where it lies whole in the access (R560),
a word, or the part of a line of an encrypted file that the access covers. -/
def hostUnit (d : Dev) (g n : Nat) : Nat :=
  match fileOfPage d (g / 4096) with
  | some f => partLen (fileEnc d f) g n
  | none => partLen false g n
/-- The parts of a host access, and the causes they have raised. -/
def hostParts (write : Bool) (fuel g n : Nat) (raised : List Nat) (d : Dev) : List XPart × List Nat × Dev :=
  match fuel with
  | 0 => ([], raised, d)
  | k + 1 =>
    if n = 0 then ([], raised, d)
    else
      let len := hostUnit d g n
      let (x, rs, d1) := hostPart write g len raised d
      let (xs, rs2, d2) := hostParts write k (g + len) (n - len) rs d1
      (x :: xs, rs2, d2)
/-- A request of the host port, of a BAR or of a DMA channel, enters the trees; one stopped in every unit is answered at
once. -/
def xHost (who : XWho) (g n : Nat) (data : Option (List Byte)) (d : Dev) : Dev :=
  let (parts, rs, d1) := hostParts data.isSome n g n [] d
  let q : XReq := { src := 2048, who := who, addr := g, data := data, words := n / 4, parts := parts, raised := rs,
                    since := d.tb }
  finishDone { d1 with xm := { d1.xm with reqs := d1.xm.reqs ++ [q] } }

/-- The bytes that a part of a write stores. -/
def partData (q : XReq) (x : XPart) : Option (List Byte) := q.data.map (fun bs => slice bs (x.addr - q.addr) x.len)
/-! ### Grants (R275, R277, R279 to R281) -/

/-- A part that may be granted: the numbers of its request and part, and its source. -/
structure XCand where
  req  : Nat
  part : Nat
  src  : Nat
  seat : Bool
  deriving DecidableEq, Repr

/-- Parts still without a code, in order, with their places. -/
def openParts (d : Dev) : List (Nat × Nat × Nat × XPart) :=
  (d.xm.reqs.zip (List.range d.xm.reqs.length)).flatMap (fun q =>
    ((q.1.parts.zip (List.range q.1.parts.length)).filter (fun x => x.1.code.isNone)).map (fun x =>
      (q.2, x.2, q.1.src, x.1)))
/-- Whether two parts touch the same word, or the same line of an encrypted file. -/
def sameUnit (a b : XPart) : Bool :=
  if a.key.isSome ∨ b.key.isSome then a.addr / 64 == b.addr / 64 else a.addr / 8 == b.addr / 8
/-- Whether a part is a read-modify-write that holds its unit (R275): its read has been granted, its write has not. -/
def XPart.holds (x : XPart) : Bool := x.rmw && x.begun && !x.waits
/-- Whether the crypto unit holds the line of a part: it has read the line and not yet written it (R303). -/
def opHolds (d : Dev) (x : XPart) : Bool := d.cx.grants != 0 && opLine d == some (x.addr / 64)
/-- R275: the parts that controller `n` may grant: in issue order of a source and a file, over all controllers for its
requests and on each controller for the parts of one request, and not while another transaction holds the word or line. -/
def candidates (d : Dev) (n : Nat) (xs before : List (Nat × Nat × Nat × XPart)) (all : List (Nat × Nat × Nat × XPart)) :
    List XCand :=
  match xs with
  | [] => []
  | (i, j, src, x) :: rest =>
    let behind := before.any (fun y => y.2.2.1 == src && y.2.2.2.file == x.file && (y.1 != i || y.2.2.2.ctl == n))
    let held := all.any (fun y => !(y.1 == i && y.2.1 == j) && y.2.2.2.holds && sameUnit y.2.2.2 x)
    let more := candidates d n rest (before ++ [(i, j, src, x)]) all
    if x.ctl = n ∧ !x.waits ∧ !behind ∧ !held ∧ !opHolds d x then
      { req := i, part := j, src := src, seat := decide (0 < x.seated) } :: more
    else more
/-- The active inputs of controller `n` (R279): the sources with a dynamic transaction waiting for it, the host port (2048),
the crypto unit (2049). -/
def activeAt (d : Dev) (n : Nat) (all : List (Nat × Nat × Nat × XPart)) : List Nat :=
  ((all.filter (fun y => y.2.2.2.ctl == n && y.2.2.2.dyn != 0 && !y.2.2.2.waits)).map (fun y => y.2.2.1)).eraseDups ++
    (if opWants d n then [2049] else [])

/-- R280: one decision over credits, tickets of the active inputs (0: idle). -/
def decide280 (credits : List Int) (tickets : List Nat) : Option Nat × List Int :=
  let added := List.zipWith (fun (c : Int) (t : Nat) => if t = 0 then 0 else c + t) credits tickets
  let best := ((added.zip tickets).zip (List.range added.length)).foldl (fun (m : Option (Int × Nat)) p =>
    if p.1.2 = 0 then m else match m with
      | none => some (p.1.1, p.2)
      | some (c, i) => if c < p.1.1 then some (p.1.1, p.2) else some (c, i)) none
  match best with
  | none => (none, added)
  | some (c, i) => (some i, added.set i (c - (tickets.foldl (· + ·) 0 : Nat)))
/-- A decision of the arbiter whose credits start at `base`. -/
def arbiter (base : Nat) (tickets : List Nat) (d : Dev) : Option Nat × Dev :=
  let cs := (List.range tickets.length).map (fun i => sget 0 d.xm.credits (base + i))
  let (pick, cs') := decide280 cs tickets
  (pick, { d with xm := { d.xm with
    credits := (cs'.zip (List.range cs'.length)).foldl (fun m p => sset 0 m (base + p.2) p.1) d.xm.credits } })
/-- Active requesters among sources `f`. -/
def countActive (act : List Nat) (f : Nat → Bool) : Nat := (act.filter f).length
/-- The tree of controller `n` picks a source among the active ones (R279). -/
def treePick (n : Nat) (act : List Nat) (d : Dev) : Option Nat × Dev :=
  let base := 2048 * n
  let quads := (List.range 4).map (fun q => countActive act (fun s => s / 512 == q))
  let (top, d1) := arbiter base (quads ++ [countActive act (· == 2048), countActive act (· == 2049)]) d
  match top with
  | none => (none, d1)
  | some q =>
    if q = 4 ∨ q = 5 then (some (2044 + q), d1)
    else
      let (ring, d2) := arbiter (base + 16 + 32 * q) ((List.range 32).map (fun i => countActive act (fun s => s / 16 == 32 * q + i))) d1
      match ring with
      | none => (none, d2)
      | some i =>
        let r := 32 * q + i
        let (slot, d3) := arbiter (base + 160 + 10 * r) ((List.range 10).map (fun t => countActive act (· == 16 * r + t))) d2
        (slot.map (16 * r + ·), d3)

/-- Change a part of a request. -/
def mapPart (i j : Nat) (f : XPart → XPart) (d : Dev) : Dev :=
  { d with xm := { d.xm with reqs := d.xm.reqs.modify i (fun q => { q with parts := q.parts.modify j f }) } }
/-- A part has all its transactions: it is performed, or waits for its page (R304). -/
def partGo (i j : Nat) (d : Dev) : Dev :=
  match d.xm.reqs[i]? with
  | none => d
  | some q => match q.parts[j]? with
    | none => d
    | some x =>
      let (c, out, rs, d1) := performPart (q.src == 2048) x (partData q x) q.raised d
      let d2 := mapPart i j (fun x => { x with code := c, out := out, waits := c.isNone }) d1
      { d2 with xm := { d2.xm with reqs := d2.xm.reqs.modify i (fun q => { q with raised := rs }) } }
/-- One transaction of a part is granted. -/
def grantPart (i j : Nat) (seat : Bool) (d : Dev) : Dev :=
  let d1 := mapPart i j (fun x => if seat then { x with begun := true, seated := x.seated - 1 }
    else { x with begun := true, dyn := x.dyn - 1 }) d
  match (d1.xm.reqs[i]?).bind (fun q => q.parts[j]?) with
  | some x => if x.seated + x.dyn = 0 then finishDone (partGo i j d1) else d1
  | none => d1
/-- R281, R290: the waits of the active requesters and the records of XMC_ARB; `src`: who received the grant, if its
transaction was not held. -/
def noteWaits (n : Nat) (src : Option Nat) (act : List Nat) (d : Dev) : Dev :=
  let w := fun s => sget 0 d.xm.waited (4096 * n + s) + 1
  let keep := d.xm.waited.filter (fun e => e.1 / 4096 != n)
  let waited := act.foldl (fun m s => if some s = src then m else sset 0 m (4096 * n + s) (w s)) keep
  let d1 : Dev := { d with xm := { d.xm with waited := waited } }
  (d1.set (XMC_ARB_ACTIVE_MAX n) (Nat.max act.length (d1.get (XMC_ARB_ACTIVE_MAX n)))).set (XMC_ARB_MAX_WAIT n)
    (Nat.min 0xFFFF (Nat.max (match src with | some s => w s | none => 0) (d1.get (XMC_ARB_MAX_WAIT n))))
/-- TRANSACTION_GRANT: a slot of controller `n` goes to a seated transaction, oldest first, to drift tracking, or to a
dynamic transaction by the tickets (R277). -/
def grant (n : Nat) (d : Dev) : Dev :=
  if xmcState d n ≠ 2 then d
  else
    let all := openParts d
    let cs := candidates d n all [] all
    match cs.find? (·.seat) with
    | some c => grantPart c.req c.part true d
    | none =>
      if sget 0 d.xm.drift n ≠ 0 then
        { d with xm := { d.xm with drift := sset 0 d.xm.drift n (sget 0 d.xm.drift n - 1) } }
      else
        let act := activeAt d n all
        let (pick, d1) := treePick n act d
        match pick with
        | none => d1
        | some src =>
          if src = 2049 then
            let free := !all.any (fun y => y.2.2.2.holds && opLine d == some (y.2.2.2.addr / 64))
            if free then noteWaits n (some src) act (d1.withCx { d1.cx with grants := d1.cx.grants + 1 })
            else noteWaits n none act d1
          else match cs.find? (fun c => c.src == src) with
            | none => noteWaits n none act d1
            | some c => grantPart c.req c.part false (noteWaits n (some src) act d1)

/-- Whether a waiting write has its answer now: its line has been rewritten, or its page answers otherwise. -/
def mayResume (d : Dev) (i : Nat) (x : XPart) : Bool :=
  match d.xm.reqs[i]? with
  | some q => (performPart (q.src == 2048) x (partData q x) q.raised d).1.isSome
  | none => false
/-- WRITE_RESUME (R304): the oldest waiting write that may go on does; where none may, the oldest whose page is not being
rewritten puts it at the head of the queue again. -/
def writeResume (d : Dev) : Dev :=
  let ws := (openParts d).filter (fun y => y.2.2.2.waits)
  match (ws.find? (fun y => mayResume d y.1 y.2.2.2)).orElse (fun _ =>
      ws.find? (fun y => !willRewrite d (y.2.2.2.addr / 4096) (y.2.2.2.addr / 64 % 64))) with
  | none => d
  | some (i, j, _, _) =>
    let d1 := partGo i j d
    match (d1.xm.reqs[i]?).bind (fun q => q.parts[j]?) with
    | some y =>
      let d2 := if y.code = some .ok then d1.raise CX_IRQ_CAUSE_REENC_WAIT else d1
      finishDone d2
    | none => d1

/-! ### Training (R260 to R263) -/

/-- The credits of controller `n` start at 0 (R280). -/
def clearCredits (n : Nat) (d : Dev) : Dev :=
  { d with xm := { d.xm with credits := d.xm.credits.filter (fun e => e.1 / 2048 != n) } }
/-- Training starts: verification where VALID is set, full training otherwise (R260). -/
def trainStart (n : Nat) (d : Dev) : Dev :=
  (((d.set (XMC_STATUS_STATE n) 1).set (XMC_STATUS_STEP n) 1).set (XMC_STATUS_WARM n) (d.get (XMC_TRAIN_SUM_VALID n))).set
    (XMC_STATUS_RETRAINED n) 0
/-- A host write to a controller that is closed for inspection is ignored (R512). -/
def xmcHost (n : Nat) (f : Dev → Dev) (d : Dev) : Dev := if xmcState d n = 4 then d.answer .closed else f d
/-- A write of XMC_CTRL (R260, R261, R288): ignored beyond POP; EN cleared during training takes effect at its end. -/
def xmcCtrlWrite (n : Nat) (en : Bool) (d : Dev) : Dev :=
  if popCount d ≤ n then d.answer .ok
  else
    let was := d.flag (XMC_CTRL_EN n)
    let d1 := d.set (XMC_CTRL_EN n) (b2n en)
    (if en ∧ !was ∧ (xmcState d n = 0 ∨ xmcState d n = 3) then trainStart n d1
      else if !en ∧ (xmcState d n = 2 ∨ xmcState d n = 3) then d1.set (XMC_STATUS_STATE n) 0
      else d1).answer .ok
/-- XMC_CMD.RETRAIN (R263). -/
def retrain (n : Nat) (d : Dev) : Dev :=
  if xmcState d n = 2 ∨ xmcState d n = 3 then
    ((((d.set (XMC_STATUS_STATE n) 1).set (XMC_STATUS_STEP n) 3).set (XMC_STATUS_WARM n) 0).set
      (XMC_STATUS_RETRAINED n) 0).answer .ok
  else d.answer .perm
/-- The delays that a training stores. -/
def storeDelays (n : Nat) (dly : List (BitVec 8 × BitVec 8)) (d : Dev) : Dev :=
  forEach ((dly.zip (List.range 72))) d (fun p d =>
    (d.set (XMC_DQ_DLY_RD_DLY n p.2) p.1.1.toNat).set (XMC_DQ_DLY_WR_DLY n p.2) p.1.2.toNat)
/-- The stored read delays are in use (R260, R261). -/
def useDelays (n : Nat) (d : Dev) : Dev :=
  { d with xm := { d.xm with
    rdNow :=
      (List.range 72).foldl (fun m i => sset 0 m (72 * n + i) (d.get (XMC_DQ_DLY_RD_DLY n i))) d.xm.rdNow } }
/-- R261: training ends. `retrained`: a verification failed at step 8 and steps 4 to 8 ran. The measured read latency,
eye margin and delays come from the devices; a verification that passes keeps the stored ones. -/
def trainDone (n : Nat) (ok retrained : Bool) (step rdLat eye : Nat) (dly : List (BitVec 8 × BitVec 8)) (d : Dev) : Dev :=
  if xmcState d n ≠ 1 then d
  else
    let verify := d.flag (XMC_STATUS_WARM n)
    let d1 := if verify ∧ retrained then d.set (XMC_STATUS_RETRAINED n) 1 else d
    let d2 :=
      if ok then
        let e1 := if verify ∧ !retrained then d1
          else storeDelays n dly ((d1.set (XMC_TRAIN_SUM_RD_LAT n) rdLat).set (XMC_TRAIN_SUM_EYE_MIN n) eye)
        let e2 := (e1.set (XMC_TRAIN_SUM_TJ_TRAIN n) (wholeOf (((highest (d.tg.temps.filterMap id)).getD 600 : Rat) / 4) + 64).toNat).set
          (XMC_TRAIN_SUM_VALID n) 1
        useDelays n <| clearCredits n ((((e2.set (XMC_STATUS_STEP n) 8).set (XMC_STATUS_STATE n) 2).set (XMC_STATUS_DRIFT_LOW n) 0).raise
          (XMC_IRQ_CAUSE_TRAIN_DONE n))
      else
        (((d1.set (XMC_STATUS_STEP n) step).set (XMC_STATUS_STATE n) 3).set (XMC_TRAIN_SUM_VALID n) 0 |>.raise
          (XMC_IRQ_CAUSE_TRAIN_FAIL n)).bbr 5 1 true n step
    if d2.flag (XMC_CTRL_EN n) then d2 else d2.set (XMC_STATUS_STATE n) 0
/-- A delay after drift tracking: one step down or up at most, within its 8 bits (R262). -/
def stepDelay (v : Nat) (down up : Bool) : Nat :=
  if down == up then v else if up then Nat.min (v + 1) 255 else v - 1
/-- R262: a drift tracking run takes 16 slots and moves the read delays in use, `down` and `up` by DQ; DRIFT_LOW is set where
the eye margin is below 40 ps or a delay is within 8 steps of an end of its range, the 8 bits of RD_DLY (DEDUCED: log 60). -/
def driftRun (n down up margin : Nat) (d : Dev) : Dev :=
  if xmcState d n = 2 then
    let now := (List.range 72).map (fun i => stepDelay (sget 0 d.xm.rdNow (72 * n + i)) (bitAt down i) (bitAt up i))
    let d1 : Dev := { d with xm := { d.xm with
      drift := sset 0 d.xm.drift n (sget 0 d.xm.drift n + 16)
      rdNow := (now.zip (List.range 72)).foldl (fun m p => sset 0 m (72 * n + p.2) p.1) d.xm.rdNow } }
    if margin < 40 ∨ now.any (fun v => decide (v ≤ 8 ∨ 247 ≤ v)) then
      (d1.set (XMC_STATUS_DRIFT_LOW n) 1).raise (XMC_IRQ_CAUSE_DRIFT n)
    else d1
  else d

/-! ### Registers of files and of external memory (R269, R284 to R288, R316) -/

/-- Whether two page ranges overlap. -/
def rangesMeet (a n b m : Nat) : Bool := decide (a < b + m ∧ b < a + n)
/-- R269: whether file `f` may be enabled with this mode and key. -/
def fileFits (d : Dev) (f : Nat) (enc : Bool) (k : Nat) : Bool :=
  let a := d.get (XF_BASE_BASE f)
  let n := d.get (XF_SIZE_SIZE f)
  n != 0 && decide (a + n ≤ usablePages d) && (!enc || keyChecks d k) &&
    (List.range 256).all (fun g => g == f || !d.flag (XF_CFG_EN g) ||
      !rangesMeet a n (d.get (XF_BASE_BASE g)) (d.get (XF_SIZE_SIZE g)))
/-- Whether a page of a file has REENC set (R316). -/
def fileReenc (d : Dev) (f : Nat) : Bool :=
  d.cx.cs.any (fun e => e.2.reenc && decide (d.get (XF_BASE_BASE f) ≤ e.1 ∧
    e.1 < d.get (XF_BASE_BASE f) + d.get (XF_SIZE_SIZE f)))
/-- Store XF_CFG. -/
def storeXfCfg (f v : Nat) (d : Dev) : Dev :=
  ((((d.set (XF_CFG_EN f) (bitsAt v 31 1)).set (XF_CFG_MODE f) (bitsAt v 30 1)).set (XF_CFG_HOST_R f) (bitsAt v 29 1)).set
    (XF_CFG_HOST_W f) (bitsAt v 28 1)).set (XF_CFG_KEY_IDX f) (bitsAt v 20 6)
/-- A write of XF_CFG (R269, R310, R316). -/
def xfCfgWrite (f v : Nat) (d : Dev) : Dev :=
  let was := d.flag (XF_CFG_EN f)
  let en := bitAt v 31
  let enc := bitAt v 30
  let k := bitsAt v 20 6
  let changes := bitsAt v 30 1 != d.get (XF_CFG_MODE f) || k != d.get (XF_CFG_KEY_IDX f)
  if was then
    if changes then d.answer .perm
    else if en then (storeXfCfg f v d).answer .ok
    else if cfState d f = 1 ∨ migrating d f ∨ (fileEnc d f ∧ fileReenc d f) then d.answer .retry
    else
      let d1 := if fileEnc d f then (d.set (KS_STATE_BOUND k) 0).set (CF_CTRL_STATE f) 0 else d
      (storeXfCfg f v (d1.withCx { d1.cx with migrated := d1.cx.migrated.filter (· != f) })).answer .ok
  else if en then
    if fileFits d f enc k then
      let d1 := storeXfCfg f v d
      (if enc then initStart f (bindSlot k f d1) else d1).answer .ok
    else (d.raise XM_STATUS_FILE_ERR).answer .perm
  else (storeXfCfg f v d).answer .ok
/-- A write of XF_BASE or XF_SIZE: PERM while the file is enabled (R269). -/
def xfRangeWrite (f : Nat) (fld : Fld) (v : Nat) (d : Dev) : Dev :=
  if d.flag (XF_CFG_EN f) then d.answer .perm else (d.set fld v).answer .ok
/-- A write of XM_CFG (R284): only while every controller is OFF; PAGES follows. -/
def xmCfgWrite (v : Nat) (d : Dev) : Dev :=
  let fs := [XM_CFG_LOCK, XM_CFG_FREQ_MHZ, XM_CFG_DENSITY, XM_CFG_POP]
  let locked := d.flag XM_CFG_LOCK
  if lockedChange d.ctl locked v fs ∨ (List.range 8).any (fun n => xmcState d n != 0) then d.answer .perm
  else
    let d1 : Dev := { d with ctl := writeFlds d.ctl locked v fs }
    (d1.set XM_STATUS_PAGES (usablePages d1)).answer .ok
/-- A write of XM_SEAT (R286): only while the ring's ARM is 0. -/
def xmSeatWrite (a i v : Nat) (d : Dev) : Dev :=
  if d.armed (i / 16) then d.answer .perm else ({ d with ctl := writeFlds d.ctl false v (xmGlobalAt a) } : Dev).answer .ok
/-- XMC_CMD.CLR_ECC. -/
def xmcClrEcc (n : Nat) (d : Dev) : Dev :=
  (d.resetFlds [XMC_ECC_UE_COUNT n, XMC_ECC_CE_COUNT n, XMC_ECC_ADDR_VALID n]).answer .ok
/-- XMC_CMD.CLR_STATS. -/
def xmcClrStats (n : Nat) (d : Dev) : Dev := (d.resetFlds [XMC_ARB_ACTIVE_MAX n, XMC_ARB_MAX_WAIT n]).answer .ok

/-! ### The meanings -/

/-- XRD (R271). -/
def execXrd (r : Fin 128) (t : Fin 10) (f : Fin 256) (off : Word) (len : Fin 64) (seat : Bool) (s : State) :
    Host.Outcome State Fault Refusal := run s (xEnter .bare r t f off.toNat len seat none)
/-- XWR (R273). -/
def execXwr (r : Fin 128) (t : Fin 10) (f : Fin 256) (off : Word) (ws : List Token) (seat : Bool) (s : State) :
    Host.Outcome State Fault Refusal :=
  run s (xEnter .bare r t f off.toNat (ws.take 63).length seat (some ((ws.take 63).flatMap (fun w => leBytes 8 w.toNat))))
/-- TRANSACTION_GRANT (R277). -/
def execTransactionGrant (n : Fin 8) (s : State) : Host.Outcome State Fault Refusal := run s (grant n)
/-- WRITE_RESUME (R304). -/
def execWriteResume (s : State) : Host.Outcome State Fault Refusal := run s writeResume
/-- TRAINING_START (R260). -/
def execTrainingStart (n : Fin 8) (s : State) : Host.Outcome State Fault Refusal := run s (xmcHost n (xmcCtrlWrite n true))
/-- TRAINING_DONE (R261). -/
def execTrainingDone (n : Fin 8) (ok retrained : Bool) (step : Fin 8) (rdLat eye : BitVec 8)
    (dly : List (BitVec 8 × BitVec 8)) (s : State) : Host.Outcome State Fault Refusal :=
  run s (trainDone n ok retrained step rdLat.toNat eye.toNat dly)
/-- DRIFT_TRACKING (R262). -/
def execDriftTracking (n : Fin 8) (x : DriftStep) (s : State) : Host.Outcome State Fault Refusal :=
  run s (driftRun n x.down.toNat x.up.toNat x.margin.toNat)
/-- RETRAIN (R263). -/
def execRetrain (n : Fin 8) (s : State) : Host.Outcome State Fault Refusal := run s (xmcHost n (retrain n))
/-- XMC_CLR_ECC (R288). -/
def execXmcClrEcc (n : Fin 8) (s : State) : Host.Outcome State Fault Refusal := run s (xmcHost n (xmcClrEcc n))
/-- XMC_CLR_STATS (R288). -/
def execXmcClrStats (n : Fin 8) (s : State) : Host.Outcome State Fault Refusal := run s (xmcHost n (xmcClrStats n))
/-- FILE_ENABLE (R269): XF_CFG is written with EN set. -/
def execFileEnable (f : Fin 256) (enc hostR hostW : Bool) (k : Fin 64) (s : State) : Host.Outcome State Fault Refusal :=
  run s (xfCfgWrite f (2 ^ 31 + 2 ^ 30 * b2n enc + 2 ^ 29 * b2n hostR + 2 ^ 28 * b2n hostW + 2 ^ 20 * k))
/-- FILE_DISABLE (R316): XF_CFG is written back with EN clear. -/
def execFileDisable (f : Fin 256) (s : State) : Host.Outcome State Fault Refusal :=
  run s (fun d => xfCfgWrite f (wordOf d.ctl [XF_CFG_MODE f, XF_CFG_HOST_R f, XF_CFG_HOST_W f, XF_CFG_KEY_IDX f]) d)

end Sys2Proof.Machine
end

