-- ==== Sys2Proof/Machine/Turnstile.lean ====
section
/-! DEFINITION. Turnstiles (R171 to R199, R592): snapshots, staging, words and levels, pulses, request crossings, resync
and stopped clocks. The two sides of a crossing are one here: an entry written is an entry accepted (log 22). -/
namespace Sys2Proof.Machine
open Sys2Proof.Machine.Reg

/-! ### Slots -/

/-- Slot `t` of ring `r`. -/
def Dev.slot (d : Dev) (r t : Nat) : SlotSt := sget {} d.slots (32 * r + t)
/-- Replace a slot. -/
def setSlot (r t : Nat) (x : SlotSt) (d : Dev) : Dev := { d with slots := sset {} d.slots (32 * r + t) x }
/-- Change a slot. -/
def mapSlot (r t : Nat) (f : SlotSt → SlotSt) (d : Dev) : Dev := setSlot r t (f (d.slot r t)) d
/-- Whether a slot is attached (R172). -/
def slotEn (d : Dev) (r t : Nat) : Bool := d.flag (TS_CFG_EN r t)
/-- STATE of a slot: 0 DISABLED, 1 RUN, 2 RESYNC, 3 STOPPED. -/
def slotSt (d : Dev) (r t : Nat) : Nat := d.get (TS_STATUS_STATE r t)
/-- An attached slot that crosses nothing: RESYNC or STOPPED. -/
def slotHalted (d : Dev) (r t : Nat) : Bool := slotEn d r t && slotSt d r t != 1
/-- TS_VALUE (R197). -/
def slotValue (d : Dev) (r t : Nat) : Nat :=
  let v := d.get (TS_VALUE_LO_VALUE_LO r t) + 2 ^ 32 * d.get (TS_VALUE_HI_VALUE_HI r t)
  if t = 22 ∨ t = 23 then v % 2 ^ 16 else v
/-- A pulse lane of a slot. -/
def lane (d : Dev) (r t l : Nat) : LaneSt := sget {} (d.slot r t).lanes l
/-- Replace a lane. -/
def setLane (r t l : Nat) (x : LaneSt) (d : Dev) : Dev := mapSlot r t (fun s => { s with lanes := sset {} s.lanes l x }) d
/-- Pulses lost (R186). -/
def pulseLost (r t n : Nat) (d : Dev) : Dev :=
  if n = 0 then d else (d.addSat (TS_PULSE_LOST r t) n).raise (TS_IRQ_CAUSE_PULSE_LOST r t)
/-- A ring tick that sees a stopped crossing, or an answer from beyond one that stands still, slips with cause EXTERNAL
(R44, R190). -/
def sawExternal (r : Nat) (d : Dev) : Dev :=
  if (d.ring (d.lead r)).run = .out then d else d.setRing (d.lead r) { d.ring (d.lead r) with sawExt := true }
/-- Entries or requests a slot holds (TS_STATUS.LEVEL). -/
def slotLevel (d : Dev) (r t : Nat) : Nat :=
  let x := d.slot r t
  if t < 10 then
    x.reqs.length + (d.xm.reqs.filter (fun q => q.src == 16 * r + t && q.who != .bare && q.who != .gone)).length +
      (d.xm.resps.filter (fun p => p.r == r && p.t == t && p.who != .gone)).length +
      (d.qm.work.filter (fun w => w.r == r && w.t == t && w.q.who != .bare && w.q.who != .gone)).length
  else if t < 14 then x.fin.length
  else if t < 18 then x.staged.length + x.pub.length
  else if t = 24 ∨ t = 25 then (lane d r t 0).acc
  else 0

/-! ### Start edge: what a ring is given (R172, R177 to R181) -/

/-- The header of a stream slot (Table 5-5). -/
def streamHeader (n : Nat) (resync halted : Bool) : Token := BitVec.ofNat 64 (n + 65536 * b2n resync + 131072 * b2n halted)
/-- A stream-in slot freezes and releases its snapshot; `now` is the TB of the start edge. -/
def releaseIn (r t now : Nat) (d : Dev) : Dev :=
  let x := d.slot r t
  if !slotEn d r t then present r (.slot t) [streamHeader 0 false false] d
  else if slotHalted d r t then
    present r (.slot t) [streamHeader 0 x.resynced true] (setSlot r t { x with resynced := false } d)
  else
    let ready := (x.fin.takeWhile (fun e => decide (e.1 / 4 < now / 4))).length
    let n := Nat.min (d.get (TS_CFG_SNAP_MAX r t)) ready
    let d1 := setSlot r t { x with fin := x.fin.drop n, resynced := false } d
    present r (.slot t) (streamHeader n x.resynced false :: (x.fin.take n).map (·.2)) d1
/-- A stream-out slot emits its header. -/
def releaseOut (r t : Nat) (d : Dev) : Dev :=
  let x := d.slot r t
  let halted := slotHalted d r t
  let space := if slotEn d r t ∧ !halted then 64 - (x.staged.length + x.pub.length) else 0
  let d1 := setSlot r t { x with space := space, resynced := x.resynced && !slotEn d r t } d
  present r (.slot t) [streamHeader space (x.resynced && slotEn d r t) halted] d1
/-- The value and status of a word-in or level-in slot (R179). -/
def inValue (d : Dev) (r t : Nat) : Nat × Nat :=
  let x := d.slot r t
  match x.val with
  | some v => if slotEn d r t ∧ !slotHalted d r t then (v, b2n x.held) else (slotValue d r t, 2)
  | none => (slotValue d r t, 2)
/-- A word-in slot releases its value and status. -/
def releaseWord (r t : Nat) (d : Dev) : Dev :=
  let (v, st) := inValue d r t
  present r (.slot t) [BitVec.ofNat 64 (v % 2 ^ 56 + 2 ^ 56 * st)] d
/-- The level-in slot releases one digit per lane. -/
def releaseLevel (r : Nat) (d : Dev) : Dev :=
  let (v, _) := inValue d r 22
  forEach (List.range 16) d (fun i d => drive r (.slot 22 i) (if bitAt v i then 1 else 0) d)
/-- The pulse-in slot releases the counts of its lanes as two digits each. -/
def releasePulses (r now : Nat) (d : Dev) : Dev :=
  forEach (List.range 4) d (fun l d =>
    let x := lane d r 24 l
    let n := if slotEn d r 24 ∧ !slotHalted d r 24 then (x.got.filter (fun c => decide (c < now / 4))).length else 0
    let d1 := setLane r 24 l { x with got := x.got.filter (fun c => !decide (c < now / 4)) } d
    drive r (.slot 24 (2 * l + 1)) (Fin.ofNat 4 (n / 4)) (drive r (.slot 24 (2 * l)) (Fin.ofNat 4 n) d1))
/-- Everything the slots of a ring release at its start edge. -/
def slotsRelease (r now : Nat) (d : Dev) : Dev :=
  let d0 := if (List.range 26).any (fun t => slotEn d r t && slotSt d r t == 3) then sawExternal r d else d
  let d1 := forEach [10, 11, 12, 13] d0 (fun t d => releaseIn r t now d)
  let d2 := forEach [14, 15, 16, 17] d1 (fun t d => releaseOut r t d)
  releasePulses r now (releaseLevel r (releaseWord r 19 (releaseWord r 18 d2)))

/-! ### End edge: what a ring gives (R178, R180, R181) -/

/-- Show a value and status at a word-out or level-out slot: a change is presented to the clocked side (R180). -/
def showOut (r t value status : Nat) (d : Dev) : Dev :=
  let x := d.slot r t
  if x.shown = value ∧ d.get (TS_STATUS_OUT_STATUS r t) = status then d
  else
    let d1 := (setSlot r t { x with shown := value } d).set (TS_STATUS_OUT_STATUS r t) status
    if slotEn d r t ∧ !slotHalted d r t then d1.emit (.slotOut r t value status) else d1
/-- What the capture registers of a slot spell: 28 digits of a word, one bit per digit of a level (log 23). -/
def capValue (d : Dev) (r t : Nat) : Nat :=
  let c := (sget {} (d.ring r).caps t).reg
  if t < 22 then c % 2 ^ 56
  else (List.range 16).foldl (fun v i => v + 2 ^ i * (c / 4 ^ i % 2)) 0
/-- The word-out and level-out slots at a tick edge: captured, stale or safe. -/
def showOuts (r : Nat) (status : Nat) (d : Dev) : Dev :=
  forEach [20, 21, 23] d (fun t d =>
    match status with
    | 0 =>
      let v := capValue d r t
      showOut r t v 0 (d.setRing r { d.ring r with capLast := sset 0 (d.ring r).capLast t v })
    | 1 => showOut r t (sget 0 (d.ring r).capLast t) 1 d
    | _ => showOut r t (slotValue d r t) 2 d)
/-- Whether a target is one that another part of the model reads: a queue port, a swingboat channel, a cascade channel. -/
def readerKnown (target : Nat) : Bool := target < 0x40 || 0x60 ≤ target
/-- R178: staged tokens are published; in RESYNC and STOPPED nothing crosses and they stay (R188). Entries for a target
that no chapter names are taken by its reader as they come (log 22). -/
def publish (r t : Nat) (d : Dev) : Dev :=
  let x := d.slot r t
  if slotSt d r t ≠ 1 then d
  else if 0xE0 ≤ d.get (TS_CFG_TARGET r t) then
    setSlot r t { x with pub := x.pub ++ x.staged.map (fun w => (2 ^ 64 * x.pubNo + d.ctl.time.count, w)), pubNo := x.pubNo + 1, staged := [],
                         space := 0, pubAt := some d.ctl.time.count } d
  else if x.staged.isEmpty then d
  else if readerKnown (d.get (TS_CFG_TARGET r t)) then
    setSlot r t { x with pub := x.pub ++ x.staged.map (fun w => (2 ^ 64 * x.pubNo + d.ctl.time.count, w)), pubNo := x.pubNo + 1, staged := [], space := 0 } d
  else forEach x.staged (setSlot r t { x with staged := [], space := 0 } d) (fun w d => d.emit (.slotOut r t w.toNat 0))
/-- A pulse-out lane sends its staged count (R181). -/
def sendStaged (r l : Nat) (d : Dev) : Dev :=
  let x := lane d r 25 l
  if x.staged = 0 then d
  else if slotSt d r 25 ≠ 1 then
    (setLane r 25 l { x with staged := 0 } d).addSat (TS_PULSE_DISCARDED r 25) x.staged
  else
    let sum := Nat.min (x.acc + x.staged) 15
    let y := if x.busy then { x with acc := sum, staged := 0 }
      else { x with acc := sum - 1, staged := 0, busy := true, delivered := false }
    pulseLost r 25 (x.acc + x.staged - 15) (setLane r 25 l y d)
/-- Capture at the end edge: publication, pulses, words and levels. -/
def slotsCapture (r : Nat) (d : Dev) : Dev :=
  let d1 := forEach [14, 15, 16, 17] d (fun t d => publish r t d)
  let d2 := forEach (List.range 4) d1 (fun l d => sendStaged r l d)
  showOuts r 0 d2
/-- What a ring tick staged is discarded and counted (R178, R181). -/
def slotsDiscard (r : Nat) (d : Dev) : Dev :=
  let d1 := forEach [14, 15, 16, 17] d (fun t d =>
    let n := (d.slot r t).staged.length
    if n = 0 then d else (mapSlot r t (fun x => { x with staged := [], space := 0 }) d).addSat (TS_DROP_TOKENS r t) n)
  forEach (List.range 4) d1 (fun l d =>
    let x := lane d r 25 l
    if x.staged = 0 then d else (setLane r 25 l { x with staged := 0 } d).addSat (TS_PULSE_DISCARDED r 25) x.staged)

/-! ### Streams and pulses at their own events -/

/-- STREAM_OUT_STAGE (R172, R178): the slot takes the token that waits for it. -/
def streamStage (r t : Nat) (d : Dev) : Dev :=
  match waiting d r (.slot t) with
  | [] => d
  | w :: _ =>
    let d1 := takeWide r (.slot t) d
    let x := d1.slot r t
    if !slotEn d1 r t then d1
    else if 0 < x.space then setSlot r t { x with staged := x.staged ++ [w], space := x.space - 1 } d1
    else (d1.incSat (TS_DROP_TOKENS r t)).raise (TS_IRQ_CAUSE_DROP r t)
/-- Whether a stream-in slot takes `n` more entries: attached, in RUN, not full (R177, R188). -/
def streamRoom (d : Dev) (r t n : Nat) : Bool :=
  slotEn d r t && slotSt d r t == 1 && decide ((d.slot r t).fin.length + n ≤ 64)
/-- Entries are written into a stream-in slot. -/
def streamPut (r t : Nat) (ws : List Token) (d : Dev) : Dev :=
  mapSlot r t (fun x => { x with fin := x.fin ++ ws.map (fun w => (d.tb, w)) }) d
/-- STREAM_IN_WRITE (R177): a write into a full slot, or one that crosses nothing, is refused. -/
def streamWrite (r t : Nat) (w : Token) (d : Dev) : Dev :=
  if streamRoom d r t 1 then (streamPut r t [w] d).answer .ok else d.answer .retry
/-- PULSE_OUT_TOKEN (R181): the lane stages the pulse token that waits. -/
def pulseToken (r l : Nat) (d : Dev) : Dev :=
  match sget none (d.ring r).fab.pulses l with
  | none => d
  | some _ =>
    let d1 := d.mapFab r (fun f => { f with pulses := sset none f.pulses l none })
    let x := lane d1 r 25 l
    if !slotEn d1 r 25 then d1
    else if x.staged < 15 then setLane r 25 l { x with staged := x.staged + 1 } d1
    else pulseLost r 25 1 d1
/-- PULSE_SEND (R184 to R186, R188): a pulse at the clocked sender of a pulse-in lane. -/
def pulseSend (r l : Nat) (d : Dev) : Dev :=
  let x := lane d r 24 l
  if !slotEn d r 24 then d
  else if slotSt d r 24 ≠ 1 then d.incSat (TS_PULSE_DISCARDED r 24)
  else if !x.busy then setLane r 24 l { x with busy := true, delivered := false } d
  else if x.acc < 15 then setLane r 24 l { x with acc := x.acc + 1 } d
  else pulseLost r 24 1 d
/-- PULSE_DELIVER (R184): the receiver accepts the toggle. -/
def pulseDeliver (r t l : Nat) (d : Dev) : Dev :=
  let x := lane d r t l
  if slotSt d r t ≠ 1 ∨ !x.busy ∨ x.delivered then d
  else
    let y := { x with delivered := true }
    if t = 25 then (setLane r t l y d).emit (.slotOut r 25 l 0)
    else if x.got.length < 15 then setLane r t l { y with got := x.got ++ [d.tb / 4] } d
    else pulseLost r t 1 (setLane r t l y d)
/-- PULSE_ACK (R185): the sender accepts the acknowledge; `pulse`: a pulse arrives in the same cycle. -/
def pulseAck (r t l : Nat) (pulse : Bool) (d : Dev) : Dev :=
  let x := lane d r t l
  if slotSt d r t ≠ 1 ∨ !x.busy ∨ !x.delivered then d
  else
    let p := pulse && t == 24
    let again := decide (0 < x.acc) || p
    setLane r t l { x with busy := again, delivered := false, acc := if p then x.acc else x.acc - 1 } d

/-! ### Requests (R172, R182, R213, R272) -/

/-- The answer of a request that does not cross: 0 units, the data tokens of an XRD at 0 (R172, R272). -/
def slotAnswer (r t : Nat) (q : SlotReq) (c : Resp) (d : Dev) : Dev :=
  let data := if q.op = 8 ∧ q.who = .fabric then List.replicate q.len (0 : Token) else []
  { d with xm := { d.xm with resps := d.xm.resps ++
    [{ r := r, t := t, who := q.who, op := q.op, code := c, data := data, token := c.code }] } }
/-- Whether the bits of a request header that must be 0 are (Table 6-5, Table 7-4, Table 4-9). -/
def headerOk (h : Nat) : Bool :=
  let op := h % 16
  let fl := bitsAt h 4 4
  if op = 8 ∨ op = 9 then fl == 0 && bitsAt h 16 6 == 0 && bitsAt h 23 1 == 0 && h / 2 ^ 30 == 0
  else bitsAt h 23 1 == 0 && h / 2 ^ 33 == 0 && (1 ≤ op && op ≤ 6) && (if op = 1 ∨ op = 2 ∨ op = 6 then fl < 2 else fl == 0)
/-- How many tokens follow a request header. -/
def headerTokens (h : Nat) : Nat :=
  match h % 16 with | 1 => bitsAt h 24 6 | 8 => 1 | 9 => 1 + bitsAt h 24 6 | _ => 0
/-- The request that a header and the tokens after it spell. -/
def fabricRequest (h : Nat) (rest : List Token) : SlotReq :=
  let x := h % 16 = 8 ∨ h % 16 = 9
  { who := .fabric, op := h % 16, tgt := if x then bitsAt h 8 8 else bitsAt h 8 14,
    off := if x then (rest.headD 0).toNat else 0, len := bitsAt h 24 6, flag := bitAt h 4, vb := bitsAt h 30 3,
    seat := bitAt h 22, data := if x then rest.drop 1 else rest }
/-- Ring `r` has issued a request (R18). -/
def issued (r : Nat) (d : Dev) : Dev := d.setRing r { d.ring r with reqs := (d.ring r).reqs + 1 }
/-- Ring `r` has a response (R18). -/
def answered (r : Nat) (d : Dev) : Dev := d.setRing r { d.ring r with reqs := (d.ring r).reqs - 1 }
/-- The first response of a list for a slot, and the others. -/
def takeResp (r t : Nat) (xs : List SlotResp) : Option (SlotResp × List SlotResp) :=
  match xs with
  | [] => none
  | x :: rest =>
    if x.r = r ∧ x.t = t then some (x, rest)
    else (takeResp r t rest).map (fun p => (p.1, x :: p.2))
/-- An answer that shows a stopped or missing far side makes a slip's cause EXTERNAL (R44). -/
def noteAnswer (r : Nat) (c : Resp) (d : Dev) : Dev :=
  match c with | .clockStopped => sawExternal r d | .closed => sawExternal r d | .timeout => sawExternal r d | _ => d
/-- Nobody waits any more for the answers of requests that a test picks (R41, R164, R189). -/
def forsake (p : Nat → XWho → Bool) (d : Dev) : Dev :=
  { d with
    qm := { d.qm with work := d.qm.work.map (fun w =>
      if p (16 * w.r + w.t) w.q.who then { w with q := { w.q with who := .gone } } else w) },
    xm := { d.xm with
      reqs := d.xm.reqs.map (fun q => if p q.src q.who then { q with who := .gone } else q),
      resps := d.xm.resps.filter (fun x => !p (16 * x.r + x.t) x.who) } }
/-- Requests that have crossed are answered CLOCK_STOPPED, and what they answer later is dropped (R189, R190). -/
def stopCrossed (r t : Nat) (d : Dev) : Dev :=
  let mine := d.xm.reqs.filter (fun q => q.src == 16 * r + t && q.who != .bare && q.who != .gone)
  let atPort := d.qm.work.filter (fun w => w.r == r && w.t == t && w.q.who != .bare && w.q.who != .gone)
  let d1 := forEach mine (forsake (fun s w => s == 16 * r + t && w != .bare && w != .gone) d) (fun q d =>
    slotAnswer r t { who := q.who, op := if q.data.isSome then 9 else 8, len := q.words } .clockStopped d)
  forEach atPort d1 (fun w d => slotAnswer r t w.q .clockStopped d)
/-- Requests that wait at the ring side are answered CLOCK_STOPPED (R190). -/
def stopWaiting (r t : Nat) (d : Dev) : Dev :=
  forEach (d.slot r t).reqs (mapSlot r t (fun x => { x with reqs := [] }) d) (fun q d => slotAnswer r t q .clockStopped d)

/-! ### Resync, flush, stopped clocks (R187 to R192) -/

/-- Whether the ring side of every slot is in reset (R187): between WARM_RESET and its end, while PROG_N is low. -/
def ringSideReset (d : Dev) : Bool := d.cfg.warm || d.cfg.progLow
/-- The live side enters RESYNC (R187, R188): nothing more of this ring tick is staged. -/
def enterResync (r t : Nat) (d : Dev) : Dev :=
  if slotEn d r t then
    (mapSlot r t (fun x => { x with val := none, held := false, space := 0 }) d).set (TS_STATUS_STATE r t) 2
  else d
/-- The clocked side of a slot enters reset; its indicator is accepted (R187). -/
def sideReset (r t : Nat) (d : Dev) : Dev :=
  let d1 := d.set (TS_STATUS_FAR_RST r t) 1
  if slotSt d r t = 1 then enterResync r t d1 else d1
/-- The ring side of a slot enters reset (R187): its requests are gone; a live clocked side takes TS_VALUE as the value of a
word-out or level-out slot (Table 5-8). A stopped slot stays stopped. -/
def nearReset (r t : Nat) (d : Dev) : Dev :=
  let d0 := if (d.slot r t).reqs.isEmpty then d else mapSlot r t (fun x => { x with reqs := [] }) d
  let d1 := if (t = 20 ∨ t = 21 ∨ t = 23) ∧ slotEn d0 r t then showOut r t (slotValue d0 r t) 2 d0 else d0
  if slotSt d1 r t = 1 then enterResync r t d1 else d1
/-- Step 2 of Table 5-9: entries, staged tokens and pulses are discarded and counted. -/
def resyncDiscard (r t : Nat) (d : Dev) : Dev :=
  let x := d.slot r t
  let n := x.fin.length + x.staged.length + x.pub.length
  let pulses := x.lanes.foldl (fun n p => n + p.2.acc + p.2.staged + p.2.got.length) 0
  let d1 := (d.addSat (TS_DISCARD_ENTRIES r t) n).addSat (TS_PULSE_DISCARDED r t) pulses
  setSlot r t { x with fin := [], staged := [], space := 0, pub := [], seg := none, lanes := [] } d1
/-- Table 5-9 to its end (R189): the slot returns to RUN with RESYNC_DONE; requests that had crossed before the far side
was reset are answered CLOCK_STOPPED; an outward value is presented again. -/
def handshake (r t : Nat) (d : Dev) : Dev :=
  if !slotEn d r t then d
  else
    let far := d.flag (TS_STATUS_FAR_RST r t)
    let d1 := resyncDiscard r t d
    let d2 := if far ∧ t < 10 then stopCrossed r t d1 else d1
    let d3 := ((mapSlot r t (fun x => { x with resynced := true }) d2).set (TS_STATUS_STATE r t) 1).set (TS_STATUS_FAR_RST r t) 0
    let d4 := if t = 20 ∨ t = 21 ∨ t = 23 then
        d3.emit (.slotOut r t (d3.slot r t).shown (d3.get (TS_STATUS_OUT_STATUS r t))) else d3
    d4.raise (TS_IRQ_CAUSE_RESYNC_DONE r t)
/-- The clocked side of a slot has come out of reset (R189, R190), or a flush comes to its end (R192). With the ring side in
reset, the handshake starts when that leaves it (R191). -/
def resync (r t : Nat) (d : Dev) : Dev :=
  if slotSt d r t = 2 ∨ (slotSt d r t = 3 ∧ d.flag (TS_STATUS_FAR_RST r t)) then
    if ringSideReset d then (d.set (TS_STATUS_FAR_RST r t) 0).set (TS_STATUS_STATE r t) 2 else handshake r t d
  else d.set (TS_STATUS_FAR_RST r t) 0
/-- The ring side of a slot has come out of reset (R189): the handshake runs where the clocked side is out of reset too
(R191). -/
def nearReturn (r t : Nat) (d : Dev) : Dev :=
  if slotSt d r t = 2 ∧ !d.flag (TS_STATUS_FAR_RST r t) then handshake r t d else d
/-- A flush of a stream, request or pulse slot starts (R192). -/
def flushSlot (r t : Nat) (d : Dev) : Dev :=
  if t < 18 ∨ t = 24 ∨ t = 25 then enterResync r t d else d
/-- TS_CMD.FLUSH (R192): in IDLE, FAULT or CLOSED only. -/
def tsFlush (r t : Nat) (d : Dev) : Dev :=
  if d.inspected r then d.answer .closed
  else if d.rstate r = 0 ∨ d.rstate r = 4 ∨ d.rstate r = 5 then (flushSlot r t d).answer .ok
  else d.answer .perm
/-- TS_CMD.CLR_STATS (R198). -/
def tsClrStats (r t : Nat) (d : Dev) : Dev :=
  if d.inspected r then d.answer .closed
  else (d.resetFlds [TS_DISCARD_ENTRIES r t, TS_DROP_TOKENS r t, TS_PULSE_DISCARDED r t, TS_PULSE_LOST r t]).answer .ok
/-- BEAT_TIMEOUT of a slot (R190). -/
def slotStop (r t : Nat) (d : Dev) : Dev :=
  if slotEn d r t ∧ (slotSt d r t = 1 ∨ slotSt d r t = 2) then
    let d1 := (d.set (TS_STATUS_STATE r t) 3).raise (TS_IRQ_CAUSE_CLOCK_STOPPED r t)
    let d2 := (mapSlot r t (fun x => { x with val := none, held := false, space := 0 }) d1).bbr 3 1 false (r + 128 * t) 0
    let d3 := sawExternal r d2
    if t < 10 then stopWaiting r t (stopCrossed r t d3) else d3
  else d
/-- BEAT_RESUME of a slot (R190, R191): the handshake waits for a side that is in reset. -/
def slotResume (r t : Nat) (d : Dev) : Dev :=
  if slotSt d r t ≠ 3 then d
  else if ringSideReset d || d.flag (TS_STATUS_FAR_RST r t) then d.set (TS_STATUS_STATE r t) 2
  else handshake r t d

/-! ### Crossings inside blocks (R173) -/

/-- STATE of a crossing without a slot: 0 RUN, 2 RESYNC, 3 STOPPED. -/
def xState (d : Dev) (x : Nat) : Nat := sget 0 d.xstop x
/-- Replace it. -/
def setXState (x st : Nat) (d : Dev) : Dev := { d with xstop := sset 0 d.xstop x st }
/-- SOURCE code of the block whose crossing stopped (Table 14-8): the host port's accesses, Carousel, XMC, configuration;
none for the Ethernet complex, which the table does not list. -/
def xSource (x : Nat) : Option Nat :=
  if x < xCarousel then some 14 else if x = xCarousel then some 9 else if x = xConfig then some 8
  else if x < xEth 0 then some 5 else none
/-- BEAT_TIMEOUT of a crossing without a slot. A block without a SOURCE code is recorded with a free one (log 56). -/
def innerStop (x : Nat) (d : Dev) : Dev :=
  if xState d x = 3 then d
  else match xSource x with
    | some c => (setXState x 3 d).bbr 3 1 false (32768 + c) 0
    | none => ((setXState x 3 d).bbr 3 1 false (32768 + d.freeVal 8) 0).bump
/-- BEAT_RESUME of a crossing without a slot. -/
def innerResume (x : Nat) (d : Dev) : Dev := setXState x 0 d
/-- SIDE_RESET of a crossing without a slot: its far side enters reset (R173, R187). -/
def innerReset (x : Nat) (d : Dev) : Dev := if xState d x = 0 then setXState x 2 d else d
/-- RESYNC_HANDSHAKE of a crossing without a slot: its far side has come out of reset (R189). -/
def innerResync (x : Nat) (d : Dev) : Dev := if xState d x = 2 then setXState x 0 d else d

/-- What happens at a crossing: at a slot, or at a crossing without one, by its number. -/
def onCrossing (slot : Nat → Nat → Dev → Dev) (inner : Nat → Dev → Dev) (x : Crossing) : Dev → Dev :=
  match x with
  | .slot r t => slot r t
  | .ringMem r => inner (xRing r)
  | .engData e => inner (xData e)
  | .engProg e => inner (xProg e)
  | .carousel => inner xCarousel
  | .xmc n => inner (xMem n)
  | .ethernet p => inner (xEth p)
  | .config => inner xConfig
/-- The crossing that a ring and a place name together. -/
def crossingOf (r : Fin 128) (t : RingCrossing) : Crossing :=
  match t with
  | .slot t => .slot r t
  | .ringMem => .ringMem r
  | .engData i => .engData (engineOf r i)
  | .engProg i => .engProg (engineOf r i)
  | .carousel => .carousel
  | .xmc n => .xmc n
  | .ethernet p => .ethernet p
  | .config => .config
where
  /-- Engine `i` of ring `r`. -/
  engineOf (r : Fin 128) (i : Fin 8) : Fin 1024 := ⟨8 * r.val + i.val, by omega⟩
/-- Whether a crossing is in RESYNC, so that step 4 of Table 5-9 can fall due. -/
def resyncing (d : Dev) (x : Crossing) : Bool :=
  match x with
  | .slot r t => slotSt d r t == 2
  | .ringMem r => xState d (xRing r) == 2
  | .engData e => xState d (xData e) == 2
  | .engProg e => xState d (xProg e) == 2
  | .carousel => xState d xCarousel == 2
  | .xmc n => xState d (xMem n) == 2
  | .ethernet p => xState d (xEth p) == 2
  | .config => xState d xConfig == 2

/-! ### The meanings -/

/-- Slot number of stream-in slot `i` of a ring. -/
def sinSlot (i : Nat) : Nat := 10 + i
/-- Slot number of stream-out slot `i` of a ring. -/
def soutSlot (i : Nat) : Nat := 14 + i
/-- STREAM_OUT_STAGE (R178). -/
def execStreamOutStage (r : Fin 128) (i : Fin 4) (s : State) : Host.Outcome State Fault Refusal :=
  run s (streamStage r (soutSlot i))
/-- STREAM_IN_WRITE (R177). -/
def execStreamInWrite (r : Fin 128) (i : Fin 4) (w : Token) (s : State) : Host.Outcome State Fault Refusal :=
  run s (streamWrite r (sinSlot i) w)
/-- PULSE_OUT_TOKEN (R181). -/
def execPulseOutToken (r : Fin 128) (l : Fin 4) (s : State) : Host.Outcome State Fault Refusal := run s (pulseToken r l)
/-- PULSE_SEND (R184). -/
def execPulseSend (r : Fin 128) (l : Fin 4) (s : State) : Host.Outcome State Fault Refusal := run s (pulseSend r l)
/-- PULSE_DELIVER (R184): of the pulse-in or the pulse-out slot. -/
def execPulseDeliver (r : Fin 128) (out : Bool) (l : Fin 4) (s : State) : Host.Outcome State Fault Refusal :=
  run s (pulseDeliver r (24 + b2n out) l)
/-- PULSE_ACK (R185). -/
def execPulseAck (r : Fin 128) (out : Bool) (l : Fin 4) (pulse : Bool) (s : State) : Host.Outcome State Fault Refusal :=
  run s (pulseAck r (24 + b2n out) l pulse)
/-- SIDE_RESET (R173, R187): the far side of a crossing enters reset. -/
def execSideReset (r : Fin 128) (t : RingCrossing) (s : State) : Host.Outcome State Fault Refusal :=
  run s (onCrossing sideReset innerReset (crossingOf r t))
/-- RESYNC_HANDSHAKE (R173, R189): the far side of a crossing has come out of reset, or a flush of a slot ends. -/
def execResyncHandshake (r : Fin 128) (t : RingCrossing) (s : State) : Host.Outcome State Fault Refusal :=
  run s (onCrossing resync innerResync (crossingOf r t))
/-- BEAT_TIMEOUT (R190, R191): of a slot, or of a crossing without one; where step 4 of Table 5-9 falls in the same
housekeeping cycle, it wins. -/
def execBeatTimeout (x : Crossing) (s : State) (step4 : Bool := false) : Host.Outcome State Fault Refusal :=
  run s (if step4 && resyncing s.dev x then onCrossing resync innerResync x else onCrossing slotStop innerStop x)
/-- BEAT_RESUME (R190). -/
def execBeatResume (x : Crossing) (s : State) : Host.Outcome State Fault Refusal :=
  run s (onCrossing slotResume innerResume x)
/-- TS_FLUSH (R192). -/
def execTsFlush (r : Fin 128) (t : Fin 26) (s : State) : Host.Outcome State Fault Refusal := run s (tsFlush r t)
/-- TS_CLR_STATS (R198). -/
def execTsClrStats (r : Fin 128) (t : Fin 26) (s : State) : Host.Outcome State Fault Refusal := run s (tsClrStats r t)
end Sys2Proof.Machine
end

