-- ==== Sys2Proof/Machine/QueuePorts.lean ====
section
/-! DEFINITION. The ports of the queue manager (R208, R209, R213, R214, R233): what waits at a port, in which order a port
serves it, requests of rings and engines, stream segments. A port serves its work as soon as a command brings it some and
finds it free (log 12). -/
namespace Sys2Proof.Machine
open Sys2Proof.Machine.Reg

/-! ### Stream segments (R214) -/

/-- Producer source of a stream-out slot. -/
def soutSrc (r t : Nat) : QSource := (r / 2, 32 * r + t)
/-- A malformed header is discarded with the entries of its ring tick (R214). -/
def badSegment (r t : Nat) (d : Dev) : Dev :=
  mapSlot r t (fun x => { x with
    pub := x.pub.filter (fun e => e.1 != (x.pub.head?.map (·.1)).getD 0), seg := none }) (d.incSat (QM_PORT_STAT_P_BAD (r / 2)))
/-- Serve the data entries of a segment that stand published. -/
def serveSegment (r t : Nat) (s : SegSt) (d : Dev) : Dev :=
  let x := d.slot r t
  let have' := Nat.min s.left x.pub.length
  let close (n : Nat) (x : SlotSt) : SlotSt :=
    { x with pub := x.pub.drop n, seg := if s.left = n then none else some { s with left := s.left - n } }
  if s.drop then mapSlot r t (close have') d
  else
    let lastOne := have' == s.left
    let ws := narrowWords ((x.pub.take have').map (·.2)) (s.fin && lastOne) (if lastOne then s.vb else 0)
    let (c, n, d1) := qPush (soutSrc r t) s.q ws d
    match c with
    | .perm => mapSlot r t (fun x => { close have' x with seg := if lastOne then none else some { s with left := s.left - have', drop := true } })
        (d1.incSat (QM_PORT_STAT_P_BAD (r / 2)))
    | .retry => mapSlot r t (fun x => { x with pub := x.pub.drop n, seg := some { s with left := s.left - n } }) d1
    | _ => mapSlot r t (close have') d1
/-- STREAM_OUT_SEGMENT: the producer port serves the slot, up to the end of the segment or the last published entry. A
segment that meets the lock of another source stays in the slot unread (R218: words of a source in discard-to-end meet
none); one that is answered PERM is discarded. -/
def streamOutSegment (r t : Nat) (d : Dev) : Dev :=
  let x := d.slot r t
  if !slotEn d r t ∨ slotSt d r t ≠ 1 ∨ d.get (TS_CFG_TARGET r t) ≠ r / 2 ∨ x.pub.isEmpty ∨ (qmBlocked d).isSome then d
  else match x.seg with
    | some s => serveSegment r t s d
    | none =>
      let h := (x.pub.head?.map (fun e => e.2.toNat)).getD 0
      let n := bitsAt h 26 6
      if n = 0 ∨ bitsAt h 14 2 ≠ 0 ∨ bitsAt h 17 3 ≠ 0 ∨ bitsAt h 23 3 ≠ 0 ∨ h / 2 ^ 32 ≠ 0 then badSegment r t d
      else
        let q := bitsAt h 0 14
        if producerOk d (soutSrc r t) q && lockedOut d (soutSrc r t) q then d
        else serveSegment r t { q := q, fin := bitAt h 16, vb := bitsAt h 20 3, left := n }
          (mapSlot r t (fun x => { x with pub := x.pub.drop 1 }) d)
/-- Pop the words of a stream-in segment: up to `n`, ending at an end mark. -/
def popSegment (src : QSource) (q n : Nat) (d : Dev) : List QWord × Dev :=
  match n with
  | 0 => ([], d)
  | k + 1 =>
    let (_, ws, d1) := qPop src q 1 false d
    match ws with
    | [] => ([], d1)
    | w :: _ => if w.fin then ([w], d1) else let (rest, d2) := popSegment src q k d1; (w :: rest, d2)
/-- How many words the next stream-in segment has: what stands to be popped, up to an end mark, at most 15. -/
def segmentWords (d : Dev) (q : Nat) : Nat :=
  let ws := ((d.queue q).words.drop ((d.queue q).ptrA.rd - (d.queue q).base)).take (Nat.min 15 ((d.queue q).depth (qMode d q)))
  let upTo := (ws.takeWhile (fun w => !w.fin)).length
  Nat.min ws.length (upTo + 1)
/-- The header of a stream-in segment (Table 6-6). -/
def segmentHeader (q : Nat) (ws : List QWord) : Token :=
  match ws.getLast? with
  | none => 0
  | some w => BitVec.ofNat 64 (q + 65536 * b2n w.fin + 131072 * b2n w.trunc + 262144 * b2n w.err +
      524288 * (if w.fin then w.vb else 0) + 2 ^ 25 * ws.length)
/-- STREAM_IN_SEGMENT: the consumer port pops a segment into the slot when all its entries fit. -/
def streamInSegment (r t : Nat) (d : Dev) : Dev :=
  let i := 4 * r + t - 10
  let q := d.get (QM_SIN_QUEUE i)
  let mid := d.qm.sinMid.contains (i, q, (d.queue q).gen)
  let n := segmentWords d q
  if !d.flag (QM_SIN_EN i) ∨ d.get (TS_CFG_TARGET r t) ≠ 0x40 + r / 4 ∨ n = 0 ∨ !streamRoom d r t (4 * n + 1) ∨
      (d.flag (QM_SIN_WHOLE i) ∧ !mid ∧ (d.queue q).pkts (qMode d q) = 0) then d
  else
    let (ws, d1) := popSegment (r / 4, 32 * r + t) q n d
    if ws.isEmpty then d1
    else
      let ended := match ws.getLast? with | some w => w.fin | none => false
      let others := d1.qm.sinMid.filter (fun e => e.1 != i)
      let mids := if ended then others else (i, q, (d1.queue q).gen) :: others
      streamPut r t (segmentHeader q ws :: ws.flatMap wordTokens) { d1 with qm := { d1.qm with sinMid := mids } }

/-! ### What waits at a port, and the order of its service (R209, R233) -/

/-- The queue port of a request of ring `r`: producer port `p` is `p`, consumer port `c` is 64 + `c` (R208). -/
def portOf (r op : Nat) : Nat := if pushSide op then r / 2 else 64 + r / 4
/-- The port at which work waits. -/
def PortReq.port (w : PortReq) : Nat := portOf w.r w.q.op
/-- The number of a source within its port, for its turn. -/
def PortReq.source (w : PortReq) : Nat := 32 * w.r + w.t
/-- Put work behind what waits. -/
def putWork (w : PortReq) (d : Dev) : Dev := { d with qm := { d.qm with work := d.qm.work ++ [w] } }
/-- A request arrives at its port: one that takes no service is answered at once; one with SEAT = 1 travels on as many of
its source's seats as it needs and the source has (R233). -/
def arrive (r t : Nat) (q : SlotReq) (d : Dev) : Dev :=
  match withoutService r t q d with
  | some c => respond r t q c 0 [] d
  | none =>
    putWork { r := r, t := t, q := q,
              seats := if q.seat then Nat.min (seatsFor q) (seatsLeft d r t (pushSide q.op)) else 0 } d

/-- The source of class 2 that has its turn: the next above the one served last, in a circle. -/
def turnOf (p : Nat) (d : Dev) : Option PortReq :=
  let ws := d.qm.work.filter (fun w => w.port == p && w.seats == 0)
  let least (xs : List PortReq) : Option Nat := (xs.map (·.source)).min?
  let next := (least (ws.filter (fun w => decide (sget 0 d.qm.turn p ≤ w.source)))).orElse (fun _ => least ws)
  next.bind (fun k => ws.find? (fun w => w.source == k))
/-- What a port serves next (R209): seated work in order of arrival, then round-robin among the sources. -/
def nextWork (p : Nat) (d : Dev) : Option PortReq :=
  (d.qm.work.find? (fun w => w.port == p && w.seats != 0)).orElse (fun _ => turnOf p d)

/-- The part of a request that `k` seats cover, without the end mark, and the rest (R233). -/
def cutAt (k : Nat) (q : SlotReq) : SlotReq × SlotReq :=
  if q.op = 1 then ({ q with data := q.data.take (32 * k), flag := false }, { q with data := q.data.drop (32 * k) })
  else ({ q with len := 8 * k }, { q with len := q.len - 8 * k })
/-- Whether a served part ends its request: a code other than OK, or a pop that came to the end of the packet or of what
stood there. -/
def partEnds (q : SlotReq) (c : Resp) (ws : List QWord) : Bool :=
  c != .ok || (q.op == 2 && (decide (ws.length < q.len) || (q.flag && ws.any (fun w => w.fin))))
/-- The turn of seated work: the part that its seats cover is served, and the rest becomes a dynamic request of the same
source (R209, R233). -/
def seatedTurn (w : PortReq) (d : Dev) : Dev :=
  let d1 := takeSeats w.r w.t w.seats (pushSide w.q.op) d
  if seatsFor w.q ≤ w.seats then
    let (c, n, ws, d2) := serve w.r w.t w.q d1
    respond w.r w.t w.q c n ws d2
  else
    let (first, rest) := cutAt w.seats w.q
    let (c, n, ws, d2) := serve w.r w.t first d1
    if partEnds first c ws then respond w.r w.t w.q c n ws d2
    else putWork { w with q := rest, seats := 0, code := c, units := n, words := ws } d2
/-- The turn of dynamic work: a request, the rest of one, or the next segment of a stream slot. -/
def dynTurn (w : PortReq) (d0 : Dev) : Dev :=
  let d : Dev := { d0 with qm := { d0.qm with turn := sset 0 d0.qm.turn w.port (w.source + 1) } }
  if w.q.op = 16 then streamOutSegment w.r w.t d
  else if w.q.op = 17 then streamInSegment w.r w.t d
  else
    let (c, n, ws, d1) := serve w.r w.t w.q (if w.q.seat then countSeatless w.r (pushSide w.q.op) d else d)
    respond w.r w.t w.q (Resp.worst w.code c) (w.units + n) (w.words ++ ws) d1
/-- Port `p` serves what is next. -/
def servePort (p : Nat) (d : Dev) : Dev :=
  match nextWork p d with
  | none => d
  | some w =>
    let d1 : Dev := { d with qm := { d.qm with work := d.qm.work.erase w } }
    if w.seats = 0 then dynTurn w d1 else seatedTurn w d1
/-- A free port serves all its work: each piece takes one turn, or two where its seats cover it in part. -/
def drainPort (p : Nat) (d : Dev) : Dev := forEach (List.range (2 * d.qm.work.length)) d (fun _ d => servePort p d)
/-- The ports of a request slot serve their work before an answer of the slot is delivered. -/
def settlePorts (r t : Nat) (d : Dev) : Dev :=
  if d.qm.work.any (fun w => w.r == r && w.t == t) then drainPort (portOf r 2) (drainPort (portOf r 1) d) else d

/-! ### Requests of fabric slots and engines (R172, R182, R213) -/

/-- A request that has crossed is carried out. -/
def carryOut (r t : Nat) (busy : Bool) (q : SlotReq) (d : Dev) : Dev :=
  match q.op with
  | 8 => xEnter q.who r t q.tgt q.off q.len q.seat none d
  | 9 => xEnter q.who r t q.tgt q.off q.len q.seat (some (q.data.flatMap (fun w => leBytes 8 w.toNat))) d
  | _ => if busy then arrive r t q d else drainPort (portOf r q.op) (arrive r t q d)
/-- A request at the ring side of a slot: disabled and stopped slots answer it, RESYNC keeps it, otherwise it crosses. -/
def slotRequest (r t : Nat) (busy : Bool) (q : SlotReq) (d : Dev) : Dev :=
  if !slotEn d r t then slotAnswer r t q .addr d
  else if slotSt d r t = 3 then slotAnswer r t q .clockStopped (sawExternal r d)
  else carryOut r t busy q d

/-- REQUEST_ACCEPT (R182): the request that waits at the slot, an engine's or, at slots 8 and 9, one the fabric has sent
whole. A crossing holds 16 requests; in RESYNC requests wait; a stopped one answers CLOCK_STOPPED also what is no request
(R7, R190). `busy`: the port of a queue request is at other work, and the request waits there (R209). -/
def requestAccept (r t : Nat) (busy : Bool) (d : Dev) : Dev :=
  let wait := slotEn d r t && (slotSt d r t == 2 || (slotSt d r t == 1 && decide (16 ≤ slotLevel d r t - (d.slot r t).reqs.length)))
  if wait then d
  else if t < 8 then
    match (d.slot r t).reqs with
    | [] => d
    | q :: rest => slotRequest r t busy q (mapSlot r t (fun x => { x with reqs := rest }) d)
  else
    match waiting d r (.slot t) with
    | [] => d
    | h :: rest =>
      let n := headerTokens h.toNat
      if rest.length < n then d
      else
        let d1 := forEach (List.range (n + 1)) d (fun _ d => takeWide r (.slot t) d)
        let q := fabricRequest h.toNat (rest.take n)
        if headerOk h.toNat ∨ slotSt d1 r t = 3 then slotRequest r t busy q (issued r d1)
        else slotAnswer r t q .addr (issued r d1)

/-- RESPONSE_DELIVER (R182): the oldest response of a fabric slot enters the ring, the response token first. -/
def responseDeliver (r t : Nat) (d0 : Dev) : Dev :=
  let d := settlePorts r t d0
  match takeResp r t d.xm.resps with
  | none => d
  | some (x, rest) =>
    let d1 : Dev := { d with xm := { d.xm with resps := rest } }
    if x.who = .fabric then
      present r (.slot t) (BitVec.ofNat 64 x.token :: x.data) (answered r (noteAnswer r x.code d1))
    else d1

/-- One queue request of request slot `t` of ring `r`, at a port that is free. -/
def portRequest (r t : Nat) (q : SlotReq) (d : Dev) : Dev := drainPort (portOf r q.op) (arrive r t { q with who := .bare } d)
/-- A QPOP whose first word falls into the QCLK cycle of a push word to the same queue (R229): both are judged against the
start of the cycle. The push answers behind the pop: its code and the words stored. -/
def popMeets (r t : Nat) (q : SlotReq) (w : MeetPush) (d : Dev) : Dev :=
  let src := prodSrc w.r w.t
  let words := narrowWords [w.w] w.eop (if w.eop then w.vb else 0)
  if (unserved d (q.len == 0) (consumerOk d (consSrc r t) q.tgt)).isSome then
    let (c, n, d1) := qPush src q.tgt words d
    let d2 := portRequest r t q d1
    d2.answer d2.ctl.ans.code (d2.ctl.ans.data ++ [c.code, n])
  else
    let stop := unserved d false (producerOk d src q.tgt)
    let word := words.headD { data := [], vb := 8 }
    let (res, _) := pushWord src q.tgt word d
    let join : Dev → Dev := if stop.isSome then id else fun d => trimCells q.tgt (pushWord src q.tgt word d).2
    let (c, ws, d1) := qPopJoin (consSrc r t) q.tgt q.len q.flag (some join) d
    let bad := (ptrCheck q.tgt d).1
    let pc := stop.getD (if bad then .ecc else if res = .locked then .retry else .ok)
    let n := if stop.isNone && !bad && res == .stored then 1 else 0
    d1.answer c (ws.length :: (ws.flatMap wordTokens).map (·.toNat) ++ [pc.code, n])

/-! ### The meanings -/

/-- REQUEST_ACCEPT (R182). -/
def execRequestAccept (r : Fin 128) (t : Fin 10) (s : State) (busy : Bool := false) : Host.Outcome State Fault Refusal :=
  run s (requestAccept r t busy)
/-- RESPONSE_DELIVER (R182): of fabric slot 8 or 9. -/
def execResponseDeliver (r : Fin 128) (slot9 : Bool) (s : State) : Host.Outcome State Fault Refusal :=
  run s (responseDeliver r (8 + b2n slot9))
/-- QPUSH (R226, R212) from request slot `t` of ring `r`. -/
def execQpush (r : Fin 128) (t : Fin 10) (q : Fin 16384) (ws : List Token) (eop : Bool) (vb : Fin 8) (seat : Bool)
    (s : State) : Host.Outcome State Fault Refusal :=
  run s (portRequest r t { op := 1, tgt := q, len := ws.length, flag := eop, vb := vb, seat := seat, data := ws })
/-- QPOP (R215): the units, then the words as tokens; `push`: the word of a push in the same cycle (R229). -/
def execQpop (r : Fin 128) (t : Fin 10) (q : Fin 16384) (n : Fin 64) (whole seat : Bool) (s : State)
    (push : Option MeetPush := none) : Host.Outcome State Fault Refusal :=
  let req : SlotReq := { op := 2, tgt := q, len := n, flag := whole, seat := seat }
  run s (match push with | none => portRequest r t req | some w => popMeets r t req w)
/-- QMARK (R223). -/
def execQmark (r : Fin 128) (t : Fin 10) (q : Fin 16384) (seat : Bool) (s : State) : Host.Outcome State Fault Refusal :=
  run s (portRequest r t { op := 3, tgt := q, seat := seat })
/-- QREWIND (R224). -/
def execQrewind (r : Fin 128) (t : Fin 10) (q : Fin 16384) (seat : Bool) (s : State) : Host.Outcome State Fault Refusal :=
  run s (portRequest r t { op := 4, tgt := q, seat := seat })
/-- QRELEASE (R225). -/
def execQrelease (r : Fin 128) (t : Fin 10) (q : Fin 16384) (seat : Bool) (s : State) : Host.Outcome State Fault Refusal :=
  run s (portRequest r t { op := 5, tgt := q, seat := seat })
/-- QCOMMIT (R220). -/
def execQcommit (r : Fin 128) (t : Fin 10) (q : Fin 16384) (discard seat : Bool) (s : State) :
    Host.Outcome State Fault Refusal :=
  run s (portRequest r t { op := 6, tgt := q, flag := discard, seat := seat })
/-- STREAM_OUT_SEGMENT (R214): the slot has work for its producer port, which serves it at its turn. -/
def execStreamOutSegment (r : Fin 128) (i : Fin 4) (s : State) : Host.Outcome State Fault Refusal :=
  run s (fun d => drainPort (portOf r 16) (putWork { r := r, t := soutSlot i, q := { op := 16 } } d))
/-- STREAM_IN_SEGMENT (R214): the consumer port serves the slot at its turn. -/
def execStreamInSegment (r : Fin 128) (i : Fin 4) (s : State) : Host.Outcome State Fault Refusal :=
  run s (fun d => drainPort (portOf r 17) (putWork { r := r, t := sinSlot i, q := { op := 17 } } d))

end Sys2Proof.Machine
end

