-- ==== Sys2Proof/Machine/Engine.lean ====
section
/-! DEFINITION. Stream engines (R103 to R170, R593): acts, bundles, loops, ports, requests, faults, data and program
memory, the register window. -/
namespace Sys2Proof.Machine
open Sys2Proof.Machine.Reg

/-! ### Engines in their rings (R103) -/

/-- The ring of engine `e`. -/
def engRing (e : Nat) : Nat := e / 8
/-- Engine `e`. -/
def Dev.eng (d : Dev) (e : Nat) : EngSt := sget {} d.engs e
/-- Replace engine `e`. -/
def setEng (e : Nat) (x : EngSt) (d : Dev) : Dev := { d with engs := sset {} d.engs e x }
/-- Change engine `e`. -/
def mapEng (e : Nat) (f : EngSt → EngSt) (d : Dev) : Dev := setEng e (f (d.eng e)) d
/-- The engines of ring `r`. -/
def engsOf (r : Nat) : List Nat := (List.range 8).map (fun k => 8 * r + k)

/-! ### Data memory (R109, R110) -/

/-- BAR2 offset of a byte of engine data memory (R112). -/
def dataAt (e a : Nat) : Nat := 0x02000000 + e * 0x10000 + a
/-- A corrected error is counted. -/
def engCe (e : Nat) (d : Dev) : Dev := (d.incSat (ENG_MEM_ECC_CE_COUNT e)).raise (ENG_IRQ_CAUSE_MEM_CE e)
/-- An uncorrectable error is counted and recorded. -/
def engUe (e a : Nat) (host : Bool) (d : Dev) : Dev :=
  let d1 := ((d.incSat (ENG_MEM_ECC_UE_COUNT e)).raise (ENG_IRQ_CAUSE_MEM_UE e)).set (ENG_MEM_ECC_ADDR_VALID e) 1
  (d1.set (ENG_MEM_ECC_ADDR_HOST e) (b2n host)).set (ENG_MEM_ECC_ADDR_WORD e) (a / 8)
/-- A read of the word at byte address `a`: its value, whether it is uncorrectable (then the value is free, log 2). -/
def engRead (e a : Nat) (host : Bool) (d : Dev) : Nat × Bool × Dev :=
  let w := dataAt e (8 * (a / 8))
  match d.chipFlaw w with
  | .none => (rdLe d.chip.cells w 8, false, d)
  | .single => (rdLe d.chip.cells w 8, false, engCe e d)
  | .double => (d.freeVal 64, true, (engUe e a host d).bump)
/-- `n` words from byte address `a` up. -/
def engReads (e a : Nat) : Nat → Dev → List Nat × Bool × Dev
  | 0, d => ([], false, d)
  | n + 1, d =>
    let (v, ue, d1) := engRead e a false d
    let (vs, ue', d2) := engReads e (a + 8) n d1
    (v :: vs, ue || ue', d2)
/-- Write a whole word with fresh check bits. -/
def engPut (e a v : Nat) (d : Dev) : Dev :=
  let w := dataAt e (8 * (a / 8))
  (d.chipWrite w (leBytes 8 v)).setChipFlaw w .none
/-- Whole words from byte address `a` up. -/
def engPuts (e a : Nat) : List Token → Dev → Dev
  | [], d => d
  | v :: vs, d => engPuts e (a + 8) vs (engPut e a v.toNat d)
/-- Bytes of a word with their enables. -/
def byteMerge (old v en : Nat) : Nat :=
  leNat ((List.range 8).map (fun i => BitVec.ofNat 8 ((if bitAt en i then v else old) / 256 ^ i)))
/-- A write of the bytes of one word that `en` enables: whether the word that had to be read was uncorrectable; then
nothing is written (R110). -/
def engWrite (e a v en : Nat) (host : Bool) (d : Dev) : Bool × Dev :=
  if en % 256 = 255 then (false, engPut e a v d)
  else
    let (old, ue, d1) := engRead e a host d
    if ue then (true, d1) else (false, engPut e a (byteMerge old v en) d1)

/-! ### Program memory and header (R114 to R116, R128) -/

/-- BAR2 offset of bundle `n`. -/
def bundleAt (e n : Nat) : Nat := 0x06000000 + e * 0x4000 + 16 * n
/-- A bundle as a fetch sees it, none where it is uncorrectable. -/
def fetch (d : Dev) (e n : Nat) : Option Nat :=
  match d.chipFlaw (bundleAt e n) with
  | .double => none
  | _ => some (rdLe d.chip.cells (bundleAt e n) 16)
/-- The first header bundle that cannot be read. -/
def headerUe (d : Dev) (e : Nat) : Option Nat := (List.range 4).find? (fun n => (fetch d e n).isNone)
/-- A header bundle. -/
def headerWord (d : Dev) (e n : Nat) : Nat := (fetch d e n).getD 0
/-- R116: MAGIC, VERSION and LAST are as they must be. -/
def headerValid (h : Nat) : Bool := bitsAt h 0 16 == 0xB2E5 && bitsAt h 16 8 == 1 && decide (4 ≤ bitsAt h 24 10)
/-- The mirrors of the header (R115, R128). -/
def mirrorHeader (e : Nat) (d : Dev) : Dev :=
  let h0 := headerWord d e 0
  let d1 := ((d.set (ENG_HDR_VALID e) (b2n (headerValid h0))).set (ENG_HDR_LAST e) (bitsAt h0 24 10)).set
    (ENG_HDR_VERSION e) (bitsAt h0 16 8)
  let d2 := forEach (List.range 8) d1 (fun a x =>
    (x.set (ENG_ACT_EN e a) (bitsAt (headerWord d e 1) (16 * a + 15) 1)).set (ENG_ACT_ENTRY e a)
      (bitsAt (headerWord d e 1) (16 * a) 10))
  forEach (List.range 8) d2 (fun j x =>
    let h := headerWord d e (2 + j / 4)
    (x.set (ENG_BOUND_BOUND_LO e j) (bitsAt h (32 * (j % 4)) 16)).set (ENG_BOUND_BOUND_HI e j)
      (bitsAt h (32 * (j % 4) + 16) 16))
/-- Declared bound `j` (R121). -/
def boundOf (d : Dev) (e j : Nat) : Nat :=
  if j % 2 = 0 then d.get (ENG_BOUND_BOUND_LO e (j / 2)) else d.get (ENG_BOUND_BOUND_HI e (j / 2))

/-! ### Ports (R117, R123) -/

/-- Tokens held by input port `p`. -/
def EngSt.inPort (x : EngSt) (p : Nat) : List Token := sget [] x.inq p
/-- Tokens held by output port `p`. -/
def EngSt.outPort (x : EngSt) (p : Nat) : List Token := sget [] x.outq p
/-- Credit of an input port. -/
def inCredit (d : Dev) (e p : Nat) : Nat := bitsAt (d.get (ENG_PORT_CFG_IN_DM1 e)) (4 * p) 4 + 1 - ((d.eng e).inPort p).length
/-- Credit of an output port. -/
def outCredit (d : Dev) (e p : Nat) : Nat :=
  bitsAt (d.get (ENG_PORT_CFG_OUT_DM1 e)) (4 * p) 4 + 1 - ((d.eng e).outPort p).length
/-- Tokens are discarded at an engine's input (R123). -/
def discardIn (e n : Nat) (d : Dev) : Dev :=
  if n = 0 then d
  else
    let d1 := d.addSat (ENG_PORT_DISCARD_TOKENS e) n
    if d1.flag (ENG_STATUS_RESIDUE e) then d1
    else (d1.set (ENG_STATUS_RESIDUE e) 1).raise (ENG_IRQ_CAUSE_RESIDUE e)
/-- What stands in the input FIFOs is discarded. -/
def discardFifos (e : Nat) (d : Dev) : Dev :=
  let n := ((d.eng e).inq.map (fun p => p.2.length)).foldl (· + ·) 0
  discardIn e n (mapEng e (fun x => { x with inq := [] }) d)

/-! ### END, faults, clearing (R119, R122, R125, R132, R593) -/

/-- The counters of the act are written (R132). -/
def writeLast (e : Nat) (d : Dev) : Dev :=
  let x := d.eng e
  let top (n : Nat) : Nat := Nat.min n (2 ^ 32 - 1)
  let d1 := ((d.set (ENG_LAST_DU_DU e) (top x.du)).set (ENG_LAST_BUNDLES_BUNDLES e) (top x.bundles)).set
    (ENG_LAST_CONFLICTS_CONFLICTS e) (top x.confl)
  (d1.set (ENG_LAST_STALLS_STALLS e) (top x.stalls)).set (ENG_MAX_DU_MAX_DU e)
    (Nat.max (d.get (ENG_MAX_DU_MAX_DU e)) (top x.du))
/-- No bundle issues any more in this act: STATE as given, the loop stack empty, input FIFOs discarded. That a fault empties
the loop stack too, so that DEPTH and LC read 0, is a DESIGN CHOICE (log 57). -/
def stopAct (e st : Nat) (d : Dev) : Dev :=
  discardFifos e ((mapEng e (fun x => { x with live := false, disp := false, waited := false, loops := [], ended := true }) d).set
    (ENG_STATUS_STATE e) st)
/-- R122, R127: the engine faults. ENG_FAULT.PC holds ten bits: 1,024, the bundle after LAST 1,023, shows as 0 (DESIGN
CHOICE, log 57). -/
def engFault (e code pc : Nat) (d : Dev) : Dev :=
  let act := (d.eng e).act
  let d1 := mapEng e (fun x => { x with dead := true }) (writeLast e d)
  let d2 := ((((d1.set (ENG_FAULT_VALID e) 1).set (ENG_FAULT_ACT e) act).set (ENG_FAULT_CODE e) code).set
    (ENG_FAULT_PC e) pc).raise (ENG_IRQ_CAUSE_FAULT e)
  stopAct e 4 (d2.bbr 2 1 false (e + code * 1024) (pc % 1024 + act * 1024))
/-- Whether a request waits for engine answers. -/
def isEngine : XWho → Bool
  | .engine _ _ => true | _ => false
/-- Answers that the engine's tags wait for come to nobody (R164, R593). -/
def forsakeEng (e : Nat) (d : Dev) : Dev :=
  let r := engRing e
  let k := e % 8
  let d1 := forsake (fun s w => s == 16 * r + k && isEngine w) d
  if (d1.slot r k).reqs.isEmpty then d1
  else mapSlot r k (fun x => { x with reqs := x.reqs.map (fun q => { q with who := .gone }) }) d1
/-- Execution state is cleared (Table 3-7): PC, loops, port FIFOs, status words, the fault condition. -/
def clearExec (e : Nat) (d : Dev) : Dev :=
  let d1 := mapEng e (fun x => { v := x.v, s := x.s, p := x.p, a := x.a, act := x.act }) (forsakeEng e d)
  (d1.set (ENG_STATUS_PC e) 0).set (ENG_STATUS_STATE e) 0
/-- V, S, P and A are cleared to 0. -/
def clearFiles (e : Nat) (d : Dev) : Dev := mapEng e (fun x => { x with v := [], s := [], p := [], a := [] }) d
/-- The fault record is cleared (R124). -/
def clearFault (e : Nat) (d : Dev) : Dev :=
  d.resetFlds [ENG_FAULT_VALID e, ENG_FAULT_ACT e, ENG_FAULT_CODE e, ENG_FAULT_PC e]
/-- Engines of a ring that is armed from IDLE (Table 3-7). -/
def engsArm (r : Nat) (d : Dev) : Dev := forEach (engsOf r) d (fun e d => clearFault e (clearExec e d))
/-- Engines of a ring that restarts, or whose load completes (Table 3-7). -/
def engsRestart (r : Nat) (d : Dev) : Dev := forEach (engsOf r) d (fun e d => clearFault e (clearFiles e (clearExec e d)))
/-- Engines of a ring that faults (Table 3-7): the fault record is kept. -/
def engsHalt (r : Nat) (d : Dev) : Dev := forEach (engsOf r) d clearExec

/-! ### The start of an act (R35, R104, R116, R119) -/

/-- The start edge: the engine is given act `a`; a faulted engine and one whose act is disabled are at END at once. -/
def engStart (a e : Nat) (d : Dev) : Dev :=
  let d1 := ((d.set (ENG_STATUS_ACT_NOW e) a).set (ENG_STATUS_RESIDUE e) 0).set (ENG_STATUS_CLAMPED e) 0
  let d2 := mapEng e (fun x => { x with
    act := a, loops := [], waited := false, du := 0, bundles := 0, confl := 0, stalls := 0, live := false, disp := false,
    ended := false, done := false }) d1
  let off (st : Nat) : Dev := mapEng e (fun x => { x with done := true }) (stopAct e st d2)
  if (d2.eng e).dead then off 4
  else match fetch d2 e 1 with
    | none => (mapEng e (fun x => { x with disp := true }) d2).set (ENG_STATUS_STATE e) 1
    | some h =>
      if bitAt h (16 * a + 15) then (mapEng e (fun x => { x with disp := true }) d2).set (ENG_STATUS_STATE e) 1
      else off 6
/-- ACT_DISPATCH (R116, R119): the header is checked and mirrored, PC set to ENTRY. -/
def actDispatch (e : Nat) (d : Dev) : Dev :=
  let x := d.eng e
  if !x.disp then d
  else
    let d1 := mapEng e (fun x => { x with disp := false }) d
    match headerUe d1 e with
    | some n => engFault e 2 n d1
    | none =>
      let d2 := mirrorHeader e d1
      let entry := d2.get (ENG_ACT_ENTRY e x.act)
      if !d2.flag (ENG_HDR_VALID e) || decide (entry < 4) || decide (d2.get (ENG_HDR_LAST e) < entry) then engFault e 1 entry d2
      else (mapEng e (fun x => { x with live := true, loops := [] }) d2).set (ENG_STATUS_PC e) entry

/-! ### Bundles: waits (R145, R164, R165) -/

/-- Whether a tag's request is pending. -/
def EngSt.tagBusy (x : EngSt) (t : Nat) : Bool := x.rdTag t % 16 == 15
/-- Whether the LS slot must wait for its port. -/
def portWait (d : Dev) (e : Nat) (o : LsOp) : Bool :=
  match o with
  | .recv _ p n => decide (((d.eng e).inPort p).length < n + 1)
  | .srecv _ p => decide (((d.eng e).inPort p).length < 1)
  | .send _ p n => decide (outCredit d e p < n + 1)
  | .ssend _ p => decide (outCredit d e p < 1)
  | _ => false
/-- The tag that an XS request takes. -/
def XsOp.tag : XsOp → Option Nat
  | .nop => none
  | .push t _ _ _ _ => some t
  | .pop t _ _ _ _ => some t
  | .mark t _ _ => some t
  | .rewind t _ _ => some t
  | .release t _ _ => some t
  | .commit t _ _ _ => some t
  | .xrd t _ _ _ => some t
  | .xwr t _ _ _ => some t
  | .wait _ _ => none
/-- Whether the XS slot must wait for a tag. -/
def tagWait (x : EngSt) (o : XsOp) : Bool :=
  match o with
  | .wait t all => if all then (List.range 16).any x.tagBusy else x.tagBusy t
  | o => match o.tag with | some t => x.tagBusy t | none => false

/-! ### Bundles: the XS slot (R162 to R166) -/

/-- Data memory address and length of the descriptor of a request that has one, with its unit in bytes. -/
def XsOp.desc (o : XsOp) (x : EngSt) : Option (Nat × Nat × Nat) :=
  let of' (sa unit : Nat) : Nat × Nat × Nat := (x.rdS sa % 2 ^ 16, x.rdS sa / 2 ^ 16, unit)
  match o with
  | .push _ _ sa _ _ => some (of' sa 8)
  | .pop _ _ sa _ _ => some (of' sa 32)
  | .xrd _ _ sa _ => some (of' sa 8)
  | .xwr _ _ sa _ => some (of' sa 8)
  | _ => none
/-- R163: the descriptor faults. -/
def xsFaults (o : XsOp) (x : EngSt) : Bool :=
  match o.desc x with
  | some (a, n, u) => a % u != 0 || decide (0xC000 < a + n * u)
  | none => false
/-- The request that the XS slot sends, its source data still to be read. -/
def xsRequest (o : XsOp) (x : EngSt) : Option SlotReq :=
  let q (sp : Nat) : Nat := x.rdS (2 * sp) % 2 ^ 14
  let f (sp : Nat) : Nat := x.rdS (2 * sp) % 2 ^ 8
  let (a, n, _) := (o.desc x).getD (0, 0, 0)
  match o with
  | .push t seat _ sp eop => some { who := .engine t a, op := 1, tgt := q sp, len := n, flag := eop, seat := seat }
  | .pop t seat _ sp whole => some { who := .engine t a, op := 2, tgt := q sp, len := n, flag := whole, seat := seat }
  | .mark t seat sp => some { who := .engine t 0, op := 3, tgt := q sp, seat := seat }
  | .rewind t seat sp => some { who := .engine t 0, op := 4, tgt := q sp, seat := seat }
  | .release t seat sp => some { who := .engine t 0, op := 5, tgt := q sp, seat := seat }
  | .commit t seat sp disc => some { who := .engine t 0, op := 6, tgt := q sp, flag := disc, seat := seat }
  | .xrd t seat _ sp =>
    some { who := .engine t a, op := 8, tgt := f sp, off := x.rdS (2 * sp + 1), len := n, seat := seat }
  | .xwr t seat _ sp =>
    some { who := .engine t a, op := 9, tgt := f sp, off := x.rdS (2 * sp + 1), len := n, seat := seat }
  | _ => none
/-- Whether a request of this OP carries data of the engine. -/
def carriesData (op : Nat) : Bool := op == 1 || op == 9
/-- Set a tag's status word; its request makes no more accesses. -/
def setTag (e t v : Nat) (d : Dev) : Dev :=
  mapEng e (fun x => { x with tags := sset 0 x.tags t v, xacc := x.xacc.filter (fun p => p.1 != t) }) d
/-- The XS path's accesses of a request with tag `t` for `n` bytes at address `a`, by bank: each covers at most 64 bytes
within one bank (R147, log 24). -/
def xsAccesses (t a n : Nat) : List (Nat × Nat × Nat) :=
  ((List.range 6).map (fun b =>
    let lo := Nat.max a (0x2000 * b)
    let hi := Nat.min (a + n) (0x2000 * (b + 1))
    (t, b, if lo < hi then (hi + 63) / 64 - lo / 64 else 0))).filter (fun p => p.2.2 != 0)
/-- An access of the XS path to bank `b` has caused its increment (R147). -/
def spendAccess (b : Nat) : List (Nat × Nat × Nat) → List (Nat × Nat × Nat)
  | [] => []
  | (t, c, n) :: rest =>
    if c = b then (if n ≤ 1 then rest else (t, c, n - 1) :: rest) else (t, c, n) :: spendAccess b rest
/-- The XS slot issues (R163, R164): a length of 0 completes at once; the data of a QPUSH or XWR is read, a word with
an uncorrectable error as it reads (R110). `x` is the engine at issue. -/
def xsIssue (e : Nat) (o : XsOp) (x : EngSt) (d : Dev) : Dev :=
  match o.tag, xsRequest o x with
  | some t, some q =>
    if (o.desc x).isSome && q.len == 0 then setTag e t 0 d
    else
      let (ws, ue, d1) := if carriesData q.op then
          engReads e ((o.desc x).getD (0, 0, 0)).1 q.len d else ([], false, d)
      let d2 := mapEng e (fun y => { y with
        tags := sset 0 y.tags t 15,
        xacc := y.xacc ++ (match o.desc x with | some (a, n, u) => xsAccesses t a (n * u) | none => []), srcUe := if ue then t :: y.srcUe.filter (· != t) else y.srcUe.filter (· != t) }) d1
      mapSlot (engRing e) (e % 8) (fun s => { s with reqs := s.reqs ++ [{ q with data := ws.map (BitVec.ofNat 64) }] })
        (issued (engRing e) d2)
  | _, _ => d
/-- XS_RESPONSE (R164, R110): the oldest answer of the engine's crossing; its data is written, its status word set. -/
def xsResponse (e : Nat) (d0 : Dev) : Dev :=
  let r := engRing e
  let d := settlePorts r (e % 8) d0
  match takeResp r (e % 8) d.xm.resps with
  | none => d
  | some (y, rest) =>
    let d1 : Dev := { d with xm := { d.xm with resps := rest } }
    match y.who with
    | .engine t a =>
      let d2 := if y.op = 2 ∨ y.op = 8 then engPuts e a y.data d1 else d1
      let code := if (d2.eng e).srcUe.contains t then Resp.worst y.code .ecc else y.code
      let vb := if y.op = 2 then y.vb else 0
      setTag e t (code.code + 16 * vb + 65536 * (y.units % 65536))
        (mapEng e (fun x => { x with srcUe := x.srcUe.filter (· != t) }) (answered r (noteAnswer r y.code d2)))
    | _ => d1

/-! ### Bundles: the LS slot (R110, R144, R159 to R161) -/

/-- The eight 64-bit words of a vector register. -/
def vecWords (v : Nat) : List Nat := lanesOf 64 8 v
/-- The byte enables of word `i` of a predicated vector access: bytes 2j and 2j + 1 where bit j of G is 1 (R144). -/
def byteEn (g i : Nat) : Nat :=
  (List.range 4).foldl (fun n j => n + (if bitAt g (4 * i + j) then 3 * 4 ^ j else 0)) 0
/-- What a vector store writes: words by index with their enables. -/
def storeWords (pls : Bool) (g v : Nat) : List (Nat × Nat × Nat) :=
  ((vecWords v).zipIdx.map (fun p => (p.2, p.1, if pls then byteEn g p.2 else 255))).filter (fun p => p.2.2 != 0)
/-- The words that a store merges are read first: none where one of them is uncorrectable (R110, R122). -/
def mergeAll (e a : Nat) : List (Nat × Nat × Nat) → Dev → Option (List (Nat × Nat)) × Dev
  | [], d => (some [], d)
  | (i, v, en) :: rest, d =>
    if en = 255 then
      let (r, d1) := mergeAll e a rest d
      (r.map (fun l => (i, v) :: l), d1)
    else
      let (old, ue, d1) := engRead e (a + 8 * i) false d
      let (r, d2) := mergeAll e a rest d1
      (if ue then none else r.map (fun l => (i, byteMerge old v en) :: l), d2)
/-- The LS slot: none where it meets an uncorrectable word, otherwise the registers it writes. -/
def lsRun (e : Nat) (o : LsOp) (x : EngSt) (pls : Bool) (g : Nat) (d : Dev) : Option (List (Dest × Nat)) × Dev :=
  match o with
  | .nop => (some [], d)
  | .vld rt b inc ofs =>
    let (ws, ue, d1) := engReads e (lsAddr x b inc ofs 64) 8 d
    let v := packLanes 64 ws
    (if ue then none else
      some ((.v rt, if pls then underG 16 g (x.rdV rt) (lanesOf 16 32 v) else v) :: lsBase x b inc ofs 64), d1)
  | .vst rt b inc ofs =>
    let a := lsAddr x b inc ofs 64
    match mergeAll e a (storeWords pls g (x.rdV rt)) d with
    | (none, d1) => (none, d1)
    | (some ws, d1) => (some (lsBase x b inc ofs 64), forEach ws d1 (fun w d => engPut e (a + 8 * w.1) w.2 d))
  | .sld rt b inc ofs =>
    let a := lsAddr x b inc ofs 4
    let (v, ue, d1) := engRead e a false d
    (if ue then none else some ((.s rt, v / 2 ^ (8 * (a % 8)) % 2 ^ 32) :: lsBase x b inc ofs 4), d1)
  | .sst rt b inc ofs =>
    let a := lsAddr x b inc ofs 4
    let (ue, d1) := engWrite e a (x.rdS rt * 2 ^ (8 * (a % 8))) (15 * 2 ^ (a % 8)) false d
    (if ue then none else some (lsBase x b inc ofs 4), d1)
  | .recv rt p n =>
    let ts := (x.inPort p).take (n + 1)
    (some [(.v rt, packLanes 64 (ts.map (·.toNat)))],
      mapEng e (fun y => { y with inq := sset [] y.inq p ((y.inPort p).drop (n + 1)) }) d)
  | .send rt p n =>
    let ts := ((vecWords (x.rdV rt)).take (n + 1)).map (BitVec.ofNat 64)
    (some [], mapEng e (fun y => { y with outq := sset [] y.outq p (y.outPort p ++ ts) }) d)
  | .srecv rt p =>
    let t := ((x.inPort p).headD 0).toNat
    (some [(.s rt, t % 2 ^ 32), (.s (rt + 1), t / 2 ^ 32)],
      mapEng e (fun y => { y with inq := sset [] y.inq p ((y.inPort p).drop 1) }) d)
  | .ssend rt p =>
    let t := BitVec.ofNat 64 (x.rdS rt + 2 ^ 32 * x.rdS (rt + 1))
    (some [], mapEng e (fun y => { y with outq := sset [] y.outq p (y.outPort p ++ [t]) }) d)

/-! ### Bundles: loops (R121, R168 to R170) -/

/-- R168: the fault code of a LOOP bundle at `pc`, 0 for none. -/
def loopFault (d : Dev) (e pc endb bound : Nat) (loops : List LoopSt) : Nat :=
  let past : Bool := match loops with
    | [] => decide (d.get (ENG_HDR_LAST e) < endb)
    | l :: _ => decide (l.endb < endb)
  if endb ≤ pc ∨ past ∨ boundOf d e bound = 0 then 3 else if 4 ≤ loops.length then 5 else 0
/-- R169: the unwinding of loops that end at bundle `pc`: the loops then active and the next bundle. -/
def unwind (pc : Nat) : List LoopSt → List LoopSt × Nat
  | [] => ([], pc + 1)
  | l :: rest =>
    if l.endb ≠ pc then (l :: rest, pc + 1)
    else if 0 < l.left then ({ l with left := l.left - 1, idx := (l.idx + 1) % 2 ^ 16 } :: rest, l.first)
    else unwind pc rest
/-- R121: a clamped loop count is recorded. -/
def clamp (e j pc : Nat) (d : Dev) : Dev :=
  ((((d.set (ENG_STATUS_CLAMPED e) 1).incSat (ENG_CLAMP_COUNT e)).set (ENG_CLAMP_BOUND e) j).set (ENG_CLAMP_PC e) pc).raise
    (ENG_IRQ_CAUSE_CLAMP e)
/-- The count of a loop as the registers stood at issue. -/
def countOf (c : LoopCount) (x : EngSt) : Nat := match c with | .imm n => n | .reg s => x.rdS s
/-- R169: a LOOP bundle retires; the next bundle. -/
def loopEnter (e pc endb j n : Nat) (d : Dev) : Dev × Nat :=
  let b := boundOf d e j
  let d1 := if b < n then clamp e j pc d else d
  let m := Nat.min n b
  if m = 0 then (d1, endb + 1)
  else (mapEng e (fun x => { x with loops := { first := pc + 1, endb := endb, left := m - 1 } :: x.loops }) d1, pc + 1)

/-! ### Bundles: issue and retirement (R141, R142, R145 to R147, R170) -/

/-- Whether an access of the XS path to bank `b` can be in progress: one of a pending request that has caused no increment.
The host reaches only host-shared banks while bundles issue (R112). -/
def xsInBank (d : Dev) (e b : Nat) : Bool := (d.eng e).xacc.any (fun p => p.2.1 == b)
/-- The bundle pays the conflict increment (R147): its bank is host-shared, or it meets an access of the XS path. -/
def paysConflict (d : Dev) (e : Nat) (acc : Option (Nat × Nat)) (meets : Bool) : Bool :=
  match acc with
  | none => false
  | some (a, _) => bitAt (d.get (ENG_MEM_HOST_SHARED e)) (a / 0x2000) || (meets && xsInBank d e (a / 0x2000))
/-- An increment that an access of the XS path has caused uses that access up (R147). -/
def payConflict (d : Dev) (e : Nat) (acc : Option (Nat × Nat)) : EngSt → EngSt :=
  match acc with
  | none => id
  | some (a, _) => if bitAt (d.get (ENG_MEM_HOST_SHARED e)) (a / 0x2000) then id
      else fun x => { x with xacc := spendAccess (a / 0x2000) x.xacc }
/-- The bundle is counted. -/
def countBundle (e du : Nat) (conf : Bool) (d : Dev) : Dev :=
  mapEng e (fun x => { x with
    du := x.du + du + (if conf then 2 else 0), bundles := x.bundles + 1, confl := x.confl + b2n conf,
    stalls := x.stalls + b2n x.waited, waited := false }) d
/-- END retires (R119 step 5, R170). -/
def endAct (e : Nat) (d : Dev) : Dev := stopAct e 3 (writeLast e (countBundle e duA false d))
/-- Execution continues at bundle `n`, which faults the engine with PC beyond LAST (R170). -/
def continueAt (e n : Nat) (d : Dev) : Dev :=
  if d.get (ENG_HDR_LAST e) < n then engFault e 4 n d else d.set (ENG_STATUS_PC e) n
/-- The fault code of a bundle's operands, 0 for none: the lowest that applies (R122). -/
def operandFault (d : Dev) (e pc : Nat) (ls : LsOp) (t : Tail) (x : EngSt) : Nat :=
  let addr : Bool := match ls.access x with | some (a, z) => badAddr a z | none => false
  match t with
  | .loop endb j _ =>
    let c := loopFault d e pc endb j x.loops
    if c ≠ 0 then c else if addr then 6 else 0
  | .normal _ xs => if addr || xsFaults xs x then 6 else 0
/-- All slots of a bundle execute together and retire. -/
def retire (e pc du : Nat) (pred : Nat) (pinv pls : Bool) (ls : LsOp) (v0 v1 : VaOp) (t : Tail) (meets : Bool) (d : Dev) :
    Dev :=
  let x := d.eng e
  let g := governing x pred pinv
  let conf := paysConflict d e (ls.access x) meets
  let dx := match t with | .normal _ xs => xsIssue e xs x d | .loop _ _ _ => d
  match lsRun e ls x pls g dx with
  | (none, _) => engFault e 7 pc (lsRun e ls x pls g d).2
  | (some lw, d1) =>
    let mw := match t with | .normal m _ => m.result x g | .loop _ _ _ => []
    let ws := v0.result x g ++ v1.result x g ++ mw ++ lw
    let paid := if conf then payConflict d e (ls.access x) else id
    let d2 := countBundle e du conf (mapEng e (fun y => paid (y.wrRegs ws)) d1)
    match t with
    | .loop endb j c => let (d3, n) := loopEnter e pc endb j (countOf c x) d2; continueAt e n d3
    | .normal _ _ =>
      let (ls', n) := unwind pc x.loops
      continueAt e n (mapEng e (fun y => { y with loops := ls' }) d2)
/-- The LS and XS slots of a bundle, for what it waits for (R145): an empty slot where it is no encoding, or FORM gives the
bundle none. -/
def waitSlots (w : Nat) : LsOp × XsOp :=
  if 2 ≤ bitsAt w 0 2 then (.nop, .nop)
  else ((decodeLs (bitsAt w 8 28)).getD .nop, if bitsAt w 0 2 = 0 then (decodeXs (bitsAt w 108 20)).getD .nop else .nop)
/-- BUNDLE_ISSUE (R145): the bundle at PC; `meets` says that an XS path access to the bank of its LS slot is in progress
(R147). A bundle that must wait does not issue, a reserved encoding among them (R141). -/
def bundleIssue (e : Nat) (meets : Bool) (d : Dev) : Dev :=
  let x := d.eng e
  let pc := d.get (ENG_STATUS_PC e)
  if !x.live then d
  else match fetch d e pc with
    | none => engFault e 2 pc d
    | some w =>
      if portWait d e (waitSlots w).1 then (mapEng e (fun x => { x with waited := true }) d).set (ENG_STATUS_STATE e) 2
      else if tagWait x (waitSlots w).2 then d.set (ENG_STATUS_STATE e) 1
      else match decodeBundle w with
      | none => engFault e 3 pc d
      | some .stop => endAct e d
      | some (.ops pred pinv pls ls v0 v1 t) =>
        let d1 := d.set (ENG_STATUS_STATE e) 1
        match operandFault d1 e pc ls t x with
        | 0 => retire e pc (Bundle.ops pred pinv pls ls v0 v1 t).du pred pinv pls ls v0 v1 t meets d1
        | code => engFault e code pc d1

/-! ### Ports and engine-done as events (R117, R120, R123) -/

/-- INPUT_PORT_TRANSFER: the port takes the token that waits for it, or discards it once the act is over. -/
def inputTransfer (e p : Nat) (d : Dev) : Dev :=
  let r := engRing e
  let snk : WSink := .eng (e % 8) p
  match waiting d r snk with
  | [] => d
  | t :: _ =>
    if (d.eng e).ended then discardIn e 1 (takeWide r snk d)
    else if inCredit d e p = 0 then d
    else mapEng e (fun x => { x with inq := sset [] x.inq p (x.inPort p ++ [t]) }) (takeWide r snk d)
/-- OUTPUT_PORT_TRANSFER: the fabric takes the port's oldest token. -/
def outputTransfer (e p : Nat) (d : Dev) : Dev :=
  let r := engRing e
  match (d.eng e).outPort p with
  | [] => d
  | t :: rest =>
    if wideRoom d r (.eng (e % 8) p) then
      present r (.eng (e % 8) p) [t] (mapEng e (fun x => { x with outq := sset [] x.outq p rest }) d)
    else d
/-- ENGINE_DONE: END has retired (or OFF, or a fault) and every output FIFO is empty. -/
def engineDone (e : Nat) (d : Dev) : Dev :=
  let x := d.eng e
  if x.ended ∧ x.outq.isEmpty then setEng e { x with done := true } d else d

/-! ### The host: memories and register window (R112, R114, R136, R138) -/

/-- The code that refuses a host access of `n` bytes at offset `a` of an engine's data region, OK where it is served. -/
def dataHostCode (d : Dev) (e a n : Nat) : Resp :=
  let st := d.rstate (engRing e)
  if st = 5 then .closed
  else if xStopped d (xData e) then .clockStopped
  else if !unitOk a n || decide (0xC000 ≤ a) then .addr
  else if (st = 1 ∨ st = 2 ∨ st = 3) ∧ !bitAt (d.get (ENG_MEM_HOST_SHARED e)) (a / 0x2000) then .perm
  else if d.flag (ENG_STATUS_MEM_BUSY e) then .retry
  else .ok
/-- A host read of engine data memory. -/
def dataHostRead (e a n : Nat) (d : Dev) : Resp × Nat × Dev :=
  match dataHostCode d e a n with
  | .ok =>
    let (v, ue, d1) := engRead e a true d
    if ue then (.ecc, 0, d1) else (.ok, v / 256 ^ (a % 8) % 256 ^ n, d1)
  | c => (c, 0, d)
/-- A host write of engine data memory. -/
def dataHostWrite (e a n v : Nat) (d : Dev) : Resp × Dev :=
  match dataHostCode d e a n with
  | .ok =>
    let (ue, d1) := engWrite e a (v * 256 ^ (a % 8)) (if n = 8 then 255 else 15 * 2 ^ (a % 8)) true d
    (if ue then .ecc else .ok, d1)
  | c => (c, d)
/-- ENG_DMEM_HOST_ACCESS: one access of `n` bytes; a read where `data` is none. -/
def dmemHostAccess (e a n : Nat) (data : Option Nat) (d : Dev) : Dev :=
  match data with
  | none => let (c, v, d1) := dataHostRead e a n d; d1.answer c (if c = .ok then [v] else [])
  | some v => let (c, d1) := dataHostWrite e a n v d; d1.answer c
/-- A host read of `n` bytes at offset `a` of an engine's program memory; data as read is a free value where the bundle
is uncorrectable (R114). -/
def progHostRead (e a n : Nat) (d : Dev) : Resp × Nat × Dev :=
  let b := bundleAt e (a / 16)
  if d.inspected (engRing e) then (.closed, 0, d)
  else if xStopped d (xProg e) then (.clockStopped, 0, d)
  else if !unitOk a n || decide (0x4000 ≤ a) then (.addr, 0, d)
  else if d.chipFlaw b = .double then (.ecc, d.freeVal (8 * n), d.bump)
  else (.ok, rdLe d.chip.cells (bundleAt e 0 + a) n, d)
/-- A host write of program memory: PERM (R114). -/
def progHostWrite (d : Dev) (e a n : Nat) : Resp :=
  if d.inspected (engRing e) then .closed
  else if xStopped d (xProg e) then .clockStopped
  else if !unitOk a n || decide (0x4000 ≤ a) then .addr else .perm
/-- PROG_MEM_HOST_READ. -/
def progMemHostRead (e a n : Nat) (d : Dev) : Dev :=
  let (c, v, d1) := progHostRead e a n d
  d1.answer c (if c = .ok ∨ c = .ecc then [v] else [])

/-- A write of ENG_CMD (R136): bit 0 CLR_STATS, 1 CLEAR_REGS, 2 MEM_ZERO, 3 CLR_ECC. -/
def engCmdWrite (e v : Nat) (d : Dev) : Dev :=
  let st := d.rstate (engRing e)
  if d.inspected (engRing e) then d.answer .closed
  else if (bitAt v 1 || bitAt v 2) && st != 0 && st != 4 then d.answer .perm
  else
    let d1 := if bitAt v 0 then
        d.resetFlds [ENG_MAX_DU_MAX_DU e, ENG_PORT_DISCARD_TOKENS e, ENG_CLAMP_COUNT e] else d
    let d2 := if bitAt v 1 then clearFiles e d1 else d1
    let d3 := if bitAt v 2 then d2.set (ENG_STATUS_MEM_BUSY e) 1 else d2
    let d4 := if bitAt v 3 then
        d3.resetFlds [ENG_MEM_ECC_UE_COUNT e, ENG_MEM_ECC_CE_COUNT e, ENG_MEM_ECC_ADDR_VALID e] else d3
    d4.answer .ok
/-- Zeroing of a data memory ends (R136). -/
def engZeroDone (e : Nat) (d : Dev) : Dev :=
  if d.flag (ENG_STATUS_MEM_BUSY e) then
    ((d.chipZero (dataAt e 0) 0xC000).set (ENG_STATUS_MEM_BUSY e) 0).raise (ENG_IRQ_CAUSE_ZERO_DONE e)
  else d

/-- Registers and words of a file of ENG_DBG_ADDR (R138): V, S, P, A, LC. -/
def dbgShape (file : Nat) : Nat × Nat :=
  match file with
  | 0 => (32, 16) | 1 => (16, 1) | 2 => (8, 1) | 3 => (8, 64) | 4 => (4, 1) | _ => (0, 0)
/-- The code that refuses an access to ENG_DBG_DATA. -/
def dbgCode (d : Dev) (e : Nat) : Resp :=
  let st := d.rstate (engRing e)
  let (regs, words) := dbgShape (d.get (ENG_DBG_ADDR_FILE e))
  if st = 5 then .closed
  else if regs ≤ d.get (ENG_DBG_ADDR_INDEX e) ∨ words ≤ d.get (ENG_DBG_ADDR_WORD e) then .addr
  else if st ≠ 0 ∧ st ≠ 4 then .perm
  else .ok
/-- The selected word. -/
def dbgWord (x : EngSt) (file i w : Nat) : Nat :=
  match file with
  | 0 => bitsAt (x.rdV i) (32 * w) 32
  | 1 => x.rdS i
  | 2 => x.rdP i
  | 3 => if w % 2 = 0 then bitsAt (x.rdA i) (48 * (w / 2)) 32 else wrap 32 (signed 16 (bitsAt (x.rdA i) (48 * (w / 2) + 32) 16))
  | _ => x.rdLc i
/-- Bits `lo + w - 1` down to `lo` of `v` replaced. -/
def putBits (v lo w n : Nat) : Nat := v - bitsAt v lo w * 2 ^ lo + n % 2 ^ w * 2 ^ lo
/-- The selected word written; S0, P0 and LC ignore it. -/
def dbgPut (file i w v : Nat) (x : EngSt) : EngSt :=
  match file with
  | 0 => x.wrReg (.v i) (putBits (x.rdV i) (32 * w) 32 v)
  | 1 => x.wrReg (.s i) v
  | 2 => x.wrReg (.p i) v
  | 3 => x.wrReg (.a i) (if w % 2 = 0 then putBits (x.rdA i) (48 * (w / 2)) 32 v
      else putBits (x.rdA i) (48 * (w / 2) + 32) 16 v)
  | _ => x
/-- The selection advances where AUTO_INC is set; INDEX wraps from 31 to 0 (DESIGN CHOICE, log 57). -/
def dbgNext (e : Nat) (d : Dev) : Dev :=
  let w := d.get (ENG_DBG_ADDR_WORD e) + 1
  if !d.flag (ENG_DBG_ADDR_AUTO_INC e) then d
  else if (dbgShape (d.get (ENG_DBG_ADDR_FILE e))).2 ≤ w then (d.set (ENG_DBG_ADDR_WORD e) 0).incWrap (ENG_DBG_ADDR_INDEX e)
  else d.set (ENG_DBG_ADDR_WORD e) w
/-- ENG_DBG_READ. -/
def dbgRead (e : Nat) (d : Dev) : Dev :=
  match dbgCode d e with
  | .ok => (dbgNext e d).answer .ok
      [dbgWord (d.eng e) (d.get (ENG_DBG_ADDR_FILE e)) (d.get (ENG_DBG_ADDR_INDEX e)) (d.get (ENG_DBG_ADDR_WORD e))]
  | c => d.answer c
/-- ENG_DBG_WRITE. -/
def dbgWrite (e v : Nat) (d : Dev) : Dev :=
  match dbgCode d e with
  | .ok => (dbgNext e (mapEng e (dbgPut (d.get (ENG_DBG_ADDR_FILE e)) (d.get (ENG_DBG_ADDR_INDEX e))
      (d.get (ENG_DBG_ADDR_WORD e)) v) d)).answer .ok
  | c => d.answer c

/-- ENG_STATUS as it reads (R126): DEPTH is the number of active loops, STATE reads CLOSED with the ring's. -/
def engStatusWord (d : Dev) (e : Nat) : Nat :=
  let st := if d.rstate (engRing e) = 5 then 5 else d.get (ENG_STATUS_STATE e)
  d.get (ENG_STATUS_ACT_NOW e) * 2 ^ 21 + d.get (ENG_STATUS_MEM_BUSY e) * 2 ^ 20 + d.get (ENG_STATUS_RESIDUE e) * 2 ^ 19 +
    d.get (ENG_STATUS_CLAMPED e) * 2 ^ 18 + (d.eng e).loops.length * 2 ^ 15 + d.get (ENG_STATUS_PC e) * 8 + st
/-- ENG_PORT_IN and ENG_PORT_OUT as they read (R130). -/
def levelsWord (q : Store (List Token)) : Nat :=
  (List.range 4).foldl (fun v k => v + (sget [] q k).length * 256 ^ k) 0
/-- A write of ENG_PORT_CFG or ENG_MEM_HOST: only while the ring is not armed (R112, R129). -/
def engCfgWrite (e : Nat) (fs : List Fld) (v : Nat) (d : Dev) : Dev :=
  if d.inspected (engRing e) then d.answer .closed
  else if d.armed (engRing e) then d.answer .perm
  else ({ d with ctl := writeFlds d.ctl false v fs } : Dev).answer .ok

/-! ### The meanings -/

/-- ACT_DISPATCH (R119). -/
def execActDispatch (e : Fin 1024) (s : State) : Host.Outcome State Fault Refusal := run s (actDispatch e)
/-- BUNDLE_ISSUE (R145). -/
def execBundleIssue (e : Fin 1024) (meets : Bool) (s : State) : Host.Outcome State Fault Refusal :=
  run s (bundleIssue e meets)
/-- XS_RESPONSE (R164). -/
def execXsResponse (e : Fin 1024) (s : State) : Host.Outcome State Fault Refusal := run s (xsResponse e)
/-- INPUT_PORT_TRANSFER (R117). -/
def execInputPortTransfer (e : Fin 1024) (p : Fin 4) (s : State) : Host.Outcome State Fault Refusal :=
  run s (inputTransfer e p)
/-- OUTPUT_PORT_TRANSFER (R117). -/
def execOutputPortTransfer (e : Fin 1024) (p : Fin 4) (s : State) : Host.Outcome State Fault Refusal :=
  run s (outputTransfer e p)
/-- ENGINE_DONE (R120). -/
def execEngineDone (e : Fin 1024) (s : State) : Host.Outcome State Fault Refusal := run s (engineDone e)
/-- ENG_DMEM_HOST_ACCESS (R112). -/
def execEngDmemHostAccess (e : Fin 1024) (a : BitVec 16) (len : Fin 16) (data : Option Token) (s : State) :
    Host.Outcome State Fault Refusal := run s (dmemHostAccess e a.toNat len.val (data.map (·.toNat)))
/-- PROG_MEM_HOST_READ (R114). -/
def execProgMemHostRead (e : Fin 1024) (a : BitVec 14) (len : Fin 16) (s : State) : Host.Outcome State Fault Refusal :=
  run s (progMemHostRead e a.toNat len.val)
/-- ENG_MEM_ZERO (R136). -/
def execEngMemZero (e : Fin 1024) (s : State) : Host.Outcome State Fault Refusal := run s (engCmdWrite e 4)
/-- ENG_MEM_ZERO_DONE (R136). -/
def execEngMemZeroDone (e : Fin 1024) (s : State) : Host.Outcome State Fault Refusal := run s (engZeroDone e)
/-- CLEAR_REGS (R136). -/
def execClearRegs (e : Fin 1024) (s : State) : Host.Outcome State Fault Refusal := run s (engCmdWrite e 2)
/-- ENG_CLR_ECC (R136). -/
def execEngClrEcc (e : Fin 1024) (s : State) : Host.Outcome State Fault Refusal := run s (engCmdWrite e 8)
/-- ENG_CLR_STATS (R136). -/
def execEngClrStats (e : Fin 1024) (s : State) : Host.Outcome State Fault Refusal := run s (engCmdWrite e 1)
/-- ENG_DBG_READ (R138). -/
def execEngDbgRead (e : Fin 1024) (s : State) : Host.Outcome State Fault Refusal := run s (dbgRead e)
/-- ENG_DBG_WRITE (R138). -/
def execEngDbgWrite (e : Fin 1024) (v : Word) (s : State) : Host.Outcome State Fault Refusal :=
  run s (dbgWrite e v.toNat)

end Sys2Proof.Machine
end

