-- ==== Sys2Proof/Machine/PinMap.lean ====
section
/-! DEFINITION. The multiplexer of the GPIO pins (R529 to R534, Table 15-1 to Table 15-4): which pin serves which input. -/
namespace Sys2Proof.Machine
open Sys2Proof.Machine.Reg

/-- Bank of pin `n` (Table 15-1). -/
def bankOf (n : Nat) : Nat := if n < 36 then n / 18 else (n - 36) / 15 + 2
/-- First pin of bank `b`. -/
def bankFirst (b : Nat) : Nat := if b < 2 then 18 * b else 36 + 15 * (b - 2)
/-- The pins of bank `b`. -/
def bankPins (b : Nat) : List Nat := (List.range (if b < 2 then 18 else 15)).map (bankFirst b + ·)
/-- Offset of pin `n` in its bank (R529). -/
def pinOffset (n : Nat) : Nat := n - bankFirst (bankOf n)
/-- Whether the bank of pin `n` has a supply (R542). -/
def powered (d : Dev) (n : Nat) : Bool := d.get (GPIO_BANK_VIO (bankOf n)) != 0
/-- Offsets that carry a signal under a function (Table 15-3); CFG stands on GPIO0 to GPIO34. -/
def funcOffsets : Nat → List Nat
  | 2 => [0, 1, 8, 9] | 3 => [2, 3, 4, 5, 6] | 4 => [0, 1, 7, 8, 9, 10] | 5 => [2, 3, 11, 12]
  | 6 => [0, 1, 2, 3, 13, 14] | 7 => [4, 5, 6] | 8 => [7] | 9 => [11, 12] | _ => []
/-- Whether pin `n` may take function `f` (R532). -/
def funcOk (n f : Nat) : Bool := f == 0 || (f == 1 && n ≤ 34) || (funcOffsets f).contains (pinOffset n)
/-- Pin `n` in its state. -/
def Dev.pin (d : Dev) (n : Nat) : PinSt := sget {} d.pins.pins n
/-- A function switch of pin `n` is in its steps 2 and 3 (R535). -/
def switching (d : Dev) (n : Nat) : Bool := match (d.pin n).switch with | some t => decide (d.tb < t) | none => false
/-- Whether pin `n` gives its level to the inputs of function `f` (R533, R542, R551). -/
def pinGives (d : Dev) (f n : Nat) : Bool :=
  d.get (GPIO_PIN_CFG_FUNC n) == f && powered d n && !switching d n && d.pins.jtag.isNone
/-- Powered pins of banks `bs` that map the input at offsets `offs` under function `f`. -/
def pinsFor (d : Dev) (f : Nat) (bs offs : List Nat) : List Nat :=
  (bs.flatMap bankPins).filter (fun n => offs.contains (pinOffset n) && pinGives d f n)
/-- The pin that serves an input: none, where no pin maps it or more than one does (R533, R534). -/
def servedBy (d : Dev) (f : Nat) (bs offs : List Nat) : Option Nat :=
  match pinsFor d f bs offs with | [n] => some n | _ => none
/-- PPS_IN has a pin. -/
def ppsPin (d : Dev) : Bool := (servedBy d 6 (List.range 6) [13]).isSome
/-- PMBUS_ALERT_N has a pin. -/
def alertPin (d : Dev) : Bool := (servedBy d 8 (List.range 6) [7]).isSome
/-- MI2C_SCL and MI2C_SDA have a pin each. -/
def mi2cPins (d : Dev) : Bool := (servedBy d 9 (List.range 6) [11]).isSome && (servedBy d 9 (List.range 6) [12]).isSome
/-- The inputs that can conflict: bit of PIN_CONFLICT, function, banks, offsets (R534, R554). -/
def conflictInputs : List (Nat × Nat × List Nat × List Nat) :=
  (List.range 6).flatMap (fun b => [(2 * b, 2, [b], [0, 8]), (2 * b + 1, 2, [b], [1, 9]), (12 + b, 4, [b], [1, 8]),
    (18 + b, 5, [b], [3, 12])]) ++
  [(24, 6, List.range 6, [13]), (25, 8, List.range 6, [7]), (26, 9, List.range 6, [11]), (27, 9, List.range 6, [12])]
/-- PIN_CONFLICT bits of the inputs that are mapped from two or more pins now (R534). -/
def conflicts (d : Dev) : Nat :=
  let maps (f : Nat) (bs offs : List Nat) : Nat := ((bs.flatMap bankPins).filter (fun n =>
    offs.contains (pinOffset n) && d.get (GPIO_PIN_CFG_FUNC n) == f && powered d n)).length
  conflictInputs.foldl (fun v i => v + if 2 ≤ maps i.2.1 i.2.2.1 i.2.2.2 then 2 ^ i.1 else 0) 0
/-- Fields of PIN_CONFLICT. -/
def conflictFlds : List Fld :=
  [PIN_CONFLICT_MI2C_SDA, PIN_CONFLICT_MI2C_SCL, PIN_CONFLICT_ALERT_N, PIN_CONFLICT_PPS_IN, PIN_CONFLICT_MDIO,
   PIN_CONFLICT_RXD, PIN_CONFLICT_I2C]
/-- Every GPIO cycle sets the bits of the conflicts that stand (R534). -/
def noteConflicts (d : Dev) : Dev :=
  let now := conflicts d
  let was := wordOf d.ctl conflictFlds
  let d1 := conflictFlds.foldl (fun d f => d.set f (d.get f ||| bitsAt now f.lo f.w)) d
  if was ||| now = was then d1 else d1.raise GPIO_MISC_IRQ_CAUSE_CONFLICT

end Sys2Proof.Machine
end

