-- ==== Sys2Proof/Machine/Tightrope.lean ====
section
/-! DEFINITION. Tightrope, the supply and slack governor (R434 to R457), and the writes of the contract column and of
the contract floor (R29, R31). -/
namespace Sys2Proof.Machine
open Sys2Proof.Machine.Reg

/-- Replace Tightrope's hidden state. -/
def Dev.withTg (d : Dev) (t : TgSt) : Dev := { d with tg := t }
/-- The mode (Table 12-1). -/
def tgMode (d : Dev) : Nat := d.get TG_STATUS_MODE
/-- The sensed VCORE, mV (R437). -/
def sensed (d : Dev) : Nat := d.get TG_VCMD_SENSED_MV

/-- Highest reading of a sensor that has not failed, quarter degrees; 150 °C when every one has (R437). -/
def tjMax (d : Dev) : Int := (highest (d.tg.temps.filterMap id)).getD 600
/-- Lowest such reading; −40 °C when every sensor has failed (R437). -/
def tjMin (d : Dev) : Int := (lowest (d.tg.temps.filterMap id)).getD (-160)
/-- A temperature as registers hold it, °C + 64. -/
def tempReg (q : Int) : Nat := (wholeOf ((q : Rat) / 4) + 64).toNat
/-- A Tightrope event of the recorder: TJ_MAX and the sensed VCORE go with it (Table 14-8). -/
def tgBbr (event : Nat) (fatal : Bool) (d : Dev) : Dev :=
  d.bbr 7 event fatal (tempReg (tjMax d) % 512) (sensed d)

/-! ### Bounds (R439, R440) -/

/-- FLOOR_MV + GUARD. -/
def floorGuard (d : Dev) : Nat := d.get RM_CONTRACT_STATUS_FLOOR_MV + d.get TG_STEP_GUARD
/-- VSAFE_EFF of R439. -/
def vsafeEffOf (d : Dev) : Nat := Nat.min (Nat.max (d.get TG_VSAFE_MV) (floorGuard d)) 900
/-- VSAFE_EFF as it stands. -/
def vsafeEff (d : Dev) : Nat := d.get TG_EFF_VSAFE_EFF_MV
/-- The lower bound of R440, with that of R449 in EOL; at most 900 mV. -/
def lowerBound (d : Dev) : Nat :=
  let b := if d.flag TG_CTRL_GOVERNED then 650 else Nat.min (floorGuard d) 900
  if tgMode d = 6 then Nat.max b d.tg.eolBound else b

/-- What the ring tick of lead `r` has seen so far, for the slip cause and the slip log (R44, R58). -/
def noteTick (r : Nat) (d : Dev) : Dev :=
  let x := d.ring r
  let fl := d.get RM_CONTRACT_STATUS_FLOOR_MV
  let c := d.tg.cmd.getD (sensed d)
  d.setRing r { x with
    sawTemp := x.sawTemp || tempOutside d.tg.temps || d.flag RM_CONTRACT_STATUS_FLOOR_NONE,
    sawVolt := x.sawVolt || decide (sensed d < fl ∧ fl ≤ c),
    sawGov := x.sawGov || decide (c < fl),
    vMin := some (match x.vMin with | some v => Nat.min v (sensed d) | none => sensed d),
    tMin := some (match x.tMin with | some v => Nat.min v (tempReg (tjMin d)) | none => tempReg (tjMin d)),
    tMax := some (match x.tMax with | some v => Nat.max v (tempReg (tjMax d)) | none => tempReg (tjMax d)) }
/-- What every ring tick in progress has seen. -/
def noteTicks (d : Dev) : Dev := forEach (d.leads.filter (fun r => (d.ring r).run != .out)) d noteTick

/-- A write of Vout Transition Rate. -/
def isRate (f : AvsFrame) : Bool := match f with | .writeRate _ => true | _ => false
/-- A voltage write or its read-back. -/
def isVoltage (f : AvsFrame) : Bool := match f with | .writeVoltage _ => true | .readVoltage => true | _ => false
/-- The AVSBus operations once the voltage `v` is to be written, and read back (R434, R446): an operation in flight comes
first, then rate writes, then the voltage, which supersedes one that waits; other reads follow. `rate`: a rate write that
is due. With `now` an operation in flight ends with its frame, but for a rate write, which is to be acknowledged before any
voltage (DEDUCED: log 61). An operation that waits for its retry gives way, unless it writes a rate. -/
def queueVoltage (now : Bool) (rate : List AvsFrame) (v : Nat) (t : TgSt) : TgSt :=
  let volt := [AvsFrame.writeVoltage v, .readVoltage]
  let order (fs : List AvsFrame) : List AvsFrame :=
    fs.filter isRate ++ rate ++ volt ++ fs.filter (fun f => !isRate f && !isVoltage f)
  match t.frames with
  | [] => { t with frames := rate ++ volt }
  | f :: rest =>
    if t.held ∧ !isRate f then { t with frames := order t.frames, held := false }
    else { t with frames := f :: order rest, cut := t.cut || (now && !t.held && !isRate f) }

/-- Command `mv` (R434, R440): at most 900 mV; the rate goes first where it has not been acknowledged yet. Ring ticks in
progress see the voltage as it is commanded (R44). -/
def commandBy (now : Bool) (mv : Nat) (d : Dev) : Dev :=
  let v := Nat.min mv 900
  let t := d.tg
  let rate := if t.rateSent || t.frames.any isRate then [] else [AvsFrame.writeRate (d.get TG_AVS_SLEW)]
  noteTicks ((d.withTg (queueVoltage now rate v { t with
    cmd := some v, settled := decide (d.get TG_VCMD_SENSED_MV ≤ v + 10 ∧ v ≤ d.get TG_VCMD_SENSED_MV + 10) })).set
    TG_STATUS_BELOW_FLOOR (b2n (decide (v < floorGuard d))))
/-- A command that waits for the operation in flight. -/
def command (mv : Nat) (d : Dev) : Dev := commandBy false mv d
/-- A command that is sent straight after the frame in flight, so within 2 µs (R440, R446). -/
def commandNow (mv : Nat) (d : Dev) : Dev := commandBy true mv d

/-- The voltage that HOLD and SAFETY command (Table 12-1). -/
def holdVoltage (d : Dev) : Nat := if d.tg.auto800 then 800 else vsafeEff d

/-- The lower bound while an age check runs: it stands at VSAFE_EFF at least (R448). -/
def ageBound (d : Dev) : Nat := if d.tg.age.isSome then Nat.max (lowerBound d) (vsafeEff d) else lowerBound d
/-- VSAFE_EFF follows its terms, and a commanded voltage below the lower bound is raised by one command (R439, R440). -/
def tgRefresh (d : Dev) : Dev :=
  let old := vsafeEff d
  let d1 := d.set TG_EFF_VSAFE_EFF_MV (vsafeEffOf d)
  let d2 := match d1.tg.cmd with
    | none => d1
    | some c => d1.set TG_STATUS_BELOW_FLOOR (b2n (decide (c < floorGuard d1)))
  match tgMode d2, d2.tg.cmd with
  | 1, some _ => if vsafeEff d2 ≠ old ∧ !d2.tg.auto800 then commandNow (vsafeEff d2) d2 else d2
  | 2, some _ => if vsafeEff d2 ≠ old ∧ !d2.tg.auto800 then commandNow (vsafeEff d2) d2 else d2
  | 3, some c => if c < ageBound d2 then commandNow (ageBound d2) d2 else d2
  | 6, some c => if c < ageBound d2 then commandNow (ageBound d2) d2 else d2
  | _, _ => d2

/-! ### Modes and slips (R441, R442, R446) -/

/-- A jump to the safety net `mv`: the interval is discarded, and an age check in progress returns to no lower voltage
(R446; the age check DEDUCED: log 61). -/
def jump (mv : Nat) (d : Dev) : Dev :=
  commandNow mv (d.withTg { d.tg with sMin := none, age := d.tg.age.map (fun a => { a with back := mv }) })
/-- Enter SAFETY: HOLD_LEFT is loaded with RECOVER and VSAFE_EFF commanded; TRIP re-arms where THERMAL is left (R447). -/
def enterSafety (d : Dev) : Dev :=
  let d1 := (d.set TG_STATUS_MODE 2).set TG_STATUS_HOLD_LEFT (d.get TG_HOLD_RECOVER)
  let d2 := if tgMode d = 5 then d1.withTg { d1.tg with tripArm := true } else d1
  jump (holdVoltage d2) d2

/-- A slip is signalled (R43, R446). -/
def tgSlip (d : Dev) : Dev :=
  let d1 := d.incSat TG_SLIPS_SLIPS
  match tgMode d1 with
  | 1 => (enterSafety d1).raise TG_IRQ_CAUSE_SAFETY
  | 2 => if d1.tg.settled || d1.tg.cmd != some (holdVoltage d1) then enterSafety d1
         else (d1.set TG_STATUS_HOLD_LEFT (d1.get TG_HOLD_RECOVER)).withTg { d1.tg with sMin := none }
  | 3 => (enterSafety d1).raise TG_IRQ_CAUSE_SAFETY
  | 6 => jump (Nat.max (vsafeEff d1) d1.tg.eolBound) d1
  | _ => d1

/-- HOLD_LEFT reached 0 in HOLD or SAFETY: TRACK (Table 12-1). -/
def holdExpired (d : Dev) : Dev :=
  if (tgMode d = 1 ∨ tgMode d = 2) ∧ d.get TG_STATUS_HOLD_LEFT = 0 then
    (d.set TG_STATUS_MODE 3).withTg { d.tg with sMin := none }
  else d

/-- A closed tick (R442) counts HOLD_LEFT down in HOLD and SAFETY. -/
def closedTick (d : Dev) : Dev :=
  if (tgMode d = 1 ∨ tgMode d = 2) ∧ d.get TG_STATUS_HOLD_LEFT ≠ 0 then
    holdExpired (d.set TG_STATUS_HOLD_LEFT (d.get TG_STATUS_HOLD_LEFT - 1))
  else d

/-- The slack of an on-time ring tick is reported (R20, R443): the slack fraction of its act enters the interval. -/
def reportSlack (r slack : Nat) (a : Nat) (d : Dev) : Dev :=
  if d.get (RING_ACT_DU_DU_TOTAL r a) = 0 then d else
  let g := window d (d.ring r).vals.div (periodNow d) - (d.get (RING_ACT_FIX_FIXED_NS r a) : Nat)
  if g ≤ 0 then d else
  let s := Nat.min (256 * slack / g.toNat) 255
  match d.tg.sMin with
  | some (m, _) => if s < m then d.withTg { d.tg with sMin := some (s, r) } else d
  | none => d.withTg { d.tg with sMin := some (s, r) }

/-! ### End of life and temperature (R447 to R449) -/

/-- *d*_m exceeds CEIL / 256 ps. -/
def eolReading (d : Dev) : Bool := decide ((d.get RM_CONTRACT_CEIL_CEIL : Rat) < 256 * d.tg.dm)
/-- The end-of-life condition: 16 consecutive readings (R448). -/
def eolHolds (d : Dev) : Bool := decide (16 ≤ d.tg.eolRun)
/-- R449: the end-of-life condition holds, found at voltage `mv`. -/
def eolEnter (mv : Nat) (d : Dev) : Dev :=
  let d1 := tgBbr 5 true ((d.raise TG_STATUS_EOL_WARN).raise TG_IRQ_CAUSE_EOL_WARN)
  (d1.set TG_STATUS_MODE 6).withTg { d1.tg with eolBound := mv, eolDone := false, eolRun := 0, sMin := none }

/-- Disarm the rings of a list (R447). -/
def shed (rs : List Nat) (d : Dev) : Dev := forEach rs d disarm

/-- A threshold register in quarter degrees C. -/
def threshold (w : Nat) : Int := 4 * ((w : Int) - 64)
/-- R447: compare TJ_MAX with WARN, HOT and TRIP. In OFF, which Table 12-1 leaves by the link start alone, a trip waits until
the mode is left (DEDUCED: log 61); it ends an age check. -/
def thermal (d : Dev) : Dev :=
  let t := tjMax d
  let warn := threshold (d.get TG_THERM_WARN)
  let hot := threshold (d.get TG_THERM_HOT)
  let d1 := if d.tg.warnArm ∧ warn ≤ t then
      (d.raise TG_IRQ_CAUSE_THERM_WARN).withTg { d.tg with warnArm := false }
    else if t + 20 ≤ warn then d.withTg { d.tg with warnArm := true } else d
  let d2 := if d1.tg.hotArm ∧ hot ≤ t then
      shed ((List.range 128).filter (fun r => bitAt (d1.get (TG_SHED_RINGS (r / 32))) (r % 32)))
        (tgBbr 3 false ((d1.raise TG_IRQ_CAUSE_THERM_HOT).withTg { d1.tg with hotArm := false }))
    else if t + 20 ≤ hot then d1.withTg { d1.tg with hotArm := true } else d1
  if d2.tg.tripArm ∧ tgMode d2 ≠ 0 ∧ threshold (d2.get TG_THERM_TRIP) ≤ t then
    command 650 (shed (List.range 128)
      (tgBbr 4 true (((d2.raise TG_IRQ_CAUSE_THERM_TRIP).set TG_STATUS_MODE 5).withTg
        { d2.tg with tripArm := false, age := none, sMin := none })))
  else d2

/-! ### Sensors (R437, R438, R444, R448) -/

/-- A temperature reading as R437 takes it: outside −60 °C to 180 °C it is failed. -/
def goodTemp (t : Option Int) : Option Int :=
  match t with | some x => if -240 ≤ x ∧ x ≤ 720 then some x else none | none => none
/-- A monitor reading as R438 takes it: outside 20 ps to 400 ps it is failed. -/
def goodMon (m : Option Rat) : Option Rat :=
  match m with | some x => if 20 ≤ x ∧ x ≤ 400 then some x else none | none => none
/-- What the monitors report (R437): the mean duration of one stage, times the trim factor in force. -/
def trimmed (d : Dev) (mons : List (Option Nat)) : List (Option Rat) :=
  (mons.zip (List.range mons.length)).map (fun p => p.1.map (fun x => (x : Rat) / 256 * Config.monFactor d.trim.force p.2))
/-- A list of readings brought to `n` places; a place without one did not answer. -/
def padTo {α : Type} (n : Nat) (xs : List (Option α)) : List (Option α) := xs.take n ++ List.replicate (n - xs.length) none
/-- Bits of the places that hold none. -/
def failBits {α : Type} (xs : List (Option α)) : Nat := xs.foldr (fun x acc => 2 * acc + b2n x.isNone) 0
/-- The largest reading and its place. -/
def largest (xs : List (Option Rat)) : Option (Rat × Nat) :=
  (xs.zip (List.range xs.length)).foldl (fun m p => match p.1, m with
    | some v, none => some (v, p.2)
    | some v, some (w, i) => if w < v then some (v, p.2) else some (w, i)
    | none, m => m) none
/-- *d*_m in ps: times 1.03 under field-generated trim values (R438). -/
def dieDu (d : Dev) (v : Rat) : Rat := if d.get TRIM_SOURCE_IN_FORCE = 2 then v * 103 / 100 else v

/-- R444 and R448: the margin ratio and the age ratio of the readings. A ratio beyond its 16 bits shows as 0xFFFF
(DESIGN CHOICE: log 61). -/
def ratios (d : Dev) : Dev :=
  let du := d.get TG_DMON_DU_Q4
  let d1 := if d.flag RM_CONTRACT_CEIL_NONE ∨ du = 0 then (d.set TG_MARGIN_VALID 0).set TG_MARGIN_MR 0
    else (d.set TG_MARGIN_VALID 1).set TG_MARGIN_MR (Nat.min (d.get RM_CONTRACT_CEIL_CEIL * 16 / du) 0xFFFF)
  match duNow d1 (sensed d1) with
  | none => d1
  | some t =>
    let a := Nat.min (1024 * d.tg.dm / t).floor.toNat 0xFFFF
    (d1.set TG_AGE_RATIO a).set TG_AGE_PEAK (Nat.max a (d1.get TG_AGE_PEAK))

/-- Sensed VCORE: the lowest of the eight sense points (R437). -/
def lowestSense (vs : Vector (BitVec 10) 8) : Nat := vs.toList.foldl (fun m v => Nat.min m v.toNat) 1023
/-- R437, R438: Tightrope reads its sensors. -/
def sensorRead (vcore : Nat) (temps : List (Option Int)) (mons : List (Option Nat)) (d : Dev) : Dev :=
  let ts := (padTo 32 temps).map goodTemp
  let ms := (trimmed d (padTo 64 mons)).map goodMon
  let tf := failBits ts
  let mf := failBits ms
  let d0 := if tf &&& (2 ^ 32 - 1 - d.get TG_SENS_FAIL_SENS) ≠ 0 then d.raise TG_IRQ_CAUSE_SENS_FAULT else d
  let oldMf := d.get (TG_MON_FAIL_MON 0) + d.get (TG_MON_FAIL_MON 1) * 2 ^ 32
  let d1 := if mf &&& (2 ^ 64 - 1 - oldMf) ≠ 0 then d0.raise TG_IRQ_CAUSE_MON_FAULT else d0
  let settled := d1.tg.settled || (match d1.tg.cmd with
    | some c => decide (vcore ≤ c + 10 ∧ c ≤ vcore + 10) | none => true)
  let d2 := (((d1.withTg { d1.tg with
      temps := ts, mons := ms, settled := settled,
      hotHour := d1.tg.hotHour || ts.any (fun t => match t with | some x => decide (500 < x) | none => false) }).set
      TG_VCMD_SENSED_MV vcore).set TG_SENS_FAIL_SENS tf).set (TG_MON_FAIL_MON 0) (mf % 2 ^ 32)
  let d3 := (d2.set (TG_MON_FAIL_MON 1) (mf / 2 ^ 32)).set TG_TEMP_TJ_MAX (tempReg (tjMax d2))
  let d4 := d3.set TG_TEMP_TJ_MIN (tempReg (tjMin d3))
  let d5 := match largest ms with
    | some (v, i) => ((d4.withTg { d4.tg with dm := dieDu d4 v }).set TG_DMON_DU_Q4
        (Nat.min (16 * dieDu d4 v).ceil.toNat 0xFFFF)).set TG_DMON_MON i
    | none => d4
  let d6 := noteTicks (ratios d5)
  let run := if eolReading d6 ∧ (largest ms).isSome then d6.tg.eolRun + 1 else 0
  let d7 := d6.withTg { d6.tg with eolRun := run }
  let d8 := if (tgMode d7 = 1 ∨ tgMode d7 = 2) ∧ eolHolds d7 then eolEnter (d7.tg.cmd.getD (vsafeEff d7)) d7 else d7
  thermal d8

/-! ### The decision of an interval (R443, R445, R449) -/

/-- Failed monitors. -/
def monsFailed (d : Dev) : Nat := (d.tg.mons.filter (fun m => m.isNone)).length
/-- R435, R436: whether a step down may be made at all. -/
def downAllowed (d : Dev) : Bool := !d.flag TG_STATUS_REG_FAULT && !d.flag TG_IRQ_CAUSE_REG_ALERT

/-- From the commanded voltage `c` down to `mv`: not below the lower bound, nor, with more than eight failed monitors, below
VSAFE_EFF (R438). -/
def lowerTo (mv c : Nat) (d : Dev) : Dev :=
  let v := Nat.max mv (lowerBound d)
  let v := if 8 < monsFailed d then Nat.max v (Nat.min c (vsafeEff d)) else v
  if downAllowed d ∧ v < c then command v d else d
/-- A step down of R443. -/
def stepDown (c : Nat) (d : Dev) : Dev := lowerTo (c - d.get TG_STEP_STEP_DN) c d

/-- Table 12-2. -/
def trackStep (c : Nat) (d : Dev) : Dev :=
  match d.tg.sMin with
  | none => d
  | some (s, _) =>
    if s < d.get TG_CTRL_TARGET_LO then command (c + d.get TG_STEP_STEP_UP) d
    else if s ≤ d.get TG_CTRL_TARGET_HI then d
    else stepDown c d

/-- The raise of R449 has come to its end: 256 × *d*_m ≤ 0.9375 × CEIL, or 900 mV. -/
def eolFound (c : Nat) (d : Dev) : Bool :=
  decide (256 * d.tg.dm * 16 ≤ 15 * (d.get RM_CONTRACT_CEIL_CEIL : Rat)) || decide (900 ≤ c)
/-- R449 in EOL: step up until the voltage is found, which is the lower bound; then slack sets the voltage as in TRACK
(Table 12-1; DEDUCED: log 61). A condition that still holds at 900 mV sets EOL_LIMIT. -/
def eolStep (c : Nat) (d : Dev) : Dev :=
  let d1 := if 900 ≤ c ∧ eolHolds d then d.raise TG_STATUS_EOL_LIMIT else d
  if d1.tg.eolDone then trackStep c d1
  else if eolFound c d1 then d1.withTg { d1.tg with eolDone := true }
  else
    let v := Nat.min (c + d1.get TG_STEP_STEP_UP) 900
    command v (d1.withTg { d1.tg with eolBound := v })

/-- S_MIN of the interval is shown with its ring (R443). -/
def showSlack (d : Dev) : Dev :=
  match d.tg.sMin with
  | some (s, r) => (d.set TG_SLACK_S_MIN s).set TG_SLACK_RING r
  | none => d
/-- The end of a decision interval; it counts only once the previous step has settled (R443), and none is made while an age
check holds the voltage (R448). -/
def decision (d : Dev) : Dev :=
  let free := d.tg.settled && d.tg.age.isNone
  let d1 := match tgMode d, d.tg.cmd with
    | 3, some c => if free then trackStep c (showSlack d) else showSlack d
    | 6, some c => if free then eolStep c (showSlack d) else showSlack d
    | _, _ => d
  d1.withTg { d1.tg with sMin := none }

/-! ### The regulator link (R434, R435) -/

/-- The operation in flight has ended for good: the next one starts. -/
def nextFrame (d : Dev) : Dev :=
  d.withTg { d.tg with frames := d.tg.frames.drop 1, inStatus := false, attempt := 0, pairTry := 0, cut := false }
/-- The fourth attempt failed (R435): REG_FAULT, with its cause and an entry of the recorder when it comes to be set. -/
def avsFault (d : Dev) : Dev :=
  if d.flag TG_STATUS_REG_FAULT then d
  else tgBbr 1 false ((d.raise TG_STATUS_REG_FAULT).raise TG_IRQ_CAUSE_REG_FAULT)
/-- REG_FAULT with the operation in flight: it waits for the retry, and what is queued behind it with it; an operation that
was to end with its frame is dropped. -/
def regFault (d : Dev) : Dev :=
  let d1 := avsFault d
  if d1.tg.cut then nextFrame d1
  else d1.withTg { d1.tg with held := true, inStatus := false, attempt := 0, pairTry := 0 }
/-- A frame succeeded: REG_FAULT is cleared at the first one that does. -/
def frameOk (d : Dev) : Dev := d.clear TG_STATUS_REG_FAULT
/-- The frame in flight failed: it is to be repeated as `again` says, up to three times, `n` having gone before. -/
def frameFail (n : Nat) (again : TgSt → TgSt) (d : Dev) : Dev :=
  let d1 := d.incSat TG_AVS_ERRORS
  if 4 ≤ n + 1 then regFault d1
  else if d1.tg.cut then nextFrame d1
  else d1.withTg (again d1.tg)
/-- Enter FORCED at TG_FORCE.MV (R451); an age check ends. -/
def enterForced (d : Dev) : Dev :=
  let d1 := d.set TG_STATUS_MODE 4
  command (d1.get TG_FORCE_MV) (d1.withTg { d1.tg with age := none, sMin := none })
/-- Leave OFF for HOLD after the link start (R434, R442); a force accepted in OFF follows (DEDUCED: log 61). -/
def leaveOff (d : Dev) : Dev :=
  if tgMode d = 0 then
    let d1 := (d.set TG_STATUS_MODE 1).set TG_STATUS_HOLD_LEFT 256
    let d2 := command (holdVoltage d1) d1
    if d2.flag TG_FORCE_EN then enterForced d2 else d2
  else d

/-- An AVSBus frame ends (R435): `errFlag` is the error flag of a status read, `value` what a read returned. -/
def avsFrameDone (crcOk errFlag : Bool) (value : Nat) (d : Dev) : Dev :=
  match d.tg.frames, d.tg.held with
  | f :: _, false =>
    let d1 := d.emit (.avs (if d.tg.inStatus then .readStatus else f))
    if !crcOk then frameFail d.tg.attempt (fun t => { t with attempt := t.attempt + 1 }) d1
    else if d.tg.inStatus then
      if errFlag then
        frameFail d.tg.pairTry (fun t => { t with inStatus := false, attempt := 0, pairTry := t.pairTry + 1 }) d1
      else
        let d2 := nextFrame (frameOk d1)
        match f with
        | .writeVoltage mv => d2.set TG_VCMD_CMD_MV mv
        | .writeRate _ => leaveOff (d2.withTg { d2.tg with rateSent := true })
        | _ => d2
    else
      let d2 := frameOk d1
      match f with
      | .writeVoltage _ => if d2.tg.cut then nextFrame d2 else d2.withTg { d2.tg with inStatus := true, attempt := 0 }
      | .writeRate _ => d2.withTg { d2.tg with inStatus := true, attempt := 0 }
      | .readCurrent => nextFrame (d2.set TG_IOUT_AMPS value)
      | _ => nextFrame d2
  | _, _ => d

/-- AVS_LINK_START (R434): the rate write and its status read, each frame ending as `ends` tells (CRC, error flag); the pair
that succeeds leaves OFF for HOLD. Frames that `ends` does not tell end by AVS_FRAME_DONE. -/
def avsLinkStart (ends : List (Bool × Bool)) (d : Dev) : Dev :=
  if tgMode d = 0 then
    let d1 := if d.tg.frames.isEmpty then d.withTg { d.tg with frames := [.writeRate (d.get TG_AVS_SLEW)] } else d
    forEach ends d1 (fun e d => avsFrameDone e.1 e.2 0 d)
  else d
/-- CURRENT_READ (R434, R435): the frame fails `fails` times, four times ending in REG_FAULT; the read is then left waiting
for the retry. Nothing but the link start goes over the bus in OFF. -/
def currentRead (fails amps : Nat) (d : Dev) : Dev :=
  if tgMode d = 0 then d
  else
    let d1 := forEach (List.range fails) d (fun _ d => (d.emit (.avs .readCurrent)).incSat TG_AVS_ERRORS)
    if fails < 4 then (frameOk (d1.emit (.avs .readCurrent))).set TG_IOUT_AMPS amps
    else
      let d2 := avsFault d1
      if d2.tg.frames.isEmpty then d2.withTg { d2.tg with frames := [.readCurrent], held := true } else d2
/-- AVS_RETRY (R435): while REG_FAULT is set, the operation that failed is sent again. -/
def avsRetry (d : Dev) : Dev := if d.flag TG_STATUS_REG_FAULT then d.withTg { d.tg with held := false } else d

/-! ### Register writes -/

/-- R27 at a new safety net; PERIOD_REJ where an armed ring would fail (R31, R439). -/
def vsafeWrite (mv : Nat) (d : Dev) : Dev :=
  if d.flag TG_CTRL_LOCK ∧ mv ≠ d.get TG_VSAFE_MV then d.answer .perm
  else if mv < 700 ∨ 900 < mv then d.answer .perm
  else if (failing d mv (d.get RM_CONTRACT_CTRL_TJ_DESIGN) (periodCheck d)).isEmpty then
    (tgRefresh (d.set TG_VSAFE_MV mv)).answer .ok
  else (d.raise RM_CONTRACT_STATUS_PERIOD_REJ).answer .perm

/-- A write of TJ_DESIGN (R31): 6 and 7 are stored as 5. The check is made at every write that R5 lets through, also at one
that leaves TJ_DESIGN as it stands: while an armed ring fails R27 it is refused as a whole (DESIGN CHOICE, log 55). -/
def tjDesignWrite (col : Nat) (d : Dev) : Dev :=
  let c := Nat.min col 5
  if d.flag RM_CONTRACT_CTRL_LOCK ∧ c ≠ d.get RM_CONTRACT_CTRL_TJ_DESIGN then d.answer .perm
  else if (failing d (d.get TG_VSAFE_MV) c (periodCheck d)).isEmpty then
    (recomputeCeil (d.set RM_CONTRACT_CTRL_TJ_DESIGN c)).answer .ok
  else (d.raise RM_CONTRACT_STATUS_PERIOD_REJ).answer .perm

/-- A write of TG_CTRL (R440, R444, R452, R5): TARGET_LO is stored as at most TARGET_HI − 8. -/
def tgCtrlWrite (v : Nat) (d : Dev) : Dev :=
  let fs := [TG_CTRL_LOCK, TG_CTRL_GOVERNED, TG_CTRL_TARGET_HI, TG_CTRL_TARGET_LO]
  let locked := d.flag TG_CTRL_LOCK
  if lockedChange d.ctl locked v fs then d.answer .perm
  else
    let d1 : Dev := { d with ctl := writeFlds d.ctl locked v fs }
    (tgRefresh (d1.set TG_CTRL_TARGET_LO (Nat.min (d1.get TG_CTRL_TARGET_LO) (d1.get TG_CTRL_TARGET_HI - 8)))).answer .ok

/-- A write of TG_THERM (R447): WARN ≤ HOT ≤ TRIP ≤ 160 °C. -/
def tgThermWrite (v : Nat) (d : Dev) : Dev :=
  let w := bitsAt v 0 9
  let h := bitsAt v 9 9
  let t := bitsAt v 18 9
  if w ≤ h ∧ h ≤ t ∧ t ≤ 224 then
    (((d.set TG_THERM_WARN w).set TG_THERM_HOT h).set TG_THERM_TRIP t).answer .ok
  else d.answer .perm

/-- A write of TG_AVS (R434): the new rate is sent before the next voltage. -/
def tgAvsWrite (rate : Nat) (d : Dev) : Dev :=
  let d1 := d.set TG_AVS_SLEW (limitTo TG_AVS_SLEW.lim (rate % 256))
  let w := AvsFrame.writeRate (d1.get TG_AVS_SLEW)
  let rest (fs : List AvsFrame) := [w] ++ fs.filter (fun f => !isRate f)
  (d1.withTg { d1.tg with rateSent := false, frames := match d1.tg.frames with
    | [] => [w]
    | f :: fs => if d1.tg.held then rest (f :: fs) else f :: rest fs }).answer .ok

/-- A write of TG_FORCE (R451, R441). -/
def tgForceWrite (en : Bool) (mv : Nat) (d : Dev) : Dev :=
  if en then
    if (armedLeads d).isEmpty ∧ tgMode d ≠ 5 ∧ 650 ≤ mv ∧ mv ≤ 900 then
      let d1 := (d.set TG_FORCE_EN 1).set TG_FORCE_MV mv
      (if tgMode d = 0 then d1 else enterForced d1).answer .ok
    else d.answer .perm
  else
    let d1 := (d.set TG_FORCE_EN 0).set TG_FORCE_MV mv
    if tgMode d = 4 then (enterSafety d1).answer .ok else d1.answer .ok

/-- A write of TG_CMD (R447, R448). -/
def tgCmdWrite (clrFault ageCheck : Bool) (d : Dev) : Dev :=
  if clrFault ∧ threshold (d.get TG_THERM_HOT) ≤ tjMax d then d.answer .perm
  else
    let d1 := if clrFault ∧ tgMode d = 5 then enterSafety d else d
    let d2 := if ageCheck ∧ d1.tg.age.isNone ∧ tgMode d1 ≠ 0 ∧ tgMode d1 ≠ 4 ∧ tgMode d1 ≠ 5 then
        let c := d1.tg.cmd.getD (vsafeEff d1)
        let d' := d1.withTg { d1.tg with age := some { back := c, ready := d1.tb + 40000000 }, eolRun := 0 }
        if c < vsafeEff d' then command (vsafeEff d') d' else d'
      else d1
    d2.answer .ok

/-- The test of an age check (R448, R449): HOLD and SAFETY go on commanding their own voltage, TRACK and EOL return to the
one before the check, within the lower bound and where a step down is allowed; EOL returns to TRACK where the check ran at
VSAFE_EFF (DEDUCED: log 61). -/
def ageTest (d : Dev) : Dev :=
  match d.tg.age with
  | none => d
  | some a =>
    let d1 := (d.advance a.ready).withTg { (d.advance a.ready).tg with age := none }
    let at' := d1.tg.cmd.getD (vsafeEff d1)
    if eolHolds d1 then eolEnter at' d1
    else
      let d2 := if tgMode d1 = 6 ∧ at' = vsafeEff d1 then d1.set TG_STATUS_MODE 3 else d1
      if tgMode d2 = 3 ∨ tgMode d2 = 6 then lowerTo a.back at' d2 else d2

/-! ### The meanings -/

/-- FLOOR_RECOMPUTE (R29, R439, R440). -/
def execFloorRecompute (s : State) : Host.Outcome State Fault Refusal := run s (fun d => noteTicks (tgRefresh (recomputeFloor d)))
/-- HOLD_EXPIRY (R442). -/
def execHoldExpiry (s : State) : Host.Outcome State Fault Refusal := run s holdExpired
/-- TJ_DESIGN_WRITE (R31). -/
def execTjDesignWrite (col : Fin 8) (s : State) : Host.Outcome State Fault Refusal := run s (tjDesignWrite col.val)
/-- AVS_LINK_START (R434). -/
def execAvsLinkStart (ends : List (Bool × Bool)) (s : State) : Host.Outcome State Fault Refusal := run s (avsLinkStart ends)
/-- AVS_FRAME_DONE (R435). -/
def execAvsFrameDone (crcOk errFlag : Bool) (value : BitVec 16) (s : State) : Host.Outcome State Fault Refusal :=
  run s (avsFrameDone crcOk errFlag value.toNat)
/-- AVS_RETRY (R435): while REG_FAULT is set, the operation that failed is tried again. -/
def execAvsRetry (s : State) : Host.Outcome State Fault Refusal := run s avsRetry
/-- REGULATOR_SETTLE_TIMEOUT (R435). -/
def execRegulatorSettleTimeout (s : State) : Host.Outcome State Fault Refusal :=
  run s (fun d => if d.tg.settled then d else d.raise TG_IRQ_CAUSE_REG_SLOW)
/-- CURRENT_READ (R434, R435): Target Rail Current is read into TG_IOUT. -/
def execCurrentRead (amps : BitVec 16) (s : State) (fails : Fin 5 := 0) : Host.Outcome State Fault Refusal :=
  run s (currentRead fails.val amps.toNat)
/-- SLEW_WRITE (R434). -/
def execSlewWrite (rate : BitVec 8) (s : State) : Host.Outcome State Fault Refusal := run s (tgAvsWrite rate.toNat)
/-- PMBUS_ALERT (R436): the input falls; an input without a pin is not asserted (R533). -/
def execPmbusAlert (s : State) : Host.Outcome State Fault Refusal :=
  run s (fun d => if alertPin d then tgBbr 2 false (d.raise TG_IRQ_CAUSE_REG_ALERT) else d)
/-- SENSOR_READ (R437, R438, R444, R447 to R449): the eight sense points, `temps` in quarter degrees C, `mons` in 1/256 ps
before their trim factors. -/
def execSensorRead (vcores : Vector (BitVec 10) 8) (temps : List (Option Int)) (mons : List (Option Nat)) (s : State) :
    Host.Outcome State Fault Refusal := run s (sensorRead (lowestSense vcores) temps mons)
/-- DECISION_INTERVAL (R443, R449). -/
def execDecisionInterval (s : State) : Host.Outcome State Fault Refusal := run s decision
/-- VSAFE_WRITE (R439). -/
def execVsafeWrite (mv : BitVec 10) (s : State) : Host.Outcome State Fault Refusal := run s (vsafeWrite mv.toNat)
/-- GOVERNED_CLEAR (R440): TG_CTRL is written back with GOVERNED clear. -/
def execGovernedClear (s : State) : Host.Outcome State Fault Refusal :=
  run s (fun d => tgCtrlWrite (wordOf d.ctl [TG_CTRL_LOCK, TG_CTRL_TARGET_HI, TG_CTRL_TARGET_LO]) d)
/-- AGE_CHECK (R448): the write of TG_CMD.AGE_CHECK, or the 24-hour timer. -/
def execAgeCheck (s : State) : Host.Outcome State Fault Refusal := run s (tgCmdWrite false true)
/-- AGE_CHECK_TEST (R448, R449). -/
def execAgeCheckTest (s : State) : Host.Outcome State Fault Refusal := run s ageTest
/-- HOUR_COUNT (R450). -/
def execHourCount (s : State) : Host.Outcome State Fault Refusal :=
  run s (fun d =>
    let d1 := d.incSat TG_LIFE_HOURS
    let d2 := if d.tg.hotHour then d1.incSat TG_LIFE_HOT_HOT_HOURS else d1
    d2.withTg { d2.tg with hotHour := false })
/-- Write the hour counts to the trim store (R450). -/
def lifeSave (d : Dev) : Dev :=
  d.withTg { d.tg with savedHours := d.get TG_LIFE_HOURS, savedHot := d.get TG_LIFE_HOT_HOT_HOURS }
/-- LIFE_SAVE (R450). -/
def execLifeSave (s : State) : Host.Outcome State Fault Refusal := run s lifeSave
/-- FORCE (R451). -/
def execForce (mv : BitVec 10) (s : State) : Host.Outcome State Fault Refusal := run s (tgForceWrite true mv.toNat)
/-- FORCE_RELEASE (R441). -/
def execForceRelease (s : State) : Host.Outcome State Fault Refusal :=
  run s (fun d => tgForceWrite false (d.get TG_FORCE_MV) d)
/-- CLR_FAULT (R447). -/
def execClrFault (s : State) : Host.Outcome State Fault Refusal := run s (tgCmdWrite true false)

end Sys2Proof.Machine
end

