-- ==== Sys2Proof/Machine/Ring.lean ====
section
/-! DEFINITION. Ring ticks (R15 to R20, R34 to R58, R76 to R82): arming and disarming, ring-done, deadlines, slips and
faults, and what a ring does at an end edge and at a start edge. -/
namespace Sys2Proof.Machine
open Sys2Proof.Machine.Reg

/-- Change ring `r`. -/
def mapRing (r : Nat) (f : Ring → Ring) (d : Dev) : Dev := d.setRing r (f (d.ring r))

/-! ### RING_SCHED (R27, R42, R46 to R48, R82, R101, R447) -/

/-- Fields of RING_SCHED but ARM. -/
def schedFlds (r : Nat) : List Fld :=
  [RING_SCHED_SLIP_LIMIT r, RING_SCHED_ACT_FIXED r, RING_SCHED_ACT_MODE r, RING_SCHED_PHASE r, RING_SCHED_DIV r]
/-- Whether the ring tick of lead `r`, or its skipped tick, ends at the next tick edge. -/
def endsNext (d : Dev) (r : Nat) : Bool :=
  (d.ring r).run != .out && (d.ring r).endCount == (d.ctl.time.count + 1) % 2 ^ 64
/-- Schedule values that wait from an earlier timebase cycle than that of the ring's end edge are in force at a write in
the cycle of that edge (R46). -/
def settleSched (r : Nat) (d : Dev) : Dev :=
  match (d.ring r).schedAt with
  | some t => if t / 4 < d.tb / 4 ∧ d.tb / 4 = d.ctl.time.nextEdge / 4 ∧ endsNext d r then syncSched r d else d
  | none => d
/-- The memory of a ring of the group, or one of its engines, is being zeroed (R101, R136). -/
def zeroing (d : Dev) (l : Nat) : Bool :=
  (d.members l).any (fun m => d.flag (RING_FAB_STATUS_MEM_BUSY m) || (engsOf m).any (fun e => d.flag (ENG_STATUS_MEM_BUSY e)))
/-- The code of a write that sets ARM, where it is not OK (R82, R101, R136, R447, R451). -/
def armCode (d : Dev) (r : Nat) : Resp :=
  let l := d.lead r
  if d.rstate r = 5 ∨ (d.members l).any (fun m => (d.ring m).closeReq != .none) then .perm
  else if tgMode d = 5 ∨ tgMode d = 4 then .perm
  else if zeroing d l then .retry
  else .ok
/-- A ring that is armed while IDLE starts from clean state (R34, R64, R124). -/
def freshStart (r : Nat) (d : Dev) : Dev :=
  let d1 := forEach (d.members r) d (fun m d => initStates m (engsArm m d))
  mapRing r (fun x => { x with first := true, restart := false })
    ((d1.set (RING_STATUS_SEQ_POS r) 0).set (RING_STATUS_CONSEC r) 0)
/-- ARM goes from 0 to 1: the check of R27, and what a passing one does in each STATE. -/
def tryArm (r : Nat) (d : Dev) : Dev :=
  if ringFits d r (d.get TG_VSAFE_MV) (d.get RM_CONTRACT_CTRL_TJ_DESIGN) (periodCheck d) (schedRegs d r) then
    let d1 := (d.set (RING_SCHED_ARM r) 1).set (RING_STATUS_BUDGET_ERR r) 0
    let d2 :=
      if (d1.ring r).disarm then mapRing r (fun x => { x with disarm := false }) d1
      else if d1.rstate r = 0 then setRState r 1 (freshStart r (syncSched r d1))
      else d1
    recomputeCeil d2
  else budgetErr r d
/-- A write of RING_SCHED (R45 to R48). That of a non-lead member is stored and ignored; its ARM is refused where the group's
would be (R82, R101, R136, R447). A write with ARM = 1 to an armed ring whose close is asked for is answered OK (log 18). -/
def schedWrite (r v : Nat) (d : Dev) : Dev :=
  if d.inspected r then d.answer .closed
  else
    let d0 := settleSched r d
    let d1 : Dev := { d0 with ctl := writeFlds d0.ctl false v (schedFlds r) }
    let on := bitAt v 31
    if d.lead r ≠ r then
      match if on then armCode d1 r else .ok with
      | .ok => (d1.set (RING_SCHED_ARM r) (b2n on)).answer .ok
      | c => (d1.set (RING_SCHED_ARM r) 0).answer c
    else
      let d2 := schedWritten r d1
      if on then
        match armCode d2 r with
        | .ok => if d2.flag (RING_SCHED_ARM r) then d2.answer .ok else (tryArm r d2).answer .ok
        | .retry => (disarm r d2).answer .retry
        | c => if d2.flag (RING_SCHED_ARM r) ∧ d2.rstate r ≠ 5 then d2.answer .ok else (d2.set (RING_SCHED_ARM r) 0).answer c
      else (disarm r d2).answer .ok
/-- RING_SCHED as it reads, with another ARM. -/
def schedWord (d : Dev) (r : Nat) (arm : Bool) : Nat := wordOf d.ctl (schedFlds r) + 2 ^ 31 * b2n arm
/-- A write of RING_ACT_SEQ (R46, R49). -/
def seqWrite (r v : Nat) (d : Dev) : Dev :=
  if d.inspected r then d.answer .closed
  else
    let d0 := settleSched r d
    let d1 : Dev := { d0 with ctl := writeFlds d0.ctl false v [RING_ACT_SEQ_LEN r, RING_ACT_SEQ_STEP r] }
    (if d.lead r ≠ r then d1 else schedWritten r d1).answer .ok
/-- A ring that no longer fits its window is disarmed (R31, R417). -/
def budgetDisarm (d : Dev) : Dev :=
  forEach (failing d (d.get TG_VSAFE_MV) (d.get RM_CONTRACT_CTRL_TJ_DESIGN) (periodNow d)) d
    (fun r d => budgetErr r (disarm r d))

/-! ### RING_CMD (R42, R44, R45, R55) -/

/-- RESTART takes effect: the ring runs from clean state. -/
def performRestart (r : Nat) (d : Dev) : Dev :=
  freshStart r (forEach (d.members r) d engsRestart)
/-- RESTART acts in FAULT only, by ARM as it stands. -/
def restartRing (r : Nat) (d : Dev) : Dev :=
  if d.rstate r ≠ 4 then d
  else if d.flag (RING_SCHED_ARM r) then setRState r 1 (mapRing r (fun x => { x with restart := true }) d)
  else setRState r 0 (performRestart r d)
/-- A write of RING_CMD. -/
def ringCmd (r : Nat) (force clr restart : Bool) (d : Dev) : Dev :=
  if d.inspected r then d.answer .closed
  else if d.lead r ≠ r then d.answer .perm
  else
    let d1 := if force then mapRing r (fun x => { x with force := true }) d else d
    let d2 := if clr then
        ((d1.set (RING_SLIP_COUNT_SLIPS r) 0).set (RING_TICK_COUNT_TICKS r) 0).set (RING_SLACK_MIN_MIN_NS r) 0xFFFFFF
      else d1
    (if restart then restartRing r d2 else d2).answer .ok

/-! ### Ring-done (R18, R76, R78, R98) -/

/-- Whether a ring's engines have all reached END. -/
def enginesDone (d : Dev) (m : Nat) : Bool := (engsOf m).all (fun e => (d.eng e).done)
/-- Whether every condition of R18 and R76 holds in ring `m`. -/
def quiet (d : Dev) (m : Nat) : Bool :=
  !tokensIn d m && !statesOpen d m && !outPending d m && enginesDone d m && (d.ring m).reqs == 0
/-- RING_QUIESCE as it reads (R98). -/
def quiesceWord (d : Dev) (m : Nat) : Nat :=
  let done := 2 ^ 31 * b2n (d.ring m).qdone
  if (d.ring (d.lead m)).run = .out then done
  else done + 2 ^ 30 * b2n (outPending d m) + 2 ^ 29 * b2n (tokensIn d m || statesOpen d m) +
    (List.range 8).foldl (fun v k => v + 2 ^ (16 + k) * b2n (!(d.eng (8 * m + k)).done)) 0 +
    Nat.min (d.ring m).reqs 0xFFFF
/-- QUIESCENCE (R76): the detector of ring `m` raises ring-done. -/
def quiescence (m : Nat) (d : Dev) : Dev :=
  if (d.ring (d.lead m)).run ≠ .out ∧ quiet d m then mapRing m (fun x => { x with qdone := true }) d else d
/-- R78: RING_QUIESCE is copied into RING_QUIESCE_DL. -/
def quiesceCopy (m : Nat) (d : Dev) : Dev :=
  let w := quiesceWord d m
  ((((d.set (RING_QUIESCE_DL_DONE m) (bitsAt w 31 1)).set (RING_QUIESCE_DL_OUT_PENDING m) (bitsAt w 30 1)).set
    (RING_QUIESCE_DL_TOKENS m) (bitsAt w 29 1)).set (RING_QUIESCE_DL_ENG_PENDING m) (bitsAt w 16 8)).set
    (RING_QUIESCE_DL_REQ_PENDING m) (bitsAt w 0 16)

/-! ### Halting a ring (R41, R47) -/

/-- A ring's work is halted: handshake state and engines' execution state are cleared, what it staged is discarded,
responses it waits for are nobody's. -/
def haltWork (m : Nat) (d : Dev) : Dev :=
  let d1 := slotsDiscard m (engsHalt m (clearWork m d))
  let d2 := forsake (fun s w => s / 16 == m && (w == .fabric || isEngine w)) d1
  let d3 := forEach (List.range 8) d2 (fun t d =>
    if (d.slot m t).reqs.isEmpty then d
    else mapSlot m t (fun x => { x with reqs := x.reqs.map (fun q => { q with who := .gone }) }) d)
  mapRing m (fun x => { x with run := .out, disarm := false, restart := false, judged := false, missed := false,
                               due := none, leaving := true }) (lapseXSeats m (lapseSeats m d3))
/-- The group of lead `r` is halted and shows STATE `st`; its safe values follow at the next edge. A ring tick or skipped
tick of it that was to end at that edge does not close on time (R442). -/
def haltGroup (r st : Nat) (d : Dev) : Dev :=
  let d1 := setRState r st (forEach (d.members r) d haltWork)
  if endsNext d r then d1.withTime { d1.ctl.time with spoil := true } else d1

/-! ### Deadlines (R19, R20, R39, R40, R43, R44, R58) -/

/-- CLOSE_NS of work that was done at TB `done` (R20). -/
def closeNs (x : Ring) (done : Nat) : Nat := (done - x.startTb + 3) / 4
/-- CLOSE_NS and LATE are recorded (R20, R52). -/
def recordClose (r done : Nat) (late : Bool) (d : Dev) : Dev :=
  (d.set (RING_CLOSE_LAST_CLOSE_NS r) (Nat.min (closeNs (d.ring r) done) 0xFFFFFF)).set (RING_CLOSE_LAST_LATE r) (b2n late)
/-- The slack of the ring tick that ends at the next edge is recorded and reported (R20, R443). -/
def recordSlack (r done : Nat) (d : Dev) : Dev :=
  let x := d.ring r
  let s := Nat.min ((d.ctl.time.nextEdge - x.tickTb) / 4 - 6 - closeNs x done) 0xFFFFFF
  let d1 := (d.set (RING_SLACK_LAST_SLACK_NS r) s).set (RING_SLACK_MIN_MIN_NS r) (Nat.min (d.get (RING_SLACK_MIN_MIN_NS r)) s)
  reportSlack r s (d.get (RING_STATUS_ACT_NOW r)) (mapRing r (fun x => { x with slackIn := true }) d1)
/-- Cause of a slip (Table 1-5); the lower precedence number is the higher code. -/
def slipCause (x : Ring) : Nat :=
  if x.force then 5 else if x.sawExt then 4 else if x.sawTemp then 3 else if x.sawVolt then 2 else if x.sawGov then 1 else 0
/-- TB of the deadline of what ends at the next edge. -/
def deadlineTb (d : Dev) : Nat := d.ctl.time.nextEdge - 24
/-- Whether the slip log takes a slip of ring `r` with `cause` whose deadline was at TB `tb` (R58). -/
def logTakes (d : Dev) (r cause tb : Nat) : Bool :=
  match d.ctl.time.logTb with
  | some t => t / 4 != tb / 4 || decide (d.get RM_SLIP_LOG2_CAUSE < cause) ||
      (d.get RM_SLIP_LOG2_CAUSE == cause && decide (r < d.get RM_SLIP_LOG2_RING))
  | none => true
/-- The slip log (R58). -/
def slipLog (r cause : Nat) (d : Dev) : Dev :=
  if logTakes d r cause (deadlineTb d) then
    let x := d.ring r
    let d1 := (d.set RM_SLIP_LOG0_TICK_LO d.ctl.time.count).set RM_SLIP_LOG1_TICK_HI (d.ctl.time.count / 2 ^ 32)
    let d2 := ((d1.set RM_SLIP_LOG2_VCORE_MV (x.vMin.getD (sensed d))).set RM_SLIP_LOG2_CAUSE cause).set RM_SLIP_LOG2_ACT
      (d.get (RING_STATUS_ACT_NOW r))
    let d3 := ((d2.set RM_SLIP_LOG2_RING r).set RM_SLIP_LOG3_TJ_MIN (x.tMin.getD (tempReg (tjMin d)))).set
      RM_SLIP_LOG3_TJ_MAX (x.tMax.getD (tempReg (tjMax d)))
    d3.withTime { d3.ctl.time with logTb := some (deadlineTb d) }
  else d
/-- ARG of a recorder entry about a slip or a fault (Table 14-8). -/
def slipArg (d : Dev) (r cause : Nat) : Nat := r + 128 * d.get (RING_STATUS_ACT_NOW r) + 1024 * cause
/-- A deadline is missed (R36, R40, R43, R44, R58, R78): the slip is counted, logged, recorded and signalled. -/
def slip (r : Nat) (d : Dev) : Dev :=
  let d0 := noteTick r d
  let c := slipCause (d0.ring r)
  let d1 := ((d0.incSat (RING_SLIP_COUNT_SLIPS r)).incSat (RING_STATUS_CONSEC r)).raise (RING_IRQ_CAUSE_SLIP r)
  let d2 := forEach (d1.members r) d1 quiesceCopy
  let d3 := slipLog r c (d2.bbr 1 1 false (slipArg d2 r c) (d2.get (RING_SLIP_COUNT_SLIPS r)))
  tgSlip (mapRing r (fun x => { x with judged := true, missed := true, force := false }) d3)
/-- The deadline of the ring tick, or skipped tick, that ends at the next edge: met or missed. A missed one ends a
pending disarm by a halt (R47), and is to fault the ring where CONSEC reaches its limit (R41). -/
def judge (r : Nat) (d : Dev) : Dev :=
  let x := d.ring r
  match x.done with
  | some t =>
    if x.force then judgeMissed r x (if x.run = .tick then recordClose r t true d else d)
    else
      let d1 := if x.run = .tick then (if x.slackIn then d else recordSlack r t d).set (RING_STATUS_CONSEC r) 0 else d
      mapRing r (fun x => { x with judged := true, missed := false }) d1
  | none => judgeMissed r x d
where
  /-- What follows a missed deadline. -/
  judgeMissed (r : Nat) (x : Ring) (d : Dev) : Dev :=
    let c := slipCause ((noteTick r d).ring r)
    let d1 := slip r d
    if x.disarm then syncSched r (haltGroup r 0 d1)
    else if x.vals.limit ≤ d1.get (RING_STATUS_CONSEC r) then mapRing r (fun x => { x with due := some c }) d1
    else d1
/-- Whether a deadline of lead `r` stands to be judged in this device tick. -/
def toJudge (d : Dev) (r : Nat) : Bool := d.lead r == r && endsNext d r && !(d.ring r).judged
/-- DEADLINE of ring `r` (R19). -/
def deadline (r : Nat) (d : Dev) : Dev := if toJudge d r then judge r (d.advance (deadlineTb d)) else d
/-- RING_FAULT (R41): a missed deadline has brought CONSEC to SLIP_LIMIT. -/
def ringFault (r : Nat) (d : Dev) : Dev :=
  match (d.ring r).due with
  | none => d
  | some c =>
    let d1 := (d.raise (RING_IRQ_CAUSE_FAULT r)).bbr 1 2 true (slipArg d r c) (d.get (RING_STATUS_CONSEC r))
    syncSched r (haltGroup r 4 d1)
/-- A ring whose ARM was cleared after its deadline had been missed is halted before the edge, as one whose ARM was cleared
before it was (R47). -/
def lateDisarm (r : Nat) (d : Dev) : Dev :=
  if d.lead r = r ∧ (d.ring r).run ≠ .out ∧ (d.ring r).missed ∧ (d.ring r).disarm then syncSched r (haltGroup r 0 d) else d
/-- RING_DONE_ACCEPT (R16, R20): ring-done of the group reaches Ringmaster `ns` nanoseconds after the start edge, or
now, where the timebase has passed that. -/
def ringDoneAccept (r ns : Nat) (d : Dev) : Dev :=
  let x := d.ring r
  if d.lead r ≠ r ∨ x.run = .out ∨ x.done.isSome ∨ !(d.members r).all (fun m => (d.ring m).qdone) then d
  else
    let d1 := d.advance (x.startTb + 4 * ns)
    let d2 := if toJudge d1 r ∧ deadlineTb d1 / 4 < d1.tb / 4 then judge r d1 else d1
    if (d2.ring r).run = .out ∨ (d2.ring r).due.isSome then d2
    else
      let y := d2.ring r
      let late := y.run == .skip || y.missed
      let d3 := recordClose r d2.tb late (d2.setRing r { y with done := some d2.tb })
      if !late ∧ endsNext d3 r ∧ !y.judged ∧ !y.force then recordSlack r d2.tb d3 else d3

/-! ### Safe values (R79, R80) -/

/-- The safe value of edge `e` of ring `m`, by 64-bit group. -/
def safeEdge (d : Dev) (m e : Nat) : Nat :=
  let modes := wordOf d.ctl [RING_SAFE_MODE_W_MODE m, RING_SAFE_MODE_S_MODE m, RING_SAFE_MODE_E_MODE m, RING_SAFE_MODE_N_MODE m]
  let const := d.get (RING_SAFE_CONST_LO_CONST_LO m) + 2 ^ 32 * d.get (RING_SAFE_CONST_HI_CONST_HI m)
  let last := (sget {} (d.ring m).edges e).last
  (List.range 4).foldl (fun v g => v + 2 ^ (64 * g) * (match bitsAt modes (8 * e + 2 * g) 2 with
    | 0 => 0 | 1 => 2 ^ 64 - 1 | 2 => bitsAt last (64 * g) 64 | _ => const)) 0
/-- Change an edge. -/
def mapEdge (m e : Nat) (f : EdgeSt → EdgeSt) (d : Dev) : Dev :=
  mapRing m (fun x => { x with edges := sset {} x.edges e (f (sget {} x.edges e)) }) d
/-- A ring drives its safe values: every edge shows SAFE. The spec gives the SENT digit of an OFF or THROUGH edge no value of
its own: SAFE while the ring drives safe values, and after that still the last one shown, as nothing is captured there
(DESIGN CHOICE, log 55). -/
def driveSafe (m : Nat) (d : Dev) : Dev :=
  let d1 := if (d.ring m).safe then d
    else (mapRing m (fun x => { x with safe := true }) d).raise (RING_FAB_IRQ_CAUSE_SAFE_ENTER m)
  let d2 := mapRing m (fun x => { x with leaving := false }) (d1.set (RING_STATUS_STALE_OUT m) 0)
  showOuts m 2 (forEach (List.range 4) d2 (fun e d => mapEdge m e (fun g => { g with drive := safeEdge d m e, status := 2 }) d))

/-! ### The end edge (R17, R38, R39, R46, R47, R71, R178, R180) -/

/-- The first device tick after `n` at which a ring with values `v` starts a ring tick (R15). -/
def nextStart (v : SchedVals) (n : Nat) : Nat :=
  let k := (v.phase % v.div + v.div - n % v.div) % v.div
  n + (if k = 0 then v.div else k)
/-- Whether a ring with values `v` starts a ring tick at device tick `n` (R15). -/
def startsAt (v : SchedVals) (n : Nat) : Bool := n % v.div == v.phase % v.div
/-- Capture: edge channels, slots, act selection. -/
def captureRing (m : Nat) (d : Dev) : Dev :=
  let d1 := forEach ((List.range 4).filter (fun e => edgeMode d m e == 1)) d (fun e d =>
    mapEdge m e (fun g => { g with last := g.reg, drive := g.reg, status := 0 }) d)
  mapRing m (fun x => { x with capLast := sset 0 x.capLast 32 ((sget {} x.caps 32).reg % 64), safe := false })
    (slotsCapture m d1)
/-- Stale outputs: the values of the last capture, marked STALE. -/
def staleRing (m : Nat) (d : Dev) : Dev :=
  let d1 := forEach ((List.range 4).filter (fun e => edgeMode d m e == 1)) d (fun e d =>
    mapEdge m e (fun g => { g with drive := g.last, status := 1 }) d)
  showOuts m 1 (mapRing m (fun x => { x with safe := false }) d1)
/-- SEQ_POS advances after a ring tick that is not skipped (R34). Above a LEN that was lowered while the ring is armed, it
names the step that runs next, and wraps after that one (DESIGN CHOICE, log 55). -/
def advanceSeq (r : Nat) (d : Dev) : Dev :=
  let v := (d.ring r).vals
  if v.mode = 1 then
    let p := d.get (RING_STATUS_SEQ_POS r)
    d.set (RING_STATUS_SEQ_POS r) (if v.len ≤ p then 0 else p + 1)
  else d
/-- STALE_OUT of lead `r` and every member (R45). -/
def setStale (r v : Nat) (d : Dev) : Dev := forEach (d.members r) d (fun m d => d.set (RING_STATUS_STALE_OUT m) v)
/-- Schedule values written before the cycle of the edge at `now` come into force (R46). -/
def syncAt (r now : Nat) (d : Dev) : Dev :=
  match (d.ring r).schedAt with
  | some t => if t / 4 < now / 4 then syncSched r d else d
  | none => d
/-- The ring tick after a missed deadline is skipped (R36 to R38): nothing is released. -/
def beginSkip (r n now : Nat) (d : Dev) : Dev :=
  let d1 := syncAt r now (setRState r 3 (forEach (d.members r) d staleRing))
  let ext := (d1.members r).any (fun m => (List.range 26).any (fun t => slotEn d1 m t && slotSt d1 m t == 3))
  noteTick r (mapRing r (fun x => { x with
    run := .skip, tickTb := now, endCount := nextStart x.vals n % 2 ^ 64, judged := false, missed := false,
    sawExt := ext, sawTemp := false, sawVolt := false, sawGov := false, vMin := none, tMin := none, tMax := none })
    (setStale r 1 d1))
/-- The end edge of an on-time ring tick, or of a skipped tick whose deadline was met. -/
def endOnTime (r now : Nat) (d : Dev) : Dev :=
  let x := d.ring r
  let d1 := advanceSeq r (setStale r 0 (forEach (d.members r) d captureRing))
  let d2 := mapRing r (fun x => { x with run := .out, judged := false }) d1
  if x.disarm then
    let d3 := forEach (d2.members r) d2 (fun m d => mapRing m (fun x => { x with leaving := true, disarm := false }) d)
    setRState r 0 (syncSched r d3)
  else
    let d3 := if x.run = .skip then d2.raise (RING_IRQ_CAUSE_REJOIN r) else d2
    syncAt r now (setRState r 1 d3)
/-- Lead `r` at tick edge `n`, at TB `now`, where its ring tick or skipped tick ends. -/
def endRing (n now r : Nat) (d : Dev) : Dev :=
  let d1 := forEach (d.members r) d (fun m d => lapseXSeats m (lapseSeats m d))
  if (d1.ring r).missed then beginSkip r n now d1 else endOnTime r now d1

/-! ### Closing and opening (R81, R82, R474, R510) -/

/-- CLOSE_REASON of a reason. -/
def closeCode : CloseWhy → Nat
  | .none => 0 | .inspection => 1 | .loading => 2 | .regionHold => 3
/-- The group of lead `r` is CLOSED: its outputs are safe. -/
def closeGroup (r : Nat) (d : Dev) : Dev :=
  let ms := d.members r
  let why := (ms.map (fun m => (d.ring m).closeReq)).foldl (fun a b => if a = .none then b else a) .none
  setRState r 5 (forEach ms d (fun m d => driveSafe m
    ((mapRing m (fun x => { x with closeReq := .none, restart := false, leaving := false }) d).set
      (RING_FAB_STATUS_CLOSE_REASON m) (closeCode why))))
/-- A close that waits: of a ring outside its ring ticks, or of any ring while no tick edges are made. -/
def closeNow (r : Nat) (d : Dev) : Dev :=
  let asked := (d.members r).any (fun m => (d.ring m).closeReq != .none)
  if asked ∧ (d.ring r).run = .out then closeGroup r d else d
/-- A close is asked for: a ring that is already CLOSED changes its reason only. With no tick edges it closes at once. -/
def askClose (why : CloseWhy) (m : Nat) (d : Dev) : Dev :=
  if d.get (RING_STATUS_STATE m) = 5 then d.set (RING_FAB_STATUS_CLOSE_REASON m) (closeCode why)
  else
    let d1 := mapRing m (fun x => { x with closeReq := why }) d
    if d1.ctl.time.running then d1
    else
      let l := d1.lead m
      let d2 := if (d1.ring l).run = .out then d1 else haltGroup l 0 d1
      closeGroup l d2
/-- CLOSED ends (R81): IDLE, or WAITING if ARM is set; the ring starts from clean state. -/
def reopen (m : Nat) (d : Dev) : Dev :=
  if d.get (RING_STATUS_STATE m) ≠ 5 then d
  else
    let d1 := d.set (RING_FAB_STATUS_CLOSE_REASON m) 0
    if d.lead m ≠ m then d1.set (RING_STATUS_STATE m) (if d.armed m then 1 else 0)
    else
      let d2 := mapRing m (fun x => { x with first := true, closeReq := .none, due := none }) (syncSched m d1)
      ((d2.set (RING_STATUS_CONSEC m) 0).set (RING_STATUS_SEQ_POS m) 0).set (RING_STATUS_STATE m) (if d.armed m then 1 else 0)

/-! ### The start edge (R15 to R17, R34, R37, R64, R71) -/

/-- The act of the next ring tick (R34). -/
def selectAct (d : Dev) (r : Nat) : Nat :=
  let v := (d.ring r).vals
  match v.mode with
  | 1 => bitsAt v.steps (3 * d.get (RING_STATUS_SEQ_POS r)) 3
  | 2 => if (d.ring r).first then v.fixed else (sget 0 (d.ring r).capLast 32) % 8
  | _ => v.fixed
/-- What edge `e` of ring `m` receives: value and status (R70, R71). -/
def edgeInput (d : Dev) (m e : Nat) : Nat × Nat :=
  match neighbour m e with
  | none => (0, 3)
  | some q => ((sget {} (d.ring q).edges (facing e)).drive, (sget {} (d.ring q).edges (facing e)).status)
/-- The edges of a ring release their 128 digits and their status digit. RCVD of a THROUGH edge, where nothing is received at
a start edge, keeps its last digit (DESIGN CHOICE, log 55). -/
def releaseEdges (m : Nat) (d : Dev) : Dev :=
  forEach ((List.range 4).filter (fun e => edgeMode d m e != 2)) d (fun e d =>
    let (v, st) := edgeInput d m e
    let d1 := mapEdge m e (fun g => { g with inVal := v, inStat := st }) d
    if (d1.ring m).cfg.droutes.isEmpty then d1
    else forEach (List.range 128) (drive m (.edgeStatus e) (Fin.ofNat 4 st) d1) (fun i d => drive m (.edge e i) (digitOf v i) d))
/-- The work of the ring tick before is cleared away, and the seats of ring `m` are booked anew. -/
def clearRing (m : Nat) (d : Dev) : Dev := refillXSeats m (refillSeats m (clearWork m d))
/-- The inputs of ring `m` are released at TB `now`: its edges, its cells, the snapshots of its slots (R16, R177). -/
def releaseInputs (now m : Nat) (d : Dev) : Dev := slotsRelease m now (releaseCells m (releaseEdges m d))
/-- Ring `m` of a group that starts a ring tick at TB `now` with act `a` (R16). -/
def releaseRing (now a m : Nat) (d : Dev) : Dev :=
  forEach (engsOf m) (releaseInputs now m d) (fun e d => engStart a e d)
/-- Lead `r` starts a ring tick at device tick `n`, at TB `now`. -/
def startTick (n now r : Nat) (d : Dev) : Dev :=
  let a := selectAct d r
  let d1 := (forEach (d.members r) d (fun m d => d.set (RING_STATUS_ACT_NOW m) a)).incWrap (RING_TICK_COUNT_TICKS r)
  let d2 := mapRing r (fun x => { x with
    run := .tick, startTb := now, tickTb := now, endCount := (n + x.vals.div) % 2 ^ 64, judged := false, missed := false,
    first := false, slackIn := false, sawExt := false, sawTemp := false, sawVolt := false, sawGov := false,
    vMin := none, tMin := none, tMax := none }) d1
  noteTick r (setRState r 2 (forEach (d2.members r) (forEach (d2.members r) d2 clearRing) (releaseRing now a)))
/-- A start edge of a ring that is not armed, or in FAULT (R413): its Turnstiles freeze their snapshots and its inputs are
released; no act is dispatched and nothing is recorded (log 55). What an earlier release left is cleared away first. -/
def idleStart (now r : Nat) (d : Dev) : Dev :=
  forEach (d.members r) (forEach (d.members r) d clearWork) (releaseInputs now)
/-- Lead `r` at a tick edge outside a ring tick: a WAITING ring starts by R15; values written earlier come into force at
the edges of its grid (R46). A CLOSED ring's inputs are not released (R81). -/
def startRing (n now r : Nat) (d : Dev) : Dev :=
  if (d.ring r).run ≠ .out ∨ d.rstate r = 5 then d
  else if d.rstate r = 1 then
    let d1 := if startsAt (d.ring r).vals n then syncAt r now d else d
    if startsAt (d1.ring r).vals n then
      startTick n now r (if (d1.ring r).restart then performRestart r d1 else d1)
    else d1
  else if startsAt (d.ring r).vals n then idleStart now r d
  else d

/-! ### The meanings -/

/-- DEADLINE (R19): of lead `r`. -/
def execDeadline (r : Fin 128) (s : State) : Host.Outcome State Fault Refusal := run s (deadline r)
/-- RING_FAULT (R41): of lead `r`. -/
def execRingFault (r : Fin 128) (s : State) : Host.Outcome State Fault Refusal := run s (ringFault r)
/-- QUIESCENCE (R76). -/
def execQuiescence (m : Fin 128) (s : State) : Host.Outcome State Fault Refusal := run s (quiescence m)
/-- RING_DONE_ACCEPT (R20). -/
def execRingDoneAccept (r : Fin 128) (ns : BitVec 32) (s : State) : Host.Outcome State Fault Refusal :=
  run s (ringDoneAccept r ns.toNat)
/-- RING_ARM (R27): RING_SCHED is written back with ARM set. -/
def execRingArm (r : Fin 128) (s : State) : Host.Outcome State Fault Refusal :=
  run s (fun d => schedWrite r (schedWord d r true) d)
/-- RING_DISARM (R47): RING_SCHED is written back with ARM clear. -/
def execRingDisarm (r : Fin 128) (s : State) : Host.Outcome State Fault Refusal :=
  run s (fun d => schedWrite r (schedWord d r false) d)
/-- RESTART (R42). -/
def execRestart (r : Fin 128) (s : State) : Host.Outcome State Fault Refusal := run s (ringCmd r false false true)
/-- FORCE_SLIP (R44). -/
def execForceSlip (r : Fin 128) (s : State) : Host.Outcome State Fault Refusal := run s (ringCmd r true false false)
/-- RING_CLR_STATS (R55). -/
def execRingClrStats (r : Fin 128) (s : State) : Host.Outcome State Fault Refusal := run s (ringCmd r false true false)

end Sys2Proof.Machine
end

