-- ==== Sys2Proof/Machine/CfgLoad.lean ====
section
/-! DEFINITION. Loading configuration (R458 to R469, R473 to R476): routes, packets, frames, records, failures. -/
namespace Sys2Proof.Machine
open Sys2Proof.Machine.Reg

/-- Change the configuration controller. -/
def mapCfg (f : CfgSt → CfgSt) (d : Dev) : Dev := { d with cfg := f d.cfg }

/-! ### Frame addresses (R464, R493) -/

/-- TYPE of a frame address. -/
def frameType (a : Nat) : Nat := bitsAt a 28 4
/-- RING of a frame address. -/
def frameRing (a : Nat) : Nat := bitsAt a 21 7
/-- MAJOR of a frame address. -/
def frameMajor (a : Nat) : Nat := bitsAt a 10 11
/-- MINOR of a frame address. -/
def frameMinor (a : Nat) : Nat := bitsAt a 0 10
/-- How many MAJORs a TYPE has for a ring, and how many MINORs each has (Table 13-4). -/
def frameShape : Nat → Nat × Nat
  | 0 => (48, 4) | 1 => (76, 4) | 2 => (32, 16) | 3 => (8, 32) | 4 => (8, 96) | 5 => (1, 12) | _ => (0, 0)
/-- A device settings frame by its TYPE and MAJOR. -/
def isDevFrame (a : Nat) : Bool := frameType a == 5 && frameMajor a == 1024
/-- MINORs of the frame's MAJOR. -/
def minorsOf (a : Nat) : Nat := if isDevFrame a then 384 else (frameShape (frameType a)).2
/-- Whether a frame address is valid (Table 13-4). -/
def frameValid (a : Nat) : Bool :=
  if isDevFrame a then frameRing a == 0 && decide (frameMinor a < 384)
  else decide (frameMajor a < (frameShape (frameType a)).1 ∧ frameMinor a < (frameShape (frameType a)).2)
/-- A frame address of its parts. -/
def frameAddr (ty r major minor : Nat) : Nat := ty * 2 ^ 28 + r * 2 ^ 21 + major * 2 ^ 10 + minor
/-- The address after `a` in a FRAMES packet (R463). -/
def nextAddr (a : Nat) : Nat :=
  if frameMinor a + 1 < minorsOf a then a + 1 else frameAddr (frameType a) (frameRing a) (frameMajor a + 1) 0
/-- The frame index of a valid frame of type 0, 1, 3 or 5 (R493). -/
def frameIndex (a : Nat) : Nat :=
  if isDevFrame a then 97792 + frameMinor a
  else 764 * frameRing a + (match frameType a with
    | 0 => 4 * frameMajor a + frameMinor a
    | 1 => 192 + 4 * frameMajor a + frameMinor a
    | 3 => 496 + 32 * frameMajor a + frameMinor a
    | _ => 752 + frameMinor a)
/-- The address of the frame with index `i` (R493). -/
def indexAddr (i : Nat) : Nat :=
  if 97792 ≤ i then frameAddr 5 0 1024 (i - 97792)
  else
    let r := i / 764
    let k := i % 764
    if k < 192 then frameAddr 0 r (k / 4) (k % 4)
    else if k < 496 then frameAddr 1 r ((k - 192) / 4) ((k - 192) % 4)
    else if k < 752 then frameAddr 3 r ((k - 496) / 32) ((k - 496) % 32)
    else frameAddr 5 r 0 (k - 752)

/-! ### Stored frames -/

/-- A cleared frame. -/
def blankFrame : List Nat := List.replicate 128 0
/-- The reference value of a frame: CRC-32C over its address and its words (R463). -/
def frameCrc (a : Nat) (ws : List Nat) : Nat := crc32c (leBytes 4 a ++ ws.flatMap (leBytes 4))
/-- Bytes as words, lowest byte first. -/
def wordsOf (n : Nat) (bs : List Byte) : List Nat := (List.range n).map (fun i => leNat ((bs.drop (4 * i)).take 4))
/-- Where a frame of type 2, 3 or 4 stands in on-chip memory. -/
def frameMem (a : Nat) : Nat :=
  match frameType a with
  | 2 => ringWordAt (frameRing a) (frameMajor a) (64 * frameMinor a)
  | 3 => bundleAt (8 * frameRing a + frameMajor a) (32 * frameMinor a)
  | _ => dataAt (8 * frameRing a + frameMajor a) (512 * frameMinor a)
/-- The words of a stored frame. -/
def storedWords (d : Dev) (a : Nat) : List Nat :=
  if frameType a = 3 then wordsOf 128 (rdBytes d.chip.cells (frameMem a) 512)
  else sget blankFrame d.cfg.frames (frameIndex a)
/-- The reference value that Carousel holds for a frame (R494, R500). -/
def frameRef (d : Dev) (a : Nat) : Nat := (sget none d.cfg.refs (frameIndex a)).getD (frameCrc a blankFrame)
/-- Stored frames of types 0 and 1 of ring `r`, by their place in the ring. -/
def fabFrames (d : Dev) (r : Nat) : List (Nat × List Nat) :=
  (d.cfg.frames.filter (fun e => decide (764 * r ≤ e.1 ∧ e.1 < 764 * r + 496))).map (fun e => (e.1 - 764 * r, e.2))
/-- The ring's logic follows its frames (R90); without any it holds none. -/
def setFabric (r : Nat) (d : Dev) : Dev :=
  let fs := fabFrames d r
  mapRing r (fun x => { x with cfg := if fs.isEmpty then {} else Config.fabricOf r fs }) d
/-- Store words in on-chip memory with fresh check bits. -/
def storeMem (a : Nat) (ws : List Nat) (d : Dev) : Dev :=
  let bs := ws.flatMap (leBytes 4)
  { d with chip := { cells := wrBytes d.chip.cells a bs, flaws := zeroFlaws d.chip.flaws a bs.length } }
/-- The reference of a frame is the CRC word it carried (R500). -/
def setRef (i crc : Nat) (d : Dev) : Dev :=
  mapCfg (fun c => { c with refs := sset none c.refs i (some crc), rflaws := sdel c.rflaws i }) d
/-- Write a frame that has passed its checks (R463, R494, R500). -/
def writeFrame (a : Nat) (ws : List Nat) (crc : Nat) (d : Dev) : Dev :=
  match frameType a with
  | 2 => storeMem (frameMem a) ws d
  | 4 => storeMem (frameMem a) ws d
  | 3 => setRef (frameIndex a) crc (storeMem (frameMem a) ws d)
  | _ =>
    let i := frameIndex a
    let d1 := setRef i crc (mapCfg (fun c => { c with
      frames := sset blankFrame c.frames i ws, fflaws := zeroFlaws c.fflaws (64 * i) 64 }) d)
    if frameType a = 5 then d1 else setFabric (frameRing a) d1
/-- Take away the entries of a store from `a` up to `a + n - 1`. -/
def dropRange {α : Type} (m : Store α) (a n : Nat) : Store α := m.filter (fun e => !(decide (a ≤ e.1 ∧ e.1 < a + n)))
/-- Clear the frames of types 0, 1 and 3 of a ring (R470, Table 14-3), references with them (R500). -/
def clearFrames (r : Nat) (d : Dev) : Dev :=
  let i := 764 * r
  let d1 := mapCfg (fun c => { c with
    frames := dropRange c.frames i 752, fflaws := dropRange c.fflaws (64 * i) (64 * 752),
    refs := dropRange c.refs i 752, rflaws := dropRange c.rflaws i 752 }) (d.chipZero (bundleAt (8 * r) 0) 0x20000)
  forEach (engsOf r) ((setFabric r d1).set (RING_CFG_ID_DESIGN_ID r) 0) mirrorHeader
/-- Clear the settings shadow: records, and the type 5 frames that Carousel sweeps. -/
def clearShadow (d : Dev) : Dev :=
  let gone (i : Nat) : Bool := decide (97792 ≤ i ∨ 752 ≤ i % 764)
  mapCfg (fun c => { c with
    shadow := [], frames := c.frames.filter (fun e => !gone e.1), fflaws := c.fflaws.filter (fun e => !gone (e.1 / 64)),
    refs := c.refs.filter (fun e => !gone e.1), rflaws := c.rflaws.filter (fun e => !gone e.1) }) d

/-! ### Routes (R458 to R461) -/

/-- Data pins of the port's mode (Table 13-1). -/
def portWidth (d : Dev) : Nat :=
  match d.get CFG_STATUS_MODE with | 0 => 1 | 1 => 4 | 2 => 8 | 3 => 16 | 4 => 32 | _ => 0
/-- CFG_CLK and CFG_CE_N have their pins (R538, Table 15-4). -/
def portPins (d : Dev) : Bool := pinGives d 1 32 && pinGives d 1 33
/-- A load runs by the host window: the port is held off by CFG_BUSY (R473). -/
def windowLoad (d : Dev) : Bool := match d.cfg.load with | some l => l.window | none => false
/-- A load runs by the port. -/
def portLoad (d : Dev) : Bool := match d.cfg.load with | some l => !l.window | none => false
/-- The bits of one transfer, most significant first; a data pin that is not on CFG reads 0 (R459, Table 15-4). -/
def transferBits (d : Dev) (w v : Nat) : List Bool :=
  (List.range w).reverse.map (fun i => bitAt v i && pinGives d 1 i)
/-- The port takes the bits on its data pins at the edges of CFG_CLK given by `data` (R459). -/
def portTake (data : List Word) (d : Dev) : Dev :=
  if portPins d ∧ !windowLoad d then
    let bits := data.flatMap (fun v => transferBits d (portWidth d) v.toNat)
    mapCfg (fun c => { c with port := c.port ++ bits }) d
  else d
/-- The number that bits spell, most significant first. -/
def bitsNat (bs : List Bool) : Nat := bs.foldl (fun v b => 2 * v + b2n b) 0
/-- Whole words of a bit stream (R459). -/
def streamOf (bs : List Bool) : List Nat := (List.range (bs.length / 32)).map (fun i => bitsNat ((bs.drop (32 * i)).take 32))
/-- The words that a route has taken and no packet has used. -/
def streamWords (d : Dev) (window : Bool) : List Nat :=
  if window then d.cfg.win.map (·.toNat) else streamOf d.cfg.port
/-- `n` words of a route are used. -/
def dropWords (window : Bool) (n : Nat) (d : Dev) : Dev :=
  mapCfg (fun c => if window then { c with win := c.win.drop n } else { c with port := c.port.drop (32 * n) }) d
/-- Whether a route has found its sync word. -/
def synced (d : Dev) (window : Bool) : Bool := if window then d.cfg.syncW else d.cfg.syncP
/-- Note whether a route has found its sync word. -/
def setSync (window on : Bool) (d : Dev) : Dev :=
  mapCfg (fun c => if window then { c with syncW := on } else { c with syncP := on }) d
/-- The sync word (R461). -/
def syncWord : Nat := 0x5A3C96E1
/-- What follows the first sync word in a bit stream: serial modes look at every bit position, parallel modes at whole
transfers (R459). -/
def afterSync (step : Nat) : Nat → List Bool → Option (List Bool)
  | 0, _ => none
  | n + 1, bs =>
    if bs.length < 32 then none
    else if bitsNat (bs.take 32) = syncWord then some (bs.drop 32)
    else afterSync step n (bs.drop step)
/-- SYNC_WORD (R461, R471): after INIT_N has read high for 1 us. -/
def syncWordFind (window : Bool) (data : List Word) (d : Dev) : Dev :=
  let d1 := if window then d else portTake data d
  if synced d1 window ∨ (if window then windowLoad d1 else portLoad d1) then d1
  else if !d1.flag CFG_STATUS_INIT_PIN then
    mapCfg (fun c => if window then { c with win := [] } else { c with port := [] }) d1
  else
    let d2 := d1.advance (d1.cfg.initAt + 4000)
    let ready := if d2.get CFG_STATUS_STATE = 1 then d2.set CFG_STATUS_STATE 2 else d2
    if window then
      match d2.cfg.win.dropWhile (fun w => w.toNat != syncWord) with
      | _ :: rest => setSync true true (mapCfg (fun c => { c with win := rest }) ready)
      | [] => d1
    else
      let step := if portWidth d2 ≤ 4 then 1 else portWidth d2
      match afterSync step d2.cfg.port.length d2.cfg.port with
      | some rest => setSync false true (mapCfg (fun c => { c with port := rest }) ready)
      | none => d1

/-! ### Failures (R471, R473, R475, R486) -/

/-- CFG_ERR, CFG_ERR_FADDR, LOAD_ERR and the recorder entry of a failure; without a frame concerned the address stands. -/
def recordErr (code : Nat) (part : Bool) (faddr : Option Nat) (resp rec : Nat) (d : Dev) : Dev :=
  let d1 := ((((d.set CFG_ERR_VALID 1).set CFG_ERR_CODE code).set CFG_ERR_RESP resp).set CFG_ERR_RECORD rec).raise
    CFG_IRQ_CAUSE_LOAD_ERR
  let d2 := match faddr with | some a => d1.set CFG_ERR_FADDR_FADDR a | none => d1
  d2.bbr 8 1 (!part) (code + 32 * b2n part) (d2.get CFG_ERR_FADDR_FADDR)
/-- A full load has failed: FAILED, INIT_N driven low (R471). -/
def failFull (d : Dev) : Dev := (d.set CFG_STATUS_STATE 5).set CFG_STATUS_INIT_PIN 0
/-- A load ends at its HEADER with `code`; refusals of R473 are no failures. -/
def headerFail (window part : Bool) (code : Nat) (d : Dev) : Dev :=
  let d1 := recordErr code part none 0 0 (setSync window false d)
  if part ∨ code = 6 ∨ code = 7 ∨ code = 8 ∨ code = 15 then d1 else failFull d1
/-- Rings of a mask. -/
def maskRings (mask : Nat) : List Nat := (List.range 128).filter (fun r => bitAt mask r)
/-- The running load fails with `code` (R471, R475). -/
def loadFail (code : Nat) (faddr : Option Nat) (resp rec : Nat) (d : Dev) : Dev :=
  match d.cfg.load with
  | none => d
  | some l =>
    let d1 := recordErr code l.part faddr resp rec
      (mapCfg (fun c => { c with load := none, endAt := none }) (d.set CFG_STATUS_BUSY 0))
    if l.part then forEach (maskRings l.mask) (d1.set CFG_STATUS_STATE 4) (askClose .regionHold) else failFull d1
/-- A write of CFG_CMD (R476): an abort that meets completion finds the load complete (R467). -/
def cfgCmdWrite (abort : Bool) (d : Dev) : Dev :=
  (if !abort then d
   else match d.cfg.load, d.cfg.endAt with
     | some _, _ => loadFail 14 none 0 0 d
     | none, some t => if t / 40 = d.tb / 40 then d.set CFG_STATUS_ABORT_LATE 1 else d
     | none, none => d).answer .ok

/-! ### HEADER (R462, R469, R473, R474) -/

/-- The code that refuses a HEADER of body words `h`, 0 where it is accepted: the checks of R462, of R469, of R473. -/
def headerCode (d : Dev) (window : Bool) (h : List Nat) : Nat :=
  let w (i : Nat) : Nat := h.getD i 0
  let part := bitAt (w 2) 0
  let enc := bitAt (w 2) 1
  let mask := w 3 + 2 ^ 32 * w 4 + 2 ^ 64 * w 5 + 2 ^ 96 * w 6
  let rings := maskRings mask
  if w 0 ≠ 0x1B4C20F5 then 2
  else if bitsAt (w 2) 8 8 ≠ 2 ∨ bitsAt (w 2) 2 6 ≠ 0 ∨ bitsAt (w 2) 16 16 ≠ 0 ∨ w 7 ≠ 0 ∨ (part ∧ mask = 0) then 1
  else if enc ∧ !d.flag CFG_KEY_STATUS_PROGRAMMED then 10
  else if !enc ∧ (d.flag CFG_KEY_STATUS_REQ_ENC_FUSE ∨ d.flag CFG_CTRL_REQUIRE_ENC) then 11
  else if part ∧ !d.flag CFG_STATUS_FULL_DONE then 7
  else if part ∧ rings.any (fun r => (d.members (d.lead r)).any (fun m => !bitAt mask m)) then 6
  else if part ∧ (d.cfg.load.isSome ∨ rings.any (fun r => d.inspected r)) then 8
  else if (part ∧ !window ∧ !d.flag CFG_STATUS_RELEASED) ∨ (!part ∧ window) then 15
  else 0
/-- A HEADER is accepted; a partial load disarms and closes the rings of its mask (R474). -/
def acceptHeader (window : Bool) (h : List Nat) (d : Dev) : Dev :=
  let w (i : Nat) : Nat := h.getD i 0
  let part := bitAt (w 2) 0
  let enc := bitAt (w 2) 1
  let mask := w 3 + 2 ^ 32 * w 4 + 2 ^ 64 * w 5 + 2 ^ 96 * w 6
  let l : LoadSt := { window := window, part := part, enc := enc, design := w 1, mask := if part then mask else 2 ^ 128 - 1,
                      aad := (0x10000008 :: h).flatMap (leBytes 4) }
  let d1 := setSync window false (mapCfg (fun c => { c with load := some l, endAt := none }) d)
  let d2 := (((d1.set CFG_STATUS_STATE 3).set CFG_STATUS_BUSY 1).set CFG_STATUS_ABORT_LATE 0).set CFG_FRAMES_FRAMES 0
  let d3 := (d2.set CFG_STATUS_ENC_LAST (b2n enc)).set CFG_STATUS_PARTIAL_LAST (b2n part)
  if part then
    let d4 := forEach (List.range 4) d3 (fun i d => d.set (CFG_MASK_MASK i) (w (3 + i)))
    forEach (maskRings mask) (forEach (maskRings mask) d4 disarm) (askClose .loading)
  else d3
/-- HEADER_PACKET (R461, R462): the first packet after the sync word of a route. -/
def headerPacket (window : Bool) (data : List Word) (d : Dev) : Dev :=
  let d1 := if window then d else portTake data d
  if !synced d1 window ∨ (!window ∧ windowLoad d1) then d1
  else
    match streamWords d1 window with
    | [] => d1
    | w0 :: ws =>
      if w0 ≠ 0x10000008 then headerFail window window 1 (dropWords window 1 d1)
      else if ws.length < 8 then d1
      else
        let h := ws.take 8
        let d2 := dropWords window 9 d1
        match headerCode d2 window h with
        | 0 => acceptHeader window h d2
        | c => headerFail window (bitAt (h.getD 2 0) 0) c d2

/-! ### Settings records (R465) -/

/-- Whether an offset lies in one of some windows (base, extent). -/
def within (a : Nat) (ws : List (Nat × Nat)) : Bool := ws.any (fun w => decide (w.1 ≤ a ∧ a < w.1 + w.2))
/-- Whether a record of frame `f` may name offset `a`. -/
def inScope (f a : Nat) : Bool :=
  if isDevFrame f then !within a [(0x00300000, 0x100000), (0x00460000, 0x10000)]
  else
    let r := frameRing f
    within a [(ringBase r, 0x10000), (engBase (8 * r), 0x8000), (0x00810000 + 64 * r, 64), (0x00830000 + 16 * r, 16),
      (0x01420000 + 128 * r, 128)]
/-- The records of a type 5 frame in order, and the index of the first that fails its check. -/
def recordsOf (f : Nat) (ws : List Nat) : Option Nat × List CfgRec :=
  let recs := (List.range 64).filterMap (fun i =>
    let a := ws.getD (2 * i) 0
    if bitAt a 31 then some (bitsAt a 27 4 != 0, ({ faddr := f, idx := i, addr := bitsAt a 0 27, val := ws.getD (2 * i + 1) 0 } : CfgRec))
    else none)
  let bad := recs.find? (fun p => p.1 || p.2.addr % 4 != 0 || !inScope f p.2.addr)
  (bad.map (fun p => p.2.idx), (recs.takeWhile (fun p => !(p.1 || p.2.addr % 4 != 0 || !inScope f p.2.addr))).map (·.2))

/-! ### Frames (R463, R474) -/

/-- Change the running load. -/
def mapLoad (f : LoadSt → LoadSt) (d : Dev) : Dev := mapCfg (fun c => { c with load := c.load.map f }) d
/-- The frame in hand, its 128 words and its CRC word: written, or the load fails; none where its ring is not CLOSED
yet, and the stream is held back. -/
def oneFrame (l : LoadSt) (ws : List Nat) (crc : Nat) (d : Dev) : Option Dev :=
  let a := l.next
  if !frameValid a then some (loadFail 4 (some a) 0 0 d)
  else if l.part ∧ (isDevFrame a ∨ !bitAt l.mask (frameRing a)) then some (loadFail 5 (some a) 0 0 d)
  else if frameCrc a ws ≠ crc then some (loadFail 3 (some a) 0 0 d)
  else if l.part ∧ d.get (RING_STATUS_STATE (frameRing a)) ≠ 5 then none
  else
    let d1 := (writeFrame a ws crc d).incWrap CFG_FRAMES_FRAMES
    let d2 := mapLoad (fun x => { x with next := nextAddr a, left := x.left - 1 }) d1
    if frameType a = 5 then
      match recordsOf a ws with
      | (some i, _) => some (loadFail 13 (some a) 0 i d2)
      | (none, rs) => some (mapLoad (fun x => { x with recs := x.recs ++ rs }) d2)
    else some d2
/-- What stands at the head of a load's stream (R461): nothing whole yet, a packet that may not stand there, NOP words to
pass over, the start of a FRAMES packet, an ENC packet of COUNT words, END. -/
inductive Head where
  | waits | bad | nop (n : Nat) | frames (start n : Nat) | enc (count : Nat) | fin
  deriving DecidableEq, Repr
/-- The head of a stream under load `l`; `inside` an ENC packet, or outside one. -/
def headOf (l : LoadSt) (inside : Bool) (ws : List Nat) : Head :=
  match ws with
  | [] => .waits
  | w :: rest =>
    let n := bitsAt w 0 28
    let clear := inside || !l.enc
    match bitsAt w 28 4 with
    | 0 => if !clear then .bad else if rest.length < n then .waits else .nop (n + 1)
    | 2 => if !clear ∨ n < 130 ∨ n % 129 ≠ 1 then .bad else match rest with | a :: _ => .frames a (n / 129) | [] => .waits
    | 3 => if inside ∨ n ≠ 2 ∨ (l.enc ∧ !l.encIn) then .bad else if rest.length < 2 then .waits else .fin
    | 4 => if inside ∨ !l.enc ∨ l.encIn ∨ n < 7 then .bad else if rest.length < n then .waits else .enc n
    | _ => .bad
/-- NOP packets at the head of a route are passed over. -/
def skipNops (l : LoadSt) : Nat → Dev → Dev
  | 0, d => d
  | n + 1, d =>
    match headOf l false (streamWords d l.window) with
    | .nop k => skipNops l n (dropWords l.window k d)
    | _ => d
/-- The load that runs, with NOP packets at its head passed over and what stands there then. -/
def loadHead (data : List Word) (d : Dev) : Option (LoadSt × Head × Dev) :=
  let d1 := if portLoad d then portTake data d else d
  match d1.cfg.load with
  | none => none
  | some l =>
    if l.left ≠ 0 then some (l, .waits, d1)
    else
      let d2 := skipNops l (streamWords d1 l.window).length d1
      some (l, headOf l false (streamWords d2 l.window), d2)
/-- The next 129 words of the FRAMES packet in hand. -/
def takeFrame129 (d : Dev) : Dev :=
  match d.cfg.load with
  | none => d
  | some l =>
    let ws := streamWords d l.window
    if l.left = 0 ∨ ws.length < 129 then d
    else match oneFrame l (ws.take 128) (ws.getD 128 0) (dropWords l.window 129 d) with
      | some d1 => d1
      | none => d
/-- CFG_FRAME (R463): the next frame of the load that runs. -/
def cfgFrame (data : List Word) (d : Dev) : Dev :=
  match loadHead data d with
  | none => d
  | some (_, .bad, d1) => loadFail 1 none 0 0 d1
  | some (l, .frames a n, d1) => takeFrame129 (mapLoad (fun x => { x with next := a, left := n }) (dropWords l.window 2 d1))
  | some (l, .waits, d1) => if l.left ≠ 0 then takeFrame129 d1 else d1
  | some (_, _, d1) => d1

/-! ### ENC (R468) -/

/-- The packets in an ENC packet, decrypted, run as they stand; `n` bounds their number. -/
def runPlain : Nat → List Nat → Dev → Dev
  | 0, _, d => d
  | n + 1, ws, d =>
    match d.cfg.load with
    | none => d
    | some l =>
      if l.left ≠ 0 then
        if ws.length < 129 then loadFail 1 none 0 0 d
        else runPlain n (ws.drop 129) ((oneFrame l (ws.take 128) (ws.getD 128 0) d).getD d)
      else match ws, headOf l true ws with
        | [], _ => d
        | _, .nop k => runPlain n (ws.drop k) d
        | _, .frames a k => runPlain n (ws.drop 2) (mapLoad (fun x => { x with next := a, left := k }) d)
        | _, _ => loadFail 1 none 0 0 d
/-- ENC_PACKET (R468): frames are written as they are decrypted; a wrong tag fails the load. -/
def encPacket (data : List Word) (d : Dev) : Dev :=
  match loadHead data d with
  | some (_, .bad, d1) => loadFail 1 none 0 0 d1
  | some (l, .enc n, d1) =>
    if l.part ∧ (maskRings l.mask).any (fun r => d1.get (RING_STATUS_STATE r) != 5) then d1
    else
      let ws := ((streamWords d1 l.window).drop 1).take n
      let iv := ((ws.take 3).flatMap (leBytes 4)).map (·.toNat)
      let cipher := ((ws.drop 3).take (n - 7)).flatMap (leBytes 4)
      let tag := beNat (((ws.drop (n - 4)).flatMap (leBytes 4)).map (·.toNat))
      let key := d1.cfg.fuseKey
      let d2 := mapLoad (fun x => { x with encIn := true }) (dropWords l.window (n + 1) d1)
      let d3 := runPlain (n + 1) (wordsOf (n - 7) (gcmPlain key iv cipher)) d2
      if d3.cfg.load.isSome ∧ gcmTag key iv (l.aad.map (·.toNat)) (cipher.map (·.toNat)) ≠ tag then
        loadFail 9 none 0 0 (secAlarm 4 0 0 d3)
      else d3
  | some (_, _, d1) => d1
  | none => d

/-! ### The host window (R460, R473) -/

/-- HOST_WINDOW_WRITE: one word is appended to the host stream; while a port load runs it is discarded. -/
def windowWrite (v : Word) (d : Dev) : Dev :=
  if portLoad d then d.answer .retry else (mapCfg (fun c => { c with win := c.win ++ [v] }) d).answer .ok

/-! ### Key fuses (R469, R489) -/

/-- A write of CFG_FUSE_CMD. -/
def fuseCmdWrite (unlock : Nat) (req key : Bool) (d : Dev) : Dev :=
  if unlock ≠ 0xF05E ∨ (key ∧ d.flag CFG_KEY_STATUS_PROGRAMMED) then d.answer .perm
  else if d.flag CFG_KEY_STATUS_FUSE_BUSY then d.answer .retry
  else if !key ∧ !req then d.answer .ok
  else ((mapCfg (fun c => { c with burning := some (key, req) }) d).set CFG_KEY_STATUS_FUSE_BUSY 1).answer .ok
/-- The key in CFG_FUSE_DATA (R489). -/
def fuseData (d : Dev) : List Byte := (List.range 8).flatMap (fun i => leBytes 4 (d.get (CFG_FUSE_DATA_KEY i)))
/-- The key check value: the first two bytes of the zero block under the key (R469). -/
def kcvOf (key : List Byte) : Nat := beNat ((aesBlock (aesSchedule (keyNats key)) (List.replicate 16 0)).take 2)
/-- BURN_DONE: the fuses are burned and the data registers zeroed. -/
def burnDone (d : Dev) : Dev :=
  match d.cfg.burning with
  | none => d
  | some (key, req) =>
    let k := fuseData d
    let d1 := if key then
        ((mapCfg (fun c => { c with fuseKey := k }) d).set CFG_KEY_STATUS_PROGRAMMED 1).set CFG_KEY_STATUS_KCV (kcvOf k)
      else d
    let d2 := if req then d1.set CFG_KEY_STATUS_REQ_ENC_FUSE 1 else d1
    let d3 := forEach (List.range 8) d2 (fun i d => d.set (CFG_FUSE_DATA_KEY i) 0)
    (mapCfg (fun c => { c with burning := none }) d3).set CFG_KEY_STATUS_FUSE_BUSY 0

/-! ### The meanings -/

/-- SYNC_WORD (R461). -/
def execSyncWord (window : Bool) (data : List Word) (s : State) : Host.Outcome State Fault Refusal :=
  run s (syncWordFind window data)
/-- HEADER_PACKET (R462). -/
def execHeaderPacket (window : Bool) (data : List Word) (s : State) : Host.Outcome State Fault Refusal :=
  run s (headerPacket window data)
/-- CFG_FRAME (R463). -/
def execCfgFrame (data : List Word) (s : State) : Host.Outcome State Fault Refusal := run s (cfgFrame data)
/-- ENC_PACKET (R468). -/
def execEncPacket (data : List Word) (s : State) : Host.Outcome State Fault Refusal := run s (encPacket data)
/-- HOST_WINDOW_WRITE (R460). -/
def execHostWindowWrite (v : Word) (s : State) : Host.Outcome State Fault Refusal := run s (windowWrite v)
/-- CFG_ABORT (R476). -/
def execCfgAbort (s : State) : Host.Outcome State Fault Refusal := run s (cfgCmdWrite true)
/-- BURN_KEY (R489): with UNLOCK as given. -/
def execBurnKey (unlock : BitVec 16) (s : State) : Host.Outcome State Fault Refusal :=
  run s (fuseCmdWrite unlock.toNat false true)
/-- BURN_REQ_ENC (R489). -/
def execBurnReqEnc (unlock : BitVec 16) (s : State) : Host.Outcome State Fault Refusal :=
  run s (fuseCmdWrite unlock.toNat true false)
/-- BURN_DONE (R489). -/
def execBurnDone (s : State) : Host.Outcome State Fault Refusal := run s burnDone

end Sys2Proof.Machine
end

