-- ==== Sys2Proof/Machine/Carousel.lean ====
section
/-! DEFINITION. Carousel (R493 to R505, R523, R524): one frame check, repair, passes, the votes that protect it. -/
namespace Sys2Proof.Machine
open Sys2Proof.Machine.Reg

/-- Change Carousel. -/
def mapCar (f : CarSt → CarSt) (d : Dev) : Dev := { d with car := f d.car }
/-- A pass runs. -/
def carRunning (d : Dev) : Bool := d.get CAR_STATUS_STATE == 1 || d.get CAR_STATUS_STATE == 2
/-- A full load runs. -/
def fullLoad (d : Dev) : Bool := match d.cfg.load with | some l => !l.part | none => false
/-- Carousel may make passes (R504). -/
def carMay (d : Dev) : Bool := d.flag CFG_STATUS_FULL_DONE && !fullLoad d
/-- A pass starts from frame 0 in STATE `st`. -/
def carStart (st : Nat) (d : Dev) : Dev :=
  let d1 := (((d.set CAR_STATUS_STATE st).set CAR_POS_INDEX 0).set CAR_STATUS_SKIPPED 0).set CAR_STATUS_ABORT_LATE 0
  mapCar (fun c => { c with counter := 0, at' := d.tb, dirty := false, skipped := 0 }) d1
/-- The first pass after a full load or a replay (R504); HALTED lasts. -/
def carFirst (d : Dev) : Dev :=
  if d.get CAR_STATUS_STATE = 4 then d else carStart 1 (mapCar (fun c => { c with endAt := none, restarts := 0 }) d)
/-- The next pass, where one may run. -/
def carGo (d : Dev) : Dev :=
  if carMay d then carStart 2 (mapCar (fun c => { c with restarts := 0 }) d)
  else if d.get CAR_STATUS_STATE = 4 then d.set CAR_STATUS_STATE 0
  else d
/-- Carousel stops where it stands, its pass not completed (R470, R504). -/
def carStop (d : Dev) : Dev :=
  if d.get CAR_STATUS_STATE = 4 then d else mapCar (fun c => { c with endAt := none }) (d.set CAR_STATUS_STATE 0)
/-- The pass restarts from frame 0 (R502, R503). -/
def carRestart (d : Dev) : Dev :=
  let d1 := (((d.bbr 9 2 false 0 (d.get CAR_POS_INDEX)).incSat CAR_SEQ_RESTARTS).raise CAR_IRQ_CAUSE_RESTART).set CAR_POS_INDEX 0
  mapCar (fun c => { c with counter := 0, dirty := true, skipped := 0, restarts := c.restarts + 1 }) (d1.set CAR_STATUS_SKIPPED 0)
/-- CAROUSEL_HALT (R503): after four restarts with no completed pass between them. -/
def carHalt (d : Dev) : Dev :=
  if carRunning d ∧ 4 ≤ d.car.restarts then
    ((d.set CAR_STATUS_STATE 4).raise CAR_IRQ_CAUSE_HALTED).bbr 9 3 true
  else d

/-! ### One frame check (R496 to R501) -/

/-- Error states of a stored frame's words: of its 32 bundles for type 3, of its 64-bit words otherwise (R494). -/
def frameFlaws (d : Dev) (a : Nat) : List Flaw :=
  if frameType a = 3 then (List.range 32).map (fun i => d.chipFlaw (frameMem a + 16 * i))
  else (List.range 64).map (fun j => sget Flaw.none d.cfg.fflaws (64 * frameIndex a + j))
/-- Corrected words are written back: their error states clear. -/
def frameRepair (a : Nat) (d : Dev) : Dev :=
  if frameType a = 3 then { d with chip := { d.chip with flaws := zeroFlaws d.chip.flaws (frameMem a) 512 } }
  else mapCfg (fun c => { c with fflaws := zeroFlaws c.fflaws (64 * frameIndex a) 64 }) d
/-- The kind of UE that a frame check finds, 0 for none (Table 14-1). -/
def frameUe (d : Dev) (a : Nat) : Nat :=
  if (frameFlaws d a).contains .double then 1
  else if sget Flaw.none d.cfg.rflaws (frameIndex a) = .double then 3
  else if frameCrc a (storedWords d a) ≠ frameRef d a then 2
  else 0
/-- Carousel passes over a frame of a ring that is being loaded or is under RING_FULL self-test (R501). -/
def carSkips (d : Dev) (a : Nat) : Bool :=
  !isDevFrame a && d.get (RING_STATUS_STATE (frameRing a)) == 5 &&
    (d.get (RING_FAB_STATUS_CLOSE_REASON (frameRing a)) == 2 ||
     (d.inspected (frameRing a) && (match d.bist.run with | some b => b.kind == 1 | none => false)))
/-- A frame is found UE (R497); a ring that runs with it is halted where UE_ACTION says FAULT. -/
def carUe (a kind : Nat) (d : Dev) : Dev :=
  let r := frameRing a
  let d1 := ((d.incSat CAR_COUNT_UE).set CAR_LAST_UE_FADDR a).set CAR_STATUS_LAST_UE_KIND kind
  let d2 := if isDevFrame a then d1.set CAR_STATUS_SHADOW_BAD 1 else d1.setBit (CAR_BAD_RINGS (r / 32)) (r % 32)
  let d3 := mapCar (fun c => { c with dirty := true }) ((d2.raise CAR_IRQ_CAUSE_UE).bbr 9 1 true kind a)
  let st := d3.rstate r
  if frameType a ≠ 5 ∧ d3.flag CAR_CTRL_UE_ACTION ∧ (st = 1 ∨ st = 2 ∨ st = 3) then
    let l := d3.lead r
    syncSched l (haltGroup l 4 (d3.raise (RING_IRQ_CAUSE_FAULT l)))
  else d3
/-- The frame with address `a` is checked. -/
def checkFrame (a : Nat) (d : Dev) : Dev :=
  if carSkips d a then
    let n := d.car.skipped + 1
    (mapCar (fun c => { c with skipped := n }) d).set CAR_STATUS_SKIPPED (Nat.min (n / 64) 255)
  else match frameUe d a with
    | 0 =>
      let n := (frameFlaws d a).countP (· == .single)
      if n = 0 then d else frameRepair a ((d.addSat CAR_COUNT_CE n).raise CAR_IRQ_CAUSE_CE)
    | k => carUe a k d
/-- A pass completes (R499, R505); with EN the next follows without a gap. -/
def passEnd (d : Dev) : Dev :=
  let clean := !d.car.dirty && (List.range 4).all (fun i => d.get (CAR_BAD_RINGS i) == 0) && !d.flag CAR_STATUS_SHADOW_BAD
  let d1 := ((d.incWrap CAR_STATUS_PASSES).set CAR_STATUS_LAST_CLEAN (b2n clean)).raise CAR_IRQ_CAUSE_PASS_DONE
  let d2 := mapCar (fun c => { c with restarts := 0, endAt := some d.tb }) d1
  if d2.flag CAR_CTRL_EN then carStart 2 d2 else d2.set CAR_STATUS_STATE 3
/-- CAROUSEL_FRAME_CHECK (R495, R496, R503): 400 ns after the last. -/
def carouselFrameCheck (d : Dev) : Dev :=
  if !carRunning d ∨ !carMay d ∨ xStopped d xCarousel then d
  else if 4 ≤ d.car.restarts then carHalt d
  else
    let d0 := d.advance (d.car.at' + 1600)
    let d1 := mapCar (fun c => { c with at' := d0.tb }) d0
    let i := d1.get CAR_POS_INDEX
    if d1.car.counter ≠ i then carRestart d1
    else
      let d2 := checkFrame (indexAddr i) d1
      if i = 98175 then passEnd d2 else mapCar (fun c => { c with counter := i + 1 }) (d2.set CAR_POS_INDEX (i + 1))

/-! ### Votes (R502) -/

/-- The value that two of three copies agree on. -/
def majority (x : Nat × Nat × Nat) : Option Nat :=
  if x.1 = x.2.1 ∨ x.1 = x.2.2 then some x.1 else if x.2.1 = x.2.2 then some x.2.1 else none
/-- Give the fields of a register the bits of a word. -/
def putWord (fs : List Fld) (v : Nat) (d : Dev) : Dev := fs.foldl (fun d f => d.set f (bitsAt v f.lo f.w)) d
/-- One register's copies are voted. -/
def voteOne (e : Nat × Nat × Nat × Nat) (d : Dev) : Dev :=
  match majority e.2 with
  | some v => (putWord (configAt e.1) v d).addSat CAR_SEQ_TMR ([e.2.1, e.2.2.1, e.2.2.2].countP (· != v))
  | none =>
    let d1 := d.resetFlds (configAt e.1)
    if carRunning d then carRestart (if carRunning d1 then d1 else d1.set CAR_STATUS_STATE 2) else d1
/-- CAROUSEL_VOTE (R502): copies that disagree are rewritten. -/
def carVote (d : Dev) : Dev := mapCar (fun c => { c with copies := [] }) (forEach d.car.copies d voteOne)

/-! ### Commands (R505, R523) -/

/-- A write of CAR_CTRL: EN runs passes and leaves HALTED. -/
def carCtrlWrite (v : Nat) (d : Dev) : Dev :=
  let d1 : Dev := { d with ctl := writeFlds d.ctl false v [CAR_CTRL_EN, CAR_CTRL_UE_ACTION] }
  (if d1.flag CAR_CTRL_EN ∧ !carRunning d1 then carGo d1 else d1).answer .ok
/-- ABORT stops the running pass and clears EN; one that meets or follows completion finds the pass complete (R9). -/
def carAbort (d : Dev) : Dev :=
  let late : Bool := match d.car.endAt with
    | some t => if carRunning d then t / 40 == d.tb / 40 else true
    | none => false
  let d1 := d.set CAR_CTRL_EN 0
  if late then (if carRunning d1 then d1.set CAR_STATUS_STATE 3 else d1).set CAR_STATUS_ABORT_LATE 1
  else if carRunning d1 then mapCar (fun c => { c with endAt := none }) (d1.set CAR_STATUS_STATE 3)
  else d1
/-- A write of CAR_CMD: CLR_STATS, ABORT and PASS act in this order. -/
def carCmdWrite (clr abort pass : Bool) (d : Dev) : Dev :=
  let d1 := if clr then d.resetFlds [CAR_COUNT_UE, CAR_COUNT_CE, CAR_SEQ_TMR, CAR_SEQ_RESTARTS] else d
  let d2 := if abort then carAbort d1 else d1
  (if pass ∧ !carRunning d2 then carGo d2 else d2).answer .ok

/-! ### The meanings -/

/-- CAROUSEL_FRAME_CHECK (R496). -/
def execCarouselFrameCheck (s : State) : Host.Outcome State Fault Refusal := run s carouselFrameCheck
/-- CAROUSEL_HALT (R503). -/
def execCarouselHalt (s : State) : Host.Outcome State Fault Refusal := run s carHalt
/-- CAROUSEL_VOTE (R502). -/
def execCarouselVote (s : State) : Host.Outcome State Fault Refusal := run s carVote
/-- CAROUSEL_ENABLE (R505): CAR_CTRL is written with EN set. -/
def execCarouselEnable (ueFault : Bool) (s : State) : Host.Outcome State Fault Refusal :=
  run s (carCtrlWrite (2 ^ 31 + 2 ^ 30 * b2n ueFault))
/-- CAR_PASS (R505). -/
def execCarPass (s : State) : Host.Outcome State Fault Refusal := run s (carCmdWrite false false true)
/-- CAR_ABORT (R505). -/
def execCarAbort (s : State) : Host.Outcome State Fault Refusal := run s (carCmdWrite false true false)
/-- CAR_CLR_STATS (R523). -/
def execCarClrStats (s : State) : Host.Outcome State Fault Refusal := run s (carCmdWrite true false false)

end Sys2Proof.Machine
end

