-- ==== Sys2Proof/Machine/Master.lean ====
section
/-! DEFINITION. Ringmaster's time (R400 to R412, R424 to R431): discipline, time of day, the tick generator's commands,
the PPS output. -/
namespace Sys2Proof.Machine
open Sys2Proof.Machine.Reg

/-- Change Ringmaster's time. -/
def mapTime (f : TimeSt → TimeSt) (d : Dev) : Dev := d.withTime (f d.ctl.time)
/-- DISC (Table 11-1): 0 FREE, 1 ACQUIRING, 2 LOCKED, 3 HOLDOVER, 4 CASCADE. -/
def disc (d : Dev) : Nat := d.get RM_STATUS_DISC
/-- A second in quarter nanoseconds. -/
def second : Nat := 4000000000

/-! ### The correction (R400, R405) -/

/-- The correction applied at TB `tb`, ppb: it moves toward the target by at most 1,000 ppb per ms. -/
def corrAt (t : TimeSt) (tb : Nat) : Rat :=
  let reach : Rat := (1000 * (tb - t.corrTb) : Nat) / 4000000
  clampRat (t.corr0 - reach) (t.corr0 + reach) t.target
/-- The correction moves from where it is now toward `target`. -/
def steer (target : Rat) (d : Dev) : Dev :=
  mapTime (fun t => { t with corr0 := corrAt t t.tb, corrTb := t.tb, target := target }) d
/-- The correction keeps its present value. -/
def holdCorr (d : Dev) : Dev := steer (corrAt d.ctl.time d.tb) d
/-- RM_FREQ as it reads: the applied correction in whole ppb. -/
def freqWord (d : Dev) : Nat := wrap 32 (wholeOf (corrAt d.ctl.time d.tb))

/-! ### Commands of the tick generator (R31, R409 to R411) -/

/-- Whether the device sends tick markers (R414). -/
def sendsMarkers (d : Dev) : Bool := d.flag ICL_STATUS_MASTER && d.flag ICL_CFG_EN && d.flag RM_CTRL_RUN
/-- Period in 1/65,536 ns. -/
def periodUnits (d : Dev) : Nat := d.get RM_PERIOD_NOW_NS * 65536 + d.get RM_PERIOD_NOW_FRAC_FRAC
/-- ACC as the next edge finds it. -/
def accNext (d : Dev) : Nat := if d.ctl.time.accRst then 0 else d.get RM_PERIOD_NOW_FRAC_ACC
/-- How many edges after the next one the first edge at or after TB `tb` is. -/
def edgesUntil (d : Dev) (tb : Nat) : Nat :=
  if tb ≤ d.ctl.time.nextEdge then 0
  else
    let ns := (tb - d.ctl.time.nextEdge + 3) / 4
    (65536 * ns - accNext d + periodUnits d - 1) / periodUnits d
/-- How many edges after the next one the last edge at or before TB `tb` is; none where that is the latest edge. -/
def edgesBefore (d : Dev) (tb : Nat) : Option Nat :=
  if tb < d.ctl.time.nextEdge then none
  else some ((65536 * ((tb - d.ctl.time.nextEdge) / 4 + 1) - 1 - accNext d) / periodUnits d)
/-- RM_CMD_EFFECT. -/
def setEffect (n : Nat) (d : Dev) : Dev :=
  (d.set RM_CMD_EFFECT_LO_EFFECT_LO n).set RM_CMD_EFFECT_HI_EFFECT_HI (n / 2 ^ 32)
/-- A command has completed, or was withdrawn (R411). -/
def cmdEnds (code : Resp) (d : Dev) : Dev :=
  let d1 := (((d.set RM_CMD_STAT_BUSY 0).set RM_CMD_STAT_RESULT code.code).set RM_STATUS_PEND 0).raise RM_IRQ_CAUSE_CMD_DONE
  mapTime (fun t => { t with pend := none, cmdDone := code == .ok }) d1
/-- A command waits for its effect edge `n`. -/
def cmdPends (p : RmPending) (n : Nat) (d : Dev) : Dev :=
  let d1 := (((setEffect n d).set RM_CMD_STAT_BUSY 1).set RM_CMD_STAT_RESULT 0).set RM_STATUS_PEND 1
  mapTime (fun t => { t with pend := some p, cmdDone := false }) d1
/-- The tick offset of a route of `h` links (R383). -/
def tickOffset (hop ns h : Nat) : Nat := Nat.max 1 ((h * hop + ns - 1) / ns)
/-- The period in force changes (R28, R31, R383). -/
def setPeriod (ns frac : Nat) (d : Dev) : Dev :=
  recomputeCeil (((d.set RM_PERIOD_NOW_NS ns).set RM_PERIOD_NOW_FRAC_FRAC frac).set ICL_STATUS_K (tickOffset (d.get ICL_CFG_HOP_NS) ns 1))
/-- The earliest TB of an effect edge (R409, R410). -/
def soonest (d : Dev) : Nat := d.tb + (if sendsMarkers d then 400000 else 8000)
/-- A command that is refused: RESULT keeps its code. -/
def cmdRefused (d : Dev) : Dev :=
  (mapTime (fun t => { t with cmdDone := false }) (d.set RM_CMD_STAT_RESULT Resp.perm.code)).answer .perm

/-- APPLY_PERIOD (R31, R409, R420). -/
def applyPeriod (d : Dev) : Dev :=
  let d0 := d.set RM_CMD_STAT_ABORT_LATE 0
  let ns := d.get RM_PERIOD_NEXT_NS
  let frac := d.get RM_PERIOD_NEXT_FRAC_FRAC
  if disc d = 4 then cmdRefused d0
  else if !(failing d (d.get TG_VSAFE_MV) (d.get RM_CONTRACT_CTRL_TJ_DESIGN) ns).isEmpty then
    cmdRefused (d0.raise RM_CONTRACT_STATUS_PERIOD_REJ)
  else if !d.flag RM_CTRL_RUN then
    (cmdEnds .ok (setEffect d.ctl.time.count (setPeriod ns frac d0))).answer .ok
  else
    let n := (d.ctl.time.count + 1 + edgesUntil d (soonest d)) % 2 ^ 64
    (cmdPends (.period ns frac n true) n d0).answer .ok

/-- The first TB from `tb` on, a whole timebase cycle, at which the time of day has PHASE_NS after a whole second. -/
def alignTb (d : Dev) (tb : Nat) : Nat :=
  let want : Int := (4 * d.get RM_PHASE_PHASE_NS : Nat)
  let gap := ((want - ((tb : Int) + d.ctl.time.todOff)) % (second : Int)).toNat
  (tb + gap + 3) / 4 * 4
/-- ALIGN is issued: the edge at *T*, one second later where the tick that would end there has already ended (R410). -/
def issueAlign (d : Dev) : Dev :=
  let p := 4 * d.get RM_PERIOD_NOW_NS
  let t0 := alignTb d (soonest d)
  let at' := if t0 < d.ctl.time.lastEdge + p then t0 + second else t0
  match edgesBefore d (at' - p) with
  | none =>
    let n := (d.ctl.time.count + 1) % 2 ^ 64
    mapTime (fun t => { t with nextEdge := at' }) (cmdPends (.align at' n true) n d)
  | some m =>
    let n := (d.ctl.time.count + 2 + m) % 2 ^ 64
    cmdPends (.align at' n true) n d
/-- A write of ALIGN (R409, R410, R420). -/
def alignCmd (d : Dev) : Dev :=
  let d0 := d.set RM_CMD_STAT_ABORT_LATE 0
  if !d.flag RM_CTRL_RUN ∨ disc d = 4 then cmdRefused d0 else (issueAlign d0).answer .ok
/-- The next edge falls where the tick in progress has it by the period, after a stretched tick is withdrawn. -/
def unstretch (d : Dev) : Dev :=
  match d.ctl.time.pend with
  | some (.align at' _ _) =>
    if d.ctl.time.nextEdge = at' then
      let t := d.ctl.time
      let own := t.lastEdge + 4 * (d.get RM_PERIOD_NOW_NS + (if d.get RM_PERIOD_NOW_FRAC_ACC < d.get RM_PERIOD_NOW_FRAC_FRAC ∧ !t.accRst then 1 else 0))
      mapTime (fun t => { t with nextEdge := Nat.max own ((t.tb + 3) / 4 * 4) }) d
    else d
  | _ => d
/-- Whether the pending command's effect edge falls in the present cycle of the timebase (R9). -/
def effectNow (t : TimeSt) : Bool :=
  let due (e : Nat) : Bool := e == (t.count + 1) % 2 ^ 64 && decide (t.nextEdge / 4 ≤ t.tb / 4)
  match t.pend with
  | some (.period _ _ e _) => due e
  | some (.align _ e _) => due e
  | none => false
/-- CANCEL (R9, R411): one in the cycle of the effect edge finds the command complete. -/
def cancelCmd (d : Dev) : Dev :=
  if d.flag RM_CMD_STAT_BUSY ∧ effectNow d.ctl.time then (d.set RM_CMD_STAT_ABORT_LATE 1).answer .ok
  else if d.ctl.time.pend.isSome ∧ d.flag RM_CMD_STAT_BUSY then (cmdEnds .aborted (unstretch d)).answer .ok
  else if d.ctl.time.cmdDone then (d.set RM_CMD_STAT_ABORT_LATE 1).answer .ok
  else d.answer .ok
/-- A write of RM_CMD (R411, R427). -/
def rmCmdWrite (op : Nat) (d : Dev) : Dev :=
  if op = 3 then cancelCmd d
  else if d.flag RM_CMD_STAT_BUSY then d.answer .retry
  else if op = 1 then applyPeriod d
  else if op = 2 then alignCmd d
  else d.answer .ok

/-! ### Discipline (R403 to R406) -/

/-- DISC changes: LOCK_CHG, HOLDOVER on entry to it, where the correction holds, and ALIGN at each entry to LOCKED with
AUTO_ALIGN (R410). -/
def setDisc (st : Nat) (d : Dev) : Dev :=
  if disc d = st then d
  else
    let d1 := mapTime (fun t => { t with goodRun := 0 }) ((d.set RM_STATUS_DISC st).raise RM_IRQ_CAUSE_LOCK_CHG)
    let d2 := if st = 3 then holdCorr (d1.raise RM_IRQ_CAUSE_HOLDOVER) else d1
    if st = 2 ∧ d2.flag RM_CTRL_AUTO_ALIGN ∧ d2.flag RM_CTRL_RUN ∧ !d2.flag RM_CMD_STAT_BUSY then
      issueAlign (d2.set RM_CMD_STAT_ABORT_LATE 0) else d2
/-- One step of the servo on offset `e` (ns); the quotient of two samples at one instant is a free value (log 2). -/
def servo (e : Rat) (d : Dev) : Dev :=
  let t := d.ctl.time
  let dt := t.tb - t.lastSample.getD 0
  let q : Rat := if dt = 0 then (signed 32 (d.freeVal 32) : Int) else e * (second : Nat) / (dt : Nat)
  let integ := clampRat (-150000) 150000 (t.integ - q / (2 ^ d.get RM_DISC_KI_SHIFT : Nat))
  let raw := integ - q / (2 ^ d.get RM_DISC_KP_SHIFT : Nat)
  let target := clampRat (-150000) 150000 raw
  let d0 := if dt = 0 then d.bump else d
  let d1 := steer target (mapTime (fun t => { t with integ := integ }) d0)
  if raw = target then d1.set RM_STATUS_BIG_OFS 0 else (d1.set RM_STATUS_BIG_OFS 1).raise RM_IRQ_CAUSE_BIG_OFS
/-- A sample of offset `e`, in quarter nanoseconds (R403, R405): the first one ever steps the time of day, every later
one slews. -/
def sample (e : Int) (d : Dev) : Dev :=
  let d0 := d.set RM_OFS_LAST_OFS (wrap 32 (clampInt (-(2 ^ 31 : Nat)) (2 ^ 31 - 1 : Nat) e))
  let d1 := if d0.flag RM_STATUS_HISTORY then servo ((e : Rat) / 4) d0
    else mapTime (fun t => { t with todOff := t.todOff - e, ppsSec := none }) (d0.set RM_STATUS_HISTORY 1)
  let d2 := mapTime (fun t => { t with lastSample := some t.tb }) d1
  let d3 := if disc d2 = 0 ∨ disc d2 = 3 then setDisc 1 d2 else d2
  let good := decide (e ≤ (4 * d.get RM_DISC_LOCK_THR : Nat) ∧ -((4 * d.get RM_DISC_LOCK_THR : Nat) : Int) ≤ e)
  let n := if good then d3.ctl.time.goodRun + 1 else 0
  if disc d3 = 1 ∧ 16 ≤ n then setDisc 2 d3 else mapTime (fun t => { t with goodRun := n }) d3
/-- A write of RM_OFS_SAMPLE: a sample while SRC is PTP and no marker is followed; otherwise ignored (R403, R417, R430). -/
def ofsWrite (v : Nat) (d : Dev) : Dev :=
  if d.get RM_DISC_SRC = 1 ∧ disc d ≠ 4 then (sample (signed 32 v) d).answer .ok else d.answer .ok
/-- PPS_IN_EDGE (R404) at TB `at'`: an edge of the other polarity is none. An offset of half a second has two nearest
seconds; which is taken is a free value (log 2). -/
def ppsIn (falling : Bool) (at' : Nat) (d : Dev) : Dev :=
  if falling != d.flag RM_DISC_PPS_POL then d
  else
    let d1 := d.advance (d.ownTb at')
    let stamp : Int := d1.tod - signed 16 (d1.get RM_PPS_ADJ_IN_ADJ)
    let frac := (stamp % (second : Int)).toNat
    let early := decide (frac < second / 2) || (frac == second / 2 && d1.freeVal 1 == 0)
    let e : Int := if early then (frac : Int) else (frac : Int) - (second : Nat)
    let d2 := (d1.set RM_PPS_IN_NS_NS (frac / 4)).set RM_PPS_IN_NS_QNS (frac % 4)
    let d3 := if frac = second / 2 then d2.bump else d2
    let soon : Bool := match d3.ctl.time.lastPps with | some t => decide (d3.tb - t < second / 2) | none => false
    if soon ∨ (disc d3 = 2 ∧ (400000 < e ∨ e < -400000)) then
      (d3.incSat RM_PPS_IN_STAT_REJECTS).raise RM_IRQ_CAUSE_PPS_REJECT
    else
      let d4 := mapTime (fun t => { t with lastPps := some t.tb }) (d3.incWrap RM_PPS_IN_STAT_ACCEPTS)
      if d4.get RM_DISC_SRC = 2 ∧ disc d4 ≠ 4 then sample e d4 else d4
/-- DISC_TIMEOUT (R403): HOLD_TO × 100 ms have passed since the last sample. -/
def discTimeout (d : Dev) : Dev :=
  if disc d = 1 ∨ disc d = 2 then
    setDisc 3 (d.advance (d.ctl.time.lastSample.getD 0 + d.get RM_DISC_HOLD_TO * 400000000))
  else d
/-- A write of RM_DISC (R406): SRC = NONE moves DISC to FREE and holds the correction; a device that follows markers
keeps CASCADE (R417). -/
def discWrite (v : Nat) (d : Dev) : Dev :=
  let fs := [RM_DISC_SRC, RM_DISC_PPS_POL, RM_DISC_HOLD_TO, RM_DISC_KI_SHIFT, RM_DISC_KP_SHIFT, RM_DISC_LOCK_THR]
  let d1 : Dev := { d with ctl := writeFlds d.ctl false v fs }
  (if d1.get RM_DISC_SRC = 0 ∧ disc d1 ≠ 4 then setDisc 0 (holdCorr d1) else d1).answer .ok
/-- A write of RM_TIME_SET_NS (R406, R428): the three values are applied at once, while SRC is NONE. -/
def timeSet (v : Nat) (d : Dev) : Dev :=
  if d.get RM_DISC_SRC ≠ 0 then d.answer .perm
  else
    let d1 := (d.set RM_TIME_SET_NS_NS (v / 4)).set RM_TIME_SET_NS_QNS v
    let sec := d1.get RM_TIME_SET_SEC_LO_SEC_LO + 2 ^ 32 * d1.get RM_TIME_SET_SEC_HI_SEC_HI
    let now : Nat := sec * second + v % 2 ^ 32
    (mapTime (fun t => { t with todOff := (now : Int) - t.tb, ppsSec := none }) d1).answer .ok
/-- Seconds, nanoseconds and quarter nanoseconds of the time of day. -/
def todSec (d : Dev) : Nat := (d.tod / (second : Int) % (2 ^ 48 : Nat)).toNat
/-- Nanoseconds and quarters within the second, as RM_TIME_NS holds them. -/
def todQns (d : Dev) : Nat := (d.tod % (second : Int)).toNat

/-! ### The tick generator (R400, R408, R409) -/

/-- The first edge after RUN comes ⌊*P*⌋ cycles after the cycle in which the write is accepted (R408). -/
def startTicks (d : Dev) : Dev :=
  let t0 := (d.tb + 3) / 4 * 4
  (mapTime (fun t => { t with running := true, lastEdge := t0, nextEdge := t0 + 4 * d.get RM_PERIOD_NOW_NS, accRst := true }) d).set
    RM_STATUS_RUNNING 1
/-- RUN is cleared: a pending period takes effect, a pending ALIGN is withdrawn (R409); ring ticks in progress are halted
and what waits for the next edge to close closes (log 29). -/
def stopTicks (d : Dev) : Dev :=
  let d1 := match d.ctl.time.pend with
    | some (.period ns frac _ true) => cmdEnds .ok (setEffect d.ctl.time.count (setPeriod ns frac d))
    | some (.align _ _ true) => cmdEnds .aborted d
    | _ => mapTime (fun t => { t with pend := none }) (d.set RM_STATUS_PEND 0)
  let d2 := (mapTime (fun t => { t with running := false, rephase := none, join := none, fixNext := none, accRst := false }) d1).set
    RM_STATUS_RUNNING 0
  let d3 := forEach ((List.range 128).filter (fun r => (d2.ring r).run != .out)) d2 (fun r d => haltGroup r 0 d)
  forEach (d3.leads) d3 closeNow
/-- A write of RM_CTRL (R400, R408, R424). -/
def rmCtrlWrite (v : Nat) (d : Dev) : Dev :=
  let on := bitAt v 31
  let d1 : Dev := { d with ctl := writeFlds d.ctl false v [RM_CTRL_AUTO_ALIGN, RM_CTRL_TICK_IRQ_DIV] }
  if on then
    if d.flag RM_CTRL_RUN then d1.answer .ok
    else if !d.flag RM_STATUS_PLL_LOCK then d1.answer .retry
    else (startTicks (d1.set RM_CTRL_RUN 1)).answer .ok
  else if d.flag RM_CTRL_RUN then
    if !(armedLeads d).isEmpty ∨ d.flag RM_CONTRACT_CTRL_CASC_ALLOW then d.answer .perm
    else (stopTicks (d1.set RM_CTRL_RUN 0)).answer .ok
  else d1.answer .ok
/-- RM_CTRL as it reads, with another RUN. -/
def ctrlWord (d : Dev) (on : Bool) : Nat := wordOf d.ctl [RM_CTRL_AUTO_ALIGN, RM_CTRL_TICK_IRQ_DIV] + 2 ^ 31 * b2n on
/-- A write of RM_TICK_SET_LO (R408). -/
def tickSet (lo : Nat) (d : Dev) : Dev :=
  if d.flag RM_CTRL_RUN then d.answer .perm
  else
    let n := d.get RM_TICK_SET_HI_SET_HI * 2 ^ 32 + lo % 2 ^ 32
    (mapTime (fun t => { t with count := n }) (d.set RM_TICK_SET_LO_SET_LO lo)).answer .ok
/-- PLL_LOCK (R400). -/
def pllLock (d : Dev) : Dev := if d.ctl.time.refLost then d else d.set RM_STATUS_PLL_LOCK 1
/-- PPS_OUT_PULSE (R412): at the next whole second of the time of day, earlier by OUT_ADJ. -/
def ppsOut (d : Dev) : Dev :=
  let adj := signed 16 (d.get RM_PPS_ADJ_OUT_ADJ)
  let s0 : Int := (d.tod + adj + (second : Nat) - 1) / (second : Int)
  let s := match d.ctl.time.ppsSec with | some k => if s0 ≤ k then k + 1 else s0 | none => s0
  let d1 := d.advance (s * (second : Nat) - adj - d.ctl.time.todOff).toNat
  let d2 := mapTime (fun t => { t with ppsSec := some s }) d1
  if d.flag RM_PPS_OUT_EN ∧ (d.flag RM_PPS_OUT_ALWAYS ∨ 2 ≤ disc d) then d2.emit (.ppsOut (d.flag RM_PPS_OUT_POL) (d.get RM_PPS_OUT_WIDTH) s.toNat)
  else d2

/-! ### The meanings -/

/-- PLL_LOCK (R400). -/
def execPllLock (s : State) : Host.Outcome State Fault Refusal := run s pllLock
/-- PTP_SAMPLE (R405): a write of RM_OFS_SAMPLE, signed quarter nanoseconds. -/
def execPtpSample (ofs : Word) (s : State) : Host.Outcome State Fault Refusal := run s (ofsWrite ofs.toNat)
/-- PPS_IN_EDGE (R404): at TB `tb`, in quarter nanoseconds. An input without a pin has no edges (R533). -/
def execPpsInEdge (falling : Bool) (tb : BitVec 64) (s : State) : Host.Outcome State Fault Refusal :=
  run s (fun d => if ppsPin d then ppsIn falling tb.toNat d else d)
/-- DISC_TIMEOUT (R403). -/
def execDiscTimeout (s : State) : Host.Outcome State Fault Refusal := run s discTimeout
/-- TIME_SET (R406): a write of RM_TIME_SET_NS. -/
def execTimeSet (v : Word) (s : State) : Host.Outcome State Fault Refusal := run s (timeSet v.toNat)
/-- SRC_WRITE (R406): a write of RM_DISC. -/
def execSrcWrite (v : Word) (s : State) : Host.Outcome State Fault Refusal := run s (discWrite v.toNat)
/-- RUN_SET (R408): RM_CTRL is written back with RUN set. -/
def execRunSet (s : State) : Host.Outcome State Fault Refusal := run s (fun d => rmCtrlWrite (ctrlWord d true) d)
/-- RUN_CLEAR (R409): RM_CTRL is written back with RUN clear. -/
def execRunClear (s : State) : Host.Outcome State Fault Refusal := run s (fun d => rmCtrlWrite (ctrlWord d false) d)
/-- TICK_SET (R408): a write of RM_TICK_SET_LO. -/
def execTickSet (lo : Word) (s : State) : Host.Outcome State Fault Refusal := run s (tickSet lo.toNat)
/-- APPLY_PERIOD (R409). -/
def execApplyPeriod (s : State) : Host.Outcome State Fault Refusal := run s (rmCmdWrite 1)
/-- ALIGN (R410). -/
def execAlign (s : State) : Host.Outcome State Fault Refusal := run s (rmCmdWrite 2)
/-- CANCEL (R411). -/
def execCancel (s : State) : Host.Outcome State Fault Refusal := run s (rmCmdWrite 3)
/-- PPS_OUT_PULSE (R412). -/
def execPpsOutPulse (s : State) : Host.Outcome State Fault Refusal := run s ppsOut

end Sys2Proof.Machine
end

