-- ==== Sys2Proof/Machine/Net.lean ====
section
/-! DEFINITION. Ethernet ports and swingboats (R331 to R365): received frames are classified and pushed, packets are
popped, stamped and sent; sample streams are compressed, sent, received and released at their tick edges. -/
namespace Sys2Proof.Machine
open Sys2Proof.Machine.Reg

/-! ### Ports (R331 to R336) -/

/-- Lanes of a port mode, by MODE (Table 9-1). -/
def modeLanes : Nat → Option Nat
  | 0 => some 8 | 1 => some 4 | 2 => some 8 | 3 => some 2 | 4 => some 4 | 5 => some 8 | 6 => some 1 | 7 => some 2
  | 8 => some 4 | 9 => some 1 | 10 => some 2 | 11 => some 4 | 12 => some 1 | 13 => some 1 | _ => none
/-- Gb/s of a port mode (Table 9-1). -/
def modeRate : Nat → Nat
  | 0 => 1600 | 1 => 800 | 2 => 800 | 3 => 400 | 4 => 400 | 5 => 400 | 6 => 200 | 7 => 200 | 8 => 200
  | 9 => 100 | 10 => 100 | 11 => 100 | 12 => 50 | _ => 25
/-- MODE of a port. -/
def portMode (d : Dev) (p : Nat) : Nat := d.get (EP_CFG_MODE p)
/-- Adapters of a port (Table 9-1, R334). -/
def portAdapters (d : Dev) (p : Nat) : Nat := match modeLanes (portMode d p) with | some n => (n + 1) / 2 | none => 1
/-- Adapter `i` of a port (R334). -/
def adapterOf (p i : Nat) : Nat := 4 * (p / 8) + p % 8 / 2 + i
/-- Whether a port is UP. -/
def portUp (d : Dev) (p : Nat) : Bool := d.get (EP_STATUS_STATE p) == 2
/-- Whether the octet of a port or of swingboat `s` (octet *s* / 2) is closed for inspection (R356). -/
def octetClosed (d : Dev) (o : Nat) : Bool := d.get (EP_STATUS_STATE (8 * o)) == 4
/-- Port `p`. -/
def Dev.port (d : Dev) (p : Nat) : PortSt := sget {} d.net.ports p
/-- Change a port. -/
def mapPort (p : Nat) (f : PortSt → PortSt) (d : Dev) : Dev :=
  { d with net := { d.net with ports := sset {} d.net.ports p (f (d.port p)) } }
/-- Swingboat `s`. -/
def Dev.boat (d : Dev) (s : Nat) : BoatSt := sget {} d.net.boats s
/-- Change a swingboat. -/
def mapBoat (s : Nat) (f : BoatSt → BoatSt) (d : Dev) : Dev :=
  { d with net := { d.net with boats := sset {} d.net.boats s (f (d.boat s)) } }

/-- Whether R333 refuses to enable port `p` in `mode`. -/
def enableRefused (d : Dev) (p mode : Nat) : Bool :=
  match modeLanes mode with
  | none => true
  | some n => p % 8 % n != 0 || (List.range 48).any (fun q => q != p && d.flag (EP_CFG_EN q) &&
      (match modeLanes (portMode d q) with | some m => decide (q < p + n ∧ p < q + m) | none => false))
/-- LINK_UP changes (R336). -/
def setLink (p : Nat) (up : Bool) (d : Dev) : Dev :=
  if d.flag (EP_STATUS_LINK_UP p) = up then d
  else (d.set (EP_STATUS_LINK_UP p) (b2n up)).raise (EP_IRQ_CAUSE_LINK_CHG p)
/-- SB_TX_BAD counts (R346, R352). -/
def txBad (s n : Nat) (d : Dev) : Dev := if n = 0 then d else (d.addSat (SB_TX_BAD_EVENTS s) n).raise (SB_IRQ_CAUSE_TX_BAD s)
/-- The frame in transmission has ended: it counts as sent; pauses whose time has passed are over (R345). -/
def netSettle (p : Nat) (d : Dev) : Dev :=
  let d1 := match (d.port p).tx with
    | some t => if t ≤ d.tb then mapPort p (fun x => { x with tx := none }) (d.incSat (EP_TX_FRAMES_FRAMES p)) else d
    | none => d
  let d2 := mapPort p (fun x => { x with pause := x.pause.filter (fun e => decide (d.tb < e.2)) }) d1
  d2.set (EP_STATUS_PAUSED p) (b2n (!(d2.port p).pause.isEmpty))
/-- The link of a port is lost: the frame in transmission is cut off, swingboat frames are discarded (R346). -/
def dropLink (p : Nat) (d : Dev) : Dev :=
  let d1 := netSettle p d
  let d2 := if (d1.port p).tx.isSome then d1.incSat (EP_TX_LOST_FRAMES p) else d1
  let d3 := forEach (d2.port p).boatq d2 (fun f d => txBad f.boat 1 d)
  let d4 := mapPort p (fun x => { x with tx := none, boatq := [] }) d3
  setLink p false (((d4.set (EP_STATUS_FEC_LOCK p) 0).set (EP_STATUS_AN_DONE p) 0).set (EP_STATUS_TRAIN_DONE p) 0)
/-- Fields of EP_CFG. -/
def epCfgFlds (p : Nat) : List Fld :=
  [EP_CFG_EN p, EP_CFG_MODE p, EP_CFG_KEEP_FCS p, EP_CFG_META p, EP_CFG_PRIO_SRC p, EP_CFG_DEF_PRIO p, EP_CFG_PTP_PRIO_EN p,
   EP_CFG_PTP_PRIO p, EP_CFG_PFC_TX p, EP_CFG_PFC_RX p, EP_CFG_MAX_FRAME p]
/-- A write of EP_CFG (R333): TRAINING on an enable, OFF on a disable. -/
def epCfgWrite (p v : Nat) (d : Dev) : Dev :=
  let on := bitAt v 31
  let was := d.flag (EP_CFG_EN p)
  let d1 : Dev := { d with ctl := writeFlds d.ctl false v (epCfgFlds p) }
  if octetClosed d (p / 8) then d.answer .closed
  else if was ∧ bitsAt v 27 4 ≠ portMode d p then d.answer .perm
  else if on ∧ !was then
    if enableRefused d p (bitsAt v 27 4) then
      ((d.raise (EP_STATUS_CFG_ERR p)).raise (EP_IRQ_CAUSE_CFG_ERR p)).answer .perm
    else (d1.set (EP_STATUS_STATE p) 1).answer .ok
  else if was ∧ !on then ((dropLink p d1).set (EP_STATUS_STATE p) 0).answer .ok
  else d1.answer .ok
/-- EP_CFG as it reads. -/
def epCfgWord (d : Dev) (p : Nat) : Nat := wordOf d.ctl (epCfgFlds p)
/-- ETH_LINK_UP (R336): lock, and FEC lock where the mode has FEC; negotiation and training are done where selected. -/
def ethUp (p : Nat) (d : Dev) : Dev :=
  if d.get (EP_STATUS_STATE p) = 1 then
    let fec := portMode d p ≠ 11 ∧ portMode d p ≠ 13
    let an := d.get (EP_AN_AN p)
    setLink p true ((((d.set (EP_STATUS_STATE p) 2).set (EP_STATUS_FEC_LOCK p) (b2n fec)).set (EP_STATUS_AN_DONE p) an).set
      (EP_STATUS_TRAIN_DONE p) an)
  else d
/-- ETH_LINK_DOWN (R336): the port loses its lock and enters DOWN, from which it returns to TRAINING by itself, within the
step that the row makes indivisible (DEDUCED; log 16). A received frame that is cut off reaches its queue as the bad frame
it is. -/
def ethDown (p : Nat) (d : Dev) : Dev :=
  if portUp d p then (dropLink p d).set (EP_STATUS_STATE p) 1 else d

/-! ### What a frame is (R335, R337; log 14) -/

/-- VLAN tags in front of the EtherType, at most two. -/
def vlanTags (bs : List Byte) : Nat :=
  let tag (o : Nat) : Bool := netNat (bytesAt bs o 2) == 0x8100 || netNat (bytesAt bs o 2) == 0x88A8
  if tag 12 then (if tag 16 then 2 else 1) else 0
/-- Where the EtherType stands. -/
def etherAt (bs : List Byte) : Nat := 12 + 4 * vlanTags bs
/-- EtherType behind the tags. -/
def etherType (bs : List Byte) : Nat := netNat (bytesAt bs (etherAt bs) 2)
/-- The first byte behind the EtherType. -/
def payloadAt (bs : List Byte) : Nat := etherAt bs + 2
/-- UDP destination port of a frame over IPv4 or IPv6. -/
def udpPort (bs : List Byte) : Option Nat :=
  let o := payloadAt bs
  if etherType bs = 0x0800 then
    let ihl := netNat (bytesAt bs o 1) % 16
    if netNat (bytesAt bs (o + 9) 1) = 17 ∧ netNat (bytesAt bs (o + 6) 2) % 8192 = 0 then
      some (netNat (bytesAt bs (o + 4 * ihl + 2) 2)) else none
  else if etherType bs = 0x86DD then
    if netNat (bytesAt bs (o + 6) 1) = 17 then some (netNat (bytesAt bs (o + 42) 2)) else none
  else none
/-- A PTP frame (R337). -/
def isPtp (bs : List Byte) : Bool := etherType bs == 0x88F7 || udpPort bs == some 319 || udpPort bs == some 320
/-- Priority from the outer VLAN tag, else DEF_PRIO. -/
def vlanPrio (d : Dev) (p : Nat) (bs : List Byte) : Nat :=
  if vlanTags bs = 0 then d.get (EP_CFG_DEF_PRIO p) else netNat (bytesAt bs 14 1) / 32
/-- Priority of a frame (R337). -/
def framePrio (d : Dev) (p : Nat) (bs : List Byte) : Nat :=
  if d.flag (EP_CFG_PTP_PRIO_EN p) ∧ isPtp bs then d.get (EP_CFG_PTP_PRIO p)
  else match d.get (EP_CFG_PRIO_SRC p) with
    | 1 =>
      if etherType bs = 0x0800 then netNat (bytesAt bs (payloadAt bs + 1) 1) / 32
      else if etherType bs = 0x86DD then netNat (bytesAt bs (payloadAt bs) 1) % 16 / 2
      else vlanPrio d p bs
    | 2 => d.get (EP_CFG_DEF_PRIO p)
    | _ => vlanPrio d p bs

/-! ### Ingress (R337 to R341, R344, R345) -/

/-- A dropped frame (R337, R340). -/
def rxDrop (p : Nat) (d : Dev) : Dev := (d.incSat (EP_RX_DROP_FRAMES p)).raise (EP_IRQ_CAUSE_RX_DROP p)
/-- The ingress metadata word (Table 9-2); `ts` is the receive time in quarter nanoseconds. -/
def rxInfo (len p prio : Nat) (bad ptp : Bool) (ts : Int) : List Byte :=
  let sec := (ts / (second : Int) % (2 ^ 48 : Nat)).toNat
  let q := (ts % (second : Int)).toNat
  leBytes 32 (len + 2 ^ 16 * p + 2 ^ 22 * prio + 2 ^ 25 * b2n bad + 2 ^ 26 * b2n ptp + 2 ^ 64 * sec + 2 ^ 112 * (q / 4)
    + 2 ^ 142 * (q % 4))
/-- Wide words of a frame, 32 bytes each, VB of the last as the frame requires; `fin` and `err` on the last. -/
def wideWords (fuel : Nat) (bs : List Byte) (fin err : Bool) : List PushWord :=
  match fuel with
  | 0 => []
  | n + 1 =>
    if bs.length ≤ 32 then [{ data := bs, vb := bs.length, fin := fin, err := err, wide := true }]
    else { data := bs.take 32, vb := 32, wide := true } :: wideWords n (bs.drop 32) fin err
/-- The words a frame pushes to a queue of `mode` (R338, R339): in COMMIT mode a bad frame has no end mark. -/
def frameWords (mode : Nat) (f : RxBuf) : List PushWord :=
  (match f.info with | some b => [{ data := b, vb := 32, wide := true }] | none => []) ++
    wideWords (f.data.length / 32 + 1) f.data (mode != 2 || !f.bad) (f.bad && mode != 2)
/-- The source of adapter `a` for what port `p` pushes or pops (Table 6-3, R334). -/
def etherSrc (a p : Nat) : QSource := (0x40 + a, p)
/-- Whether a pushed frame is in the queue, of which `n` words were stored: a COMMIT packet is there only when its commit
did not fail (R221), any other when a word of it was stored (R226 to R228). -/
def frameQueued (d d' : Dev) (q n : Nat) : Bool :=
  if qMode d q = 2 then decide ((d.queue q).pkts 2 < (d'.queue q).pkts 2) else decide (0 < n)
/-- Push a frame: whether it must wait (R340), as it also does while the crossing between the port's clock and its adapters
is stopped or in reset (R173). -/
def pushFrame (p : Nat) (f : RxBuf) (d : Dev) : Bool × Dev :=
  if xStopped d (xEth p) then (true, d)
  else
    let src := etherSrc (adapterOf p f.ad) p
    let mode := qMode d f.queue
    let (c, n, d1) := qPush src f.queue (frameWords mode f) d
    match c with
    | .retry => (true, d)
    | .ok =>
      if mode = 2 ∧ f.bad then (false, (qCommit src f.queue true d1).2.2)
      else (false, if frameQueued d d1 f.queue n then d1.incSat (EP_RX_FRAMES_FRAMES p) else d1)
    | _ => (false, rxDrop p d1)
/-- Bytes that wait in the buffer of adapter `a` (R340). -/
def bufferUsed (d : Dev) (a : Nat) : Nat :=
  d.net.ports.foldl (fun n e => n + ((e.2.buf.filter (fun f => adapterOf e.1 f.ad == a)).map (·.size)).sum) 0
/-- A frame waits in the buffer, or finds no room (R340). -/
def bufferFrame (p : Nat) (f : RxBuf) (d : Dev) : Dev :=
  if bufferUsed d (adapterOf p f.ad) + f.size ≤ 65536 then mapPort p (fun x => { x with buf := x.buf ++ [f] }) d
  else rxDrop p d
/-- A frame for a queue: it goes behind the waiting frames of its adapter and of its queue (R341). -/
def queueFrame (p : Nat) (f : RxBuf) (d : Dev) : Dev :=
  if (d.port p).buf.any (fun g => g.ad == f.ad || g.queue == f.queue) then bufferFrame p f d
  else let (wait, d1) := pushFrame p f d; if wait then bufferFrame p f d1 else d1
/-- Replace the `i`-th element by nothing. -/
def dropAt {α : Type} (i : Nat) (xs : List α) : List α := xs.take i ++ xs.drop (i + 1)
/-- INGRESS_PUSH (R340, R341): adapter `i` of port `p` tries its oldest waiting frame again, unless an earlier frame of
the port waits for the same queue. Nothing moves while the octet is closed (R356). -/
def ingressPush (p i : Nat) (d : Dev) : Dev :=
  let buf := if octetClosed d (p / 8) then [] else (d.port p).buf
  match buf.findIdx? (fun f => f.ad == i) with
  | none => d
  | some k =>
    match buf[k]? with
    | none => d
    | some f =>
      if (buf.take k).any (fun g => g.queue == f.queue) then d
      else let (wait, d1) := pushFrame p f d
           if wait then d1 else mapPort p (fun x => { x with buf := dropAt k x.buf }) d1

/-- Quarter nanoseconds of `quanta` pause quanta of 512 bits on port `p`. -/
def quantaTime (d : Dev) (p quanta : Nat) : Nat := (quanta * 2048 + modeRate (portMode d p) - 1) / modeRate (portMode d p)
/-- A received PAUSE (opcode 1) or PFC (opcode 0x101) frame (R345). -/
def pauseRx (p : Nat) (bs : List Byte) (d : Dev) : Dev :=
  let o := payloadAt bs
  let put (i quanta : Nat) (m : Store Nat) : Store Nat :=
    if quanta = 0 then sdel m i else sput m i (d.tb + quantaTime d p quanta)
  if !d.flag (EP_CFG_PFC_RX p) then d
  else
    let d1 := match netNat (bytesAt bs o 2) with
      | 1 => mapPort p (fun x => { x with pause := put 8 (netNat (bytesAt bs (o + 2) 2)) x.pause }) d
      | 0x101 =>
        let prios := (List.range 8).filter (fun i => bitAt (netNat (bytesAt bs (o + 2) 2)) i)
        let all (m : Store Nat) : Store Nat := prios.foldl (fun m i => put i (netNat (bytesAt bs (o + 4 + 2 * i) 2)) m) m
        mapPort p (fun x => { x with pause := all x.pause }) d
      | _ => d
    d1.set (EP_STATUS_PAUSED p) (b2n (!(d1.port p).pause.isEmpty))

/-- The swingboats of a port whose EtherType a frame carries and whose receive side runs (R354, R363). -/
def boatsFor (d : Dev) (p : Nat) (bs : List Byte) : List Nat :=
  (List.range 12).filter (fun s => s / 2 == p / 8 && d.flag (SB_CFG_EN s) && d.flag (SB_CFG_RX_EN s) &&
    d.get (SB_CFG_PORT s) == p && d.get (SB_CFG_ETYPE s) == etherType bs)
/-- The receive stream entry of swingboat `s` for a STREAM_ID. -/
def rxEntry (d : Dev) (s id : Nat) : Option Nat :=
  (List.range 32).find? (fun j => d.flag (SB_RXS_EN s j) && d.get (SB_RXS_STREAM_ID s j) == id)
/-- STREAM_ID of a swingboat frame. -/
def streamIdOf (bs : List Byte) : Nat := netNat (bytesAt bs (payloadAt bs + 2) 2)
/-- The swingboat a frame goes to: the one whose table holds its STREAM_ID, else the lower-numbered (R354). -/
def boatOf (d : Dev) (p : Nat) (bs : List Byte) : Option Nat :=
  match (boatsFor d p bs).find? (fun s => (rxEntry d s (streamIdOf bs)).isSome) with
  | some s => some s
  | none => (boatsFor d p bs).head?
/-- RX_FRAME (R335, R337 to R340): a frame from its destination address through its FCS, taken by adapter `i` of the
port's; `at'` is the TB of its timestamp point. -/
def rxFrame (p i : Nat) (bs : List Byte) (at' : Nat) (d : Dev) : Dev :=
  if !portUp d p then d
  else if bs.length < 64 ∨ d.get (EP_CFG_MAX_FRAME p) < bs.length then
    (d.incSat (EP_RX_BAD_FRAMES p)).raise (EP_IRQ_CAUSE_RX_DROP p)
  else
    let bad := !crcGood crc32 bs
    let d1 := if bad then d.incSat (EP_RX_BAD_FRAMES p) else d
    if netNat (bytesAt bs 12 2) = 0x8808 then (if bad then d1 else pauseRx p bs d1)
    else match boatOf d p bs with
      | some s => mapBoat s (fun b => { b with rx := b.rx ++ [(bs, !bad)] }) (d1.incSat (EP_RX_FRAMES_FRAMES p))
      | none =>
        let prio := framePrio d p bs
        if !d.flag (EP_CLASS_EN p prio) then rxDrop p d1
        else
          let data := if d.flag (EP_CFG_KEEP_FCS p) then bs else bs.take (bs.length - 4)
          let ts : Int := (d.ownTb at' : Int) + d.ctl.time.todOff + signed 16 (d.get (EP_TS_ADJ_RX_ADJ p))
          let info := if d.flag (EP_CFG_META p) then some (rxInfo data.length p prio (bad && qMode d (d.get (EP_CLASS_QUEUE p prio)) == 1) (isPtp bs) ts) else none
          queueFrame p { ad := i % portAdapters d p, queue := d.get (EP_CLASS_QUEUE p prio), data := data, info := info, bad := bad,
                         size := bs.length } d1

/-! ### Egress (R342 to R346, R361) -/

/-- Whether a priority of a port is paused. -/
def paused (d : Dev) (p prio : Nat) : Bool := (d.port p).pause.any (fun e => e.1 == 8 || e.1 == prio)
/-- Pad to 60 bytes. -/
def padFrame (bs : List Byte) : List Byte := bs ++ List.replicate (60 - bs.length) 0
/-- A frame starts on the wire: with its FCS, and 20 bytes of preamble and gap. -/
def sendFrame (p : Nat) (bs : List Byte) (d : Dev) : Dev :=
  let r := modeRate (portMode d p)
  let t := d.tb + ((bs.length + 24) * 32 + r - 1) / r
  mapPort p (fun x => { x with tx := some t }) (d.emit (.eth p (bs ++ leBytes 4 (crc32 bs))))
/-- The timestamp FIFO shows its oldest entry (R361). -/
def txtsShow (p : Nat) (d : Dev) : Dev :=
  let e := (d.port p).txts.headD (0, 0, 0)
  let d1 := ((d.set (EP_TXTS0_VALID p) (b2n (!(d.port p).txts.isEmpty))).set (EP_TXTS0_TAG p) e.1).set (EP_TXTS1_SEC_LO p) e.2.1
  ((d1.set (EP_TXTS2_SEC_HI p) (e.2.1 / 2 ^ 32)).set (EP_TXTS3_NS p) (e.2.2 / 4)).set (EP_TXTS3_QNS p) (e.2.2 % 4)
/-- A two-step timestamp is stored, or lost (R344). -/
def txtsPut (p tag sec q : Nat) (d : Dev) : Dev :=
  if (d.port p).txts.length < 16 then
    txtsShow p ((mapPort p (fun x => { x with txts := x.txts ++ [(tag, sec, q)] }) d).raise (EP_IRQ_CAUSE_TXTS p))
  else (d.raise (EP_TXTS0_OVF p)).raise (EP_IRQ_CAUSE_TXTS_OVF p)
/-- Replace bytes from `o` on. -/
def putBytes (bs : List Byte) (o : Nat) (new : List Byte) : List Byte := bs.take o ++ new ++ bs.drop (o + new.length)
/-- The weight of bytes in the ones' complement sum of 16-bit words, by their offset. -/
def onesSum (o : Nat) (bs : List Byte) : Nat :=
  (bs.foldl (fun (a : Nat × Nat) b => (a.1 + b.toNat * (if a.2 % 2 = 0 then 256 else 1), a.2 + 1)) (0, o)).1
/-- The 2 bytes at `cs` changed so that the ones' complement sum stays as it was before `o` … took `new` (R344). -/
def fixChecksum (old new : List Byte) (cs : Nat) : List Byte :=
  let w := (65535 * 16384 + onesSum 0 old - (onesSum 0 new - onesSum cs (bytesAt new cs 2))) % 65535
  let w := if w = 0 then 65535 else w
  putBytes new cs (if cs % 2 = 0 then netBytes 2 w else leBytes 2 w)
/-- The stamped frame (R344), none where an offset cannot be used. -/
def stampFrame (cmd ts cs sec q : Nat) (bs : List Byte) : Option (List Byte) :=
  if cmd = 1 ∨ cmd = 3 then
    if bs.length < ts + 10 ∨ (cmd = 3 ∧ bs.length < cs + 2) then none
    else
      let new := putBytes bs ts (netBytes 6 sec ++ netBytes 4 (q / 4))
      some (if cmd = 3 then fixChecksum bs new cs else new)
  else some bs
/-- A popped packet is sent, or dropped (R343, R344); `at'` is the TB of its timestamp point. -/
def sendPacket (p i at' : Nat) (ws : List QWord) (d : Dev) : Dev :=
  let info := if d.flag (EP_EGQ_META p i) then leNat ((ws.head?.map (·.data)).getD []) else 0
  let body := if d.flag (EP_EGQ_META p i) then ws.drop 1 else ws
  let bs := padFrame (body.flatMap (fun w => bytesAt w.data 0 w.vb))
  let cmd := bitsAt info 0 4
  let now : Int := (d.ownTb at' : Int) + d.ctl.time.todOff + signed 16 (d.get (EP_TS_ADJ_TX_ADJ p))
  let sec := (now / (second : Int) % (2 ^ 48 : Nat)).toNat
  let q := (now % (second : Int)).toNat
  let bad : Bool := match ws.getLast? with | some w => w.err || w.trunc | none => true
  match stampFrame cmd (bitsAt info 16 10) (bitsAt info 32 10) sec q bs with
  | some out =>
    if bad ∨ d.get (EP_CFG_MAX_FRAME p) < bs.length + 4 ∨ 4 ≤ cmd then d.incSat (EP_TX_DROP_FRAMES p)
    else
      let d1 := sendFrame p out d
      if cmd = 2 then txtsPut p (bitsAt info 48 16) sec q d1 else d1
  | none => d.incSat (EP_TX_DROP_FRAMES p)
/-- Whether entry `i` of a port may send (R210, R342): enabled, not paused, a whole packet in a PACKET or COMMIT queue
that names its adapter. -/
def entryReady (d : Dev) (p i : Nat) : Bool :=
  let q := d.get (EP_EGQ_QUEUE p i)
  d.flag (EP_EGQ_EN p i) && !paused d p (d.get (EP_EGQ_PRIO p i)) && qMode d q != 0 &&
    decide (1 ≤ (d.queue q).pkts (qMode d q)) && consumerOk d (etherSrc (adapterOf p (i % portAdapters d p)) p) q
/-- EGRESS_FRAME (R342): at a frame boundary the port sends a swingboat frame, or pops and sends from an entry; nothing
crosses to the port's clock while that crossing is stopped or in reset (R173). -/
def egressFrame (p at' : Nat) (d : Dev) : Dev :=
  if !portUp d p || xStopped d (xEth p) then d
  else
    let d1 := netSettle p (match (d.port p).tx with | some t => d.advance t | none => d)
    match (d1.port p).boatq.findIdx? (fun f => !paused d1 p f.prio) with
    | some k =>
      match (d1.port p).boatq[k]? with
      | some f => sendFrame p f.bytes (mapPort p (fun x => { x with boatq := dropAt k x.boatq }) d1)
      | none => d1
    | none =>
      match (List.range 8).find? (entryReady d1 p) with
      | none => d1
      | some i =>
        let q := d1.get (EP_EGQ_QUEUE p i)
        let (_, ws, d2) := qPop (etherSrc (adapterOf p (i % portAdapters d1 p)) p) q ((d1.queue q).depth (qMode d1 q)) true d1
        if ws.isEmpty then d2 else sendPacket p i at' ws d2
/-- PFC_XOFF_REPEAT (R345). -/
def pfcRepeat (p i : Nat) (d : Dev) : Dev :=
  if d.flag (EP_CFG_PFC_TX p) ∧ portUp d p ∧ d.flag (EP_CLASS_EN p i) ∧ d.flag (QD_STAT_ABOVE (d.get (EP_CLASS_QUEUE p i))) then
    d.emit (.pause p i Config.pauseTime) else d
/-- PAUSE_EXPIRY (R345): the pause that ends first runs out. -/
def pauseExpiry (p : Nat) (d : Dev) : Dev :=
  match (d.port p).pause.foldl (fun (m : Option Nat) e => match m with | none => some e.2 | some t => some (Nat.min t e.2)) none with
  | none => d
  | some t => netSettle p (d.advance t)
/-- TXTS_POP (R361): a read of EP_TXTS3 removes the oldest entry. -/
def txtsPop (p : Nat) (d : Dev) : Dev :=
  let v := d.get (EP_TXTS3_NS p) * 4 + d.get (EP_TXTS3_QNS p)
  (txtsShow p (mapPort p (fun x => { x with txts := x.txts.drop 1 }) d)).answer .ok [v]

/-! ### Swingboats: samples (R348 to R350) -/

/-- The values of a block: I and Q of 16 samples, from 8 sample entries. -/
def blockValues (ts : List Token) : List Int :=
  ts.flatMap (fun t => (List.range 4).map (fun k => signed 16 (bitsAt t.toNat (16 * k) 16)))
/-- Whether a value fits in `w` bits. -/
def fitsIn (w : Nat) (v : Int) : Bool := decide (-(2 ^ (w - 1) : Nat) ≤ v ∧ v ≤ (2 ^ (w - 1) : Nat) - 1)
/-- The smallest width for which all values fit, at most 16. -/
def blockWidth (vs : List Int) : Nat := ((List.range 16).find? (fun i => vs.all (fitsIn (i + 1)))).getD 15 + 1
/-- Mantissa of a value (R348). -/
def mantissa (m e : Nat) (v : Int) : Int :=
  clampInt (-(2 ^ (m - 1) : Nat)) ((2 ^ (m - 1) : Nat) - 1) ((v + (if e = 0 then 0 else (2 ^ (e - 1) : Nat))) / (2 ^ e : Nat))
/-- A compressed block (R348): 1 + 4*M* bytes. -/
def compress (m : Nat) (ts : List Token) : List Byte :=
  let vs := blockValues ts
  let e := blockWidth vs - m
  BitVec.ofNat 8 e :: netBytes (4 * m) (vs.foldl (fun acc v => acc * 2 ^ m + wrap m (mantissa m e v)) 0)
/-- The values of a compressed block with exponent `e`. -/
def expand (m : Nat) (bs : List Byte) : List Int :=
  let e := bitsAt (netNat (bs.take 1)) 0 4
  let v := netNat (bytesAt bs 1 (4 * m))
  (List.range 32).map (fun k => signed m (bitsAt v (m * (31 - k)) m) * (2 ^ e : Nat))
/-- Values as sample entries. A value outside int16 has no stated result: it is a free value (log 2). -/
def sampleEntries (fresh : Nat) (vs : List Int) : List Token :=
  let lane (k : Nat) : Nat :=
    let v := vs.getD k 0
    if fitsIn 16 v then wrap 16 v else Config.freeNat (fresh + k) % 65536
  (List.range (vs.length / 4)).map (fun i => BitVec.ofNat 64
    (lane (4 * i) + 2 ^ 16 * lane (4 * i + 1) + 2 ^ 32 * lane (4 * i + 2) + 2 ^ 48 * lane (4 * i + 3)))
/-- Entries of blocks as lists of 8. -/
def blocksOf (n : Nat) (ts : List Token) : List (List Token) := (List.range n).map (fun i => (ts.drop (8 * i)).take 8)

/-! ### Swingboats: configuration (R351, R356) -/

/-- Bytes of a frame of a stream entry with its FCS. -/
def boatFrameLen (nblk m : Nat) : Nat := Nat.max (14 + 16 + nblk * (1 + 4 * m)) 60 + 4
/-- Whether an enabled entry breaks R351. -/
def entryBad (maxf m nblk : Nat) (lag : Option Nat) : Bool :=
  decide (m < 4 ∨ 16 < m ∨ nblk = 0 ∨ maxf < boatFrameLen nblk m) || (match lag with | some l => decide (l < 3) | none => false)
/-- Whether a list has a repeated element. -/
def hasRepeat (xs : List Nat) : Bool := decide (xs.eraseDups.length < xs.length)
/-- Whether R351 refuses SB_CFG.EN of swingboat `s` with port `p`. -/
def boatRefused (d : Dev) (s p : Nat) : Bool :=
  let maxf := d.get (EP_CFG_MAX_FRAME p)
  let tx := (List.range 32).filter (fun j => d.flag (SB_TXS_EN s j))
  let rx := (List.range 32).filter (fun j => d.flag (SB_RXS_EN s j))
  let load (sel : List Nat) (ch nb : Nat → Nat) (c : Nat) : Bool :=
    decide (64 < ((sel.filter (fun j => ch j == c)).map (fun j => 1 + 8 * nb j)).sum)
  tx.any (fun j => entryBad maxf (d.get (SB_TXS_M s j)) (d.get (SB_TXS_NBLK s j)) none) ||
  rx.any (fun j => entryBad maxf (d.get (SB_RXS_M s j)) (d.get (SB_RXS_NBLK s j)) (some (d.get (SB_RXS_LAG s j)))) ||
  hasRepeat (tx.map (fun j => d.get (SB_TXS_STREAM_ID s j))) || hasRepeat (rx.map (fun j => d.get (SB_RXS_STREAM_ID s j))) ||
  (List.range 8).any (fun c => load tx (fun j => d.get (SB_TXS_CHANNEL s j)) (fun j => d.get (SB_TXS_NBLK s j)) c ||
    load rx (fun j => d.get (SB_RXS_CHANNEL s j)) (fun j => d.get (SB_RXS_NBLK s j)) c)
/-- Fields of SB_CFG. -/
def sbCfgFlds (s : Nat) : List Fld :=
  [SB_CFG_EN s, SB_CFG_TX_EN s, SB_CFG_RX_EN s, SB_CFG_FILL s, SB_CFG_PRIO s, SB_CFG_PORT s, SB_CFG_ETYPE s]
/-- A write of SB_CFG (R351). -/
def sbCfgWrite (s v : Nat) (d : Dev) : Dev :=
  let was := d.flag (SB_CFG_EN s)
  let d1 : Dev := { d with ctl := writeFlds d.ctl false v (sbCfgFlds s) }
  if octetClosed d (s / 2) then d.answer .closed
  else if was ∧ (bitsAt v 16 6 ≠ d.get (SB_CFG_PORT s) ∨ bitsAt v 0 16 ≠ d.get (SB_CFG_ETYPE s)) then d.answer .perm
  else if bitAt v 31 ∧ !was ∧ boatRefused d s (bitsAt v 16 6) then (d.raise (SB_STATUS_CFG_ERR s)).answer .perm
  else d1.answer .ok
/-- SB_CFG as it reads. -/
def sbCfgWord (d : Dev) (s : Nat) : Nat := wordOf d.ctl (sbCfgFlds s)

/-! ### Swingboats: transmit (R349, R352, R353) -/

/-- A swingboat frame without its FCS (R349, Table 9-5). -/
def boatFrame (d : Dev) (s j tick seq : Nat) (blocks : List (List Token)) : List Byte :=
  let m := d.get (SB_TXS_M s j)
  padFrame (netBytes 2 (d.get (SB_DMAC_HI_DMAC_HI s)) ++ netBytes 4 (d.get (SB_DMAC_LO_DMAC_LO s)) ++
    netBytes 2 (d.get (SB_SMAC_HI_SMAC_HI s)) ++ netBytes 4 (d.get (SB_SMAC_LO_SMAC_LO s)) ++ netBytes 2 (d.get (SB_CFG_ETYPE s)) ++
    [0x20, BitVec.ofNat 8 m] ++ netBytes 2 (d.get (SB_TXS_STREAM_ID s j)) ++ netBytes 8 tick ++ netBytes 2 blocks.length ++
    netBytes 2 seq ++ blocks.flatMap (compress m))
/-- A stream of a batch is framed and queued to the port, which SB_TX_FRAMES counts (R365), or discarded with the port not
UP (R346). -/
def sendStream (s j tick : Nat) (ts : List Token) (d : Dev) : Dev :=
  let p := d.get (SB_CFG_PORT s)
  if !portUp d p then txBad s 1 d
  else
    let seq := sget 0 (d.boat s).seq j
    let f : BoatFrame := { boat := s, prio := d.get (SB_CFG_PRIO s), bytes := boatFrame d s j tick seq (blocksOf (d.get (SB_TXS_NBLK s j)) ts) }
    mapPort p (fun x => { x with boatq := x.boatq ++ [f] })
      (mapBoat s (fun b => { b with seq := sset 0 b.seq j ((seq + 1) % 65536) }) (d.incSat (SB_TX_FRAMES_FRAMES s)))
/-- The streams of a batch, in order (R352). -/
def sendBatch (fuel s ch tick : Nat) (ts : List Token) (d : Dev) : Dev :=
  match fuel, ts with
  | 0, _ => d
  | _, [] => d
  | n + 1, h :: rest =>
    let j := bitsAt h.toNat 0 5
    let k := bitsAt h.toNat 8 8
    if d.flag (SB_TXS_EN s j) ∧ d.get (SB_TXS_CHANNEL s j) = ch ∧ k = 8 * d.get (SB_TXS_NBLK s j) ∧ k ≤ rest.length then
      sendBatch n s ch tick (rest.drop k) (sendStream s j tick (rest.take k) d)
    else txBad s 1 d
/-- SWINGBOAT_BATCH (R352): the oldest batch of stream-out slot `t` of ring `r`. After a warm reset batches wait from the
port's UP to the next release edge (R356). -/
def swingboatBatch (r t : Nat) (d : Dev) : Dev :=
  let g := d.get (TS_CFG_TARGET r t)
  let s := (g - 0x80) / 8
  let x := d.slot r t
  match x.pub with
  | [] => d
  | (key, _) :: _ =>
    if !slotEn d r t ∨ slotSt d r t ≠ 1 ∨ g < 0x80 ∨ 0xE0 ≤ g ∨ !d.flag (SB_CFG_EN s) ∨ !d.flag (SB_CFG_TX_EN s) ∨ octetClosed d (s / 2) ∨
        ((d.boat s).parked ∧ portUp d (d.get (SB_CFG_PORT s))) then d
    else
      let batch := (x.pub.takeWhile (fun e => e.1 == key)).map (·.2)
      sendBatch batch.length s (g % 8) ((key % 2 ^ 64 + 2 ^ 64 - 1) % 2 ^ 64) batch
        (setSlot r t { x with pub := x.pub.drop batch.length } d)

/-! ### Swingboats: receive (R354 to R356) -/

/-- A rejected frame (R354). -/
def boatReject (s : Nat) (d : Dev) : Dev := (d.incSat (SB_RX_REJECT_FRAMES s)).raise (SB_IRQ_CAUSE_RX_REJECT s)
/-- A late frame (R355). -/
def boatLate (s : Nat) (d : Dev) : Dev := (d.incSat (SB_RX_LATE_FRAMES s)).raise (SB_IRQ_CAUSE_LATE s)
/-- The judgement of a received swingboat frame (R354, R355). -/
def judgeFrame (s : Nat) (bs : List Byte) (good : Bool) (d : Dev) : Dev :=
  let o := payloadAt bs
  match rxEntry d s (streamIdOf bs) with
  | none => boatReject s d
  | some j =>
    let m := d.get (SB_RXS_M s j)
    let nb := d.get (SB_RXS_NBLK s j)
    let tick := netNat (bytesAt bs (o + 4) 8)
    let same (h : HeldFrame) : Bool := h.j == j && h.tick == tick
    let c := d.ctl.time.count
    if !good ∨ netNat (bytesAt bs o 1) ≠ 0x20 ∨ netNat (bytesAt bs (o + 1) 1) ≠ m ∨ netNat (bytesAt bs (o + 12) 2) ≠ nb ∨
        bs.length < o + 16 + nb * (1 + 4 * m) + 4 ∨ (d.boat s).dec.any same ∨ (d.boat s).held.any same then boatReject s d
    else if c < tick then d.incSat (SB_RX_EARLY_FRAMES s)
    else if tick + d.get (SB_RXS_LAG s j) ≤ c + 1 then boatLate s d
    else
      let vs := (List.range nb).flatMap (fun i => expand m (bytesAt bs (o + 16 + i * (1 + 4 * m)) (1 + 4 * m)))
      let f : HeldFrame := { j := j, tick := tick, data := sampleEntries d.ctl.fresh vs }
      let d1 := if vs.all (fitsIn 16) then d else { d with ctl := { d.ctl with fresh := d.ctl.fresh + vs.length } }
      mapBoat s (fun b => { b with dec := b.dec ++ [f] }) (d1.incSat (SB_RX_FRAMES_FRAMES s))
/-- SWINGBOAT_RX (R354): the oldest frame that has arrived. -/
def swingboatRx (s : Nat) (d : Dev) : Dev :=
  match (d.boat s).rx with
  | [] => d
  | (bs, good) :: rest =>
    if octetClosed d (s / 2) then d else judgeFrame s bs good (mapBoat s (fun b => { b with rx := rest }) d)
/-- SWINGBOAT_DECOMPRESSED (R355): the oldest frame in decompression is held; a closed octet moves nothing (R356). -/
def swingboatDecompressed (s : Nat) (d : Dev) : Dev :=
  match (d.boat s).dec with
  | [] => d
  | f :: rest => if octetClosed d (s / 2) then d else mapBoat s (fun b => { b with dec := rest, held := b.held ++ [f] }) d

/-- The stream-in slot that a target feeds. -/
def inSlotOf (d : Dev) (target : Nat) : Option (Nat × Nat) :=
  ((List.range 512).find? (fun k => slotEn d (k / 4) (10 + k % 4) && d.get (TS_CFG_TARGET (k / 4) (10 + k % 4)) == target)).map
    (fun k => (k / 4, 10 + k % 4))
/-- A stream's entries are written into its channel's slot where they fit (R355, R356). -/
def writeStream (s ch : Nat) (ts : List Token) (d : Dev) : Dev :=
  let spilled := (d.incSat (SB_OVERFLOW_STREAMS s)).raise (SB_IRQ_CAUSE_OVERFLOW s)
  match inSlotOf d (0x80 + 8 * s + ch) with
  | some (r, t) => if streamRoom d r t ts.length then streamPut r t ts d else spilled
  | none => spilled
/-- Stream `j` at its release edge, for frame tick `t` (R355, Table 9-6). -/
def releaseStream (s j t : Nat) (d : Dev) : Dev :=
  let ch := d.get (SB_RXS_CHANNEL s j)
  let n := 8 * d.get (SB_RXS_NBLK s j)
  let head (k st : Nat) : Token := BitVec.ofNat 64 (j + 256 * k + 65536 * (t % 65536) + 2 ^ 32 * st)
  let mine (h : HeldFrame) : Bool := h.j == j && h.tick == t
  let late := ((d.boat s).dec.filter mine).length
  let d1 := forEach (List.range late) (mapBoat s (fun b => { b with dec := b.dec.filter (fun h => !mine h) }) d) (fun _ d => boatLate s d)
  match (d1.boat s).held.find? mine with
  | some h => writeStream s ch (head n 0 :: h.data) (mapBoat s (fun b => { b with held := b.held.filter (fun h => !mine h) }) d1)
  | none =>
    let d2 := (d1.incSat (SB_RX_MISSING_STREAMS s)).raise (SB_IRQ_CAUSE_MISSING s)
    if d2.flag (SB_CFG_FILL s) then writeStream s ch (head n 1 :: List.replicate n 0) d2 else writeStream s ch [head 0 2] d2
/-- A swingboat that waits since a warm reset resumes at an edge with its port UP (R356). -/
def boatResume (s : Nat) (d : Dev) : Dev :=
  if (d.boat s).parked && portUp d (d.get (SB_CFG_PORT s)) then mapBoat s (fun b => { b with parked := false }) d else d
/-- SWINGBOAT_RELEASE: swingboat `s` at the edge where TICK_COUNT becomes `c`; after a warm reset it waits for its port. -/
def boatRelease (c s : Nat) (d : Dev) : Dev :=
  if !d.flag (SB_CFG_EN s) ∨ octetClosed d (s / 2) then d
  else
    let d0 := boatResume s d
    if (d0.boat s).parked ∨ !d0.flag (SB_CFG_RX_EN s) then d0
    else forEach (List.range 8) d0 (fun ch d =>
      forEach ((List.range 32).filter (fun j => d.flag (SB_RXS_EN s j) && d.get (SB_RXS_CHANNEL s j) == ch)) d (fun j d =>
        if c + 1 < d.get (SB_RXS_LAG s j) then d else releaseStream s j (c + 1 - d.get (SB_RXS_LAG s j)) d))

/-! ### The meanings -/

/-- PORT_ENABLE (R333): a write of EP_CFG. -/
def execPortEnable (p : Fin 48) (v : Word) (s : State) : Host.Outcome State Fault Refusal := run s (epCfgWrite p v.toNat)
/-- ETH_LINK_UP (R336). -/
def execEthLinkUp (p : Fin 48) (s : State) : Host.Outcome State Fault Refusal := run s (ethUp p)
/-- ETH_LINK_DOWN (R336). -/
def execEthLinkDown (p : Fin 48) (s : State) : Host.Outcome State Fault Refusal := run s (ethDown p)
/-- RX_FRAME (R337): adapter `i` of the port's takes the frame; `tb` is the TB of its timestamp point. -/
def execRxFrame (p : Fin 48) (i : Fin 4) (bytes : List Byte) (tb : BitVec 64) (s : State) : Host.Outcome State Fault Refusal :=
  run s (rxFrame p i bytes tb.toNat)
/-- INGRESS_PUSH (R340). -/
def execIngressPush (p : Fin 48) (i : Fin 4) (s : State) : Host.Outcome State Fault Refusal := run s (ingressPush p i)
/-- EGRESS_FRAME (R342): `tb` is the TB of the frame's timestamp point. -/
def execEgressFrame (p : Fin 48) (tb : BitVec 64) (s : State) : Host.Outcome State Fault Refusal := run s (egressFrame p tb.toNat)
/-- PFC_XOFF_REPEAT (R345). -/
def execPfcXoffRepeat (p : Fin 48) (i : Fin 8) (s : State) : Host.Outcome State Fault Refusal := run s (pfcRepeat p i)
/-- PAUSE_EXPIRY (R345). -/
def execPauseExpiry (p : Fin 48) (s : State) : Host.Outcome State Fault Refusal := run s (pauseExpiry p)
/-- TXTS_POP (R361). -/
def execTxtsPop (p : Fin 48) (s : State) : Host.Outcome State Fault Refusal := run s (txtsPop p)
/-- SWINGBOAT_ENABLE (R351): a write of SB_CFG. -/
def execSwingboatEnable (b : Fin 12) (v : Word) (s : State) : Host.Outcome State Fault Refusal := run s (sbCfgWrite b v.toNat)
/-- SWINGBOAT_BATCH (R352): of stream-out slot `i` of ring `r`. -/
def execSwingboatBatch (r : Fin 128) (i : Fin 4) (s : State) : Host.Outcome State Fault Refusal :=
  run s (swingboatBatch r (soutSlot i))
/-- SWINGBOAT_RX (R354). -/
def execSwingboatRx (b : Fin 12) (s : State) : Host.Outcome State Fault Refusal := run s (swingboatRx b)
/-- SWINGBOAT_DECOMPRESSED (R355). -/
def execSwingboatDecompressed (b : Fin 12) (s : State) : Host.Outcome State Fault Refusal := run s (swingboatDecompressed b)

end Sys2Proof.Machine
end

