-- ==== Sys2Proof/Machine/Cascade.lean ====
section
/-! DEFINITION. The cascade link (R366 to R399): ports, barkers and bring-up, frames, routes, forming and leaving a
cascade, token batches, queue transfers, the tunnel's requester, and following the master's tick (R414 to R423). -/
namespace Sys2Proof.Machine
open Sys2Proof.Machine.Reg

/-! ### Ports, identity -/

/-- Cascade port `q`. -/
def Dev.iport (d : Dev) (q : Nat) : IclPort := sget {} d.icl.ports q
/-- Change a port. -/
def mapIport (q : Nat) (f : IclPort → IclPort) (d : Dev) : Dev :=
  { d with icl := { d.icl with ports := sset {} d.icl.ports q (f (d.iport q)) } }
/-- Change the rest of the link's hidden state. -/
def mapIcl (f : IclSt → IclSt) (d : Dev) : Dev := { d with icl := f d.icl }
/-- STATE of a port: 0 OFF, 1 TRAINING, 2 LINKED, 3 UP, 4 FAULT, 5 CLOSED. -/
def iclState (d : Dev) (q : Nat) : Nat := d.get (ICL_PORT_STATUS_STATE q)
/-- Whether the link is closed for inspection. -/
def iclClosed (d : Dev) : Bool := iclState d 0 == 5
/-- A host write that the closed link ignores. -/
def iclHost (f : Dev → Dev) (d : Dev) : Dev := if iclClosed d then d.answer .closed else f d
/-- Whether a port is UP. -/
def iclUp (d : Dev) (q : Nat) : Bool := iclState d q == 3
/-- Whether a port is trained: LINKED, UP or FAULT. -/
def iclTrained (d : Dev) (q : Nat) : Bool := iclState d q == 2 || iclUp d q || iclState d q == 4
/-- CASC_ID as sampled (R373). -/
def ownId (d : Dev) : Nat := d.get ICL_STATUS_CASC_ID
/-- Whether the device is the master (R373). -/
def isMaster (d : Dev) : Bool := d.flag ICL_STATUS_MASTER
/-- STATE of the cascade function: 0 ALONE, 1 DISCOVERING, 2 READY, 3 MEMBER, 4 HOLDOVER. -/
def cascState (d : Dev) : Nat := d.get ICL_STATUS_STATE
/-- CTRL_SLOT is LOADED with use LINK. -/
def ctrlReady (d : Dev) : Bool := slotSends d (d.get ICL_CFG_CTRL_SLOT)
/-- The upstream port (R415). -/
def upstream (d : Dev) : Option Nat := (List.range 4).find? (fun q => d.flag (ICL_PORT_STATUS_UPSTREAM q))
/-- The device's unique identifier. -/
def ownUid (d : Dev) : Nat := d.get ICL_UID_LO_UID_LO + 2 ^ 32 * d.get ICL_UID_HI_UID_HI

/-- CASC_ERR takes a code; its cause is set where it became non-zero. -/
def setCascErr (e : Nat) (d : Dev) : Dev :=
  let d1 := d.set ICL_STATUS_CASC_ERR e
  if d.get ICL_STATUS_CASC_ERR = 0 ∧ e ≠ 0 then d1.raise ICL_IRQ_CAUSE_CASC_ERR else d1

/-! ### Frames as bytes (R369, R370) -/

/-- The 16-byte header as a number (Table 10-1). -/
def headerNat (f : IclFrame) : Nat :=
  f.type + 2 ^ 4 * f.src + 2 ^ 8 * f.dest + 2 ^ 12 * b2n f.bcast + 2 ^ 13 * f.port + 2 ^ 16 * f.slot + 2 ^ 24 * f.fctr +
    2 ^ 72 * f.body.length + 2 ^ 84 * f.hops + 2 ^ 88 * f.a + 2 ^ 104 * f.b + 2 ^ 120 * f.c
/-- The frame that a header and a body spell. -/
def frameOf (h : Nat) (body : List Byte) : IclFrame :=
  { type := bitsAt h 0 4, src := bitsAt h 4 4, dest := bitsAt h 8 4, bcast := bitAt h 12, port := bitsAt h 13 2,
    slot := bitsAt h 16 6, fctr := bitsAt h 24 48, hops := bitsAt h 84 4, a := bitsAt h 88 16, b := bitsAt h 104 16,
    c := bitsAt h 120 8, body := body, own := false }
/-- The must-be-zero bits of a header are 0. -/
def zerosOk (h : Nat) : Bool :=
  !bitAt h 15 && bitsAt h 22 2 == 0 && (match bitsAt h 0 4 with
    | 1 => bitsAt h 104 24 == 0
    | 2 => bitsAt h 96 32 == 0
    | 3 => bitsAt h 125 3 == 0
    | 4 => bitsAt h 111 17 == 0
    | _ => true)
/-- Body length of each KIND of control frame (R382). -/
def kindLength : Nat → Option Nat
  | 1 => some 64 | 2 => some 8 | 3 => some 8 | 4 => some 16 | 5 => some 8 | 6 => some 8 | _ => none
/-- The frame that received bytes are, where they pass the checks of R369 and R382. -/
def readFrame (bs : List Byte) : Option IclFrame :=
  let h := leNat (bs.take 16)
  let body := (bs.drop 16).take (bs.length - 20)
  let f := frameOf h body
  if 20 ≤ bs.length ∧ crcGood crc32c bs ∧ f.type ≤ 6 ∧ zerosOk h ∧ bitsAt h 72 12 = body.length ∧ body.length % 8 = 0 ∧
      body.length ≤ 4088 ∧ (f.type = 2 → kindLength f.a = some body.length) then some f else none
/-- Encryption, which is also decryption, under the counter blocks of Table 8-3. -/
def linkCrypt (d : Dev) (f : IclFrame) (body : List Byte) : List Byte :=
  ctrCrypt (keyOf d f.slot) (fun i => 2 ^ 120 + 2 ^ 116 * f.src + 2 ^ 114 * f.port + 2 ^ 64 * f.fctr + i % 65536) body
/-- A frame leaves port `q`, its body as sent. -/
def emitFrame (q : Nat) (f : IclFrame) (d : Dev) : Dev :=
  let bs := leBytes 16 (headerNat f) ++ f.body
  d.emit (.icl q (bs ++ leBytes 4 (crc32c bs)))

/-! ### Frames that wait (R368) -/

/-- Place of a frame type in the order of R368. -/
def framePriority : Nat → Nat
  | 1 => 0 | 2 => 1 | 3 => 2 | 5 => 3 | 6 => 3 | 4 => 4 | _ => 5
/-- A frame becomes ready to leave port `q`. -/
def queueOut (q : Nat) (f : IclFrame) (d : Dev) : Dev := mapIport q (fun p => { p with wait := p.wait ++ [f] }) d
/-- A control frame of this device. -/
def control (d : Dev) (kind dest : Nat) (bcast : Bool) (body : List Byte) : IclFrame :=
  { type := 2, src := ownId d, dest := dest, bcast := bcast, slot := d.get ICL_CFG_CTRL_SLOT, a := kind, body := body }
/-- The port toward device `i` (R371), where it is enabled and UP. -/
def portTo (d : Dev) (i : Nat) : Option Nat :=
  if d.flag (ICL_FWD_EN i) ∧ iclUp d (d.get (ICL_FWD_PORT i)) then some (d.get (ICL_FWD_PORT i)) else none
/-- Send a frame of this device toward its destination, where a route is up. -/
def sendTo (f : IclFrame) (d : Dev) : Dev := match portTo d f.dest with | some q => queueOut q f d | none => d
/-- Send a frame out of every UP port but one. -/
def sendAll (skip : Option Nat) (f : IclFrame) (d : Dev) : Dev :=
  forEach ((List.range 4).filter (fun q => iclUp d q && some q != skip)) d (fun q d => queueOut q f d)
/-- The body of a barker sent out of port `q` at TB `at'` (Table 10-2). -/
def barkerBody (d : Dev) (q : Nat) (at' : Int) : List Byte :=
  let (echo, hold) : Nat × Nat := match (d.iport q).echo with | some (t, c) => (t, (at' - c).toNat) | none => (0, 0)
  leBytes 64 (ownId d + 2 ^ 4 * b2n (isMaster d) + 2 ^ 5 * q + 2 ^ 7 * d.get CFG_STATUS_DONE_PIN + 2 ^ 8 * b2n (ctrlReady d) +
    2 ^ 9 * d.get ICL_CFG_CTRL_SLOT + 2 ^ 16 * cascState d + 2 ^ 24 * d.get ICL_STATUS_TO_MASTER + 2 ^ 32 * d.get ICL_CFG_HOP_NS +
    2 ^ 48 * d.get ICL_MAP_PRESENT + 2 ^ 64 * d.get ICL_MAP_MASTERS + 2 ^ 80 * ownUid d + 2 ^ 144 * wrap 64 at' +
    2 ^ 208 * echo + 2 ^ 272 * (hold % 2 ^ 64))
/-- The body as it leaves: the times of barkers and of markers are those of the departure at TB `at'`. -/
def stamped (d : Dev) (q : Nat) (at' : Int) (f : IclFrame) : List Byte :=
  match f.type with
  | 0 => barkerBody d q at'
  | 1 => if f.own then putBytes f.body 16 (leBytes 8 (wrap 64 at'))
         else putBytes f.body 24 (leBytes 4 ((leNat (bytesAt f.body 24 4) + (at' - f.came).toNat) % 2 ^ 32))
  | _ => f.body
/-- The frame that leaves first: the highest priority, then the order of becoming ready. -/
def nextToSend (w : List IclFrame) : Option Nat :=
  (List.range 6).findSome? (fun k => w.findIdx? (fun f => framePriority f.type == k))
/-- Send frame `f` of the waiting ones out of port `q`: a relayed one as it came, a barker in clear, every other one
encrypted under its slot (R320 to R322, R370); a slot that does not serve discards the frame, a packet with all its
segments, and raises KEY_USE. -/
def transmit (q : Nat) (at' : Int) (f : IclFrame) (d : Dev) : Dev :=
  if f.sealed then emitFrame q f d
  else if f.type = 0 then emitFrame q { f with src := ownId d, port := q, slot := 0, fctr := 0, body := stamped d q at' f } d
  else if !slotSends d f.slot then
    keyUse f.slot (if f.type = 4 then
      mapIport q (fun p => { p with wait := p.wait.filter (fun g => g.adapter != f.adapter) })
        (d.incSat (ICL_PORT_TXKEY_PACKETS (f.adapter.getD q))) else d)
  else if f.own then
    let (n, d1) := takeFrame f.slot d
    let g := { f with port := q, fctr := n }
    let d2 := if g.bcast then mapIcl (fun c => { c with seen := (g.src, n) :: c.seen }) d1 else d1
    emitFrame q { g with body := linkCrypt d g (stamped d q at' g) } d2
  else emitFrame q { f with body := linkCrypt d f (stamped d q at' f) } d
/-- Send a frame out of every UP port at once, before the ports are given up (R381). -/
def sendNow (f : IclFrame) (d : Dev) : Dev :=
  forEach ((List.range 4).filter (iclUp d)) d (fun q d => transmit q d.tbNow f d)
/-- FRAME_SEND (R368) at TB `at'`. Other frames than barkers and the key probe wait for the port to be UP. -/
def frameSend (q at' : Nat) (d : Dev) : Dev :=
  let d1 := d.advance (d.ownTb at')
  let ready (f : IclFrame) : Bool := iclUp d q || f.type == 0 || (f.type == 2 && f.a == 1)
  let w := (d.iport q).wait.filter ready
  if !iclTrained d q then d
  else match nextToSend w with
    | none => d
    | some k =>
      let f := w.getD k {}
      transmit q d1.tbNow f (mapIport q (fun p => { p with wait := p.wait.erase f }) d1)

/-! ### Routes (R391) -/

/-- Whether a route is up. -/
def routeUp (d : Dev) (port dest : Nat) : Bool := iclUp d port && bitAt (d.get ICL_MEMBERS_MEMBERS) dest
/-- ACTIVE and DOWN of an entry, from its enables and its two routes. -/
def routeBits (en fb up1 up2 : Bool) : Nat × Nat :=
  if !en then (0, 0) else if up1 then (0, 0) else if fb && up2 then (1, 0) else (0, 1)
/-- An entry's ACTIVE and DOWN take new values; a change of route, or going DOWN, sets its cause. -/
def setRoute (en : Bool) (act down : Fld) (v : Nat × Nat) (d : Dev) : Dev :=
  let chg : Bool := en && ((v.2 == 1 && !d.flag down) || (v.2 == 0 && (v.1 != d.get act)))
  let d1 := (d.set act v.1).set down v.2
  if chg then d1.raise ICL_IRQ_CAUSE_ROUTE_CHG else d1
/-- ROUTE_CHANGE: every entry is evaluated anew. -/
def reroute (d : Dev) : Dev :=
  let d1 := forEach (List.range 32) d (fun h d =>
    setRoute (d.flag (ICL_TCH_A_EN h)) (ICL_TCH_A_ACTIVE h) (ICL_TCH_A_DOWN h)
      (routeBits (d.flag (ICL_TCH_A_EN h)) (d.flag (ICL_TCH_A_FB_EN h))
        (routeUp d (d.get (ICL_TCH_A_PRI_PORT h)) (d.get (ICL_TCH_A_PRI_DEST h)))
        (routeUp d (d.get (ICL_TCH_A_FB_PORT h)) (d.get (ICL_TCH_B_FB_DEST h)))) d)
  forEach (List.range 16) d1 (fun i d =>
    setRoute (d.flag (ICL_QTX_A_EN i)) (ICL_QTX_A_ACTIVE i) (ICL_QTX_A_DOWN i)
      (routeBits (d.flag (ICL_QTX_A_EN i)) (d.flag (ICL_QTX_A_FB_EN i))
        (routeUp d (d.get (ICL_QTX_A_PRI_PORT i)) (d.get (ICL_QTX_A_PRI_DEST i)))
        (routeUp d (d.get (ICL_QTX_A_FB_PORT i)) (d.get (ICL_QTX_B_FB_DEST i)))) d)

/-! ### Following, readiness (R379, R381, R415, R417, R423) -/

/-- ASTATE: 0 OFF, 1 STEP, 2 REPHASE, 3 TRACKING, 4 ALIGNED, 5 HOLDOVER. -/
def astate (d : Dev) : Nat := d.get RM_CASC_STATUS_ASTATE
/-- The conditions of following (R417); the departure of the master is R423's. -/
def mayFollow (d : Dev) : Bool :=
  d.flag ICL_CFG_EN && !isMaster d && (cascState d == 4 || (d.get ICL_STATUS_CASC_ERR == 0 && d.get ICL_STATUS_TO_MASTER != 15))
/-- Withdraw what the master announced. -/
def dropForeign (d : Dev) : Dev :=
  match d.ctl.time.pend with
  | some (.period _ _ _ false) | some (.align _ _ false) =>
    mapTime (fun t => { t with pend := none }) ((unstretch d).set RM_STATUS_PEND 0)
  | _ => d
/-- The device stops following (R423): DISC becomes HOLDOVER. -/
def stopFollow (d : Dev) : Dev :=
  if !d.ctl.time.follow then d
  else
    let d1 := mapTime (fun t => { t with follow := false, goodMarks := 0, badMarks := 0 }) (dropForeign d)
    setDisc 3 ((mapIcl (fun c => { c with hist := [] }) d1).set RM_CASC_STATUS_ASTATE 0)
/-- The device begins to follow (R417): DISC is CASCADE, and the first marker is waited for. -/
def beginFollow (d : Dev) : Dev :=
  setDisc 4 (mapTime (fun t => { t with follow := true, goodMarks := 0, badMarks := 0 }) (d.set RM_CASC_STATUS_ASTATE 0))
/-- R417: a device follows while its conditions hold. -/
def followCheck (d : Dev) : Dev :=
  if d.ctl.time.follow then (if mayFollow d then d else stopFollow d)
  else if mayFollow d ∧ cascState d ≠ 4 then beginFollow d else d

/-- TO_MASTER's port: its partner's HOP_NS is the device's own. The master's value is known by the one of the next device
on the way to it, which bring-up has held to the same (DEDUCED: log 62). -/
def hopAgrees (d : Dev) : Bool :=
  match (upstream d).bind (fun q => (d.iport q).peer) with
  | some p => p.hop == d.get ICL_CFG_HOP_NS
  | none => true

/-- The conditions of R379. -/
def readyOk (d : Dev) : Bool :=
  d.flag ICL_CFG_EN && !isMaster d && d.get ICL_STATUS_TO_MASTER != 15 && d.get ICL_STATUS_CASC_ERR == 0 &&
    d.flag CFG_STATUS_DONE_PIN && astate d == 4 && hopAgrees d &&
    (List.range 16).all (fun i => !d.flag (ICL_QTX_A_EN i) ||
      slotSends d (d.get (QD_CFG_KEY_IDX (d.get (ICL_QTX_A_QUEUE i)))))
/-- A frame to the master. -/
def toMaster (kind : Nat) (body : List Byte) (d : Dev) : Dev :=
  match d.icl.master with | some m => sendTo (control d kind m false body) d | none => d
/-- WITHDRAW (R379): a READY device that fails a condition says so once, and does not join. -/
def readyCheck (d : Dev) : Dev :=
  if cascState d = 2 ∧ !readyOk d then
    let d1 := toMaster 3 (leBytes 8 (ownUid d)) (d.set ICL_STATUS_STATE 1)
    mapIcl (fun c => { c with joinSet := none }) (mapTime (fun t => { t with join := none }) d1)
  else d
/-- What follows from a change of ports, of CASC_ERR or of the partners' TO_MASTER. -/
def settleLink (d : Dev) : Dev := readyCheck (followCheck (reroute d))

/-- TO_MASTER of a port's partner. -/
def peerHops (d : Dev) (q : Nat) : Nat := match (d.iport q).peer with | some p => p.toM | none => 15
/-- UPSTREAM_SELECT (R415): the upstream port is kept while it is UP; otherwise the UP port whose partner is nearest to
the master is taken. TO_MASTER follows it. -/
def selectUpstream (d : Dev) : Dev :=
  let kept := (upstream d).filter (fun q => iclUp d q)
  let near := ((List.range 15).findSome? (fun n => (List.range 4).find? (fun q => iclUp d q && peerHops d q == n)))
  let sel := if isMaster d then none else match kept with | some q => some q | none => near
  let d1 := forEach (List.range 4) d (fun q d => d.set (ICL_PORT_STATUS_UPSTREAM q) (b2n (sel == some q)))
  let d2 := match sel with | some q => d1.set RM_CASC_STATUS_UP_PORT q | none => d1
  d2.set ICL_STATUS_TO_MASTER (if isMaster d then 0 else match sel with | some q => Nat.min 15 (peerHops d q + 1) | none => 15)

/-- CASC_ALLOW (R56, R381): 1 while a cascade is formed; the ceiling follows it (R28). -/
def setMembership (st : Nat) (d : Dev) : Dev :=
  recomputeCeil ((d.set ICL_STATUS_STATE st).set RM_CONTRACT_CTRL_CASC_ALLOW (b2n (st == 3 || st == 4)))
/-- The map holds the device's own bits only (R374). -/
def ownMap (d : Dev) : Dev :=
  let own := 2 ^ ownId d
  mapIcl (fun c => { c with mapAt := d.tb, seenP := [], seenM := [] })
    ((d.set ICL_MAP_PRESENT own).set ICL_MAP_MASTERS (if isMaster d then own else 0))
/-- Discovery begins afresh, or ends with EN at 0. -/
def rediscover (d : Dev) : Dev :=
  let d1 := setMembership (b2n (d.flag ICL_CFG_EN)) (setCascErr 0 d)
  mapIcl (fun c => { c with master := none, ready := [], alive := [], joinSet := none, gone := [] })
    (ownMap (mapTime (fun t => { t with join := none }) d1))
/-- Membership ends (R381): LEAVE is broadcast where a route exists, `now` where the ports are given up at once, and the
device ticks alone. -/
def endMembership (now : Bool) (d : Dev) : Dev :=
  let was : Bool := cascState d == 3 || cascState d == 4
  let leave := control d 5 0 true (leBytes 8 (ownId d))
  let d1 := if was then (if now then sendNow leave d else sendAll none leave d) else d
  let d2 := if was then (stopFollow d1).set ICL_MEMBERS_MEMBERS 0 else d1
  settleLink (rediscover d2)
/-- A follower departs (R392): its bit is cleared, FOLLOWER_LEFT is set where it was a member. -/
def memberLeft (i : Nat) (d : Dev) : Dev :=
  let d1 := mapIcl (fun c => { c with ready := c.ready.filter (· != i), alive := sdel c.alive i }) d
  if bitAt (d.get ICL_MEMBERS_MEMBERS) i then reroute ((d1.clrBit ICL_MEMBERS_MEMBERS i).raise ICL_IRQ_CAUSE_FOLLOWER_LEFT) else d1
/-- The master removes a follower: it broadcasts LEAVE for it (R392). -/
def removeFollower (i : Nat) (d : Dev) : Dev := memberLeft i (sendAll none (control d 5 0 true (leBytes 8 i)) d)

/-! ### Packets in reception (R388) -/

/-- The source of an ingress or egress adapter; the flow distinguishes packets of one adapter (Table 6-3, R367). -/
def iclSrc (q flow : Nat) : QSource := (0x58 + q, flow)
/-- Push waiting bytes: whether they must wait on (R340). -/
def pushSeg (q : Nat) (g : RxSeg) (d : Dev) : Bool × Dev :=
  let mode := qMode d g.queue
  let ws := if g.data.isEmpty then [] else wideWords (g.data.length / 32 + 1) g.data (g.fin && (mode != 2 || !g.bad)) (g.bad && mode != 2)
  let (c, _, d1) := qPush (iclSrc q g.flow) g.queue ws d
  match c with
  | .retry => (true, d)
  | .ok => (false, if mode = 2 ∧ g.bad ∧ g.fin then (qCommit (iclSrc q g.flow) g.queue true d1).2.2 else d1)
  | _ => (false, d1)
/-- Push what waits, in order; bytes behind others of their queue that wait stay (R341). -/
def drainSegs (q : Nat) : List RxSeg → List Nat → Dev → List RxSeg × Dev
  | [], _, d => ([], d)
  | g :: rest, stuck, d =>
    if stuck.contains g.queue then
      let (w, d1) := drainSegs q rest stuck d
      (g :: w, d1)
    else
      let (wait, d1) := pushSeg q g d
      if wait then let (w, d2) := drainSegs q rest (g.queue :: stuck) d1; (g :: w, d2)
      else drainSegs q rest stuck d1
/-- The adapter repeats its pushes. -/
def pushWaiting (q : Nat) (d : Dev) : Dev :=
  let (w, d1) := drainSegs q (d.iport q).segs [] d
  mapIport q (fun p => { p with segs := w }) d1
/-- Bytes in the adapter's buffer of 64 KB. -/
def segBytes (d : Dev) (q : Nat) : Nat := ((d.iport q).segs.map (fun g => g.data.length)).sum
/-- A packet that is cut off is ended as a bad one. -/
def cutOff (q : Nat) (o : RxOpen) (d : Dev) : Dev :=
  mapIport q (fun p => { p with opens := p.opens.erase o,
                                segs := p.segs ++ [{ flow := o.flow, queue := o.queue, data := o.tail, fin := true, bad := true }] }) d
/-- The packet of a flow that is open for a queue. -/
def openOf (d : Dev) (q flow dq : Nat) : Option RxOpen := (d.iport q).opens.find? (fun o => o.flow == flow && o.queue == dq)
/-- End the open packet that a dropped segment belongs to. -/
def cutFrame (q : Nat) (f : IclFrame) (d : Dev) : Dev :=
  if f.type = 4 then
    match openOf d q (4 * f.src + f.port) (bitsAt f.a 0 14) with
    | some o => pushWaiting q (cutOff q o d)
    | none => d
  else d
/-- A segment is taken by the ingress adapter: bytes are pushed as they come, but for the last 32, which are held until
it is known whether they end the packet. -/
def takeSegment (q : Nat) (f : IclFrame) (d : Dev) : Dev :=
  let flow := 4 * f.src + f.port
  let dq := bitsAt f.a 0 14
  let first := bitAt f.a 14
  let last := bitAt f.a 15
  let d0 := match openOf d q flow dq with | some o => if first then cutOff q o d else d | none => d
  let was := openOf d0 q flow dq
  if was.isNone ∧ !first then d0
  else
    let tail := match was with | some o => o.tail | none => []
    let body := if last then f.body.take (32 * ((f.body.length + 31) / 32 - 1) + bitsAt f.b 1 6) else f.body
    let bs := tail ++ body
    if 65536 < segBytes d0 q + bs.length then (match was with | some o => cutOff q o d0 | none => d0)
    else
      let n := if last then bs.length else (bs.length - 1) / 32 * 32
      let seg : RxSeg := { flow := flow, queue := dq, data := bs.take n, fin := last, bad := last && bitAt f.b 0 }
      let others := (d0.iport q).opens.filter (fun o => !(o.flow == flow && o.queue == dq))
      let opens : List RxOpen := if last then others else { flow := flow, queue := dq, tail := bs.drop n } :: others
      mapIport q (fun p => { p with opens := opens, segs := if n = 0 ∧ !last then p.segs else p.segs ++ [seg] }) d0

/-! ### Port states (R372, R375 to R377) -/

/-- A port leaves its partner: its frames are lost, open packets are cut off (R388), it takes state `st`. What Ringmaster
shows of the link's delay stays (R407). -/
def portLeave (q st : Nat) (d : Dev) : Dev :=
  let d1 := forEach (d.iport q).opens d (fun o d => cutOff q o d)
  let d2 := mapIport q (fun p => { p with wait := [], inbox := [], echo := none, meas := [], peer := none, probed := false })
    (pushWaiting q d1)
  let d3 := d2.resetFlds [ICL_PORT_STATUS_UPSTREAM q, ICL_PORT_STATUS_P_VALID q, ICL_PORT_STATUS_P_MASTER q, ICL_PORT_STATUS_P_PORT q,
    ICL_PORT_STATUS_P_ID q, ICL_PORT_STATUS_WHY q, ICL_PORT_DLY_VALID q, ICL_PORT_DLY_MEAS_NS q]
  settleLink (selectUpstream (d3.set (ICL_PORT_STATUS_STATE q) st))
/-- A port leaves its partner, and its delay is to be measured anew. -/
def portDrop (q st : Nat) (d : Dev) : Dev := portLeave q st (d.resetFlds [RM_CASC_DLY_VALID q, RM_CASC_DLY_DLY q])
/-- A port enters FAULT with its reason. -/
def portFault (q why : Nat) (d : Dev) : Dev :=
  let d1 := ((d.set (ICL_PORT_STATUS_STATE q) 4).set (ICL_PORT_STATUS_WHY q) why).raise ICL_IRQ_CAUSE_PORT_FAULT
  let d2 := mapIport q (fun p => { p with wait := p.wait.filter (fun f => f.type == 0), probed := false }) d1
  let d3 := forEach (d2.iport q).opens d2 (fun o d => cutOff q o d)
  settleLink (selectUpstream (pushWaiting q d3))
/-- A write of ICL_PORT_CFG (R376, R396). -/
def iclPortWrite (q v : Nat) (d : Dev) : Dev :=
  iclHost (fun d =>
    let on := bitAt v 31
    let was := d.flag (ICL_PORT_CFG_EN q)
    let d1 := d.set (ICL_PORT_CFG_EN q) (b2n on)
    (if on && !was then d1.set (ICL_PORT_STATUS_STATE q) 1 else if was && !on then portDrop q 0 d1 else d1).answer .ok) d
/-- ICL_TRAINING_DONE (R376, step 2). -/
def trainingDone (q : Nat) (d : Dev) : Dev :=
  if iclState d q = 1 then mapIport q (fun p => { p with lastRx := d.tb }) (d.set (ICL_PORT_STATUS_STATE q) 2) else d
/-- BARKER_SEND (R372): a barker becomes ready. -/
def barkerSend (q : Nat) (d : Dev) : Dev := if iclTrained d q then queueOut q {} d else d
/-- LINK_LOSS (R377). -/
def linkLoss (q : Nat) (d : Dev) : Dev := if iclTrained d q then portDrop q 1 d else d
/-- RX_SILENCE (R377): 2 µs after the last frame. -/
def rxSilence (q : Nat) (d : Dev) : Dev :=
  if iclState d q = 2 ∨ iclUp d q then portDrop q 1 (d.advance ((d.iport q).lastRx + 8000)) else d
/-- MEAS_NS before it is cut to its register: the mean of the measurements, rounded up to whole ns (R375). -/
def measNs (m : List Int) : Nat := ((m.foldl (· + ·) 0 + 2048 * 24 + 2047) / 2048).toNat
/-- The one-way delay in quarter ns (R416). -/
def fineDelay (m : List Int) : Rat := ((m.foldl (· + ·) 0 : Int) : Rat) / 512 + 96
/-- Whether a port's link is usable (R375). -/
def linkUsable (d : Dev) (q : Nat) : Bool := decide (measNs (d.iport q).meas + 80 ≤ d.get ICL_CFG_HOP_NS)
/-- A measurement (R375, R416); MEAS_NS beyond its register is a free value (log 31). -/
def measure (q : Nat) (twice : Int) (d : Dev) : Dev :=
  let m := (twice :: (d.iport q).meas).take 256
  let d1 := mapIport q (fun p => { p with meas := m }) d
  if m.length < 256 then d1
  else
    let n := measNs m
    let d2 := if n < 1024 then d1.set (ICL_PORT_DLY_MEAS_NS q) n else (d1.set (ICL_PORT_DLY_MEAS_NS q) (d1.freeVal 10)).bump
    let d3 := (d2.set (ICL_PORT_DLY_VALID q) 1).set (RM_CASC_DLY_DLY q) (wrap 20 (wholeOf (fineDelay m)))
    let d4 := d3.set (RM_CASC_DLY_VALID q) 1
    if iclUp d4 q ∧ !linkUsable d4 q then portFault q 1 d4 else d4
/-- KEY_PROBE (R376, step 4): the port sends a key probe, or enters FAULT. -/
def keyProbe (q : Nat) (d : Dev) : Dev :=
  match (d.iport q).peer with
  | none => d
  | some p =>
    if iclState d q ≠ 2 ∨ !d.flag (ICL_PORT_DLY_VALID q) then d
    else if !linkUsable d q then portFault q 1 d
    else if !ctrlReady d ∨ !p.keyReady then portFault q 2 d
    else if p.slot ≠ d.get ICL_CFG_CTRL_SLOT then portFault q 3 d
    else if p.hop ≠ d.get ICL_CFG_HOP_NS then portFault q 6 d
    else
      let body := (List.range 16).flatMap (fun _ => [0x1F, 0xE7, BitVec.ofNat 8 (ownId d), BitVec.ofNat 8 q])
      mapIport q (fun p => { p with probed := true })
        (queueOut q (control d 1 (d.get (ICL_PORT_STATUS_P_ID q)) false body) d)
/-- PORT_FAULT_RETRY (R376): step 4 is taken again. -/
def faultRetry (q : Nat) (d : Dev) : Dev :=
  if iclState d q = 4 then
    keyProbe q (mapIport q (fun p => { p with probed := false }) ((d.set (ICL_PORT_STATUS_STATE q) 2).set (ICL_PORT_STATUS_WHY q) 0))
  else d

/-! ### Frames received (R369 to R371) -/

/-- Take the oldest frame of port `q` of a kind. -/
def takeInbox (q : Nat) (is' : IclFrame → Bool) (d : Dev) : Option (Int × IclFrame) × Dev :=
  match (d.iport q).inbox.find? (fun e => is' e.2) with
  | none => (none, d)
  | some e => (some e, mapIport q (fun p => { p with inbox := p.inbox.erase e }) d)
/-- A frame dropped for want of a route (R371). -/
def noRoute (q : Nat) (d : Dev) : Dev := d.incSat (ICL_PORT_NOROUTE_FRAMES q)
/-- FRAME_RELAY (R371): unicast frames leave by ICL_FWD with HOPS increased. -/
def relayFrame (q : Nat) (f : IclFrame) (d : Dev) : Dev :=
  match portTo d f.dest with
  | some o => if f.hops < 15 then queueOut o { f with hops := f.hops + 1, sealed := true } (d.incSat (ICL_PORT_RXFRAMES_FRAMES q)) else noRoute q d
  | none => noRoute q d
/-- A broadcast control frame is relayed the first time its SRC_ID and FCTR are seen (R382). -/
def relayControl (q : Nat) (f : IclFrame) (d : Dev) : Dev :=
  if f.type ≠ 2 ∨ d.icl.seen.contains (f.src, f.fctr) then d
  else
    let d1 := mapIcl (fun c => { c with seen := (f.src, f.fctr) :: c.seen }) d
    if f.hops < 15 then sendAll (some q) { f with hops := f.hops + 1, sealed := true } d1 else noRoute q d1
/-- A frame for this device is decrypted with its own slot (R322) and waits for its handling. -/
def acceptFrame (q : Nat) (f : IclFrame) (d : Dev) : Dev :=
  let put (g : IclFrame) (d : Dev) : Dev :=
    mapIport q (fun p => { p with inbox := p.inbox ++ [(d.tbNow, g)] }) (d.incSat (ICL_PORT_RXFRAMES_FRAMES q))
  if f.type = 0 then put f d
  else if !slotServes d f.slot 1 then cutFrame q f (keyUse f.slot (d.incSat (ICL_PORT_RXKEY_FRAMES q)))
  else put { f with body := linkCrypt d f f.body } d
/-- ICL_FRAME_RX: a frame has arrived at port `q`, whose timestamp point passed at TB `at'`. -/
def iclFrameRx (q : Nat) (bs : List Byte) (at' : Nat) (d : Dev) : Dev :=
  if !iclTrained d q then d
  else
    let d1 := d.advance (d.ownTb at')
    let d2 := mapIport q (fun p => { p with lastRx := d1.tb }) d1
    match readFrame bs with
    | none => cutFrame q (frameOf (leNat (bs.take 16)) []) (d2.incSat (ICL_PORT_RXBAD_FRAMES q))
    | some f =>
      let d3 := if d2.icl.master = some f.src then mapIcl (fun c => { c with heard := d2.tb }) d2 else d2
      if f.type ≠ 0 ∧ !f.bcast ∧ f.dest ≠ ownId d3 then relayFrame q f d3
      else if f.bcast ∧ f.type ≠ 0 then acceptFrame q f (relayControl q f d3)
      else acceptFrame q f d3

/-! ### Barkers and the map (R374, R378) -/

/-- Bits of PRESENT and MASTERS carried by a frame. -/
def mapCarried (present masters : Nat) (d : Dev) : Dev :=
  let p := d.get ICL_MAP_PRESENT ||| present
  let m := d.get ICL_MAP_MASTERS ||| masters
  let touch (bits : Nat) (s : Store Nat) : Store Nat :=
    (List.range 16).foldl (fun s i => if bitAt bits i then sput s i d.tb else s) s
  let d1 := mapIcl (fun c => { c with seenP := touch present c.seenP, seenM := touch masters c.seenM }) d
  if p = d.get ICL_MAP_PRESENT ∧ m = d.get ICL_MAP_MASTERS then d1
  else mapIcl (fun c => { c with mapAt := d.tb }) ((d1.set ICL_MAP_PRESENT p).set ICL_MAP_MASTERS m)
/-- What a barker says of its sender. -/
def barkerPeer (n : Nat) : Partner :=
  { uid := bitsAt n 80 64, keyReady := bitAt n 8, slot := bitsAt n 9 6, hop := bitsAt n 32 10, toM := bitsAt n 24 4 }
/-- A barker from the partner the port knows. -/
def barkerFrom (q : Nat) (at' : Int) (n : Nat) (d : Dev) : Dev :=
  let p := barkerPeer n
  let d1 := mapIport q (fun x => { x with peer := some p, echo := some (bitsAt n 144 64, at') }) d
  let d2 := (((d1.set (ICL_PORT_STATUS_P_VALID q) 1).set (ICL_PORT_STATUS_P_MASTER q) (bitsAt n 4 1)).set (ICL_PORT_STATUS_P_PORT q)
    (bitsAt n 5 2)).set (ICL_PORT_STATUS_P_ID q) (bitsAt n 0 4)
  let d3 := mapCarried (bitsAt n 48 16) (bitsAt n 64 16) d2
  let d4 := if bitsAt n 208 64 = 0 then d3
    else measure q (at' - (bitsAt n 208 64 : Nat) - (bitsAt n 272 64 : Nat)) d3
  let d5 := if bitsAt n 0 4 = ownId d ∧ p.uid ≠ ownUid d then portFault q 4 (setCascErr 3 d4) else d4
  let toMaster : Bool := bitAt n 4 || upstream d == some q
  let d6 := if toMaster ∧ p.hop ≠ d.get ICL_CFG_HOP_NS ∧ !isMaster d ∧ d.flag ICL_CFG_EN then setCascErr 5 d5 else d5
  settleLink (selectUpstream d6)
/-- BARKER_RX: the oldest barker of port `q`. -/
def barkerRx (q : Nat) (d : Dev) : Dev :=
  match takeInbox q (fun f => f.type == 0) d with
  | (none, _) => d
  | (some (at', f), d1) =>
    let n := leNat (bytesAt f.body 0 64)
    let other : Bool := match (d.iport q).peer with | some p => p.uid != bitsAt n 80 64 | none => false
    if other ∧ iclState d q ≠ 4 then portDrop q 1 d1 else barkerFrom q at' n d1
/-- PROBE_RX (R376, step 5). -/
def probeRx (q : Nat) (d : Dev) : Dev :=
  if !(d.iport q).probed ∨ iclState d q ≠ 2 then d
  else match takeInbox q (fun f => f.type == 2 && f.a == 1) d with
    | (none, _) => d
    | (some (_, f), d1) =>
      let want := (List.range 16).flatMap (fun _ => [0x1F, 0xE7, BitVec.ofNat 8 f.src, BitVec.ofNat 8 f.port])
      if f.body = want then settleLink (selectUpstream (d1.set (ICL_PORT_STATUS_STATE q) 3)) else portFault q 2 d1
/-- MAP_AGE_OUT (R374): 256 µs have passed since a bit was last carried. -/
def mapAgeOut (i : Nat) (masters : Bool) (d : Dev) : Dev :=
  let s := if masters then d.icl.seenM else d.icl.seenP
  match s.find? (fun e => e.1 == i) with
  | none => d
  | some (_, t) =>
    let d1 := d.advance (t + 1024000)
    let d2 := mapIcl (fun c => if masters then { c with seenM := sdel c.seenM i } else { c with seenP := sdel c.seenP i }) d1
    if i = ownId d ∧ (!masters ∨ isMaster d) then d2
    else mapIcl (fun c => { c with mapAt := d1.tb }) (if masters then d2.clrBit ICL_MAP_MASTERS i else d2.clrBit ICL_MAP_PRESENT i)
/-- MAP_SETTLE (R378, Table 10-4): 64 µs after the map's last change. -/
def mapSettle (d : Dev) : Dev :=
  if !d.flag ICL_CFG_EN then d
  else
    let d1 := d.advance (d.icl.mapAt + 256000)
    let ms := (List.range 16).filter (fun i => bitAt (d.get ICL_MAP_MASTERS) i)
    let member : Bool := cascState d == 3 || cascState d == 4
    if member then
      if ms.length < 2 then d1
      else
        let odd := (List.range 4).filter (fun q => d.flag (ICL_PORT_STATUS_P_VALID q) && d.flag (ICL_PORT_STATUS_P_MASTER q) &&
          iclTrained d q && some (d.get (ICL_PORT_STATUS_P_ID q)) != d.icl.master)
        settleLink (setCascErr 2 (forEach odd d1 (fun q d => portFault q 5 d)))
    else match ms with
      | [] => settleLink (setCascErr 1 d1)
      | [m] =>
        let e := d1.get ICL_STATUS_CASC_ERR
        settleLink (mapIcl (fun c => { c with master := some m, heard := d1.tb }) (if e = 1 ∨ e = 2 then setCascErr 0 d1 else d1))
      | _ => settleLink (setCascErr 2 d1)

/-! ### Forming and leaving (R379 to R382, R392) -/

/-- READY_SEND (R379): READY, or WITHDRAW where a condition fails. -/
def readySend (d : Dev) : Dev :=
  if (cascState d = 1 ∨ cascState d = 2) ∧ readyOk d then toMaster 2 (leBytes 8 (ownUid d)) (d.set ICL_STATUS_STATE 2)
  else readyCheck d
/-- A follower is heard at the master. -/
def heardFrom (i : Nat) (d : Dev) : Dev := mapIcl (fun c => { c with alive := sput c.alive i d.tb }) d
/-- Control frames of a kind. -/
def isKind (k : Nat) (f : IclFrame) : Bool := f.type == 2 && f.a == k
/-- READY_RX (R382). -/
def readyRx (q : Nat) (d : Dev) : Dev :=
  match takeInbox q (isKind 2) d with
  | (none, _) => d
  | (some (_, f), d1) =>
    if !isMaster d then d1
    else if bitAt (d.get ICL_MEMBERS_MEMBERS) f.src ∨ d.icl.ready.contains f.src then heardFrom f.src d1
    else heardFrom f.src (mapIcl (fun c => { c with ready := f.src :: c.ready }) d1)
/-- WITHDRAW_RX (R380, R392): a follower named in a JOIN is removed after *J*. -/
def withdrawRx (q : Nat) (d : Dev) : Dev :=
  match takeInbox q (isKind 3) d with
  | (none, _) => d
  | (some (_, f), d1) =>
    if !isMaster d then d1
    else if bitAt (d.get ICL_MEMBERS_MEMBERS) f.src then removeFollower f.src d1
    else
      let d2 := mapIcl (fun c => { c with ready := c.ready.filter (· != f.src) }) d1
      match d.icl.joinSet with
      | some set => if bitAt set f.src then mapIcl (fun c => { c with gone := f.src :: c.gone }) d2 else d2
      | none => d2
/-- JOIN_SEND (R380): the master announces the join tick and the members as they will stand. -/
def joinSend (d : Dev) : Dev :=
  let fresh := d.icl.ready.filter (fun i => !bitAt (d.get ICL_MEMBERS_MEMBERS) i)
  let soon : Bool := match d.icl.lastJoin with | some t => decide (d.tb < t + 400000) | none => false
  if !d.flag ICL_CFG_EN ∨ !isMaster d ∨ !d.flag CFG_STATUS_DONE_PIN ∨ !ctrlReady d ∨ fresh.isEmpty ∨ soon ∨ !d.ctl.time.running ∨
      d.icl.joinSet.isSome ∨ (cascState d ≠ 3 ∧ d.get ICL_STATUS_CASC_ERR ≠ 0) then d
  else
    let j := (d.ctl.time.count + 1 + edgesUntil d (d.tb + 400000)) % 2 ^ 64
    let set := fresh.foldl (fun s i => s ||| 2 ^ i) (d.get ICL_MEMBERS_MEMBERS ||| 2 ^ ownId d)
    let d1 := (d.set ICL_JOIN_LO_J_LO j).set ICL_JOIN_HI_J_HI (j / 2 ^ 32)
    let d2 := mapTime (fun t => { t with join := some (j, j) }) (mapIcl (fun c => { c with joinSet := some set, lastJoin := some d.tb }) d1)
    sendAll none (control d 4 0 true (leBytes 8 j ++ leBytes 8 set)) d2
/-- JOIN_RX (R380): a READY device named in it prepares to join; a member takes the new set at *J*. -/
def joinRx (q : Nat) (d : Dev) : Dev :=
  match takeInbox q (isKind 4) d with
  | (none, _) => d
  | (some (_, f), d1) =>
    let j := leNat (bytesAt f.body 0 8)
    let set := leNat (bytesAt f.body 8 2)
    let own := (j : Int) - (if cascState d = 3 then 0 else d.icl.mOff)
    if isMaster d ∨ own ≤ d.ctl.time.count ∨ !(cascState d == 3 || (cascState d == 2 && bitAt set (ownId d))) then d1
    else
      mapTime (fun t => { t with join := some (own.toNat, j) }) (mapIcl (fun c => { c with joinSet := some set })
        ((d1.set ICL_JOIN_LO_J_LO j).set ICL_JOIN_HI_J_HI (j / 2 ^ 32)))
/-- JOIN_EDGE (R380, R381): what stands at *J* besides the count. -/
def joinEdge (d : Dev) : Dev :=
  match d.icl.joinSet with
  | none => d
  | some set =>
    let d1 := (setMembership 3 (d.set ICL_MEMBERS_MEMBERS set)).raise ICL_IRQ_CAUSE_JOINED
    let d2 := mapIcl (fun c => { c with joinSet := none, gone := [], ready := c.ready.filter (fun i => !bitAt set i), heard := d.tb }) d1
    let d3 := forEach ((List.range 16).filter (fun i => bitAt set i && isMaster d && i != ownId d)) d2 (fun i d =>
      if (d.icl.alive.any (fun e => e.1 == i)) then d else heardFrom i d)
    forEach d.icl.gone (reroute d3) removeFollower
/-- A write of ICL_CMD (R395). -/
def iclCmdWrite (leave clr : Bool) (d : Dev) : Dev :=
  iclHost (fun d =>
    let d1 := if clr then d.resetFlds ((List.range 4).flatMap (fun q => [ICL_PORT_RXBAD_FRAMES q, ICL_PORT_RXKEY_FRAMES q, ICL_PORT_TXKEY_PACKETS q,
        ICL_PORT_NOROUTE_FRAMES q, ICL_PORT_LATE_BATCHES q, ICL_PORT_SUPERSEDED_BATCHES q, ICL_PORT_OVERFLOW_BATCHES q, ICL_PORT_RXFRAMES_FRAMES q])) else d
    (if leave ∧ (cascState d = 3 ∨ cascState d = 4) then endMembership false d1 else d1).answer .ok) d
/-- A write of ICL_CFG (R381, R393). -/
def iclCfgWrite (v : Nat) (d : Dev) : Dev :=
  iclHost (fun d =>
    let fs := [ICL_CFG_EN, ICL_CFG_TUN_ACCEPT, ICL_CFG_CTRL_SLOT, ICL_CFG_HOP_NS]
    let d1 : Dev := { d with ctl := writeFlds d.ctl false v fs }
    let was := d.flag ICL_CFG_EN
    if was ∧ (d1.get ICL_CFG_CTRL_SLOT ≠ d.get ICL_CFG_CTRL_SLOT ∨ d1.get ICL_CFG_HOP_NS ≠ d.get ICL_CFG_HOP_NS) then d.answer .perm
    else
      let d2 := d1.set ICL_STATUS_K (tickOffset (d1.get ICL_CFG_HOP_NS) (d1.get RM_PERIOD_NOW_NS) 1)
      let on := d1.flag ICL_CFG_EN
      (if on && !was then settleLink (selectUpstream (rediscover d2))
       else if was && !on then endMembership false d2 else d2).answer .ok) d
/-- LEAVE_RX (R392). -/
def leaveRx (q : Nat) (d : Dev) : Dev :=
  match takeInbox q (isKind 5) d with
  | (none, _) => d
  | (some (_, f), d1) =>
    let i := leNat (bytesAt f.body 0 8) % 16
    if isMaster d then (if bitAt (d.get ICL_MEMBERS_MEMBERS) i ∧ i ≠ ownId d then removeFollower i d1 else d1) else memberLeft i d1
/-- STATUS_SEND (R382). -/
def statusSend (d : Dev) : Dev :=
  if !isMaster d ∧ (cascState d = 3 ∨ cascState d = 4) then
    toMaster 6 (leBytes 8 (cascState d + 2 ^ 4 * astate d + 2 ^ 8 * d.get ICL_STATUS_CASC_ERR + 2 ^ 16 * d.get ICL_MAP_PRESENT)) d
  else d
/-- STATUS_RX (R374, R382). -/
def statusRx (q : Nat) (d : Dev) : Dev :=
  match takeInbox q (isKind 6) d with
  | (none, _) => d
  | (some (_, f), d1) =>
    let d2 := mapCarried (bitsAt (leNat (bytesAt f.body 0 8)) 16 16) 0 d1
    if isMaster d then heardFrom f.src d2 else d2
/-- FOLLOWER_TIMEOUT (R392): 10 µs after the last READY or STATUS of follower `i`. -/
def followerTimeout (i : Nat) (d : Dev) : Dev :=
  match d.icl.alive.find? (fun e => e.1 == i) with
  | none => d
  | some (_, t) =>
    if !isMaster d then d
    else
      let d1 := d.advance (t + 40000)
      if bitAt (d.get ICL_MEMBERS_MEMBERS) i then removeFollower i d1 else memberLeft i d1
/-- MASTER_TIMEOUT (R392, R423): 10 µs after the master's last frame. -/
def masterTimeout (d : Dev) : Dev :=
  if isMaster d ∨ cascState d ≠ 3 then d
  else
    let d1 := (setCascErr 4 (setMembership 4 (d.advance (d.icl.heard + 40000)))).raise ICL_IRQ_CAUSE_MASTER_LOST
    let d2 := match d.icl.master with | some m => d1.clrBit ICL_MEMBERS_MEMBERS m | none => d1
    let d3 := if d.ctl.time.follow then holdCorr (dropForeign (d2.set RM_CASC_STATUS_ASTATE 5)) else d2
    settleLink (mapTime (fun t => { t with join := none }) (mapIcl (fun c => { c with joinSet := none }) d3))

/-! ### Token channels (R384 to R386) -/

/-- The batch that slot `t` of ring `r` published at edge `n` is sent, or discarded with its entry DOWN. -/
def batchSend (n r t : Nat) (d : Dev) : Dev :=
  let ch := d.get (TS_CFG_TARGET r t) - 0xE0
  let x := d.slot r t
  if !slotEn d r t ∨ d.get (TS_CFG_TARGET r t) < 0xE0 ∨ x.pubAt ≠ some n ∨ !d.flag (ICL_TCH_A_EN ch) then d
  else
    let d1 := setSlot r t { x with pub := [], pubAt := none } d
    if d.flag (ICL_TCH_A_DOWN ch) then noRoute (d.get (ICL_TCH_A_PRI_PORT ch)) d1
    else
      let fb := d.flag (ICL_TCH_A_ACTIVE ch)
      let pick (a b : Fld) : Nat := if fb then d.get b else d.get a
      let k := tickOffset (d.get ICL_CFG_HOP_NS) (d.get RM_PERIOD_NOW_NS) (pick (ICL_TCH_A_PRI_HOPS ch) (ICL_TCH_A_FB_HOPS ch))
      queueOut (pick (ICL_TCH_A_PRI_PORT ch) (ICL_TCH_A_FB_PORT ch))
        { type := 3, src := ownId d, dest := pick (ICL_TCH_A_PRI_DEST ch) (ICL_TCH_B_FB_DEST ch), slot := d.get ICL_CFG_CTRL_SLOT,
          a := n % 65536, b := (n + k) % 65536, c := pick (ICL_TCH_A_PRI_DCH ch) (ICL_TCH_A_FB_DCH ch),
          body := x.pub.flatMap (fun e => leBytes 8 e.2.toNat) } d1
/-- Edges from the device's count to an edge numbered by its 16 low bits. -/
def edgesTo (d : Dev) (due : Nat) : Int := signed 16 (wrap 16 ((due : Int) - (d.ctl.time.count : Int)))
/-- The channel header entry (Table 10-5); the frame does not carry FALLBACK, which comes with the command (log 32). -/
def batchHeader (b : Batch) : Token :=
  BitVec.ofNat 64 (b.send + 2 ^ 16 * b.data.length + 2 ^ 24 * b.src + 2 ^ 28 * b2n b.fb)
/-- A batch written for the coming edge that a later one supersedes leaves the slot (log 33). -/
def unwrite (b : Batch) (d : Dev) : Dev :=
  let d1 := mapIcl (fun c => { c with written := c.written.erase b }) d
  match inSlotOf d (0xE0 + b.ch) with
  | some (r, t) => mapSlot r t (fun x => { x with fin := x.fin.take (x.fin.length - (b.data.length + 1)) }) d1
  | none => d1
/-- Write a batch into its channel's slot, where it fits. -/
def batchWrite (b : Batch) (d : Dev) : Dev :=
  let spilled := d.incSat (ICL_PORT_OVERFLOW_BATCHES b.q)
  match inSlotOf d (0xE0 + b.ch) with
  | some (r, t) =>
    if streamRoom d r t (b.data.length + 1) then
      mapIcl (fun c => { c with written := b :: c.written }) (streamPut r t (batchHeader b :: b.data) d)
    else spilled
  | none => spilled
/-- Whether the last entry can no longer be accepted before edge DUE. -/
def batchLate (d : Dev) (due : Nat) : Bool :=
  decide (edgesTo d due ≤ 0) || (edgesTo d due == 1 && d.ctl.time.running && decide (d.ctl.time.nextEdge / 4 ≤ d.tb / 4))
/-- TOKEN_BATCH_RX (R386): `fb`, the batch came by a fallback route. -/
def tokenBatchRx (q : Nat) (fb : Bool) (d : Dev) : Dev :=
  match takeInbox q (fun f => f.type == 3) d with
  | (none, _) => d
  | (some (_, f), d1) =>
    let data := (List.range (f.body.length / 8)).map (fun i => BitVec.ofNat 64 (leNat (bytesAt f.body (8 * i) 8)))
    let b : Batch := { q := q, ch := f.c % 32, due := f.b, send := f.a, src := f.src, data := data, fb := fb }
    let twin (x : Batch) : Bool := x.ch == b.ch && x.due == b.due
    let later (x : Batch) : Bool := decide (0 < signed 16 (wrap 16 ((b.send : Int) - (x.send : Int))))
    let lost (p : Nat) (d : Dev) : Dev := d.incSat (ICL_PORT_SUPERSEDED_BATCHES p)
    if batchLate d b.due then d1.incSat (ICL_PORT_LATE_BATCHES q)
    else match d.icl.held.find? twin, d.icl.written.find? twin with
      | some x, _ =>
        if later x then mapIcl (fun c => { c with held := b :: c.held.erase x }) (lost x.q d1) else lost q d1
      | none, some x => if later x then batchWrite b (lost x.q (unwrite x d1)) else lost q d1
      | none, none =>
        if edgesTo d b.due = 1 then batchWrite b d1 else mapIcl (fun c => { c with held := b :: c.held }) d1
/-- TOKEN_BATCH_WRITE (R386): the batch of channel `ch` held for the coming edge is written; one whose edge has passed is
late. -/
def tokenBatchWrite (ch : Nat) (d : Dev) : Dev :=
  match d.icl.held.find? (fun b => b.ch == ch && decide (edgesTo d b.due ≤ 1)) with
  | none => d
  | some b =>
    let d1 := mapIcl (fun c => { c with held := c.held.erase b }) d
    if batchLate d b.due then d1.incSat (ICL_PORT_LATE_BATCHES b.q) else batchWrite b d1

/-! ### Queue transfers (R387, R388) -/

/-- Whether the egress adapter of port `q` may pop from entry `i` now. -/
def transferReady (d : Dev) (q i : Nat) : Bool :=
  let u := d.get (ICL_QTX_A_QUEUE i)
  d.flag (ICL_QTX_A_EN i) && d.get (ICL_QTX_A_PRI_PORT i) == q && !d.flag (ICL_QTX_A_DOWN i) && qMode d u != 0 &&
    decide (1 ≤ (d.queue u).pkts (qMode d u)) && consumerOk d (iclSrc q q) u
/-- The segments of a packet: at most 2,048 bytes each. -/
def segmentsOf (fuel : Nat) (bs : List Byte) : List (List Byte) :=
  match fuel with
  | 0 => []
  | n + 1 => if bs.length ≤ 2048 then [bs] else bs.take 2048 :: segmentsOf n (bs.drop 2048)
/-- A body is a multiple of 8 bytes. -/
def pad8 (bs : List Byte) : List Byte := bs ++ List.replicate ((8 - bs.length % 8) % 8) 0
/-- The QUEUE_SEG frames of a packet by entry `i`: its wide words as they were popped, VB that of the last. -/
def packetFrames (d : Dev) (q i : Nat) (ws : List QWord) : List IclFrame :=
  let fb := d.flag (ICL_QTX_A_ACTIVE i)
  let vb := match ws.getLast? with | some w => w.vb | none => 0
  let bs := (ws.flatMap (fun w => bytesAt w.data 0 32)).take (32 * (ws.length - 1) + vb)
  let err : Bool := match ws.getLast? with | some w => w.err | none => false
  let segs := segmentsOf (bs.length / 2048 + 1) bs
  let dq := if fb then d.get (ICL_QTX_B_FB_QUEUE i) else d.get (ICL_QTX_B_PRI_QUEUE i)
  (List.range segs.length).map (fun n =>
    { type := 4, src := ownId d, dest := if fb then d.get (ICL_QTX_B_FB_DEST i) else d.get (ICL_QTX_A_PRI_DEST i),
      slot := d.get (QD_CFG_KEY_IDX (d.get (ICL_QTX_A_QUEUE i))),
      a := dq + 2 ^ 14 * b2n (n == 0) + 2 ^ 15 * b2n (n + 1 == segs.length),
      b := b2n err + 2 * vb, body := pad8 (segs.getD n []), adapter := some q })
/-- QUEUE_TRANSFER (R387): at a packet boundary the adapter of port `q` pops a packet and sends it, or discards it under
an unusable slot. -/
def queueTransfer (q : Nat) (d : Dev) : Dev :=
  let busy := (List.range 4).any (fun o => (d.iport o).wait.any (fun f => f.adapter == some q))
  match (List.range 16).find? (transferReady d q) with
  | none => d
  | some i =>
    if busy then d
    else
      let u := d.get (ICL_QTX_A_QUEUE i)
      let (_, ws, d1) := qPop (iclSrc q q) u ((d.queue u).depth (qMode d u)) true d
      if ws.isEmpty then d1
      else if !slotSends d (d.get (QD_CFG_KEY_IDX u)) then
        keyUse (d.get (QD_CFG_KEY_IDX u)) (d1.incSat (ICL_PORT_TXKEY_PACKETS q))
      else
        let o := if d.flag (ICL_QTX_A_ACTIVE i) then d.get (ICL_QTX_A_FB_PORT i) else d.get (ICL_QTX_A_PRI_PORT i)
        forEach (packetFrames d q i ws) d1 (fun f d => queueOut o f d)
/-- QUEUE_SEG_RX (R388): the ingress adapter takes the oldest segment and pushes what it can. -/
def queueSegRx (q : Nat) (d : Dev) : Dev :=
  match takeInbox q (fun f => f.type == 4) d with
  | (none, _) => pushWaiting q d
  | (some (_, f), d1) => pushWaiting q (takeSegment q f d1)

/-! ### The tunnel (R389, R399) -/

/-- The tunnelled access ends. -/
def tunnelEnds (c : Resp) (d : Dev) : Dev := (d.set ICL_TUN_STAT_BUSY 0).set ICL_TUN_STAT_RESULT c.code
/-- A write of ICL_TUN_CMD. -/
def tunnelCmd (op dest : Nat) (d : Dev) : Dev :=
  iclHost (fun d =>
    if d.flag ICL_TUN_STAT_BUSY then d.answer .retry
    else if op ≠ 1 ∧ op ≠ 2 then d.answer .ok
    else if dest = ownId d then (tunnelEnds .addr d).answer .ok
    else match portTo d dest with
      | none => (tunnelEnds .timeout d).answer .ok
      | some q =>
        let body := pad8 (Config.tunReqBody (op == 2) (d.get ICL_TUN_ADDR_OFFSET) (d.get ICL_TUN_DATA_DATA))
        let f : IclFrame := { type := 5, src := ownId d, dest := dest, slot := d.get ICL_CFG_CTRL_SLOT, body := body }
        (mapIcl (fun c => { c with tunDest := dest, tunWrite := op == 2, tunAt := d.tb })
          (queueOut q f (d.set ICL_TUN_STAT_BUSY 1))).answer .ok) d
/-- TUN_RSP_RX: the response of the device asked completes the access. -/
def tunRspRx (q : Nat) (d : Dev) : Dev :=
  match takeInbox q (fun f => f.type == 6) d with
  | (none, _) => d
  | (some (_, f), d1) =>
    if !d.flag ICL_TUN_STAT_BUSY ∨ f.src ≠ d.icl.tunDest then d1
    else
      let (c, v) := Config.tunRspOf f.body
      let d2 := tunnelEnds (respOf c) d1
      if d.icl.tunWrite ∨ respOf c ≠ .ok then d2 else d2.set ICL_TUN_DATA_DATA v
/-- TUNNEL_TIMEOUT: 20 µs without a response. -/
def tunnelTimeout (d : Dev) : Dev :=
  if d.flag ICL_TUN_STAT_BUSY then tunnelEnds .timeout (d.advance (d.icl.tunAt + 80000)) else d

/-! ### Tick markers (R414 to R423) -/

/-- Edges between markers (R414). -/
def markerEvery (d : Dev) : Nat := Nat.max 1 ((1000 + d.get RM_PERIOD_NOW_NS - 1) / d.get RM_PERIOD_NOW_NS)
/-- The marker of edge `n` at the device's own time `t` (Table 11-2); TX_TB is filled in as it leaves. -/
def markerBody (d : Dev) (n t : Nat) : List Byte :=
  let tod : Int := (t : Int) + d.ctl.time.todOff
  let sec := wrap 48 (tod / (second : Int))
  let q := (tod % (second : Int)).toNat
  let (pp, pa, nn, nf, ef) : Nat × Nat × Nat × Nat × Nat := match d.ctl.time.pend with
    | some (.period ns fr e true) => (1, 0, ns, fr, e)
    | some (.align _ e true) => (0, 1, 0, 0, e)
    | _ => (0, 0, 0, 0, 0)
  leBytes 64 (n % 2 ^ 64 + 2 ^ 64 * wrap 64 ((t : Int) + d.ctl.time.tbOff) + 2 ^ 224 * sec + 2 ^ 272 * (q / 4) + 2 ^ 302 * (q % 4) +
    2 ^ 304 * d.get RM_PERIOD_NOW_NS + 2 ^ 328 * d.get RM_PERIOD_NOW_FRAC_FRAC + 2 ^ 344 * d.get RM_PERIOD_NOW_FRAC_ACC +
    2 ^ 360 * pp + 2 ^ 361 * pa + 2 ^ 368 * nn + 2 ^ 392 * nf + 2 ^ 408 * ef)
/-- TICK_MARK_SEND at edge `n`. -/
def markerSend (n t : Nat) (d : Dev) : Dev :=
  if !sendsMarkers d ∨ n % markerEvery d ≠ 0 then d
  else
    let f : IclFrame := { type := 1, src := ownId d, bcast := true, slot := d.get ICL_CFG_CTRL_SLOT, a := d.icl.mseq, body := markerBody d n t }
    sendAll none f (mapIcl (fun c => { c with mseq := (c.mseq + 1) % 65536 }) d)
/-- Field of a marker. -/
def markField (f : IclFrame) (lo w : Nat) : Nat := bitsAt (leNat (bytesAt f.body 0 64)) lo w
/-- Delay of the upstream port with its correction (R416), quarter ns. -/
def upDelay (d : Dev) (q : Nat) : Int := (d.get (RM_CASC_DLY_DLY q) : Int) + signed 16 (d.get (RM_CASC_ASYM_ASYM q))
/-- *M* (Table 11-3). -/
def markTime (d : Dev) (q : Nat) (f : IclFrame) : Int := (markField f 128 64 : Int) + (markField f 192 32 : Int) + upDelay d q
/-- TICK of a marker less the device's count for that edge, where the device has made that edge. -/
def countGap (d : Dev) (f : IclFrame) : Option Int :=
  let e := (markField f 64 64 : Int)
  let p := (2 * d.get RM_PERIOD_NOW_NS : Nat)
  (d.icl.hist.find? (fun h => decide ((h.2 : Int) + d.ctl.time.tbOff - e < (p : Int) ∧ e - ((h.2 : Int) + d.ctl.time.tbOff) ≤ (p : Int)))).map
    (fun h => (markField f 0 64 : Int) - (h.1 : Int))
/-- What the master announces is taken for the same EFFECT edge (R420), the tick in progress included; what it no longer
announces is dropped. -/
def takeAnnounced (f : IclFrame) (d : Dev) : Dev :=
  let eff := ((markField f 408 64 : Int) - d.icl.mOff).toNat
  let put (p : RmPending) (d : Dev) : Dev := mapTime (fun t => { t with pend := some p }) (d.set RM_STATUS_PEND 1)
  let stretch (d : Dev) : Dev :=
    if eff = d.ctl.time.count + 1 then
      let at' := alignTb d (d.ctl.time.lastEdge + 4 * d.get RM_PERIOD_NOW_NS)
      mapTime (fun t => { t with nextEdge := at' }) (put (.align at' eff false) d)
    else put (.align 0 eff false) d
  if eff ≤ d.ctl.time.count then dropForeign d
  else if markField f 360 1 = 1 then put (.period (markField f 368 24) (markField f 392 16) eff false) d
  else if markField f 361 1 = 1 then
    match d.ctl.time.pend with
    | some (.align _ e false) => if e = eff then d else stretch d
    | _ => stretch d
  else dropForeign d
/-- The step of TB moves what a port has noted on it: the arrival of markers, waiting or relayed, and of the last barker. -/
def stepPort (shift : Int) (p : IclPort) : IclPort :=
  { p with
    wait := p.wait.map (fun f => if f.type = 1 ∧ !f.own then { f with came := f.came + shift } else f)
    inbox := p.inbox.map (fun e => if e.2.type = 1 then (e.1 + shift, e.2) else e)
    echo := p.echo.map (fun e => (e.1, e.2 + shift)) }
/-- Steps 1 and 2 of Table 11-3 (STEP, REPHASE), for a marker that arrived at TB `at'`. -/
def followStart (q : Nat) (at' : Int) (f : IclFrame) (d : Dev) : Dev :=
  let m := markTime d q f
  let shift := m - at'
  let r := (shift % 4).toNat
  let d0 := if d.ctl.time.pend.isSome then cmdEnds .aborted (unstretch d) else d
  let d1 := if d0.flag RM_CTRL_RUN then d0 else startTicks (d0.set RM_CTRL_RUN 1)
  let own : Nat := d1.get RM_PERIOD_NOW_NS
  let start : Int := (d1.ctl.time.lastEdge : Int) + d1.ctl.time.tbOff + shift
  let d2 := mapTime (fun t => { t with tb := t.tb + r, tbOff := t.tbOff + (shift - r), fInteg := 0 }) d1
  let edge := (markField f 64 64 : Int)
  let tod : Int := (markField f 224 48 : Int) * (second : Int) + (4 * markField f 272 30 + markField f 302 2 : Nat)
  let ns := markField f 304 24
  let fr := markField f 328 16
  let acc := markField f 344 16
  let e1 : Int := edge + (4 * (ns + b2n (decide (acc < fr))) : Nat)
  let want : Int := start + (4 * own : Nat)
  let j := if want ≤ e1 then 0 else
    ((65536 * ((want - e1 + 3) / 4) - (acc : Int) + (ns * 65536 + fr : Nat) - 1) / (ns * 65536 + fr : Nat)).toNat
  let at1 : Int := e1 + (4 * (j * ns + (acc + j * fr) / 65536) : Nat)
  let next := (at1 - d2.ctl.time.tbOff).toNat
  let d3 := mapTime (fun t => { t with
    nextEdge := next, rephase := some (next, ns, fr, (acc + (j + 1) * fr) % 65536), goodMarks := 0, badMarks := 0, lastMark := d.ownTb at' + r,
    todOff := tod + (d2.tbNow - edge) - t.tb, ppsSec := none }) d2
  let d4 := mapIcl (fun c => { c with hist := [], mOff := (markField f 0 64 : Int) + 1 + j - (d3.ctl.time.count + 1 : Nat),
                                      ports := c.ports.map (fun e => (e.1, stepPort shift e.2)) }) d3
  d4.set RM_CASC_STATUS_ASTATE 2
/-- The follower servo (R418); the quotient of two markers at one instant is a free value (log 2). -/
def followServo (e : Int) (arrived : Nat) (d : Dev) : Dev :=
  let t := d.ctl.time
  let tau := arrived - t.lastMark
  let q : Rat := if tau = 0 then (signed 32 (d.freeVal 32) : Int) else (1000000000 : Rat) * e / (tau : Nat)
  let f := t.fInteg - q / 256
  let corr := clampRat (-150000) 150000 (f - q / 16)
  let d1 := if tau = 0 then d.bump else d
  mapTime (fun t => { t with fInteg := f, corr0 := corr, target := corr, corrTb := t.tb, lastMark := arrived }) d1
/-- Steps 3 and 4 (TRACKING, ALIGNED), R419 and R422. -/
def followTrack (q : Nat) (at' : Int) (f : IclFrame) (d : Dev) : Dev :=
  let e := at' - markTime d q f
  let size := e.natAbs
  let d1 := followServo e (d.ownTb at') d
  let d2 := (d1.set RM_CASC_ERR_LAST (wrap 16 (clampInt (-32768) 32767 e))).set RM_CASC_ERR_MAX (Nat.max (d1.get RM_CASC_ERR_MAX) (Nat.min size 65535))
  let good := if size ≤ 4 then d2.ctl.time.goodMarks + 1 else 0
  let bad := if 6 < size then d2.ctl.time.badMarks + 1 else 0
  let d3 := mapTime (fun t => { t with goodMarks := Nat.min good 16, badMarks := Nat.min bad 2 }) d2
  let d4 := if astate d3 = 4 then
      (if 2 ≤ bad then (mapTime (fun t => { t with goodMarks := 0 }) (d3.set RM_CASC_STATUS_ASTATE 3)).raise RM_IRQ_CAUSE_ALIGN_ERR else d3)
    else d3.set RM_CASC_STATUS_ASTATE (if 16 ≤ good then 4 else 3)
  let d5 := match countGap d4 f with
    | none => d4
    | some g =>
      let d' := mapIcl (fun c => { c with mOff := g }) d4
      if cascState d = 3 ∧ g ≠ 0 ∧ d4.ctl.time.fixNext.isNone then
        let j := ((d4.ctl.time.count : Int) + 1 + g).toNat
        mapTime (fun t => { t with fixNext := some (j, markField f 0 32) }) d'
      else d'
  readyCheck (takeAnnounced f d5)
/-- A marker from the upstream port is relayed out of every other UP port (R415). -/
def relayMarker (q : Nat) (at' : Int) (f : IclFrame) (d : Dev) : Dev :=
  if f.hops < 15 then sendAll (some q) { f with hops := f.hops + 1, came := at' - upDelay d q } d else noRoute q d
/-- TICK_MARK_RX (R415, R417): the oldest marker of port `q`. Until the timebase has locked no tick edge is made (R400), so
that a marker before that starts nothing. -/
def tickMarkRx (q : Nat) (d : Dev) : Dev :=
  match takeInbox q (fun f => f.type == 1) d with
  | (none, _) => d
  | (some (at', f), d1) =>
    if isMaster d ∨ upstream d ≠ some q then d1
    else
      let d2 := relayMarker q at' f (d1.incWrap RM_CASC_STATUS_MARKERS)
      let ticks : Bool := d.ctl.time.running || d.flag RM_STATUS_PLL_LOCK
      if !d.ctl.time.follow ∨ cascState d = 4 ∨ !ticks then d2
      else if 2 ≤ astate d then followTrack q at' f d2 else followStart q at' f d2

/-! ### The meanings -/

/-- ICL_PORT_ENABLE (R376): a write of ICL_PORT_CFG. -/
def execIclPortEnable (q : Fin 4) (v : Word) (s : State) : Host.Outcome State Fault Refusal := run s (iclPortWrite q v.toNat)
/-- ICL_TRAINING_DONE (R376). -/
def execIclTrainingDone (q : Fin 4) (s : State) : Host.Outcome State Fault Refusal := run s (trainingDone q)
/-- BARKER_SEND (R372). -/
def execBarkerSend (q : Fin 4) (s : State) : Host.Outcome State Fault Refusal := run s (barkerSend q)
/-- BARKER_RX (R374). -/
def execBarkerRx (q : Fin 4) (s : State) : Host.Outcome State Fault Refusal := run s (barkerRx q)
/-- KEY_PROBE (R376). -/
def execKeyProbe (q : Fin 4) (s : State) : Host.Outcome State Fault Refusal := run s (keyProbe q)
/-- PROBE_RX (R376). -/
def execProbeRx (q : Fin 4) (s : State) : Host.Outcome State Fault Refusal := run s (probeRx q)
/-- LINK_LOSS (R377). -/
def execLinkLoss (q : Fin 4) (s : State) : Host.Outcome State Fault Refusal := run s (linkLoss q)
/-- RX_SILENCE (R377). -/
def execRxSilence (q : Fin 4) (s : State) : Host.Outcome State Fault Refusal := run s (rxSilence q)
/-- PORT_FAULT_RETRY (R376). -/
def execPortFaultRetry (q : Fin 4) (s : State) : Host.Outcome State Fault Refusal := run s (faultRetry q)
/-- MAP_SETTLE (R378). -/
def execMapSettle (s : State) : Host.Outcome State Fault Refusal := run s mapSettle
/-- READY_SEND (R379). -/
def execReadySend (s : State) : Host.Outcome State Fault Refusal := run s readySend
/-- READY_RX (R382). -/
def execReadyRx (q : Fin 4) (s : State) : Host.Outcome State Fault Refusal := run s (readyRx q)
/-- WITHDRAW_RX (R392). -/
def execWithdrawRx (q : Fin 4) (s : State) : Host.Outcome State Fault Refusal := run s (withdrawRx q)
/-- JOIN_SEND (R380). -/
def execJoinSend (s : State) : Host.Outcome State Fault Refusal := run s joinSend
/-- JOIN_RX (R380). -/
def execJoinRx (q : Fin 4) (s : State) : Host.Outcome State Fault Refusal := run s (joinRx q)
/-- LEAVE (R381): a write of ICL_CMD with LEAVE. -/
def execLeave (s : State) : Host.Outcome State Fault Refusal := run s (iclCmdWrite true false)
/-- LEAVE_RX (R392). -/
def execLeaveRx (q : Fin 4) (s : State) : Host.Outcome State Fault Refusal := run s (leaveRx q)
/-- STATUS_SEND (R382). -/
def execStatusSend (s : State) : Host.Outcome State Fault Refusal := run s statusSend
/-- STATUS_RX (R382). -/
def execStatusRx (q : Fin 4) (s : State) : Host.Outcome State Fault Refusal := run s (statusRx q)
/-- FOLLOWER_TIMEOUT (R392). -/
def execFollowerTimeout (i : Fin 16) (s : State) : Host.Outcome State Fault Refusal := run s (followerTimeout i)
/-- MASTER_TIMEOUT (R392). -/
def execMasterTimeout (s : State) : Host.Outcome State Fault Refusal := run s masterTimeout
/-- ICL_FRAME_RX (R369): the bytes of a frame, and the TB of its timestamp point. -/
def execIclFrameRx (q : Fin 4) (bytes : List Byte) (tb : BitVec 64) (s : State) : Host.Outcome State Fault Refusal :=
  run s (iclFrameRx q bytes tb.toNat)
/-- FRAME_SEND (R368): at TB `tb`. -/
def execFrameSend (q : Fin 4) (tb : BitVec 64) (s : State) : Host.Outcome State Fault Refusal := run s (frameSend q tb.toNat)
/-- TOKEN_BATCH_RX (R386). -/
def execTokenBatchRx (q : Fin 4) (s : State) (fallback : Bool := false) : Host.Outcome State Fault Refusal :=
  run s (tokenBatchRx q fallback)
/-- TOKEN_BATCH_WRITE (R386). -/
def execTokenBatchWrite (ch : Fin 32) (s : State) : Host.Outcome State Fault Refusal := run s (tokenBatchWrite ch)
/-- QUEUE_TRANSFER (R387). -/
def execQueueTransfer (q : Fin 4) (s : State) : Host.Outcome State Fault Refusal := run s (queueTransfer q)
/-- QUEUE_SEG_RX (R388). -/
def execQueueSegRx (q : Fin 4) (s : State) : Host.Outcome State Fault Refusal := run s (queueSegRx q)
/-- TUNNEL_READ (R389). -/
def execTunnelRead (dest : Fin 16) (s : State) : Host.Outcome State Fault Refusal := run s (tunnelCmd 1 dest)
/-- TUNNEL_WRITE (R389). -/
def execTunnelWrite (dest : Fin 16) (s : State) : Host.Outcome State Fault Refusal := run s (tunnelCmd 2 dest)
/-- TUN_RSP_RX (R389). -/
def execTunRspRx (q : Fin 4) (s : State) : Host.Outcome State Fault Refusal := run s (tunRspRx q)
/-- TUNNEL_TIMEOUT (R389). -/
def execTunnelTimeout (s : State) : Host.Outcome State Fault Refusal := run s tunnelTimeout
/-- MAP_AGE_OUT (R374). -/
def execMapAgeOut (i : Fin 16) (masters : Bool) (s : State) : Host.Outcome State Fault Refusal := run s (mapAgeOut i masters)
/-- TICK_MARK_RX (R417). -/
def execTickMarkRx (q : Fin 4) (s : State) : Host.Outcome State Fault Refusal := run s (tickMarkRx q)

end Sys2Proof.Machine
end

