-- ==== Sys2Proof/Machine/Trim.lean ====
section
/-! DEFINITION. The trim store (R481 to R484, R491, R492). -/
namespace Sys2Proof.Machine
open Sys2Proof.Machine.Reg

/-- Change the trim store. -/
def mapTrim (f : TrimSt → TrimSt) (d : Dev) : Dev := { d with trim := f d.trim }
/-- The CRC-32C of a calibration set (R481). -/
def setCrc (m : List Host.Cell) : Nat := crc32c (rdBytes m 0 0xFFC)
/-- Whether the CRC of the stored calibration set is right. -/
def setGood (t : TrimSt) : Bool := !t.torn && setCrc t.store == rdLe t.store 0xFFC 4
/-- The cells of a set's calibration values. -/
def setCells (m : List Host.Cell) : List Host.Cell := m.filter (fun c => decide (c.1 < 0xFF8))
/-- Calibration values as cells: the first 0x0FF8 bytes. -/
def calCells (bs : List Byte) : List Host.Cell := wrBytes [] 0 (bs.take 0xFF8)

/-- Whether sensed VCORE and REFCLK_SYS are within the self-test limits (R484, R509). -/
def inLimits (d : Dev) : Bool :=
  decide (780 ≤ sensed d ∧ sensed d ≤ 860 ∧ 15000 ≤ d.ctl.time.refclk ∧ d.ctl.time.refclk ≤ 16200)
/-- Tightrope commands 800 mV (R484, R508), by one command; in OFF it commands nothing yet (Table 12-1). -/
def force800 (d : Dev) : Dev :=
  let d1 := d.withTg { d.tg with auto800 := true }
  if tgMode d1 = 0 then d1 else command 800 d1
/-- The 800 mV ends: HOLD and SAFETY command VSAFE_EFF again (R442). -/
def release800 (d : Dev) : Dev :=
  let d1 := d.withTg { d.tg with auto800 := false }
  if tgMode d1 = 1 ∨ tgMode d1 = 2 then command (vsafeEff d1) d1 else d1
/-- A trim operation starts. -/
def trimStart (op : Nat) (d : Dev) : Dev :=
  ((mapTrim (fun t => { t with op := op, endAt := none }) d).set TRIM_STAT_BUSY 1).set TRIM_STAT_ABORT_LATE 0
/-- A trim operation ends with RESULT `res`. -/
def trimEnd (res : Nat) (d : Dev) : Dev :=
  ((mapTrim (fun t => { t with op := 0 }) d).set TRIM_STAT_BUSY 0).set TRIM_STAT_RES_RESULT res
/-- FIELD_TRIM is asked for (R484). -/
def fieldTrim (d : Dev) : Dev :=
  if (List.range 128).any (fun r => d.flag (RING_SCHED_ARM r)) ∨ tgMode d = 5 then d.set TRIM_STAT_RES_RESULT 3
  else force800 (trimStart 2 d)
/-- ABORT is asked for: the routine stops at its next value, what it has regenerated is in the buffer (R484). R482 runs the
same routine at start-up, so that an ABORT stops it there too: the conservative set stays in force (DEDUCED: log 61). -/
def trimAbort (d : Dev) : Dev :=
  if d.trim.op = 2 ∨ d.trim.op = 3 then
    let d1 := mapTrim (fun t => { t with
      buffer := wrBytes t.buffer 0 ((Config.trimPart d.ctl.fresh).take 0xFF8), endAt := none }) d
    release800 ((trimEnd 2 d1).set TRIM_STAT_FIELD_BUF 0).bump
  else if d.trim.endAt.isSome then d.set TRIM_STAT_ABORT_LATE 1
  else d
/-- COMMIT_DONE (R483): the buffer, SOURCE and a new CRC are in the store. -/
def commitDone (d : Dev) : Dev :=
  if d.trim.op ≠ 1 then d
  else
    let src := if d.flag TRIM_STAT_FIELD_BUF then 2 else 1
    let kept := d.trim.store.filter (fun c => decide (0x1000 ≤ c.1))
    let set0 := wrLe (setCells d.trim.buffer) 0xFF8 4 src
    let store := wrLe set0 0xFFC 4 (setCrc set0) ++ kept
    trimEnd 0 (((mapTrim (fun t => { t with store := store, torn := false }) d).set TRIM_SOURCE_STORED src).incSat TRIM_STAT_COMMITS)
/-- FIELD_TRIM_DONE (R482, R484): every value has been regenerated as `vals`. -/
def fieldTrimDone (vals : List Byte) (d : Dev) : Dev :=
  let filled (d : Dev) : Dev := (mapTrim (fun t => { t with buffer := calCells vals }) d).set TRIM_STAT_FIELD_BUF 1
  if d.trim.op = 3 then
    release800 ((mapTrim (fun t => { t with force := some (calCells vals), endAt := some d.tb }) (trimEnd 0 (filled d))).set
      TRIM_SOURCE_IN_FORCE 2)
  else if d.trim.op ≠ 2 then d
  else if !inLimits d then release800 (mapTrim (fun t => { t with endAt := some d.tb }) (trimEnd 1 d))
  else release800 (mapTrim (fun t => { t with endAt := some d.tb }) (trimEnd 0 (filled d)))

/-- TRIM_ADDR of the next access. -/
def trimNext (d : Dev) : Dev := d.set TRIM_ADDR_ADDR (d.get TRIM_ADDR_ADDR + 4)
/-- The word of the trim store at offset `a` (R481): the hours as Tightrope last saved them; a set cut short by a loss of
power holds what it may. -/
def trimWord (d : Dev) (a : Nat) : Nat :=
  if 0x1010 ≤ a ∧ a < 0x1020 then Config.hoursWord a d.tg.savedHours d.tg.savedHot % 2 ^ 32
  else if d.trim.torn ∧ a < 0x1000 then d.freeVal 32
  else rdLe d.trim.store a 4
/-- A read of TRIM_DATA (R491). -/
def trimRead (d : Dev) : Dev :=
  let a := d.get TRIM_ADDR_ADDR / 4 * 4
  let d1 := if d.trim.torn ∧ a < 0x1000 then d.bump else d
  (trimNext d1).answer .ok [trimWord d a]
/-- A write of TRIM_DATA (R483, R491). -/
def trimWrite (v : Nat) (d : Dev) : Dev :=
  let a := d.get TRIM_ADDR_ADDR / 4 * 4
  if 0xFF8 ≤ a then (trimNext d).answer .addr
  else
    let d1 := mapTrim (fun t => { t with buffer := wrLe t.buffer a 4 v }) d
    (trimNext (d1.set TRIM_STAT_FIELD_BUF 0)).answer .ok

/-! ### The meanings -/

/-- COMMIT_DONE (R483). -/
def execCommitDone (s : State) : Host.Outcome State Fault Refusal := run s commitDone
/-- TRIM_DATA_READ (R491). -/
def execTrimDataRead (s : State) : Host.Outcome State Fault Refusal := run s trimRead
/-- TRIM_DATA_WRITE (R491). -/
def execTrimDataWrite (v : Word) (s : State) : Host.Outcome State Fault Refusal := run s (trimWrite v.toNat)

end Sys2Proof.Machine
end

