-- ==== Sys2Proof/Machine/SelfTest.lean ====
section
/-! DEFINITION. Self-test (R506 to R514, R525, R526, R528): starting a run, its limits, its end. -/
namespace Sys2Proof.Machine
open Sys2Proof.Machine.Reg

/-- Change the self-test machinery. -/
def mapBist (f : BistSt → BistSt) (d : Dev) : Dev := { d with bist := f d.bist }
/-- Bits of a number that are set, below `n`. -/
def onesBelow (n v : Nat) : Nat := (List.range n).countP (bitAt v)
/-- Default pattern counts (Table 14-3). -/
def defaultCount : Nat → Nat
  | 0 => 480 | 1 => 66016 | 2 => 72000 | 3 => 4096 | 4 => 1024 | _ => 0
/-- Rings that a run on ring `r` tests: its group (R506). -/
def ringTargets (d : Dev) (r : Nat) : List Nat := d.members (d.lead r)
/-- Bits of the check map that a mask selects (R507, Table 14-4). -/
def checkBits (mask : Nat) : List Nat :=
  ((List.range 6).filter (bitAt mask)).flatMap (fun o => (List.range 8).map (8 * o + ·)) ++
  ((List.range 4).filter (fun q => bitAt mask (6 + q))).flatMap (fun q => (List.range 4).map (48 + 4 * q + ·)) ++
  ((List.range 8).filter (fun n => bitAt mask (10 + n))).map (64 + ·) ++
  (if bitAt mask 18 then [72, 73, 74, 75] else [])
/-- The mask of an automatic run (R508). -/
def autoMask (d : Dev) : Nat := 0x403FF + 2 ^ 10 * (2 ^ popCount d - 1)
/-- Programmed count of a run (R507, R513). -/
def programmed (d : Dev) (kind target : Nat) : Nat :=
  if kind = 5 then (checkBits target).length
  else if d.get BIST_CFG_COUNT = 0 then defaultCount kind else d.get BIST_CFG_COUNT
/-- Expected signature of a run (R507, R513). -/
def expected (d : Dev) (kind : Nat) : Nat :=
  if kind = 5 then 0
  else if d.flag BIST_CFG_OWN_EXP then d.get BIST_EXP_SIG else Config.bistSignature kind % 2 ^ 32

/-! ### Refusals (Table 14-5) -/

/-- Order 1: the target is out of range, or the programmed count has no expected signature (R513, R525). -/
def badTarget (d : Dev) (kind t : Nat) : Bool :=
  match kind with
  | 0 => decide (128 ≤ t) || (d.get BIST_CFG_COUNT != 0 && !d.flag BIST_CFG_OWN_EXP)
  | 1 => decide (128 ≤ t) || (d.get BIST_CFG_COUNT != 0 && !d.flag BIST_CFG_OWN_EXP)
  | 2 => d.get BIST_CFG_COUNT != 0 && !d.flag BIST_CFG_OWN_EXP
  | 3 => decide (popCount d ≤ t) || (d.get BIST_CFG_COUNT != 0 && !d.flag BIST_CFG_OWN_EXP)
  | 4 => d.get BIST_CFG_COUNT != 0 && !d.flag BIST_CFG_OWN_EXP
  | 5 => decide (2 ^ 19 ≤ t) || (List.range 8).any (fun n => bitAt t (10 + n) && decide (popCount d ≤ n))
  | _ => true
/-- Order 2: the target's state does not allow the run. -/
def badState (d : Dev) (kind t : Nat) : Bool :=
  match kind with
  | 0 => ringBusy t
  | 1 => ringBusy t
  | 3 => xmcState d t == 0 || xmcState d t == 1
  | 4 => (List.range 4).any (iclUp d) || (List.range 256).any (fun f => cfState d f == 1 || cfState d f == 3 || cfState d f == 4) ||
      d.cx.op.isSome || d.flag CX_STATUS_ZEROISING
  | 5 => (List.range 48).any (fun p => bitAt t (p / 8) && d.flag (EP_CFG_EN p)) ||
      (List.range 4).any (fun q => bitAt t (6 + q) && d.flag (ICL_PORT_CFG_EN q)) ||
      (List.range 8).any (fun n => bitAt t (10 + n) && xmcState d n != 0)
  | _ => false
where
  /-- A ring of the group is CLOSED for a load, or a load runs. -/
  ringBusy (t : Nat) : Bool :=
    d.cfg.load.isSome || (ringTargets d t).any (fun m => d.get (RING_STATUS_STATE m) == 5 || (d.ring m).closeReq != .none)
/-- The limits are measured (R509, R511). -/
def measureLimits (d : Dev) : Dev := (d.set BIST_LIMITS_VCORE_MV (sensed d)).set BIST_LIMITS_REFCLK d.ctl.time.refclk

/-! ### Inspection (R510, R512) -/

/-- Requests that reached a controller before its inspection are completed (R510). -/
def drainXmc (n : Nat) (d : Dev) : Dev :=
  let work := ((openParts d).map (fun p => p.2.2.2.seated + p.2.2.2.dyn + 1)).sum
  forEach (List.range work) d (fun _ d => if (sget 0 d.xm.drift n) = 0 then grant n d else { d with xm := { d.xm with drift := sset 0 d.xm.drift n 0 } })
/-- The target of a run closes for inspection; what had reached it is completed first (R510). -/
def inspect (kind t : Nat) (d : Dev) : Dev :=
  match kind with
  | 0 => closeRings t d
  | 1 => closeRings t d
  | 2 => (forEach (List.range 96) d drainPort).set QM_STATUS_STATE 1
  | 3 => (drainXmc t d).set (XMC_STATUS_STATE t) 4
  | 4 => d.withCx { d.cx with closed := true }
  | _ =>
    let d1 := forEach ((List.range 48).filter (fun p => bitAt t (p / 8))) d (fun p d => d.set (EP_STATUS_STATE p) 4)
    let link : Bool := (List.range 4).any (fun q => bitAt t (6 + q))
    let d2 := if link then forEach (List.range 4) (forEach (List.range 4) (endMembership true d1) (fun q d => portDrop q 0 d))
        (fun q d => d.set (ICL_PORT_STATUS_STATE q) 5) else d1
    forEach ((List.range 8).filter (fun n => bitAt t (10 + n))) d2 (fun n d => d.set (XMC_STATUS_STATE n) 4)
where
  /-- Rings leave the schedule as by R47 and close. -/
  closeRings (t : Nat) (d : Dev) : Dev := forEach (ringTargets d t) (disarm (d.lead t) d) (askClose .inspection)
/-- Whether the target of a run is closed. -/
def isClosed (d : Dev) (b : RunSt) : Bool :=
  if b.kind ≤ 1 then (ringTargets d b.target).all (fun m => d.inspected m) else true
/-- A ring after a memory test: both memories zero with valid check bits; after RING_FULL its frames are cleared too. -/
def ringAfter (full : Bool) (m : Nat) (d : Dev) : Dev :=
  let d1 := d.chipZero (ringWordAt m 0 0) 0x40000
  let d2 := forEach (engsOf m) d1 (fun e d => d.chipZero (dataAt e 0) 0xC000)
  if full then clearFrames m d2 else d2
/-- The target leaves inspection in the state of Table 14-3. -/
def leaveInspection (b : RunSt) (d : Dev) : Dev :=
  match b.kind with
  | 0 => ringsBack false d
  | 1 => ringsBack true d
  | 2 => qmInit d
  | 3 => trainStart b.target d
  | 4 => d.withCx { d.cx with closed := false }
  | _ =>
    let d1 := forEach ((List.range 48).filter (fun p => bitAt b.target (p / 8))) d (fun p d =>
      d.set (EP_STATUS_STATE p) (if d.flag (EP_CFG_EN p) then 1 else 0))
    let link : Bool := (List.range 4).any (fun q => bitAt b.target (6 + q))
    let d2 := if link then forEach (List.range 4) d1 (fun q d =>
        d.set (ICL_PORT_STATUS_STATE q) (if d.flag (ICL_PORT_CFG_EN q) then 1 else 0)) else d1
    forEach ((List.range 8).filter (fun n => bitAt b.target (10 + n))) d2 (fun n d =>
      if d.flag (XMC_CTRL_EN n) then trainStart n d else d.set (XMC_STATUS_STATE n) 0)
where
  /-- Rings of the group come back. -/
  ringsBack (full : Bool) (d : Dev) : Dev :=
    let ms := ringTargets d b.target
    forEach ms (forEach ms d (ringAfter full)) reopen

/-! ### Runs -/

/-- A run begins. -/
def beginRun (kind t : Nat) (auto : Bool) (d : Dev) : Dev :=
  let b : RunSt := { kind := kind, target := t, count := programmed d kind t, expect := expected d kind }
  let d1 := ((((d.set BIST_STATUS_BUSY 1).set BIST_STATUS_ABORT_LATE 0).set BIST_STATUS_AUTO (b2n auto)).set BIST_STATUS_KIND kind).set
    BIST_STATUS_VERDICT 1
  let d2 := (((d1.set BIST_STATUS_RESULT 0).set BIST_DONE_PATTERNS 0).set BIST_SIG_SIG 0).set BIST_FAILS_FAILS 0
  let d3 := if kind = 5 then forEach (List.range 3) d2 (fun i d => d.set (BIST_ABIST_MAP_FAILS i) 0) else d2
  inspect kind t (mapBist (fun x => { x with run := some b, endAt := none }) d3)
/-- START (R509): the first refusal in table order decides. -/
def bistStart (kind : Nat) (d : Dev) : Dev :=
  let t := d.get BIST_TARGET_TARGET
  if badTarget d kind t ∨ badState d kind t then d.set BIST_STATUS_VERDICT 6
  else
    let d1 := measureLimits d
    if inLimits d1 then beginRun kind t false d1 else d1.set BIST_STATUS_VERDICT 5
/-- An automatic ANALOGUE run (R508): never refused, at 800 mV. -/
def autoRun (d : Dev) : Dev := beginRun 5 (autoMask d) true (force800 d)
/-- ABORT (R514): the run stops at its next pattern boundary; one that follows completion finds the run complete (R9). -/
def bistAbort (d : Dev) : Dev :=
  match d.bist.run, d.bist.endAt with
  | some _, _ => mapBist (fun x => { x with run := x.run.map (fun b => { b with stop := .aborted }) }) d
  | none, some _ => d.set BIST_STATUS_ABORT_LATE 1
  | none, none => d
/-- A write of BIST_CMD (R509, R525). -/
def bistCmdWrite (op kind : Nat) (d : Dev) : Dev :=
  if op = 2 then (bistAbort d).answer .ok
  else if d.flag BIST_STATUS_BUSY then d.answer .retry
  else (if op = 1 then bistStart kind d else d).answer .ok
/-- TRIM_CMD ABORT: where it stops the field trim of a cold start, the automatic run follows (Table 13-6). -/
def trimStop (d : Dev) : Dev := if d.trim.op = 3 then autoRun (trimAbort d) else trimAbort d
/-- A write of TRIM_CMD (R483, R484, R491). -/
def trimCmdWrite (op code : Nat) (d : Dev) : Dev :=
  if op = 3 then (trimStop d).answer .ok
  else if op = 1 ∧ code ≠ 0xC5A7 then d.answer .perm
  else if (op = 1 ∨ op = 2) ∧ d.flag TRIM_STAT_BUSY then d.answer .retry
  else if op = 1 then (trimStart 1 d).answer .ok
  else if op = 2 then (fieldTrim d).answer .ok
  else if d.flag TRIM_STAT_BUSY then d.answer .retry
  else d.answer .ok
/-- BIST_LIMIT_CHECK (R511). -/
def limitCheck (d : Dev) : Dev :=
  match d.bist.run with
  | none => d
  | some b =>
    let d1 := measureLimits d
    if inLimits d1 ∨ b.stop ≠ .goes then d1
    else mapBist (fun x => { x with run := some { b with stop := .limits } }) d1
/-- A run ends with a verdict: results, interrupt, recorder entry, and its target leaves inspection (R513, R514). -/
def endRun (b : RunSt) (verdict result pats sig : Nat) (done : Bool) (d : Dev) : Dev :=
  let d1 := (((d.set BIST_STATUS_BUSY 0).set BIST_STATUS_VERDICT verdict).set BIST_STATUS_RESULT result).raise BIST_IRQ_CAUSE_DONE
  let d2 := (if verdict = 2 then d1 else d1.raise BIST_IRQ_CAUSE_BAD).bbr 10 1 false (b.kind + 8 * verdict) b.target
  let d3 := (d2.set BIST_DONE_PATTERNS pats).set BIST_SIG_SIG sig
  let d4 := if b.kind = 5 ∧ verdict = 2 then
      mapBist (fun x => { x with lastTb := d.tb, lastTj := tjMax d })
        ((d3.set BIST_ABIST_LAST_VALID 1).set BIST_ABIST_LAST_TJ (tempReg (tjMax d3)))
    else d3
  let d5 := mapBist (fun x => { x with run := none, endAt := if done then some d.tb else none }) d4
  if d5.flag BIST_STATUS_AUTO then release800 d5 else d5
/-- BIST_RUN_END (R507, R513): `pats` patterns applied, the signature, failing operations and the first, and the checks
that failed of an ANALOGUE run. -/
def bistRunEnd (pats sig fails addr map : Nat) (d : Dev) : Dev :=
  match d.bist.run with
  | none => d
  | some b =>
    if !isClosed d b then d
    else
      let n := Nat.min pats b.count
      let bad := (checkBits b.target).filter (bitAt map)
      let s := if b.kind = 5 then bad.length else sig
      let d1 := if b.kind = 5 then forEach bad d (fun i d => d.setBit (BIST_ABIST_MAP_FAILS (i / 32)) (i % 32)) else d
      let d2 := d1.set BIST_FAILS_FAILS fails
      let d3 := if fails = 0 then d2 else (d2.set BIST_FAIL_ADDR_ARRAY (addr / 65536)).set BIST_FAIL_ADDR_WORD addr
      let d4 := leaveInspection b d3
      if n = b.count then
        let d5 := if b.stop = .aborted then d4.set BIST_STATUS_ABORT_LATE 1 else d4
        endRun b (if s = b.expect then 2 else 3) 0 n s true d5
      else match b.stop with
        | .limits => endRun b 5 0 n s false d4
        | .aborted => endRun b 4 11 n s false d4
        | .goes => endRun b 4 0 n s false d4
/-- A warm reset or PROG_N ends a run as INCOMPLETE (R514): how far it had come is open. -/
def bistCut (d : Dev) : Dev :=
  match d.bist.run with
  | none => d
  | some b =>
    let d1 := if isClosed d b then leaveInspection b d
      else forEach (ringTargets d b.target) d (fun m d => mapRing m (fun x => { x with closeReq := .none }) d)
    endRun b 4 11 (if b.count = 0 then 0 else d1.freeVal 24 % b.count) (d1.bump.freeVal 32) false d1.bump.bump
/-- Minutes since the last analogue pass (R526). -/
def ageMinutes (d : Dev) : Nat := Nat.min ((d.tb - d.bist.lastTb) / 240000000000) (2 ^ 22 - 1)
/-- Whether a warm start runs analogue BIST (R479). -/
def abistDue (d : Dev) : Bool :=
  !d.flag BIST_ABIST_LAST_VALID || decide (345600000000000 < d.tb - d.bist.lastTb) ||
    decide (160 < tjMax d - d.bist.lastTj) || decide (160 < d.bist.lastTj - tjMax d)

/-! ### The meanings -/

/-- BIST_START (R509): BIST_CMD with START and a kind. -/
def execBistStart (kind : Fin 8) (s : State) : Host.Outcome State Fault Refusal := run s (bistCmdWrite 1 kind.val)
/-- BIST_ABORT (R514). -/
def execBistAbort (s : State) : Host.Outcome State Fault Refusal := run s (bistCmdWrite 2 0)
/-- BIST_LIMIT_CHECK (R511). -/
def execBistLimitCheck (s : State) : Host.Outcome State Fault Refusal := run s limitCheck

/-- COMMIT (R483): TRIM_CMD with a code. -/
def execCommit (code : BitVec 16) (s : State) : Host.Outcome State Fault Refusal := run s (trimCmdWrite 1 code.toNat)
/-- FIELD_TRIM (R484). -/
def execFieldTrim (s : State) : Host.Outcome State Fault Refusal := run s (trimCmdWrite 2 0)
/-- TRIM_ABORT (R484). -/
def execTrimAbort (s : State) : Host.Outcome State Fault Refusal := run s (trimCmdWrite 3 0)
end Sys2Proof.Machine
end

