-- ==== Sys2Proof/Machine/RegMap.lean ====
section
/-! DEFINITION. Which register stands at a BAR0 address (R13, R571, Table 0-6, Table 16-6), which blocks ignore writes, and
whether a reset leaves a register as it is. -/
namespace Sys2Proof.Machine
open Sys2Proof.Machine.Reg

/-- Registers of the Turnstile slots in the window of ring `r`; `o` is the offset in the window (R571). -/
def slotsAt (r o a : Nat) : List Fld := if 0x400 ≤ o ∧ o < 0xA80 then slotAt r ((o - 0x400) / 0x40) a else []
/-- Registers of the service block (Table 16-6). -/
def serviceAt (a : Nat) : List Fld :=
  if a < 0x00450000 then bistAt a
  else if a < 0x00451000 then gpioAt a
  else if a < 0x00451600 then i2cAt ((a - 0x00451000) / 0x100) a
  else if a < 0x00452000 then []
  else if a < 0x00452600 then spiAt ((a - 0x00452000) / 0x100) a
  else if a < 0x00453000 then []
  else if a < 0x00453600 then uartAt ((a - 0x00453000) / 0x100) a
  else if a < 0x00454000 then []
  else if a < 0x00454600 then mdioAt ((a - 0x00454000) / 0x100) a
  else if a < 0x00460000 then []
  else if a < 0x00470000 then trimAt a
  else tsTimeoutAt a
/-- Registers of the XMC region: the globals stand in the window of XMC0 only (chapter 7, Registers). -/
def xmcRegionAt (a : Nat) : List Fld :=
  let n := (a - 0x01400000) / 0x40000
  if (a - 0x01400000) % 0x40000 < 0x8000 then xmcAt n a
  else if n ≠ 0 then []
  else if 0x01410000 ≤ a ∧ a < 0x01414000 then fileAt ((a - 0x01410000) / 0x40) a
  else xmGlobalAt a
/-- Registers of the Ethernet complex. -/
def ethernetAt (a : Nat) : List Fld :=
  if a < 0x01803000 then portAt ((a - 0x01800000) / 0x100) a
  else if a < 0x01810000 then []
  else if a < 0x01813000 then boatAt ((a - 0x01810000) / 0x400) a
  else []
/-- The fields of the register at a BAR0 address; none where no register stands there (R4, R13, R571). -/
def fldsAt (a : Nat) : List Fld :=
  if a % 4 ≠ 0 then []
  else if a < 0x00001000 then globalIdAt a ++ globalAt a
  else if a < 0x00001200 then dmaAt ((a - 0x00001000) / 0x40) a
  else if a < 0x00100000 then []
  else if a < 0x00200000 then ringmasterAt a
  else if a < 0x00300000 then tightropeAt a
  else if a < 0x00400000 then configAt a
  else if a < 0x00800000 then serviceAt a
  else if a < 0x00900000 then queueGlobalAt a
  else if a < 0x00980000 then queueAt ((a - 0x00900000) / 0x20) a
  else if a < 0x01000000 then []
  else if a < 0x01400000 then cryptoAt a
  else if a < 0x01600000 then xmcRegionAt a
  else if a < 0x01800000 then []
  else if a < 0x01C00000 then ethernetAt a
  else if a < 0x02000000 then
    ifeotteAt a ++ (if 0x01C00100 ≤ a ∧ a < 0x01C00200 then iclPortAt ((a - 0x01C00100) / 0x40) a else [])
  else if a < 0x02800000 then
    let r := (a - 0x02000000) / 0x10000
    ringAt r a ++ slotsAt r ((a - 0x02000000) % 0x10000) a
  else if a < 0x04000000 then []
  else if a < 0x04400000 then engineAt ((a - 0x04000000) / 0x1000) a
  else []

/-- The field with a number of the register store, where there is one. -/
def fldOfKey (k : Nat) : Option Fld := (fldsAt (k / 32)).find? (fun f => f.lo == k % 32)
/-- The value of a register word. -/
def regWord (d : Dev) (a : Nat) : Nat := wordOf d.ctl (fldsAt a)

/-! ### Blocks that are closed for inspection -/

/-- R512: a block closed for inspection ignores writes of its registers and answers them CLOSED. -/
def closedAt (d : Dev) (a : Nat) : Bool :=
  if a < 0x00800000 then false
  else if a < 0x01000000 then d.get QM_STATUS_STATE == 1
  else if a < 0x01400000 then d.cx.closed
  else if a < 0x01600000 then (a - 0x01400000) % 0x40000 < 0x8000 && xmcState d ((a - 0x01400000) / 0x40000) == 4
  else if a < 0x01800000 then false
  else if a < 0x01810000 then octetClosed d ((a - 0x01800000) / 0x800)
  else if a < 0x01C00000 then octetClosed d ((a - 0x01810000) / 0x800)
  else if a < 0x02000000 then iclClosed d
  else if a < 0x02800000 then d.inspected ((a - 0x02000000) / 0x10000)
  else if a < 0x04000000 then false
  else if a < 0x04400000 then d.inspected ((a - 0x04000000) / 0x8000)
  else false

end Sys2Proof.Machine
end

