-- ==== Sys2Proof/Machine/Irq.lean ====
section
/-! DEFINITION. Interrupts (R413, R567 to R569, R573): sources, vectors, MSI-X messages, end of service, summaries. -/
namespace Sys2Proof.Machine
open Sys2Proof.Machine.Reg

/-! ### Sources (Table 16-4) -/

/-- Whether a cause register has a set bit under its enable register. -/
def hot (d : Dev) (cause en : Nat) : Bool := (regWord d cause &&& regWord d en) != 0
/-- A ring's bit of RM_RING_IRQ (R413). -/
def ringIrq (d : Dev) (r : Nat) : Bool := hot d (ringBase r + 0x68) (ringBase r + 0x6C)
/-- RM_IRQ_CAUSE.RING: any ring has a set cause under its enable (R413). -/
def anyRingIrq (d : Dev) : Bool := (List.range 128).any (ringIrq d)
/-- A fabric or Turnstile cause of ring `r` (R573). -/
def fabIrq (d : Dev) (r : Nat) : Bool :=
  hot d (ringBase r + 0x134) (ringBase r + 0x138) || (List.range 26).any (fun t => hot d (slotBase r t + 8) (slotBase r t + 0xC))
/-- A cause of an engine of ring `r` (R573). -/
def engIrq (d : Dev) (r : Nat) : Bool := (List.range 8).any (fun k => hot d (engBase (8 * r + k) + 0x88) (engBase (8 * r + k) + 0x8C))
/-- A cause of Ethernet port `p`. -/
def portIrq (d : Dev) (p : Nat) : Bool := hot d (portBase p + 0x90) (portBase p + 0x94)
/-- A cause of swingboat `s`. -/
def boatIrq (d : Dev) (s : Nat) : Bool := hot d (boatBase s + 0x40) (boatBase s + 0x44)
/-- A cause of a low-speed peripheral of bank `b`. -/
def periphIrq (d : Dev) (b : Nat) : Bool :=
  hot d (i2cBase b + 0x14) (i2cBase b + 0x18) || hot d (spiBase b + 0x14) (spiBase b + 0x18) ||
    hot d (uartBase b + 0x14) (uartBase b + 0x18) || hot d (mdioBase b + 0x14) (mdioBase b + 0x18)
/-- A cause of the service source. -/
def serviceIrq (d : Dev) : Bool :=
  hot d 0x00400030 0x00400034 || (List.range 3).any (fun i => hot d (0x00450260 + 4 * i) (0x00450270 + 4 * i)) ||
    hot d 0x00450328 0x0045032C || (List.range 6).any (periphIrq d)
/-- R567: whether a source of GLOBAL_IRQ is active. -/
def sourceActive (d : Dev) (s : Nat) : Bool :=
  match s with
  | 0 => hot d 0x001000E0 0x001000E4 || (d.flag RM_IRQ_EN_RING && anyRingIrq d)
  | 1 => hot d 0x00200080 0x00200084
  | 2 => hot d 0x00300040 0x00300044 || hot d 0x00300430 0x00300434
  | 3 => serviceIrq d
  | 4 => (List.range 128).any (fabIrq d)
  | 5 => (List.range 128).any (engIrq d)
  | 6 => hot d 0x00800020 0x00800024
  | 7 => (List.range 8).any (fun n => hot d (xmcBase n + 0xC) (xmcBase n + 0x10))
  | 8 => hot d 0x01000010 0x01000014
  | 9 => (List.range 48).any (portIrq d) || (List.range 12).any (boatIrq d)
  | 10 => hot d 0x01C00024 0x01C00028
  | 11 => d.flag SEC_ALARM_CAUSE
  | 12 => hot d 0x00000414 0x00000418
  | _ =>
    if 16 ≤ s ∧ s < 24 then hot d (dmaBase (s - 16) + 0x20) (dmaBase (s - 16) + 0x24)
    else if 24 ≤ s ∧ s < 40 then bitAt (d.get GIRQ_SW_SW) (s - 24)
    else false
/-- The bits of a word of 32 conditions. -/
def bits32 (f : Nat → Bool) : Nat := (List.range 32).foldl (fun v j => v + 2 ^ j * b2n (f j)) 0
/-- GIRQ_STATUS as it reads (R572). -/
def girqStatus (d : Dev) (i : Nat) : Nat := bits32 (fun j => sourceActive d (32 * i + j))
/-- R569: whether INT_N is driven low. -/
def intLow (d : Dev) : Bool :=
  (List.range 64).any (fun s => sourceActive d s && bitAt (d.get (GIRQ_INTN_EN_EN (s / 32))) (s % 32))

/-! ### Vectors (R568) -/

/-- Whether a vector is asserted. -/
def asserted (d : Dev) (v : Nat) : Bool :=
  (List.range 64).any (fun s => d.get (GIRQ_MAP_VECTOR s) == v && bitAt (d.get (GIRQ_EN_EN (s / 32))) (s % 32) && sourceActive d s)
/-- Whether a vector is in service. -/
def inService (d : Dev) (v : Nat) : Bool := bitAt (d.get (GIRQ_INSERV_INSERV (v / 32))) (v % 32)
/-- DW `i` of the entry of vector `v` in the MSI-X table: address low, address high, data, control with Mask in bit 0, set
after a reset (log 45). -/
def msixDw (d : Dev) (v i : Nat) : Nat := sget (if i = 3 then 1 else 0) d.host.msix (4 * v + i)
/-- Change the host port. -/
def mapHost (f : HostSt → HostSt) (d : Dev) : Dev := { d with host := f d.host }
/-- Whether messages of a vector are masked or, in D3hot, held (R558, R568). -/
def vectorMasked (d : Dev) (v : Nat) : Bool := d.host.fmask || d.host.d3 || bitAt (msixDw d v 3) 0
/-- MSIX_SEND: an asserted vector that is not in service sends its message, or is pending where it is masked. -/
def msixSend (v : Nat) (d : Dev) : Dev :=
  if !asserted d v || inService d v || !d.host.msixOn then d
  else if vectorMasked d v then mapHost (fun h => { h with pba := h.pba ||| 2 ^ v }) d
  else
    let d1 := d.emit (.msix v (msixDw d v 0 + 2 ^ 32 * msixDw d v 1) (msixDw d v 2))
    mapHost (fun h => { h with pba := h.pba - (if bitAt h.pba v then 2 ^ v else 0) }) (d1.setBit (GIRQ_INSERV_INSERV (v / 32)) (v % 32))
/-- The masks of a vector have changed: a pending message goes where the vector is still asserted; where it is not, nothing
is pending any more. -/
def msixUnmasked (v : Nat) (d : Dev) : Dev :=
  if !bitAt d.host.pba v || vectorMasked d v || !d.host.msixOn then d
  else if asserted d v then msixSend v d
  else mapHost (fun h => { h with pba := h.pba - 2 ^ v }) d
/-- R568: a write of GIRQ_EOI. -/
def girqEoi (v : Nat) (d : Dev) : Dev :=
  (if inService d v then msixSend v (d.clrBit (GIRQ_INSERV_INSERV (v / 32)) (v % 32)) else d).answer .ok
/-- A write of a DW of the MSI-X table. -/
def msixWrite (i v : Nat) (d : Dev) : Dev :=
  let w := if i % 4 = 3 then v % 2 else if i % 4 = 0 then v / 4 * 4 % 2 ^ 32 else v % 2 ^ 32
  msixUnmasked (i / 4) (mapHost (fun h => { h with msix := sset (if i % 4 = 3 then 1 else 0) h.msix i w }) d)
/-- A DW of the MSI-X table or of the PBA as it reads. -/
def msixRead (d : Dev) (a : Nat) : Nat :=
  if a < 0x9000 then msixDw d ((a - 0x8000) / 16) ((a - 0x8000) / 4 % 4) else bitsAt d.host.pba (8 * (a - 0x9000)) 32
/-- The host clears the Mask bit of a vector (R568). -/
def vectorUnmask (v : Nat) (d : Dev) : Dev := msixWrite (4 * v + 3) 0 d

/-! ### The meanings -/

/-- GIRQ_EOI (R568). -/
def execGirqEoi (v : Fin 256) (s : State) : Host.Outcome State Fault Refusal := run s (girqEoi v.val)
/-- MSIX_SEND (R568). -/
def execMsixSend (v : Fin 256) (s : State) : Host.Outcome State Fault Refusal := run s (msixSend v.val)
/-- MSIX_VECTOR_UNMASK (R568). -/
def execMsixVectorUnmask (v : Fin 256) (s : State) : Host.Outcome State Fault Refusal := run s (vectorUnmask v.val)

end Sys2Proof.Machine
end

