-- ==== Sys2Proof/Machine/Pins.lean ====
section
/-! DEFINITION. GPIO pins and low-speed peripherals (R529 to R555). -/
namespace Sys2Proof.Machine
open Sys2Proof.Machine.Reg

/-- Change a pin. -/
def mapPin (n : Nat) (f : PinSt → PinSt) (d : Dev) : Dev :=
  { d with pins := { d.pins with pins := sset {} d.pins.pins n (f (d.pin n)) } }
/-- The bit of pin `n` in a word register (R553). -/
def pinBit (d : Dev) (f : Nat → Fld) (n : Nat) : Bool := bitAt (d.get (f (n / 32))) (n % 32)
/-- The level at pin `n` (R539, R540, R551): the boundary register's, the driver's under FUNC 0, or the board's. -/
def padLevel (d : Dev) (n : Nat) : Bool :=
  match d.pins.jtag with
  | some (v, en) => if bitAt en n then bitAt v n else (d.pin n).level
  | none =>
    let out := pinBit d GPIO_OUT_OUT n
    if d.get (GPIO_PIN_CFG_FUNC n) = 0 ∧ pinBit d GPIO_OE_OE n ∧ !switching d n ∧ !(d.flag (GPIO_PIN_CFG_OD n) && out) then out
    else (d.pin n).level
/-- A pin event (R544). -/
def pinEvent (n : Nat) (rising : Bool) (d : Dev) : Dev :=
  let e := d.get (GPIO_PIN_CFG_EVT n)
  if e = 3 ∨ (e = 1 ∧ rising) ∨ (e = 2 ∧ !rising) then d.setBit (GPIO_IRQ_CAUSE_EDGE (n / 32)) (n % 32) else d
/-- The filter history of a pin restarts: its level becomes the filtered level and raises nothing (R545). -/
def restartFilter (n : Nat) (d : Dev) : Dev :=
  let l := padLevel d n
  mapPin n (fun p => { p with sync := l, filt := l, since := none, switch := none }) d
/-- Whether a pin's filter counts (R543). -/
def filtered (d : Dev) (n : Nat) : Bool := d.get (GPIO_PIN_CFG_FILT n) == 1 || d.get (GPIO_PIN_CFG_FILT n) == 2
/-- The synchronised level follows the pin: a function switch that has come to its end restarts the history (R536); a
changed level passes the filter, or starts its count (R543). -/
def settlePin (n : Nat) (d : Dev) : Dev :=
  match (d.pin n).switch with
  | some t => if d.tb < t then d else restartFilter n d
  | none =>
    let l := padLevel d n
    if !powered d n ∨ l = (d.pin n).sync then d
    else if filtered d n then
      mapPin n (fun p => { p with sync := l, since := if l = p.filt then none else some d.tb }) d
    else pinEvent n l (mapPin n (fun p => { p with sync := l, filt := l, since := none }) d)
/-- Change something about a pin whose level it may move. -/
def touchPin (n : Nat) (f : Dev → Dev) (d : Dev) : Dev := settlePin n (f (settlePin n d))
/-- Pins of word `i`. -/
def wordPins (i : Nat) : List Nat := (List.range 32).map (32 * i + ·)
/-- Change a word register: every pin of the word follows. -/
def touchWord (i : Nat) (f : Dev → Dev) (d : Dev) : Dev :=
  forEach (wordPins i) (f (forEach (wordPins i) d settlePin)) settlePin
/-- A function switch starts at this clock edge (R535, R551). -/
def startSwitch (n : Nat) (d : Dev) : Dev := mapPin n (fun p => { p with switch := some (d.tb + 120), since := none }) d

/-- Fields of GPIO_PIN_CFG. -/
def pinCfgFlds (n : Nat) : List Fld :=
  [GPIO_PIN_CFG_EVT n, GPIO_PIN_CFG_FILT n, GPIO_PIN_CFG_OD n, GPIO_PIN_CFG_SLEW n, GPIO_PIN_CFG_DRIVE n, GPIO_PIN_CFG_PULL n,
   GPIO_PIN_CFG_FUNC n]
/-- A write of GPIO_PIN_CFG (R532, R535, R537). -/
def pinCfgWrite (n v : Nat) (d : Dev) : Dev :=
  let d0 := settlePin n d
  let f := bitsAt v 0 4
  if f ≠ d0.get (GPIO_PIN_CFG_FUNC n) ∧ !funcOk n f then d0.answer .perm
  else
    let d1 : Dev := { d0 with ctl := writeFlds d0.ctl false v (pinCfgFlds n) }
    if f ≠ d0.get (GPIO_PIN_CFG_FUNC n) then (noteConflicts (startSwitch n d1)).answer .ok
    else if (d0.pin n).switch.isNone ∧
        (d0.get (GPIO_PIN_CFG_FILT n) ≠ bitsAt v 12 2 ∨ d0.get (GPIO_PIN_CFG_EVT n) ≠ bitsAt v 16 2) then
      (restartFilter n d1).answer .ok
    else (settlePin n d1).answer .ok
/-- GPIO_PIN_CFG as it reads, with another FUNC. -/
def pinCfgWord (d : Dev) (n func : Nat) : Nat := wordOf d.ctl (pinCfgFlds n) / 16 * 16 + func
/-- A write of GPIO_OUT. -/
def outWrite (i v : Nat) (d : Dev) : Dev := (touchWord i (fun d => d.set (GPIO_OUT_OUT i) v) d).answer .ok
/-- A write of GPIO_OE. -/
def oeWrite (i v : Nat) (d : Dev) : Dev := (touchWord i (fun d => d.set (GPIO_OE_OE i) v) d).answer .ok
/-- A write of GPIO_OUT_SET. -/
def outSet (i v : Nat) (d : Dev) : Dev := outWrite i (d.get (GPIO_OUT_OUT i) ||| v) d
/-- A write of GPIO_OUT_CLR. -/
def outClr (i v : Nat) (d : Dev) : Dev := outWrite i (d.get (GPIO_OUT_OUT i) - (d.get (GPIO_OUT_OUT i) &&& v)) d
/-- A write of GPIO_FILT: running counts restart, filtered levels are kept (R543). -/
def filtWrite (v : Nat) (d : Dev) : Dev :=
  let d0 := forEach (List.range 96) d settlePin
  let d1 : Dev := { d0 with ctl := writeFlds d0.ctl false v [GPIO_FILT_DEB_US, GPIO_FILT_GLITCH] }
  (forEach ((List.range 96).filter (fun n => (d1.pin n).since.isSome)) d1 (fun n d =>
    mapPin n (fun p => { p with since := some d.tb }) d)).answer .ok
/-- A write of PIN_CONFLICT: a conflict that stands sets its bit again (R534). -/
def conflictWrite (v : Nat) (d : Dev) : Dev :=
  let d1 : Dev := { d with ctl := writeFlds d.ctl false v conflictFlds }
  let now := conflicts d
  (conflictFlds.foldl (fun d f => d.set f (d.get f ||| bitsAt now f.lo f.w)) d1).answer .ok
/-- A pin as it stands now: a switch that has come to its end shows. -/
def pinNow (d : Dev) (n : Nat) : PinSt := (settlePin n d).pin n
/-- GPIO_IN and GPIO_INF as they read (R540). -/
def inWord (d : Dev) (i : Nat) (f : PinSt → Bool) : Nat :=
  (List.range 32).foldl (fun v j => v + 2 ^ j * b2n (powered d (32 * i + j) && f (pinNow d (32 * i + j)))) 0

/-- PIN_EDGE (R544): the board's level at pin `n` changes. -/
def pinEdge (n : Nat) (l : Bool) (d : Dev) : Dev := touchPin n (mapPin n (fun p => { p with level := l })) d
/-- FILTER_SETTLE (R543): the synchronised level has held for the filter's time. -/
def filterSettle (n : Nat) (d : Dev) : Dev :=
  match (d.pin n).since with
  | none => d
  | some t =>
    if !powered d n then d
    else
      let d1 := d.advance (t + if d.get (GPIO_PIN_CFG_FILT n) = 1 then 40 * d.get GPIO_FILT_GLITCH else 4000 * d.get GPIO_FILT_DEB_US)
      let l := (d1.pin n).sync
      pinEvent n l (mapPin n (fun p => { p with filt := l, since := none }) d1)
/-- The supply of bank `b` is now `vio`; where it returns, the bank's pins restart their filter history (R542). -/
def setSupply (b vio : Nat) (d : Dev) : Dev :=
  let was := d.get (GPIO_BANK_VIO b)
  let d1 := d.set (GPIO_BANK_VIO b) vio
  noteConflicts (if was = 0 ∧ vio ≠ 0 then forEach (bankPins b) d1 restartFilter else d1)
/-- BANK_SUPPLY_CHANGE (R529): a change has held for 1 ms. -/
def bankChange (b vio : Nat) (d : Dev) : Dev :=
  let d1 := setSupply b vio d
  if sget 0 d1.pins.vioSeen b = vio then d1
  else ({ d1 with pins := { d1.pins with vioSeen := sset 0 d1.pins.vioSeen b vio } }).raise GPIO_MISC_IRQ_CAUSE_BANK_CHG
/-- BANK_SUPPLY_RETURN (R542). -/
def bankReturn (b vio : Nat) (d : Dev) : Dev := if d.get (GPIO_BANK_VIO b) = 0 ∧ vio ≠ 0 then setSupply b vio d else d
/-- BOUNDARY_SCAN_DRIVE (R551): the boundary register drives pins where its enables say so. -/
def scanDrive (v en : Nat) (d : Dev) : Dev :=
  let d0 := forEach (List.range 96) d settlePin
  forEach (List.range 96) { d0 with pins := { d0.pins with jtag := some (v, en) } } settlePin
/-- JTAG_RELEASE (R551): each pin passes through the function switch with its FUNC unchanged. -/
def scanRelease (d : Dev) : Dev :=
  if d.pins.jtag.isNone then d
  else forEach (List.range 96) { d with pins := { d.pins with jtag := none } } startSwitch

/-! ### Peripherals (R546, R547, R555): kind 0 I2C, 1 SPI, 2 UART, 3 MDIO -/

/-- One of four by kind. -/
def byKind {α : Type} (k : Nat) (i s u m : α) : α := match k with | 0 => i | 1 => s | 2 => u | _ => m
/-- Peripheral of kind `k` in bank `b`. -/
def Dev.periph (d : Dev) (k b : Nat) : PeriphSt := sget {} d.pins.periphs (6 * k + b)
/-- Show FIFO levels and BUSY. -/
def showPeriph (k b : Nat) (d : Dev) : Dev :=
  let p := d.periph k b
  let d1 := d.set (byKind k (I2C_STAT_RXLVL b) (SPI_STAT_RXLVL b) (UART_STAT_RXLVL b) (MDIO_STAT_RXLVL b)) p.rx.length
  let d2 := d1.set (byKind k (I2C_STAT_TXLVL b) (SPI_STAT_TXLVL b) (UART_STAT_TXLVL b) (MDIO_STAT_TXLVL b)) p.tx.length
  d2.set (byKind k (I2C_STAT_BUSY b) (SPI_STAT_BUSY b) (UART_STAT_BUSY b) (MDIO_STAT_BUSY b))
    (b2n (if k = 2 then !p.tx.isEmpty else p.xfer.isSome))
/-- Change a peripheral. -/
def mapPeriph (k b : Nat) (f : PeriphSt → PeriphSt) (d : Dev) : Dev :=
  showPeriph k b { d with pins := { d.pins with periphs := sset {} d.pins.periphs (6 * k + b) (f (d.periph k b)) } }
/-- Whether a peripheral is enabled. -/
def periphOn (d : Dev) (k b : Nat) : Bool := d.flag (byKind k (I2C_CFG_EN b) (SPI_CFG_EN b) (UART_CFG_EN b) (MDIO_CFG_EN b))
/-- An error bit is set, and ERR with it. -/
def periphErr (k b : Nat) (f : Fld) (d : Dev) : Dev :=
  (d.raise f).raise (byKind k (I2C_IRQ_CAUSE_ERR b) (SPI_IRQ_CAUSE_ERR b) (UART_IRQ_CAUSE_ERR b) (MDIO_IRQ_CAUSE_ERR b))
/-- DONE is set. -/
def periphDone (k b : Nat) (d : Dev) : Dev :=
  d.raise (byKind k (I2C_IRQ_CAUSE_DONE b) (SPI_IRQ_CAUSE_DONE b) (UART_IRQ_CAUSE_DONE b) (MDIO_IRQ_CAUSE_DONE b))
/-- Depth of the FIFOs (R546); MDIO holds the data of one read frame. -/
def fifoDepth (k : Nat) : Nat := byKind k 16 16 64 1
/-- An entry is received; into a full FIFO it is discarded. -/
def receive (k b v : Nat) (d : Dev) : Dev :=
  if k = 3 then mapPeriph k b (fun p => { p with rx := [v] }) d
  else if fifoDepth k ≤ (d.periph k b).rx.length then
    periphErr k b (byKind k (I2C_STAT_RX_OVF b) (SPI_STAT_RX_OVF b) (UART_STAT_RX_OVF b) (MDIO_STAT_RX_OVF b)) d
  else mapPeriph k b (fun p => { p with rx := p.rx ++ [v] }) d
/-- A write of TXD. -/
def txdPush (k b v : Nat) (d : Dev) : Dev :=
  (if fifoDepth k ≤ (d.periph k b).tx.length then
    periphErr k b (byKind k (I2C_STAT_TX_OVF b) (SPI_STAT_TX_OVF b) (UART_STAT_TX_OVF b) (MDIO_STAT_TX_OVF b)) d
   else mapPeriph k b (fun p => { p with tx := p.tx ++ [v % 256] }) d).answer .ok
/-- A read of RXD pops one entry. -/
def rxdPop (k b : Nat) (d : Dev) : Dev :=
  match (d.periph k b).rx with
  | [] => d.answer .ok [0]
  | v :: rest => (mapPeriph k b (fun p => { p with rx := rest }) d).answer .ok [2 ^ 31 + v]
/-- A transfer starts with bytes `out` to send and `n` to read. -/
def startXfer (k b : Nat) (out : List Nat) (n : Nat) (word : Nat) (d : Dev) : Dev :=
  if periphOn d k b then (mapPeriph k b (fun p => { p with xfer := some (out, n) }) (d.emit (.periph k b (word :: out)))).answer .ok
  else d.answer .ok
/-- Whether a transfer is in progress. -/
def busy (d : Dev) (k b : Nat) : Bool := (d.periph k b).xfer.isSome
/-- A write of I2C_XFER. -/
def i2cXfer (b v : Nat) (d : Dev) : Dev :=
  let w := bitsAt v 0 5
  let r := bitsAt v 8 5
  let tx := (d.periph 0 b).tx
  if 16 < w ∨ 16 < r ∨ tx.length < w then d.answer .perm
  else if busy d 0 b then d.answer .retry
  else startXfer 0 b (tx.take w) r v d
/-- A write of SPI_XFER. -/
def spiXfer (b v : Nat) (d : Dev) : Dev :=
  let n := bitsAt v 0 5
  let tx := (d.periph 1 b).tx
  if 16 < n then d.answer .perm
  else if busy d 1 b then d.answer .retry
  else startXfer 1 b (tx.take n ++ List.replicate (n - tx.length) 0) n v d
/-- A write of MDIO_XFER. -/
def mdioXfer (b v : Nat) (d : Dev) : Dev :=
  let op := bitsAt v 26 2
  if !bitAt v 28 ∧ (op = 0 ∨ op = 3) then d.answer .perm
  else if busy d 3 b then d.answer .retry
  else startXfer 3 b [] (if op = 2 ∨ op = 3 then 1 else 0) v d
/-- An MDIO_XFER word. -/
def mdioWord (cl45 : Bool) (op phy reg data : Nat) : Nat :=
  2 ^ 28 * b2n cl45 + 2 ^ 26 * op + 2 ^ 21 * phy + 2 ^ 16 * reg + data
/-- A transfer is over. -/
def endXfer (k b : Nat) (d : Dev) : Dev := periphDone k b (mapPeriph k b (fun p => { p with xfer := none }) d)
/-- XFER_DONE (R538, R547): `sent` bytes sent where an error ended the transfer, the data received, a NACK, lost
arbitration. An input without a pin reads its default (R533, Table 15-4). -/
def xferDone (k b sent : Nat) (rx : List Nat) (nack arb : Bool) (d : Dev) : Dev :=
  match (d.periph k b).xfer with
  | none => d
  | some (out, n) =>
    match k with
    | 0 =>
      let lost := arb || (servedBy d 2 [b] [1, 9]).isNone
      let err := nack || lost
      let gone := if err then Nat.min sent out.length else out.length
      let got := (if err then rx else rx ++ List.replicate (n - rx.length) 255).take n
      let d1 := mapPeriph 0 b (fun p => { p with tx := p.tx.drop gone }) d
      let d2 := forEach got d1 (fun v d => receive 0 b (v % 256) d)
      let d3 := if lost then periphErr 0 b (I2C_STAT_ARB_LOST b) d2 else if nack then periphErr 0 b (I2C_STAT_NACK b) d2 else d2
      endXfer 0 b d3
    | 1 =>
      let got := if (servedBy d 3 [b] [4]).isNone then List.replicate n 0 else (rx ++ List.replicate (n - rx.length) 0).take n
      let d1 := mapPeriph 1 b (fun p => { p with tx := p.tx.drop n }) d
      endXfer 1 b (forEach got d1 (fun v d => receive 1 b (v % 256) d))
    | 3 =>
      let got := if (servedBy d 5 [b] [3, 12]).isNone then 65535 else rx.headD 65535 % 65536
      endXfer 3 b (if n = 0 then d else receive 3 b got d)
    | _ => d
/-- I2C_STRETCH_TIMEOUT (R546). -/
def stretchTimeout (b : Nat) (d : Dev) : Dev := if busy d 0 b then endXfer 0 b (periphErr 0 b (I2C_STAT_TIMEOUT b) d) else d
/-- UART_RX_BYTE (R546, R547). -/
def uartRx (b v : Nat) (perr ferr : Bool) (d : Dev) : Dev :=
  if !periphOn d 2 b ∨ (servedBy d 4 [b] [1, 8]).isNone then d
  else
    let x := v % (if d.flag (UART_CFG_DATA7 b) then 128 else 256) + 1024 * b2n perr + 512 * b2n ferr
    let d1 := receive 2 b x d
    if (d.periph 2 b).rx.isEmpty then periphDone 2 b d1 else d1
/-- Whether CTS_N lets the UART send (Table 15-4: clear to send by default). -/
def clearToSend (d : Dev) (b : Nat) : Bool :=
  !d.flag (UART_CFG_FLOW b) || (match servedBy d 4 [b] [10] with | some n => !(pinNow d n).sync | none => true)
/-- UART_TX_BYTE (R546). -/
def uartTx (b : Nat) (d : Dev) : Dev :=
  match (d.periph 2 b).tx with
  | [] => d
  | v :: rest =>
    if periphOn d 2 b ∧ clearToSend d b then mapPeriph 2 b (fun p => { p with tx := rest }) (d.emit (.periph 2 b [v])) else d
/-- The peripherals are reset: FIFOs are emptied, transfers end without completing (R549). -/
def periphsReset (d : Dev) : Dev :=
  forEach (List.range 24) { d with pins := { d.pins with periphs := [] } } (fun i d => showPeriph (i / 6) (i % 6) d)

/-! ### The meanings -/

/-- PIN_FUNCTION_SWITCH (R535): GPIO_PIN_CFG is written back with another FUNC. -/
def execPinFunctionSwitch (n : Fin 96) (func : Fin 16) (s : State) : Host.Outcome State Fault Refusal :=
  run s (fun d => pinCfgWrite n.val (pinCfgWord d n.val func.val) d)
/-- PIN_CFG_WRITE (R537): GPIO_PIN_CFG is written with its FUNC unchanged. -/
def execPinCfgWrite (n : Fin 96) (v : Word) (s : State) : Host.Outcome State Fault Refusal :=
  run s (fun d => pinCfgWrite n.val (v.toNat / 16 * 16 + d.get (GPIO_PIN_CFG_FUNC n.val)) d)
/-- GPIO_OUT_SET (R539). -/
def execGpioOutSet (i : Fin 3) (v : Word) (s : State) : Host.Outcome State Fault Refusal := run s (outSet i.val v.toNat)
/-- GPIO_OUT_CLR (R539). -/
def execGpioOutClr (i : Fin 3) (v : Word) (s : State) : Host.Outcome State Fault Refusal := run s (outClr i.val v.toNat)
/-- GPIO_FILT_WRITE (R543). -/
def execGpioFiltWrite (v : Word) (s : State) : Host.Outcome State Fault Refusal := run s (filtWrite v.toNat)
/-- PIN_EDGE (R544). -/
def execPinEdge (n : Fin 96) (level : Bool) (s : State) : Host.Outcome State Fault Refusal := run s (pinEdge n.val level)
/-- FILTER_SETTLE (R543). -/
def execFilterSettle (n : Fin 96) (s : State) : Host.Outcome State Fault Refusal := run s (filterSettle n.val)
/-- BANK_SUPPLY_CHANGE (R529). -/
def execBankSupplyChange (b : Fin 6) (vio : Fin 5) (s : State) : Host.Outcome State Fault Refusal := run s (bankChange b.val vio.val)
/-- BANK_SUPPLY_RETURN (R542). -/
def execBankSupplyReturn (b : Fin 6) (vio : Fin 5) (s : State) : Host.Outcome State Fault Refusal := run s (bankReturn b.val vio.val)
/-- I2C_XFER (R547). -/
def execI2cXfer (b : Fin 6) (v : Word) (s : State) : Host.Outcome State Fault Refusal := run s (i2cXfer b.val v.toNat)
/-- SPI_XFER (R547). -/
def execSpiXfer (b : Fin 6) (v : Word) (s : State) : Host.Outcome State Fault Refusal := run s (spiXfer b.val v.toNat)
/-- MDIO_WRITE (R547): clause 22 or clause 45. -/
def execMdioWrite (b : Fin 6) (cl45 : Bool) (phy reg : BitVec 5) (data : BitVec 16) (s : State) : Host.Outcome State Fault Refusal :=
  run s (mdioXfer b.val (mdioWord cl45 1 phy.toNat reg.toNat data.toNat))
/-- MDIO_READ (R547). -/
def execMdioRead (b : Fin 6) (cl45 : Bool) (phy reg : BitVec 5) (s : State) : Host.Outcome State Fault Refusal :=
  run s (mdioXfer b.val (mdioWord cl45 2 phy.toNat reg.toNat 0))
/-- MDIO_ADDRESS (R547): clause 45. -/
def execMdioAddress (b : Fin 6) (phy reg : BitVec 5) (data : BitVec 16) (s : State) : Host.Outcome State Fault Refusal :=
  run s (mdioXfer b.val (mdioWord true 0 phy.toNat reg.toNat data.toNat))
/-- MDIO_READ_INCREMENT (R547): clause 45. -/
def execMdioReadIncrement (b : Fin 6) (phy reg : BitVec 5) (s : State) : Host.Outcome State Fault Refusal :=
  run s (mdioXfer b.val (mdioWord true 3 phy.toNat reg.toNat 0))
/-- TXD_PUSH (R555): of I2C, SPI or UART. -/
def execTxdPush (k : Fin 3) (b : Fin 6) (v : BitVec 8) (s : State) : Host.Outcome State Fault Refusal :=
  run s (txdPush k.val b.val v.toNat)
/-- RXD_POP (R555). -/
def execRxdPop (k : Fin 4) (b : Fin 6) (s : State) : Host.Outcome State Fault Refusal := run s (rxdPop k.val b.val)
/-- XFER_DONE (R547). -/
def execXferDone (k : Fin 4) (b : Fin 6) (sent : Fin 17) (rx : List (BitVec 16)) (nack arb : Bool) (s : State) :
    Host.Outcome State Fault Refusal := run s (xferDone k.val b.val sent.val (rx.map (·.toNat)) nack arb)
/-- I2C_STRETCH_TIMEOUT (R546). -/
def execI2cStretchTimeout (b : Fin 6) (s : State) : Host.Outcome State Fault Refusal := run s (stretchTimeout b.val)
/-- UART_RX_BYTE (R546). -/
def execUartRxByte (b : Fin 6) (v : BitVec 8) (perr ferr : Bool) (s : State) : Host.Outcome State Fault Refusal :=
  run s (uartRx b.val v.toNat perr ferr)
/-- UART_TX_BYTE (R546). -/
def execUartTxByte (b : Fin 6) (s : State) : Host.Outcome State Fault Refusal := run s (uartTx b.val)
/-- JTAG_RELEASE (R551). -/
def execJtagRelease (s : State) : Host.Outcome State Fault Refusal := run s scanRelease
/-- BOUNDARY_SCAN_DRIVE (R551). -/
def execBoundaryScanDrive (v en : BitVec 96) (s : State) : Host.Outcome State Fault Refusal := run s (scanDrive v.toNat en.toNat)

end Sys2Proof.Machine
end

