-- ==== Sys2Proof/Machine/Recorder.lean ====
section
/-! DEFINITION. The black-box recorder (R515 to R522, R527): writing entries, triggers, commands, reads. -/
namespace Sys2Proof.Machine
open Sys2Proof.Machine.Reg

/-- Change the recorder. -/
def mapBbr (f : Bbr → Bbr) (d : Dev) : Dev := d.withBbr (f d.ctl.bbr)
/-- An entry of 128 bits (Table 14-7). -/
def bbrEntry (e : BbrEvent) (fatal : Bool) (lost : Nat) : Nat :=
  e.tbNs % 2 ^ 48 + 2 ^ 48 * (e.tickLo % 2 ^ 12) + 2 ^ 60 * b2n fatal + 2 ^ 61 * Nat.min lost 7 + 2 ^ 64 * (e.source % 256) +
    2 ^ 72 * (e.event % 256) + 2 ^ 80 * (e.arg % 2 ^ 16) + 2 ^ 96 * (e.data % 2 ^ 32)
/-- The recorder freezes. -/
def bbrFrozen (d : Dev) : Dev :=
  mapBbr (fun b => { b with postLeft := 0, freezeIn := none }) ((d.set BBR_STATUS_FROZEN 1).set BBR_STATUS_PENDING 0)
/-- BBR_POST_FREEZE (R519): the entries after a trigger have been written. -/
def bbrPostFreeze (d : Dev) : Dev :=
  if d.flag BBR_STATUS_PENDING ∧ d.ctl.bbr.postLeft = 0 then bbrFrozen d else d
/-- The tap sends an entry, or skips it while it is still sending (R522). -/
def tapSend (x : Nat) (d : Dev) : Dev :=
  if !d.flag BBR_CTRL_TAP_EN then d
  else if d.ctl.bbr.tapFree ≤ d.tb then mapBbr (fun b => { b with tapFree := d.tb + 40960 }) (d.emit (.tap x))
  else d.incSat BBR_TAP_SKIP_ENTRIES
/-- An entry is written at WR_PTR (R515, R518, R519). -/
def putEntry (e : BbrEvent) (d : Dev) : Dev :=
  let i := d.get BBR_STATUS_WR_PTR
  let pend := d.flag BBR_STATUS_PENDING
  let trig := e.fatal && !pend && decide (e.source < 16) && bitAt (d.get BBR_CTRL_TRIG) e.source
  let x := bbrEntry e (trig || (e.fatal && pend)) d.ctl.bbr.lostNow
  let d1 := mapBbr (fun b => { b with entries := sset 0 b.entries i x, flaws := sdel b.flaws i, lostNow := 0,
                                      postLeft := if trig then d.get BBR_CTRL_POST else b.postLeft - 1,
                                      freezeIn := b.freezeIn.map (· - 1) }) d
  let d2 := tapSend x (d1.set BBR_STATUS_WR_PTR (i + 1))
  let d3 := if trig then (d2.set BBR_STATUS_PENDING 1).set BBR_STATUS_TRIG_IDX i else d2
  if d3.ctl.bbr.freezeIn = some 0 then bbrFrozen d3 else d3
/-- BBR_WRITE (R518): the oldest event that waits; a frozen recorder counts it. -/
def bbrWrite (d : Dev) : Dev :=
  match d.ctl.bbr.queue with
  | [] => d
  | e :: rest =>
    let d1 := bbrPostFreeze (mapBbr (fun b => { b with queue := rest }) d)
    if d1.flag BBR_STATUS_FROZEN then d1.incSat BBR_LOST_FROZEN else putEntry e d1
/-- CLEAR (R519). -/
def bbrClear (d : Dev) : Dev :=
  (mapBbr (fun b => { b with entries := [], flaws := [], postLeft := 0, freezeIn := none, latch := none }) d).resetFlds
    [BBR_STATUS_WR_PTR, BBR_LOST_FROZEN, BBR_LOST_QUEUE, BBR_STATUS_FROZEN, BBR_STATUS_PENDING]
/-- UNFREEZE (R519). -/
def bbrUnfreeze (d : Dev) : Dev :=
  mapBbr (fun b => { b with postLeft := 0, freezeIn := none }) ((d.set BBR_STATUS_FROZEN 0).set BBR_STATUS_PENDING 0)
/-- A write of BBR_CMD: CLEAR, UNFREEZE, MARK and FREEZE act in this order (R519): FREEZE after the entry of its cycle, the
oldest that waits, and with MARK after the marker's. -/
def bbrCmdWrite (clear unfreeze mark fatal freeze : Bool) (d : Dev) : Dev :=
  let d1 := if clear then bbrClear d else d
  let d2 := if unfreeze then bbrUnfreeze d1 else d1
  let d3 := if mark then d2.bbr 14 1 fatal 0 (d2.get BBR_MARK_DATA) else d2
  let waits := d3.ctl.bbr.queue.length
  let d4 := if !freeze then d3
    else if waits = 0 ∨ d3.flag BBR_STATUS_FROZEN then bbrFrozen d3
    else mapBbr (fun b => { b with freezeIn := some (if mark then waits else 1) }) d3
  d4.answer .ok
/-- A read of word `w` of entry `i` (R515, R521). -/
def bbrRead (i w : Nat) (d : Dev) : Dev :=
  match d.ctl.bbr.latch with
  | some (j, x) => if w ≠ 0 ∧ j = i then d.answer .ok [bitsAt x (32 * w) 32] else fresh d
  | none => fresh d
where
  /-- The entry as it stands. -/
  fresh (d : Dev) : Dev :=
    if sget Flaw.none d.ctl.bbr.flaws i = .double then d.answer .ecc [allOnes]
    else
      let x := sget 0 d.ctl.bbr.entries i
      (if w = 0 then mapBbr (fun b => { b with latch := some (i, x) }) d else d).answer .ok [bitsAt x (32 * w) 32]

/-! ### The meanings -/

/-- BBR_WRITE (R518). -/
def execBbrWrite (s : State) : Host.Outcome State Fault Refusal := run s bbrWrite
/-- BBR_POST_FREEZE (R519). -/
def execBbrPostFreeze (s : State) : Host.Outcome State Fault Refusal := run s bbrPostFreeze
/-- BBR_CLEAR (R519). -/
def execBbrClear (s : State) : Host.Outcome State Fault Refusal := run s (bbrCmdWrite true false false false false)
/-- BBR_UNFREEZE (R519). -/
def execBbrUnfreeze (s : State) : Host.Outcome State Fault Refusal := run s (bbrCmdWrite false true false false false)
/-- BBR_MARK (R519): with MARK_FATAL or without. -/
def execBbrMark (fatal : Bool) (s : State) : Host.Outcome State Fault Refusal := run s (bbrCmdWrite false false true fatal false)
/-- BBR_FREEZE (R519). -/
def execBbrFreeze (s : State) : Host.Outcome State Fault Refusal := run s (bbrCmdWrite false false false false true)
/-- BBR_ENTRY_READ (R521). -/
def execBbrEntryRead (i : Fin 4096) (w : Fin 4) (s : State) : Host.Outcome State Fault Refusal := run s (bbrRead i.val w.val)

end Sys2Proof.Machine
end

