-- ==== Sys2Proof/Machine/Tick.lean ====
section
/-! DEFINITION. The tick edge (R14 to R17): the count, the accumulator and what takes effect at the edge; the end edges of
ring ticks, then the start edges; what the edge sends. -/
namespace Sys2Proof.Machine
open Sys2Proof.Machine.Reg

/-! ### Before the edge -/

/-- What was due before the edge: deadlines not yet judged pass (R19), rings at their slip limit fault (R41), late rings that
have been disarmed are halted (R47). -/
def beforeEdge (d : Dev) : Dev :=
  let d1 := forEach (List.range 128) d (fun r d => ringFault r d)
  let d2 := forEach (List.range 128) d1 (fun r d => deadline r d)
  forEach (List.range 128) d2 (fun r d => lateDisarm r (ringFault r d))

/-! ### The count (R14, R421, R422) -/

/-- The count that the next edge takes: that of a correction, *J* at the edge of a JOIN, one more otherwise. -/
def nextCount (t : TimeSt) : Nat :=
  match t.fixNext, t.join with
  | some (n, _), _ => n % 2 ^ 64
  | none, some (own, j) => if own = t.count + 1 then j % 2 ^ 64 else (t.count + 1) % 2 ^ 64
  | none, none => (t.count + 1) % 2 ^ 64
/-- Whether the next edge, which takes count `n`, is the edge of a JOIN: a corrected count stands against *J* itself. -/
def joinHere (t : TimeSt) (n : Nat) : Bool :=
  match t.join with
  | some (own, _) => if t.fixNext.isSome then decide (own ≤ n) else own == t.count + 1
  | none => false
/-- A number of the device's count, moved by what the count jumps. -/
def moved (by' : Int) (n : Nat) : Nat := ((n : Int) + by').toNat % 2 ^ 64
/-- The count takes the number `n`: ring ticks in progress end as many edges after their start as before (R421), and what
waits for its effect edge keeps that edge. -/
def renumber (n : Nat) (d : Dev) : Dev :=
  let t := d.ctl.time
  let jump : Int := (n : Int) - (t.count + 1 : Nat)
  if jump = 0 ∨ n = (t.count + 1) % 2 ^ 64 then d
  else
    let d1 := forEach ((List.range 128).filter (fun r => (d.ring r).run != .out)) d (fun r d =>
      mapRing r (fun x => { x with endCount := moved jump x.endCount }) d)
    let pend := match t.pend with
      | some (.period ns fr e own) => some (.period ns fr (moved jump e) own)
      | some (.align a e own) => some (.align a (moved jump e) own)
      | none => none
    mapIcl (fun c => { c with mOff := c.mOff - jump, hist := [] }) (mapTime (fun t => { t with pend := pend }) d1)
/-- The count at the edge; a JOIN or correction whose edge this is, is over. -/
def takeCount (n : Nat) (d : Dev) : Dev :=
  let here := joinHere d.ctl.time n
  mapTime (fun t => { t with count := n, join := if here then none else t.join }) (renumber n d)
/-- What the edge of a JOIN or of a correction brings besides the count (R380, R421, R422). -/
def afterCount (here : Bool) (d : Dev) : Dev :=
  let d1 := match d.ctl.time.fixNext with
    | some (_, v) => (mapTime (fun t => { t with fixNext := none }) (d.raise RM_IRQ_CAUSE_COUNT_FIX)).bbr 1 3 false 0 v
    | none => d
  if here then joinEdge d1 else d1

/-! ### The period and the next edge (R14, R409, R410, R417, R420) -/

/-- A pending command ends at its effect edge: the device's own completes, the master's is over. -/
def pendOver (own : Bool) (d : Dev) : Dev :=
  if own then cmdEnds .ok d else mapTime (fun t => { t with pend := none }) (d.set RM_STATUS_PEND 0)
/-- PERIOD_EFFECT, STRETCHED_EDGE and REPHASE at edge `n`: whether the accumulator restarts, the accumulator that a
REPHASE gives, whether a period has been taken over that no check has seen. -/
def periodEdge (n : Nat) (d : Dev) : Bool × Option Nat × Bool × Dev :=
  let restart := d.ctl.time.accRst
  let (rst, chk, d1) : Bool × Bool × Dev := match d.ctl.time.pend with
    | some (.period ns fr e own) => if e = n then (true, !own, setPeriod ns fr (pendOver own d)) else (restart, false, d)
    | some (.align _ e own) => if e = n then (true, false, pendOver own d) else (restart, false, d)
    | none => (restart, false, d)
  match d1.ctl.time.rephase with
  | some (tb, ns, fr, acc) =>
    if tb = d1.ctl.time.nextEdge then
      (rst, some acc, true, setPeriod ns fr (mapTime (fun t => { t with rephase := none }) d1))
    else (rst, none, chk, d1)
  | none => (rst, none, chk, d1)
/-- The edge falls at `now`: FRAC is added to the accumulator and the next edge is placed (R14); the tick before the
effect edge of an ALIGN is stretched to end at its instant. -/
def placeEdge (n now : Nat) (rst : Bool) (acc : Option Nat) (d : Dev) : Dev :=
  let fr := d.get RM_PERIOD_NOW_FRAC_FRAC
  let sum := (if rst then 0 else d.get RM_PERIOD_NOW_FRAC_ACC) + fr
  let a := acc.getD (sum % 65536)
  let carry : Bool := match acc with | some v => decide (v < fr) | none => decide (65536 ≤ sum)
  let own := now + 4 * (d.get RM_PERIOD_NOW_NS + b2n carry)
  let (next, pend) : Nat × Option RmPending := match d.ctl.time.pend with
    | some (.align at' e true) => (if e = (n + 1) % 2 ^ 64 then at' else own, d.ctl.time.pend)
    | some (.align at' e false) =>
      if e = (n + 1) % 2 ^ 64 then
        let at' := alignTb d (now + 4 * d.get RM_PERIOD_NOW_NS)
        (at', some (.align at' e false))
      else (own, some (.align at' e false))
    | p => (own, p)
  mapTime (fun t => { t with lastEdge := now, nextEdge := next, accRst := false, pend := pend }) (d.set RM_PERIOD_NOW_FRAC_ACC a)

/-! ### Samples (R179) -/

/-- The last cycle's samples of a word-in or level-in slot: a value, or disagreement, which keeps the value. -/
def takeSample (r t v : Nat) (held : Bool) (d : Dev) : Dev :=
  if (t = 18 ∨ t = 19 ∨ t = 22) ∧ slotEn d r t ∧ slotSt d r t = 1 then
    mapSlot r t (fun x => if held then { x with held := true } else { x with val := some v, held := false }) d
  else d

/-! ### Rings at the edge -/

/-- Leads whose ring tick or skipped tick ends at edge `n`. -/
def endingRings (n : Nat) (d : Dev) : List Nat := d.leads.filter (fun r => (d.ring r).run != .out && (d.ring r).endCount == n)
/-- Whether edge `n` is a closed tick (R442). -/
def isClosedTick (n : Nat) (d : Dev) : Bool :=
  let e := endingRings n d
  !e.isEmpty && !d.ctl.time.spoil && e.all (fun r => (d.ring r).run == .tick && !(d.ring r).missed)
/-- The rings that drive safe values at an edge: those that left the schedule before it (R41, R47), and those that were safe
and have captured nothing at it; a rewritten safe value shows so at the next edge (R79, R80). -/
def safeRings (left : List Nat) (d : Dev) : List Nat :=
  (List.range 128).filter (fun m => left.contains m || (d.ring m).safe)
/-- The end edges (R16, R36 to R39, R47): ring ticks end; rings that have left drive their safe values; rings asked to
close are closed. -/
def endPhase (n now : Nat) (d : Dev) : Dev :=
  let left := (List.range 128).filter (fun m => (d.ring m).leaving)
  let d1 := forEach (endingRings n d) d (endRing n now)
  let d2 := forEach (safeRings left d1) d1 driveSafe
  forEach d2.leads d2 closeNow
/-- The start edges (R15, R413). -/
def startPhase (n now : Nat) (d : Dev) : Dev := forEach d.leads d (startRing n now)

/-! ### What the edge sends -/

/-- From the pulse of TICK_OUTi at the last edge to its next one, quarter nanoseconds: the tick in progress as it stands,
and the others at the period in force. -/
def pulseSpacing (i : Nat) (d : Dev) : Nat :=
  (d.ctl.time.nextEdge - d.ctl.time.lastEdge) + d.get (RM_TOUT_DIV_M1 i) * periodUnits d * 4 / 65536
/-- TICK_OUT pulses (R412, R431): at edges whose count is a multiple of DIV_M1 + 1, at most half the spacing long. -/
def tickOuts (n : Nat) (d : Dev) : Dev :=
  forEach ((List.range 4).filter (fun i => d.flag (RM_TOUT_EN i) && n % (d.get (RM_TOUT_DIV_M1 i) + 1) == 0)) d (fun i d =>
    d.emit (.tickOut i (d.flag (RM_TOUT_POL i)) (Nat.min (32 * d.get (RM_TOUT_WIDTH i)) (pulseSpacing i d / 2))))
/-- TICK_IRQ (R424). -/
def tickIrq (n : Nat) (d : Dev) : Dev :=
  let k := d.get RM_CTRL_TICK_IRQ_DIV
  if k ≠ 0 ∧ n % k = 0 then d.raise RM_IRQ_CAUSE_TICK else d
/-- TOKEN_BATCH_SEND (R384) for every slot that has published. -/
def batchesSend (n : Nat) (d : Dev) : Dev :=
  forEach (d.slots.filter (fun e => e.2.pubAt == some n)) d (fun e d => batchSend n (e.1 / 32) (e.1 % 32) d)

/-- TICK_EDGE (R14): with no tick generator running there is no edge. -/
def tickEdge (ins : List (Nat × Nat × Nat × Bool)) (d : Dev) : Dev :=
  if !d.ctl.time.running then d
  else
    let d1 := beforeEdge d
    let now := d1.ctl.time.nextEdge
    let n := nextCount d1.ctl.time
    let here := joinHere d1.ctl.time n
    let d2 := takeCount n (d1.advance now)
    let (rst, acc, chk, d3) := periodEdge n d2
    let d4 := afterCount here (placeEdge n now rst acc d3)
    let d5 := forEach ins d4 (fun i d => takeSample i.1 i.2.1 i.2.2.1 i.2.2.2 d)
    let closed := isClosedTick n d5
    let d6 := endPhase n now d5
    let d7 := if closed then closedTick d6 else d6
    let d8 := if chk ∨ here then budgetDisarm (recomputeCeil d7) else d7
    let d9 := startPhase n now d8
    let d10 := mapTime (fun t => { t with spoil := false }) (tickOuts n (tickIrq n d9))
    let d11 := mapIcl (fun c => { c with written := [], hist := if d10.ctl.time.follow then ((n, now) :: c.hist).take 32 else c.hist }) d10
    let d12 := batchesSend n (markerSend n now d11)
    forEach (List.range 12) d12 (fun s d => boatRelease n s d)

/-- TICK_EDGE (R14): with the samples that word-in and level-in slots have taken in the last cycle (ring, slot, value,
whether they disagreed). -/
def execTickEdge (ins : List (Fin 128 × Fin 32 × BitVec 56 × Bool)) (s : State) : Host.Outcome State Fault Refusal :=
  run s (tickEdge (ins.map (fun i => (i.1.val, i.2.1.val, i.2.2.1.toNat, i.2.2.2))))

end Sys2Proof.Machine
end

