-- ==== Sys2Proof/Machine/HostRegs.lean ====
section
/-! DEFINITION. Access to the registers of BAR0 (R4, R5, R7, R571): reading, writing, the registers that a write clears, and
a tunnelled access (R389). -/
namespace Sys2Proof.Machine
open Sys2Proof.Machine.Reg

/-! ### Register words that show the state of a block -/

/-- RING_EDGE_STATUS: modes, what is driven and what was released, two bits per edge (R93). -/
def edgeWord (d : Dev) (r : Nat) : Nat :=
  (List.range 4).foldl (fun v e =>
    let x : EdgeSt := sget {} (d.ring r).edges e
    v + 4 ^ e * (edgeMode d r e * 2 ^ 16 + x.status * 2 ^ 8 + x.inStat)) 0
/-- Registers of the global block. -/
def liveGlobal (d : Dev) (a : Nat) : Option Nat :=
  if a = 0x10 ∨ a = 0x14 then some (girqStatus d ((a - 0x10) / 4))
  else if 0x300 ≤ a ∧ a < 0x310 then some (bits32 (fun j => fabIrq d (32 * ((a - 0x300) / 4) + j)))
  else if 0x310 ≤ a ∧ a < 0x320 then some (bits32 (fun j => engIrq d (32 * ((a - 0x310) / 4) + j)))
  else if a = 0x320 then some (bits32 (portIrq d))
  else if a = 0x324 then some (bits32 (fun j =>
    if j < 16 then portIrq d (32 + j) else decide (j < 28) && boatIrq d (j - 16)))
  else none
/-- Registers of Ringmaster. -/
def liveMaster (d : Dev) (a : Nat) : Option Nat :=
  if a = 0x00100020 then some (d.ctl.time.count % 2 ^ 32)
  else if a = 0x00100040 then some (todSec d % 2 ^ 32)
  else if a = 0x0010007C then some (freqWord d)
  else if a = 0x001000B0 then some (regWord (d.set RM_CASC_STATUS_SENDER (b2n (sendsMarkers d))) a)
  else if a = 0x001000E0 then some (regWord (d.set RM_IRQ_CAUSE_RING (b2n (anyRingIrq d))) a)
  else if 0x001000F0 ≤ a ∧ a < 0x00100100 then some (bits32 (fun j => ringIrq d (32 * ((a - 0x001000F0) / 4) + j)))
  else none
/-- Registers of the configuration and service blocks: WAIT_INIT ends 1 µs after INIT_N rose (Table 13-7). -/
def liveService (d : Dev) (a : Nat) : Option Nat :=
  if a = 0x00300000 then
    some (regWord (if d.get CFG_STATUS_STATE = 1 ∧ d.cfg.initAt + 4000 ≤ d.tb then d.set CFG_STATUS_STATE 2 else d) a)
  else if a = 0x00400028 then
    some (regWord (if d.flag BIST_ABIST_LAST_VALID then d.set BIST_ABIST_LAST_AGE_MIN (ageMinutes d) else d) a)
  else if 0x00450240 ≤ a ∧ a < 0x0045024C then some (inWord d ((a - 0x00450240) / 4) (fun p => p.sync))
  else if 0x00450250 ≤ a ∧ a < 0x0045025C then some (inWord d ((a - 0x00450250) / 4) (fun p => p.filt))
  else none
/-- Registers of queue `q`. -/
def liveQueue (d : Dev) (q o a : Nat) : Option Nat :=
  let x := d.queue q
  match o with
  | 0xC => some x.occ
  | 0x10 => some (x.depth (qMode d q))
  | 0x14 => some (x.gen % 256 * 2 ^ 24 + x.pkts (qMode d q))
  | 0x18 => some (regWord (((d.set (QD_STAT_LOCKED q) (b2n x.lock.isSome)).set (QD_STAT_DISCARDING q) (b2n x.discarding)).set
      (QD_STAT_MARKED q) (b2n x.ptrA.mark.isSome)) a)
  | _ => none
/-- Registers of the queue manager. -/
def liveQm (d : Dev) (a : Nat) : Option Nat :=
  if a = 0x00800004 then some (poolFree d)
  else if a = 0x00800008 then some (quarantined d)
  else if a = 0x00800044 then some (regWord (d.set QM_Q_CMD_STAT_BUSY (b2n (decide (d.tb < d.qm.cmdTill)))) a)
  else if a = 0x00800054 then some (regWord (d.set QM_HOST_STAT_BUSY (b2n (decide (d.tb < d.qm.hostTill)))) a)
  else if 0x00801000 ≤ a ∧ a < 0x00801800 then some (bits32 (fun j => attn d (32 * ((a - 0x00801000) / 4) + j)))
  else if 0x00900000 ≤ a then liveQueue d ((a - 0x00900000) / 0x20) (a % 0x20) a
  else none
/-- Registers of the crypto unit (R325). -/
def liveCrypto (d : Dev) (a : Nat) : Option Nat :=
  if a = 0x01000008 then
    some (d.get CX_STATUS_ZEROISING * 2 ^ 10 + b2n ((List.range 256).any (fun f => cfState d f == 3)) * 2 ^ 9 +
      b2n d.cx.op.isSome * 2 ^ 8 + d.cx.queue.length)
  else if a = 0x01000124 then some (regWord (d.set KS_CMD_STAT_BUSY (b2n (ksBusy d))) a)
  else none
/-- Registers of a ring's window. -/
def liveRing (d : Dev) (r o a : Nat) : Option Nat :=
  if o = 0x108 then some (edgeWord d r)
  else if o = 0x124 then some (quiesceWord d r)
  else if 0x400 ≤ o ∧ o % 0x40 = 4 then
    let t := (o - 0x400) / 0x40
    some (regWord (d.set (TS_STATUS_LEVEL r t) (slotLevel d r t)) a)
  else none
/-- Registers of an engine's window. -/
def liveEngine (d : Dev) (e o : Nat) : Option Nat :=
  match o with
  | 0x4 => some (engStatusWord d e)
  | 0x54 => some (levelsWord (d.eng e).inq)
  | 0x58 => some (levelsWord (d.eng e).outq)
  | _ => none
/-- A register word that a read takes from the state of its block. -/
def liveWord (d : Dev) (a : Nat) : Option Nat :=
  if a < 0x00100000 then liveGlobal d a
  else if a < 0x00200000 then liveMaster d a
  else if a < 0x00300000 then none
  else if a < 0x00800000 then liveService d a
  else if a < 0x01000000 then liveQm d a
  else if a < 0x01400000 then liveCrypto d a
  else if a < 0x02000000 then none
  else if a < 0x04000000 then liveRing d ((a - 0x02000000) / 0x10000) ((a - 0x02000000) % 0x10000) a
  else liveEngine d ((a - 0x04000000) / 0x1000) (a % 0x1000)
/-- What the register at `a` reads. -/
def readWord (d : Dev) (a : Nat) : Nat := (liveWord d a).getD (regWord d a)

/-! ### Reads -/

/-- A read without effect on the device. -/
def plainWord (a : Nat) (d : Dev) : Dev := d.answer .ok [readWord d a]
/-- Reads of the peripheral windows: RXD pops an entry (R555). -/
def periphRead (a : Nat) (d : Dev) : Dev :=
  let k := (a - 0x00451000) / 0x1000
  if a % 0x100 = 0xC then rxdPop k ((a - 0x00451000) % 0x1000 / 0x100) d else plainWord a d
/-- Reads of Ringmaster: RM_TICK_LO latches RM_TICK_HI, RM_TIME_SEC_LO the other two time registers (R426, R428). -/
def masterRead (a : Nat) (d : Dev) : Dev :=
  if a = 0x00100020 then (d.set RM_TICK_HI_COUNT_HI (d.ctl.time.count / 2 ^ 32)).answer .ok [readWord d a]
  else if a = 0x00100040 then
    (((d.set RM_TIME_SEC_HI_SEC_HI (todSec d / 2 ^ 32)).set RM_TIME_NS_NS (todQns d / 4)).set RM_TIME_NS_QNS
      (todQns d)).answer .ok [readWord d a]
  else plainWord a d
/-- Reads of the crypto unit: CX_PAGE_INFO reads the entry of the counter store (R327). -/
def cryptoRead (a : Nat) (d : Dev) : Dev :=
  if a = 0x01000044 then
    let (_, e, d1) := csRead (d.get CX_PAGE_SEL_PAGE) d
    d1.answer .ok [b2n e.poison * 2 ^ 31 + b2n e.reenc * 2 ^ 30 + e.linePtr % 64 * 2 ^ 24 + e.major % 2 ^ 24]
  else if 0x01001000 ≤ a ∧ a < 0x01002000 ∧ a % 16 = 8 then plainWord a (hwVote ((a - 0x01001000) / 16) d).2
  else plainWord a d
/-- Reads of an Ethernet port: EP_TXTS3 removes the oldest timestamp (R361). -/
def portRead (p a : Nat) (d : Dev) : Dev :=
  let d1 := netSettle p d
  if a % 0x100 = 0x80 then txtsPop p d1 else plainWord a d1
/-- Reads of an engine's window: ENG_DBG_DATA reaches the register files (R138). -/
def engRegRead (a : Nat) (d : Dev) : Dev :=
  if a % 0x1000 = 0x94 then dbgRead ((a - 0x04000000) / 0x1000) d else plainWord a d
/-- Whether the register at `a` stands behind a crossing that is stopped or in reset: the configuration controller's
(R173, R190). -/
def behindStop (d : Dev) (a : Nat) : Bool := decide (0x00300000 ≤ a ∧ a < 0x00400000) && xStopped d xConfig
/-- A read of the register at `a` (R4, R7): reads are served in closed blocks too (R512). -/
def regRead (a : Nat) (d : Dev) : Dev :=
  if behindStop d a then d.answer .clockStopped
  else if a % 4 ≠ 0 then d.answer .addr
  else if 0x8000 ≤ a ∧ a < 0x9020 then d.answer .ok [msixRead d a]
  else if 0x00440000 ≤ a ∧ a < 0x00450000 then bbrRead ((a - 0x00440000) / 16) (a / 4 % 4) d
  else if (fldsAt a).isEmpty then d.answer .addr
  else if 0x00100000 ≤ a ∧ a < 0x00200000 then masterRead a d
  else if 0x00450200 ≤ a ∧ a < 0x00450270 then plainWord a (touchWord (a / 4 % 4) id d)
  else if 0x00451000 ≤ a ∧ a < 0x00455000 then periphRead a d
  else if a = 0x00460008 then trimRead d
  else if 0x01000000 ≤ a ∧ a < 0x01400000 then cryptoRead a d
  else if 0x01800000 ≤ a ∧ a < 0x01810000 then portRead ((a - 0x01800000) / 0x100) a d
  else if 0x04000000 ≤ a then engRegRead a d
  else plainWord a d

/-! ### Writes -/

/-- A write field by field, of a register without RWL fields (R5). -/
def storeReg (a v : Nat) (d : Dev) : Dev := ({ d with ctl := writeFlds d.ctl false v (fldsAt a) } : Dev).answer .ok
/-- A write that is refused under a condition. -/
def storeUnless (no : Bool) (a v : Nat) (d : Dev) : Dev := if no then d.answer .perm else storeReg a v d
/-- A write of DMA_CMD: RESUME and ABORT (R564, R565). -/
def dmaCmdWrite (n : Nat) (resume abort : Bool) (d : Dev) : Dev :=
  let d1 := if resume ∧ d.get (DMA_STATUS_STATE n) = 2 then d.set (DMA_STATUS_STATE n) (b2n (d.flag (DMA_CTRL_EN n))) else d
  (if abort then mapHost (fun h => { h with descs := h.descs.map (fun e =>
      if e.1 = n then (e.1, e.2.map (fun x => { x with abort := true })) else e) }) d1 else d1).answer .ok
/-- A write of DMA_CTRL: the channel runs or, when its descriptor has ended, stops (R575). -/
def dmaCtrlWrite (n : Nat) (en : Bool) (d : Dev) : Dev :=
  let d1 := d.set (DMA_CTRL_EN n) (b2n en)
  (if d1.get (DMA_STATUS_STATE n) = 2 then d1
   else if en then d1.set (DMA_STATUS_STATE n) 1
   else if d1.flag (DMA_STATUS_BUSY n) then d1 else d1.set (DMA_STATUS_STATE n) 0).answer .ok
/-- Writes of a DMA channel (R575). -/
def dmaRegWrite (n a v : Nat) (d : Dev) : Dev :=
  match a % 0x40 with
  | 0x0 => dmaCtrlWrite n (bitAt v 31) d
  | 0x4 => storeUnless (d.flag (DMA_CTRL_EN n)) a v d
  | 0x8 => storeUnless (d.flag (DMA_CTRL_EN n)) a v d
  | 0xC => storeUnless (d.flag (DMA_CTRL_EN n)) a v d
  | 0x10 => storeUnless (decide (d.get (DMA_RING_SIZE_SIZE n) ≤ bitsAt v 0 12)) a v d
  | 0x1C => dmaCmdWrite n (bitAt v 1) (bitAt v 0) d
  | _ => storeReg a v d
/-- Writes of the global block. -/
def globalWrite (a v : Nat) (d : Dev) : Dev :=
  if a = 0x30 then girqEoi (v % 256) d
  else if 0x1000 ≤ a ∧ a < 0x1200 then dmaRegWrite ((a - 0x1000) / 0x40) a v d
  else storeReg a v d
/-- A write of RM_CONTRACT_CTRL (R31, R56). -/
def contractWrite (v : Nat) (d : Dev) : Dev :=
  let fs := [RM_CONTRACT_CTRL_LOCK, RM_CONTRACT_CTRL_TJ_DESIGN]
  if lockedChange d.ctl (d.flag RM_CONTRACT_CTRL_LOCK) v fs then d.answer .perm
  else
    let d1 := tjDesignWrite (bitsAt v 0 3) d
    if d1.ctl.ans.code = .ok then d1.set RM_CONTRACT_CTRL_LOCK (d.get RM_CONTRACT_CTRL_LOCK ||| bitsAt v 31 1) else d1
/-- Writes of Ringmaster. -/
def masterWrite (a v : Nat) (d : Dev) : Dev :=
  match a - 0x00100000 with
  | 0x0 => rmCtrlWrite v d
  | 0x28 => tickSet v d
  | 0x30 => rmCmdWrite (bitsAt v 28 4) d
  | 0x50 => storeUnless (d.get RM_DISC_SRC != 0) a v d
  | 0x54 => storeUnless (d.get RM_DISC_SRC != 0) a v d
  | 0x58 => timeSet v d
  | 0x70 => discWrite v d
  | 0x74 => ofsWrite v d
  | 0xB4 => (d.set RM_CASC_ERR_MAX 0).answer .ok
  | 0x8000 => contractWrite v d
  | _ => storeReg a v d
/-- Writes of Tightrope. -/
def tightropeWrite (a v : Nat) (d : Dev) : Dev :=
  let o := a - 0x00200000
  if o = 0x0 then tgCtrlWrite v d
  else if o = 0x4 then vsafeWrite (bitsAt v 0 10) d
  else if o = 0x8 then tgRefresh (storeReg a v d)
  else if o = 0x40 then tgThermWrite v d
  else if o = 0x6C then tgForceWrite (bitAt v 31) (bitsAt v 0 10) d
  else if o = 0x70 then tgAvsWrite (bitsAt v 0 8) d
  else if o = 0x78 then tgCmdWrite (bitAt v 1) (bitAt v 0) d
  else storeReg a v d

/-- A write of CFG_CTRL, judged as a whole while LOCK is set (R5). -/
def cfgCtrlWrite (v : Nat) (d : Dev) : Dev :=
  let fs := [CFG_CTRL_LOCK, CFG_CTRL_REQUIRE_ENC, CFG_CTRL_WAIT_XMC, CFG_CTRL_RETAIN]
  let locked := d.flag CFG_CTRL_LOCK
  if lockedChange d.ctl locked v fs then d.answer .perm
  else ({ d with ctl := writeFlds d.ctl locked v fs } : Dev).answer .ok
/-- Writes of the configuration block. -/
def configWrite (a v : Nat) (d : Dev) : Dev :=
  match a - 0x00300000 with
  | 0xC => cfgCtrlWrite v d
  | 0x10 => cfgCmdWrite (bitAt v 0) d
  | 0x120 => fuseCmdWrite (bitsAt v 16 16) (bitAt v 1) (bitAt v 0) d
  | 0x400 => carCtrlWrite v d
  | 0x408 => carCmdWrite (bitAt v 2) (bitAt v 1) (bitAt v 0) d
  | _ => storeReg a v d
/-- Writes of the GPIO registers (R535 to R543, R553). -/
def gpioWrite (a v : Nat) (d : Dev) : Dev :=
  let o := a - 0x00450000
  if o < 0x180 then pinCfgWrite (o / 4) v d
  else if o < 0x20C then outWrite (o / 4 % 4) v d
  else if o < 0x21C then outSet (o / 4 % 4) v d
  else if o < 0x22C then outClr (o / 4 % 4) v d
  else if o < 0x23C then oeWrite (o / 4 % 4) v d
  else if o < 0x26C then storeReg a v (touchWord (o / 4 % 4) id d)
  else if o = 0x320 then filtWrite v d
  else if o = 0x324 then conflictWrite v d
  else storeReg a v d
/-- Writes of a peripheral of kind `k` and bank `b` (R555). -/
def periphWrite (k b a v : Nat) (d : Dev) : Dev :=
  match a % 0x100 with
  | 0x4 => if k = 0 then i2cXfer b v d else if k = 1 then spiXfer b v d else mdioXfer b v d
  | 0x8 => txdPush k b (v % 256) d
  | _ => storeReg a v d
/-- Writes of the service block. -/
def serviceWrite (a v : Nat) (d : Dev) : Dev :=
  if a = 0x00400000 then bistCmdWrite (bitsAt v 28 4) (bitsAt v 24 3) d
  else if a = 0x0040100C then bbrCmdWrite (bitAt v 3) (bitAt v 1) (bitAt v 0) (bitAt v 4) (bitAt v 2) d
  else if 0x00450000 ≤ a ∧ a < 0x00451000 then gpioWrite a v d
  else if 0x00451000 ≤ a ∧ a < 0x00455000 then
    periphWrite ((a - 0x00451000) / 0x1000) ((a - 0x00451000) % 0x1000 / 0x100) a v d
  else if a = 0x00460008 then trimWrite v d
  else if a = 0x0046000C then trimCmdWrite (bitsAt v 28 4) (bitsAt v 0 16) d
  else storeReg a v d
/-- Writes of the registers of queue `q` (R254 to R257): QD_STAT and QD_BIND may change its attention bit. -/
def queueWrite (q a v : Nat) (d : Dev) : Dev :=
  match a % 0x20 with
  | 0x0 => qdCfgWrite q v d
  | 0x4 => qdBindWrite q v d
  | 0x8 => watermarkWrite q (bitsAt v 0 22) d
  | _ => (withAttn q (fun d => storeReg a v d) d).answer .ok
/-- Writes of the queue manager (R244 to R253). -/
def qmWrite (a v : Nat) (d : Dev) : Dev :=
  if a = 0x0080000C then poolLowWrite (bitsAt v 0 19) d
  else if a = 0x00800040 then
    let q := bitsAt v 0 14
    match bitsAt v 16 4 with | 1 => qmReset q d | 2 => qmAbort q d | 3 => qmClrStats q d | _ => qCmdOpen (fun d => d.answer .ok) d
  else if a = 0x00800050 then
    let q := bitsAt v 0 14
    match bitsAt v 28 4 with | 1 => hostPush q (bitAt v 27) (bitsAt v 24 3) d | 2 => hostPop q d | _ => hostCmdOpen (fun d => d.answer .ok) d
  else if 0x00810000 ≤ a ∧ a < 0x00820000 then storeUnless (d.armed ((a - 0x00810000) / 0x40)) a v d
  else if 0x00830000 ≤ a ∧ a < 0x00840000 then storeUnless (d.armed ((a - 0x00830000) / 0x10)) a v d
  else if 0x00900000 ≤ a then queueWrite ((a - 0x00900000) / 0x20) a v d
  else storeReg a v d
/-- A write of CX_CMD (R327). -/
def cxCmdWrite (v : Nat) (d : Dev) : Dev :=
  let f := bitsAt v 16 8
  match bitsAt v 28 4 with
  | 1 => cxPageReset f (bitsAt v 0 16) d
  | 2 => cxRekey f d
  | 3 => cxAbort f d
  | 4 => cxResume f d
  | _ => cxCmd (fun d => d.answer .ok) d
/-- A write of KS_CMD (R328). -/
def ksCmdWrite (v : Nat) (d : Dev) : Dev :=
  let k := bitsAt v 0 6
  match bitsAt v 28 4 with
  | 1 => keyLoad k (bitsAt v 24 1) d
  | 2 => keyRetire k d
  | 3 => keyAbort k d
  | _ => d.answer (if ksBusy d then .retry else .ok)
/-- Writes of the crypto unit (R324 to R330). -/
def cryptoWrite (a v : Nat) (d : Dev) : Dev :=
  if a = 0x01000000 then alarmClear v d
  else if a = 0x01000004 then secCtrlWrite v d
  else if a = 0x01000030 then cxCmdWrite v d
  else if a = 0x01000120 then ksCmdWrite v d
  else if 0x01001000 ≤ a ∧ a < 0x01002000 ∧ a % 16 = 0 then cfCtrlWrite ((a - 0x01001000) / 16) v d
  else storeReg a v d
/-- A write of XMC_CMD: a write with a RETRAIN that is refused does nothing (R263). -/
def xmcCmdWrite (n v : Nat) (d : Dev) : Dev :=
  let d1 := if bitAt v 0 then retrain n d else d.answer .ok
  if d1.ctl.ans.code = .ok then
    let d2 := if bitAt v 1 then xmcClrStats n d1 else d1
    if bitAt v 2 then xmcClrEcc n d2 else d2
  else d1
/-- Writes of the registers of file `f` (R269, R285). -/
def fileWrite (f a v : Nat) (d : Dev) : Dev :=
  match a % 0x40 with
  | 0x0 => xfCfgWrite f v d
  | 0x4 => xfRangeWrite f (XF_BASE_BASE f) v d
  | 0x8 => xfRangeWrite f (XF_SIZE_SIZE f) v d
  | _ => storeReg a v d
/-- Writes of external memory (R284 to R288). -/
def xmWrite (a v : Nat) (d : Dev) : Dev :=
  let n := (a - 0x01400000) / 0x40000
  let o := (a - 0x01400000) % 0x40000
  if o < 0x8000 then
    match o with
    | 0x0 => xmcCtrlWrite n (bitAt v 31) d
    | 0x8 => xmcCmdWrite n v d
    | _ => storeReg a v d
  else if o = 0x8000 then xmCfgWrite v d
  else if o < 0x10000 then storeReg a v d
  else if o < 0x14000 then fileWrite ((o - 0x10000) / 0x40) a v d
  else xmSeatWrite a ((o - 0x20000) / 8) v d
/-- Writes of the Ethernet complex (R358 to R365). -/
def ethernetWrite (a v : Nat) (d : Dev) : Dev :=
  if a < 0x01810000 then
    let p := (a - 0x01800000) / 0x100
    if a % 0x100 = 0 then epCfgWrite p v d else storeReg a v d
  else
    let s := (a - 0x01810000) / 0x400
    if a % 0x400 = 0 then sbCfgWrite s v d
    else storeUnless (d.flag (SB_CFG_EN s) && decide (0x100 ≤ a % 0x400)) a v d
/-- Writes of the cascade link (R393 to R399). -/
def ifeotteWrite (a v : Nat) (d : Dev) : Dev :=
  let o := a - 0x01C00000
  if o = 0 then iclCfgWrite v d
  else if o = 0x20 then iclCmdWrite (bitAt v 0) (bitAt v 1) d
  else if 0x100 ≤ o ∧ o < 0x200 ∧ o % 0x40 = 0 then iclPortWrite ((o - 0x100) / 0x40) v d
  else if 0x500 ≤ o ∧ o < 0x700 then reroute (storeReg a v d)
  else if o = 0x808 then tunnelCmd (bitsAt v 28 4) (bitsAt v 24 4) d
  else storeReg a v d
/-- A write of RING_FAB_CMD: a write with a MEM_ZERO that is refused does nothing (R101). -/
def fabCmdWrite (r v : Nat) (d : Dev) : Dev :=
  let d1 := if bitAt v 0 then ringMemZero r d else d.answer .ok
  if d1.ctl.ans.code = .ok ∧ bitAt v 1 then ringClrEcc r d1 else d1
/-- Writes of a Turnstile slot (R193 to R198): a FLUSH that is refused refuses the write. -/
def slotWrite (r t a v : Nat) (d : Dev) : Dev :=
  match a % 0x40 with
  | 0x0 => storeUnless (d.armed r) a v d
  | 0x2C =>
    let d1 := if bitAt v 1 then tsFlush r t d else d.answer .ok
    if d1.ctl.ans.code = .ok ∧ bitAt v 0 then tsClrStats r t d1 else d1
  | _ => storeReg a v d
/-- Writes of a ring's window (R48 to R55, R92 to R102). -/
def ringRegWrite (r o a v : Nat) (d : Dev) : Dev :=
  if o = 0 then schedWrite r v d
  else if o = 4 then seqWrite r v d
  else if o < 0x50 then storeUnless (d.flag (RING_SCHED_ARM r)) a v d
  else if o = 0x70 then ringCmd r (bitAt v 2) (bitAt v 1) (bitAt v 0) d
  else if o = 0x104 then
    if bitAt v 31 then groupForm r (bitsAt v 0 4 + 1) (bitsAt v 4 3 + 1) d
    else groupDissolve r (bitsAt v 0 4 + 1) (bitsAt v 4 3 + 1) d
  else if o = 0x118 then storeUnless (d.armed r) a v d
  else if o = 0x130 then fabCmdWrite r v d
  else if 0x400 ≤ o then slotWrite r ((o - 0x400) / 0x40) a v d
  else storeReg a v d
/-- Writes of an engine's window (R126 to R138). -/
def engRegWrite (e a v : Nat) (d : Dev) : Dev :=
  match a % 0x1000 with
  | 0x50 => engCfgWrite e (fldsAt a) v d
  | 0x80 => engCfgWrite e (fldsAt a) v d
  | 0x84 => engCmdWrite e v d
  | 0x94 => dbgWrite e v d
  | _ => storeReg a v d
/-- Counters that a write of any value clears (R252, R287, R326, R360, R365, R397). -/
def isCounter (a : Nat) : Bool :=
  a % 4 == 0 && !(fldsAt a).isEmpty &&
    (decide (0x00820000 ≤ a ∧ a < 0x00830000) || decide (0x01430000 ≤ a ∧ a < 0x01440000) || a == 0x01000018 ||
      (decide (0x01800000 ≤ a ∧ a < 0x01810000) && decide (0x50 ≤ a % 0x100 ∧ a % 0x100 ≤ 0x64)) ||
      (decide (0x01810000 ≤ a ∧ a < 0x01C00000) && decide (0x20 ≤ a % 0x400 ∧ a % 0x400 ≤ 0x3C)) ||
      (decide (0x01C00100 ≤ a ∧ a < 0x01C00200) && decide (0x10 ≤ a % 0x40 ∧ a % 0x40 ≤ 0x2C)))
/-- The write of such a register; a port first counts what it has sent. -/
def clearCounter (a : Nat) (d : Dev) : Dev :=
  let d1 := if 0x01800000 ≤ a ∧ a < 0x01810000 then netSettle ((a - 0x01800000) / 0x100) d else d
  (d1.resetFlds (fldsAt a)).answer .ok
/-- The write of an open block's register, block by block. -/
def openWrite (a v : Nat) (d : Dev) : Dev :=
  if isCounter a then clearCounter a d
  else if a < 0x00100000 then globalWrite a v d
  else if a < 0x00200000 then masterWrite a v d
  else if a < 0x00300000 then tightropeWrite a v d
  else if a < 0x00400000 then configWrite a v d
  else if a < 0x00800000 then serviceWrite a v d
  else if a < 0x01000000 then qmWrite a v d
  else if a < 0x01400000 then cryptoWrite a v d
  else if a < 0x01800000 then xmWrite a v d
  else if a < 0x01C00000 then ethernetWrite a v d
  else if a < 0x02000000 then ifeotteWrite a v d
  else if a < 0x04000000 then ringRegWrite ((a - 0x02000000) / 0x10000) ((a - 0x02000000) % 0x10000) a v d
  else engRegWrite ((a - 0x04000000) / 0x1000) a v d
/-- A write of `v` to the register at `a`, with its CLOSED, ADDR, PERM and lock checks (R4, R5, R7, R512). -/
def regWrite (a v : Nat) (d : Dev) : Dev :=
  if closedAt d a then d.answer .closed
  else if behindStop d a then d.answer .clockStopped
  else if a % 4 ≠ 0 then d.answer .addr
  else if 0x00310000 ≤ a ∧ a < 0x00320000 then windowWrite (BitVec.ofNat 32 v) d
  else if 0x8000 ≤ a ∧ a < 0x9000 then (msixWrite ((a - 0x8000) / 4) v d).answer .ok
  else if 0x9000 ≤ a ∧ a < 0x9020 then d.answer .ok
  else if 0x00440000 ≤ a ∧ a < 0x00450000 then d.answer .perm
  else if (fldsAt a).isEmpty then d.answer .addr
  else openWrite a (v % 2 ^ 32) d

/-! ### Tunnelled access (R389) -/

/-- The register access that the body of a TUN_REQ asks for: refused without TUN_ACCEPT. -/
def tunAccess (body : List Byte) (d : Dev) : Dev :=
  let (write, a, v) := Config.tunReqOf body
  if !d.flag ICL_CFG_TUN_ACCEPT then d.answer .perm
  else if write then regWrite (a % 2 ^ 27) v d else regRead (a % 2 ^ 27) d
/-- TUN_REQ_RX: the access is made and the response sent; it makes no entry in HOST_ERRLOG. -/
def tunReqRx (q : Nat) (d : Dev) : Dev :=
  match takeInbox q (fun f => f.type == 5) d with
  | (none, _) => d
  | (some (_, f), d1) =>
    let d2 := tunAccess f.body d1
    let body := pad8 (Config.tunRspBody d2.ctl.ans.code.code (d2.ctl.ans.data.headD 0))
    sendTo { type := 6, src := ownId d2, dest := f.src, slot := d2.get ICL_CFG_CTRL_SLOT, body := body } d2

/-! ### The meanings -/

/-- REGISTER_WRITE (R5). -/
def execRegisterWrite (a : BitVec 27) (v : Word) (s : State) : Host.Outcome State Fault Refusal :=
  run s (regWrite a.toNat v.toNat)
/-- COUNTER_CLEAR (R252): a write to a register that is no such counter is another command. -/
def execCounterClear (a : BitVec 27) (v : Word) (s : State) : Host.Outcome State Fault Refusal :=
  run s (fun d => if isCounter a.toNat then regWrite a.toNat v.toNat d else d)
/-- TUN_REQ_RX (R389). -/
def execTunReqRx (q : Fin 4) (s : State) : Host.Outcome State Fault Refusal := run s (tunReqRx q.val)

end Sys2Proof.Machine
end

