-- ==== Sys2Proof/Machine/ConfigApply.lean ====
section
/-! DEFINITION. Completion of a load (R466, R467, R474), the settings records, the release (R472), DONE. -/
namespace Sys2Proof.Machine
open Sys2Proof.Machine.Reg

/-! ### Settings records (R466) -/

/-- What a settings record does beyond a host write: nothing, RUN is held, ARM of a ring is held, EN and TARGET of a
slot take its value. -/
inductive RecKind where
  | plain | run | arm (r : Nat) | slot (r t : Nat)
  deriving DecidableEq, Repr
/-- The kind of the record for BAR0 offset `a`. -/
def recKind (a : Nat) : RecKind :=
  if a = 0x00100000 then .run
  else if 0x02000000 ≤ a ∧ a < 0x02800000 then
    let r := (a - 0x02000000) / 0x10000
    let o := (a - 0x02000000) % 0x10000
    if o = 0 then .arm r
    else if 0x400 ≤ o ∧ o < 0xA80 ∧ o % 0x40 = 0 then .slot r ((o - 0x400) / 0x40)
    else .plain
  else .plain
/-- A slot is attached or detached by configuration (R172, R194): attached it runs, detached it is DISABLED. -/
def attachSlot (r t : Nat) (en : Bool) (target : Nat) (d : Dev) : Dev :=
  let d1 := d.set (TS_CFG_TARGET r t) target
  if d1.flag (TS_CFG_EN r t) = en then d1
  else (d1.set (TS_CFG_EN r t) (b2n en)).set (TS_STATUS_STATE r t)
    (if !en then 0 else if ringSideReset d1 || d1.flag (TS_STATUS_FAR_RST r t) then 2 else 1)
/-- RUN while a record of RM_CTRL is applied: 0 in a load (R466); a replay leaves Ringmaster as it runs (Table 13-7). -/
def runWhileHeld (d : Dev) : Nat := if d.get CFG_STATUS_STATE = 6 then d.get RM_CTRL_RUN else 0
/-- One record is applied as a host write would be; bits ARM and RUN are held. -/
def applyRec (x : CfgRec) (d : Dev) : Dev :=
  let top := bitAt x.val 31
  match recKind x.addr with
  | .plain => regWrite x.addr x.val d
  | .run => mapCfg (fun c => { c with heldRun := top }) (regWrite x.addr (x.val % 2 ^ 31 + 2 ^ 31 * runWhileHeld d) d)
  | .arm r => mapRing r (fun y => { y with heldArm := top }) (regWrite x.addr (x.val % 2 ^ 31) d)
  | .slot r t =>
    let d1 := regWrite x.addr x.val d
    if d1.ctl.ans.code = .ok then attachSlot r t top (bitsAt x.val 8 8) d1 else d1
/-- Records in order, up to the first that is answered other than OK. -/
def applyRecs : List CfgRec → Dev → Option (CfgRec × Resp) × Dev
  | [], d => (none, d)
  | x :: xs, d =>
    let d1 := applyRec x d
    if d1.ctl.ans.code = .ok then applyRecs xs d1 else (some (x, d1.ctl.ans.code), d1)
/-- Nothing is held for some rings, and RUN is not where `full`. -/
def dropHeld (full : Bool) (rs : List Nat) (d : Dev) : Dev :=
  let d1 := if full then mapCfg (fun c => { c with heldRun := false }) d else d
  forEach rs d1 (fun r d => mapRing r (fun y => { y with heldArm := false }) d)
/-- The held arms of some rings are applied, in ring order, each checked by R27. -/
def applyHeld (rs : List Nat) (d : Dev) : Dev :=
  forEach rs d (fun r d =>
    if (d.ring r).heldArm then mapRing r (fun y => { y with heldArm := false }) (schedWrite r (schedWord d r true) d) else d)

/-! ### END (R467, R474) -/

/-- What completion does to a ring that the load covers (R124, R125, R474). -/
def ringLoaded (design r : Nat) (d : Dev) : Dev :=
  initStates r (forEach (engsOf r) (engsRestart r (d.set (RING_CFG_ID_DESIGN_ID r) design)) mirrorHeader)
/-- The load is complete: nothing runs any more. -/
def loadEnds (d : Dev) : Dev :=
  mapCfg (fun c => { c with load := none, endAt := some d.tb })
    (((d.set CFG_STATUS_BUSY 0).set CFG_STATUS_STATE 4).raise CFG_IRQ_CAUSE_LOAD_DONE)
/-- A full load completes: DONE is released, Carousel begins its first pass (Table 13-6). -/
def fullDone (l : LoadSt) (d : Dev) : Dev :=
  let d1 := forEach (List.range 128) d (ringLoaded l.design)
  let d2 := (((d1.set CFG_DESIGN_DESIGN_ID l.design).set CFG_STATUS_FULL_DONE 1).set CFG_STATUS_RELEASED 0).set
    CAR_STATUS_SHADOW_BAD 0
  let d3 := forEach (List.range 4) d2 (fun i d => d.set (CAR_BAD_RINGS i) 0)
  carFirst (loadEnds (mapCfg (fun c => { c with shadow := l.recs, doneAt := some d3.tb }) d3))
/-- A partial load completes (Table 13-5, steps 4 and 5). -/
def partialDone (l : LoadSt) (d : Dev) : Dev :=
  let rs := maskRings l.mask
  let one (r : Nat) (d : Dev) : Dev :=
    let d1 := forEach (List.range 26) d (flushSlot r)
    (ringLoaded l.design r d1).clrBit (CAR_BAD_RINGS (r / 32)) (r % 32)
  let mine (x : CfgRec) : Bool := !isDevFrame x.faddr && bitAt l.mask (frameRing x.faddr)
  let d1 := mapCfg (fun c => { c with shadow := c.shadow.filter (fun x => !mine x) ++ l.recs }) (forEach rs d one)
  applyHeld rs (forEach rs (loadEnds d1) reopen)
/-- The records of a load that has passed its checks are applied, and it completes or fails with SETTING (R466). -/
def applyLoad (l : LoadSt) (d : Dev) : Dev :=
  match applyRecs l.recs (dropHeld (!l.part) (maskRings l.mask) d) with
  | (some (x, code), d1) => loadFail 13 (some x.faddr) code.code x.idx d1
  | (none, d1) => if l.part then partialDone l d1 else fullDone l d1
/-- END_PACKET (R461, R467): a partial load waits until its rings are CLOSED. -/
def endPacket (data : List Word) (d : Dev) : Dev :=
  match loadHead data d with
  | some (_, .bad, d1) => loadFail 1 none 0 0 d1
  | some (l, .fin, d1) =>
    if l.part ∧ (maskRings l.mask).any (fun r => d1.get (RING_STATUS_STATE r) != 5) then d1
    else
      let ws := streamWords d1 l.window
      let d2 := dropWords l.window 3 d1
      if ws.getD 2 0 ≠ 0 then loadFail 1 none 0 0 d2
      else if ws.getD 1 0 ≠ d2.get CFG_FRAMES_FRAMES then loadFail 12 none 0 0 d2
      else applyLoad l d2
  | some (_, _, d1) => d1
  | none => d

/-! ### DONE (R472) -/

/-- The end of a cold start or of a warm reset: CASC_ID and CASC_MASTER are sampled (R373), filter histories restart
(R545). -/
def sampleStraps (d0 : Dev) : Dev :=
  let d := forEach (List.range 96) (mapCfg (fun c => { c with starting := false }) d0) restartFilter
  let d1 := (d.set ICL_STATUS_CASC_ID d.pins.cascId).set ICL_STATUS_MASTER (b2n d.pins.master)
  settleLink (selectUpstream (ownMap d1))
/-- Every enabled controller is in READY or FAILED. -/
def xmcsSettled (d : Dev) : Bool :=
  (List.range 8).all (fun n => !d.flag (XMC_CTRL_EN n) || xmcState d n == 2 || xmcState d n == 3)
/-- DONE_RELEASE: the line has read high for 1 us after the device released it; once per full load. -/
def doneRelease (d : Dev) : Dev :=
  match d.cfg.doneAt with
  | none => d
  | some t =>
    let d1 := (d.advance (t + 4000)).set CFG_STATUS_DONE_PIN 1
    if d1.flag CFG_STATUS_RELEASED ∨ (d1.flag CFG_CTRL_WAIT_XMC ∧ !xmcsSettled d1) then d1
    else
      let d2 := if d1.cfg.heldRun then rmCtrlWrite (ctrlWord d1 true) d1 else d1
      let d3 := applyHeld (List.range 128) (mapCfg (fun c => { c with heldRun := false }) d2)
      let d4 := (d3.set CFG_STATUS_RELEASED 1).raise CFG_IRQ_CAUSE_RELEASE
      if d4.cfg.starting then sampleStraps d4 else d4
/-- DONE_LOW: the line falls. -/
def doneLow (d : Dev) : Dev :=
  let d1 := d.set CFG_STATUS_DONE_PIN 0
  if d1.flag CFG_STATUS_RELEASED then d1.raise CFG_IRQ_CAUSE_DONE_LOW else d1

/-! ### The meanings -/

/-- END_PACKET (R467). -/
def execEndPacket (data : List Word) (s : State) : Host.Outcome State Fault Refusal := run s (endPacket data)
/-- DONE_RELEASE (R472). -/
def execDoneRelease (s : State) : Host.Outcome State Fault Refusal := run s doneRelease
/-- DONE_LOW (R472). -/
def execDoneLow (s : State) : Host.Outcome State Fault Refusal := run s doneLow

end Sys2Proof.Machine
end

