-- ==== Sys2Proof/Machine/HostPort.lean ====
section
/-! DEFINITION. The host port (R556 to R566, R574, R575): configuration requests, BAR requests, resets, DMA channels, the
management I2C target. -/
namespace Sys2Proof.Machine
open Sys2Proof.Machine.Reg

/-! ### Reset of the port (R558) -/

/-- The register words of DMA channel `n`. -/
def dmaRegs (n : Nat) : List Nat := (List.range 10).map (fun i => dmaBase n + 4 * i)
/-- The DMA channels are reset: descriptors in progress are neither completed nor written back. -/
def dmaReset (d : Dev) : Dev :=
  mapHost (fun h => { h with descs := [], lastCh := 7 })
    (forEach (List.range 8) d (fun n d => forEach (dmaRegs n) d (fun a d => d.resetFlds (fldsAt a))))
/-- Nobody waits for the piece that is in the trees of external memory any more. -/
def dmaForsake (d : Dev) : Dev :=
  mapHost (fun h => { h with dmaOn := none, dmaAns := none }) (forsake (fun _ w => w == .dma) d)
/-- The host port is reset; `down`: its link with it. Requests that wait for external memory, those of the DMA channels
among them, have no one to answer. -/
def portReset (down : Bool) (d : Dev) : Dev :=
  let d1 := dmaReset (forEach (List.range 8) (dmaForsake d) (fun i d => d.set (GIRQ_INSERV_INSERV i) 0))
  let d2 := (d1.set HOST_STATUS_BME 0).set HOST_STATUS_MSIX_EN 0
  let d3 := if down then (d2.set HOST_STATUS_WIDTH 0).set HOST_STATUS_SPEED 0 else d2
  let gone (q : XReq) : XReq := match q.who with | .host _ => { q with who := .gone } | _ => q
  { d3 with
    host := { inReset := down || d.host.inReset, readyAt := if down then none else d.host.readyAt }
    xm := { d3.xm with reqs := d3.xm.reqs.map gone } }
/-- PERST_N_RELEASE: the port comes out of reset with a link of `width` and `speed` (Table 16-9), ready for configuration
requests `ns` nanoseconds later, at most 100 ms. -/
def perstRelease (ns width speed : Nat) (d : Dev) : Dev :=
  if !d.host.inReset then d
  else
    let at' := d.tb + 4 * Nat.min ns 100000000
    mapHost (fun h => { h with inReset := false, readyAt := some at' })
      ((d.set HOST_STATUS_WIDTH width).set HOST_STATUS_SPEED speed)

/-! ### Configuration space (R556 to R559) -/

/-- The bytes of `v` that `be` enables, over `old`. -/
def mergeBe (old v be : Nat) : Nat :=
  (List.range 4).foldl (fun w i => w + 256 ^ i * bitsAt (if bitAt be i then v else old) (8 * i) 8) 0
/-- DW `i` of configuration space as written. -/
def cfgRaw (d : Dev) (i : Nat) : Nat := sget 0 d.host.cfg i
/-- The address bits of a BAR of `2 ^ n` bytes. -/
def barBits (n v : Nat) : Nat := v / 2 ^ n * 2 ^ n
/-- DW `i` of configuration space as it reads: the header (R557, R559), the serial number (R394, R556), the fields that
the port acts on; what no rule gives is open (log 45). -/
def cfgRead (d : Dev) (i : Nat) : Nat :=
  let v := cfgRaw d i
  let rest := Config.cfgSpace i d.host.cfg
  match i with
  | 0 => 0xB2301E9C
  | 1 => rest / 2 ^ 16 % 2 ^ 16 * 2 ^ 16 + (v &&& 0x546)
  | 2 => 0x12000000 + d.get GLOBAL_ID_VERSION
  | 4 => barBits 27 v + 0x4
  | 6 => barBits 28 v + 0xC
  | 8 => barBits 28 v + 0xC
  | 5 => v
  | 7 => v
  | 9 => v
  | 11 => 0x30721E9C
  | 12 => 0
  | 15 => rest / 2 ^ 16 % 2 ^ 16 * 2 ^ 16 + v % 2 ^ 8
  | _ =>
    if i = Config.capDsn + 1 then d.get ICL_UID_LO_UID_LO
    else if i = Config.capDsn + 2 then d.get ICL_UID_HI_UID_HI
    else if i = Config.capMsix then b2n d.host.msixOn * 2 ^ 31 + b2n d.host.fmask * 2 ^ 30 + rest % 2 ^ 30
    else if i = Config.capPm + 1 then rest / 4 % 2 ^ 30 * 4 + 3 * b2n d.host.d3
    else rest % 2 ^ 32
/-- Pending messages go where masks have cleared. -/
def msixPending (d : Dev) : Dev := forEach (List.range 256) d msixUnmasked
/-- Max_Payload_Size by its field, 512 bytes at most (Table 16-1). -/
def mpsOf (n : Nat) : Nat := match n with | 0 => 128 | 1 => 256 | _ => 512
/-- What the port does with a DW of configuration space that has been written. -/
def cfgActs (i v : Nat) (d : Dev) : Dev :=
  if i = 1 then d.set HOST_STATUS_BME (bitsAt v 2 1)
  else if i = Config.capMsix then
    let d1 := mapHost (fun h => { h with msixOn := bitAt v 31, fmask := bitAt v 30 }) d
    msixPending (d1.set HOST_STATUS_MSIX_EN (b2n (bitAt v 31 && !bitAt v 30)))
  else if i = Config.capPm + 1 then
    match bitsAt v 0 2 with
    | 0 => msixPending (mapHost (fun h => { h with d3 := false }) d)
    | 3 => mapHost (fun h => { h with d3 := true }) d
    | _ => d
  else if i = Config.capPcie + 2 then
    let d1 := mapHost (fun h => { h with mps := mpsOf (bitsAt v 5 3) }) d
    if bitAt v 15 then portReset false d1 else d1
  else d
/-- CONFIG_REQUEST: a read where `data` is none; Retry Status until the port is ready (R558). -/
def configRequest (i be : Nat) (data : Option Word) (d : Dev) : Dev :=
  if d.host.inReset then d
  else if (match d.host.readyAt with | some t => decide (d.tb < t) | none => false) then d.emit .configRetry
  else match data with
    | none => (d.emit (.completion .ok [cfgRead d i])).answer .ok [cfgRead d i]
    | some v =>
      let w := mergeBe (cfgRaw d i) v.toNat be
      let d1 := cfgActs i w (mapHost (fun h => { h with cfg := sset 0 h.cfg i w }) d)
      (d1.emit (.completion .ok [])).answer .ok

/-! ### BAR requests (R559 to R561) -/

/-- R560: byte enables of a request of `n` DWs. -/
def enablesOk (n fbe lbe : Nat) : Bool := fbe == 15 && (if n = 1 then lbe == 0 else lbe == 15)
/-- A register access of `n` DWs, one after the other: the worst code and the words read. -/
def regsAccess : Nat → Nat → Option (List Word) → Dev → Resp × List Nat × Dev
  | 0, _, _, d => (.ok, [], d)
  | n + 1, a, data, d =>
    let d1 := match data with
      | none => regRead a d
      | some ws => regWrite a (ws.headD 0).toNat d
    let (c, vs, d2) := regsAccess n (a + 4) (data.map (·.drop 1)) d1
    (Resp.worst d1.ctl.ans.code c, d1.ctl.ans.data.headD 0 :: vs, d2)
/-- Whether a BAR0 request has a size that R560 allows: one DW, or 8 aligned bytes of the MSI-X table or PBA. -/
def bar0Size (a n : Nat) : Bool := n == 1 || (n == 2 && a % 8 == 0 && decide (0x8000 ≤ a ∧ a + 8 ≤ 0x9020))
/-- A request to BAR0 (R4, R560). -/
def bar0 (a n fbe lbe reqId : Nat) (data : Option (List Word)) (d : Dev) : Dev :=
  let (c, vs, d1) := if bar0Size a n && enablesOk n fbe lbe then regsAccess n a data d else (.addr, List.replicate n 0, d)
  hostEnd 0 reqId a c (if data.isSome then [] else vs) d1
/-- One unit of `n` bytes at offset `o` of BAR2 (R87, R112, R114, R559). -/
def bar2Unit (o n : Nat) (v : Option Nat) (d : Dev) : Resp × Nat × Dev :=
  if o < 0x02000000 then
    let r := o / 0x40000
    let b := o / 0x2000 % 32
    let w := o / 8 % 1024
    match v with
    | none => ringHostRead r b w (o % 8) n d
    | some x => let (c, d1) := ringHostWrite r b w (o % 8) n x d; (c, 0, d1)
  else if o < 0x06000000 then
    let e := (o - 0x02000000) / 0x10000
    match v with
    | none => dataHostRead e (o % 0x10000) n d
    | some x => let (c, d1) := dataHostWrite e (o % 0x10000) n x d; (c, 0, d1)
  else if o < 0x07000000 then
    let e := (o - 0x06000000) / 0x4000
    match v with
    | none => progHostRead e (o % 0x4000) n d
    | some _ => (progHostWrite d e (o % 0x4000) n, 0, d)
  else (.addr, 0, d)
/-- R560: units of 8 bytes, one of 4 where the request does not begin or end at a multiple of 8. -/
def unitLen (o n : Nat) : Nat := if o % 8 = 4 ∨ n < 8 then 4 else 8
/-- An access of `n` bytes at offset `o` of BAR2, unit by unit: the worst code and the bytes read. -/
def bar2Access : Nat → Nat → Nat → Option (List Byte) → Dev → Resp × List Byte × Dev
  | 0, _, _, _, d => (.ok, [], d)
  | k + 1, o, n, data, d =>
    if n = 0 then (.ok, [], d)
    else
      let len := unitLen o n
      let (c, v, d1) := bar2Unit o len (data.map (fun bs => leNat (bs.take len))) d
      let (c2, bs, d2) := bar2Access k (o + len) (n - len) (data.map (·.drop len)) d1
      (Resp.worst c c2, leBytes len v ++ bs, d2)
/-- Words as bytes. -/
def wordBytes (ws : List Word) : List Byte := ws.flatMap (fun w => leBytes 4 w.toNat)
/-- A request of `n` DWs to BAR2 (R560). -/
def bar2 (o n fbe lbe reqId : Nat) (data : Option (List Word)) (d : Dev) : Dev :=
  let (c, bs, d1) := if enablesOk n fbe lbe then bar2Access (n + 1) o (4 * n) (data.map wordBytes) d
    else (.addr, List.replicate (4 * n) 0, d)
  hostEnd 1 reqId o c (if data.isSome then [] else wordsOf n bs) d1
/-- A request of `n` DWs to BAR4 (R560): it enters the trees of external memory. -/
def bar4 (g n fbe lbe reqId : Nat) (data : Option (List Word)) (d : Dev) : Dev :=
  if enablesOk n fbe lbe then xHost (.host reqId) g (4 * n) (data.map wordBytes) d
  else hostEnd 2 reqId g .addr (if data.isSome then [] else List.replicate n 0) d
/-- A request that the port has received: none while it is in reset. Its length in DWs is that of its data; a read of
length 0 asks for 1,024. -/
def barRequest (len : Nat) (data : Option (List Word)) (f : Nat → Dev → Dev) (d : Dev) : Dev :=
  let n := match data with | some ws => ws.length | none => if len = 0 then 1024 else len
  if d.host.inReset || n == 0 || (data.isSome && decide (128 < n)) then d else f n d
/-- BAR_TIMEOUT: the oldest request of the host that waits is 40 us old (R561). -/
def barTimeout (d : Dev) : Dev :=
  let waits (q : XReq) : Bool := match q.who with | .host _ => true | _ => false
  match d.xm.reqs.find? waits with
  | none => d
  | some q =>
    let d1 := d.advance (q.since + 160000)
    let id := match q.who with | .host i => i | _ => 0
    let rec' := (d1.xm.reqs.takeWhile (fun x => !waits x)) ++ { q with who := .gone } ::
      (d1.xm.reqs.dropWhile (fun x => !waits x)).drop 1
    hostEnd 2 id q.addr .timeout (if q.data.isSome then [] else List.replicate q.words 0)
      { d1 with xm := { d1.xm with reqs := rec' } }

/-! ### DMA channels (R562 to R565) -/

/-- The descriptor in progress of channel `n`. -/
def dmaDesc (d : Dev) (n : Nat) : Option DmaDesc := sget none d.host.descs n
/-- Replace it. -/
def setDesc (n : Nat) (x : Option DmaDesc) (d : Dev) : Dev := mapHost (fun h => { h with descs := sset none h.descs n x }) d
/-- How a read of host memory completes (R564): with data, Unsupported Request or Completer Abort, poisoned, not at
all. -/
def hostReadCode : Nat → Resp
  | 0 => .ok | 1 => .perm | 2 => .ecc | _ => .timeout
/-- Write to host memory, in payloads of at most Max_Payload_Size. -/
def hostWrites : Nat → Nat → List Byte → Dev → Dev
  | 0, _, _, d => d
  | k + 1, a, bs, d =>
    if bs.isEmpty then d
    else
      let n := d.host.mps - a % d.host.mps
      hostWrites k (a + n) (bs.drop n) (d.emit (.hostWrite a (bs.take n)))
/-- The descriptor of channel `n` ends with `code` after `moved` bytes: status word, DMA_CONS, RESULT, causes; `halts`
where the channel halts. -/
def dmaEnd (n : Nat) (code : Resp) (moved : Nat) (late irq halts : Bool) (d : Dev) : Dev :=
  let cons := d.get (DMA_CONS_CONS n)
  let base := d.get (DMA_RING_LO_BASE_LO n) * 4096 + d.get (DMA_RING_HI_BASE_HI n) * 2 ^ 32
  let status := 2 ^ 31 + b2n late * 2 ^ 30 + code.code * 2 ^ 24 + moved
  let d1 := hostWrites 4 (base + 32 * cons + 28) (leBytes 4 status) d
  let d2 := d1.set (DMA_CONS_CONS n) (if cons + 1 < d.get (DMA_RING_SIZE_SIZE n) then cons + 1 else 0)
  let d3 := ((d2.set (DMA_STATUS_RESULT n) code.code).set (DMA_STATUS_BUSY n) 0).set (DMA_STATUS_ABORT_LATE n) (b2n late)
  let d4 := if irq then d3.raise (DMA_IRQ_CAUSE_DESC n) else d3
  let d5 := if halts then (d4.set (DMA_STATUS_STATE n) 2).raise (DMA_IRQ_CAUSE_HALT n)
    else d4.set (DMA_STATUS_STATE n) (b2n (d4.flag (DMA_CTRL_EN n)))
  setDesc n none d5
/-- R564: the descriptor fails; the log takes the host address of an error on the host's side, the device address
otherwise. -/
def dmaFail (n : Nat) (code : Resp) (moved : Nat) (irq host : Bool) (addr : Nat) (d : Dev) : Dev :=
  let d1 := dmaEnd n code moved false irq true d
  hostErr 3 code n 0 (addr % 2 ^ 32) (if host then addr / 2 ^ 32 else 0) d1
/-- Whether the port may issue requests of its own (R558, R563). -/
def busMaster (d : Dev) : Bool := d.flag HOST_STATUS_BME && !d.host.d3 && !d.host.inReset
/-- Whether channel `n` is to read a descriptor (R563). -/
def dmaWants (d : Dev) (n : Nat) : Bool :=
  d.flag (DMA_CTRL_EN n) && d.get (DMA_STATUS_STATE n) != 2 && (dmaDesc d n).isNone &&
    d.get (DMA_CONS_CONS n) != d.get (DMA_PROD_PROD n) && busMaster d
/-- Table 16-3: the fields of a descriptor, little-endian. -/
def descOf (v : BitVec 256) : DmaDesc :=
  { host := bitsAt v.toNat 0 64, dev := bitsAt v.toNat 64 32, len := bitsAt v.toNat 96 24, space := bitsAt v.toNat 128 2,
    out := bitAt v.toNat 130, irq := bitAt v.toNat 131 }
/-- Whether a descriptor keeps the rules of Table 16-3 and R564. -/
def descOk (v : BitVec 256) : Bool :=
  let x := descOf v
  bitsAt v.toNat 120 8 == 0 && bitsAt v.toNat 132 28 == 0 && bitsAt v.toNat 160 64 == 0 && x.space != 3 &&
    !(x.space == 2 && x.out) && x.host % 8 == 0 && (x.space == 2 || x.dev % 8 == 0) && x.len % 8 == 0 && x.len != 0
/-- DMA_DESCRIPTOR: channel `n` reads the descriptor at DMA_CONS, whose bytes are `v`. -/
def dmaDescriptor (n res : Nat) (v : BitVec 256) (d : Dev) : Dev :=
  if !dmaWants d n then d
  else
    let d1 := ((d.set (DMA_STATUS_BUSY n) 1).set (DMA_STATUS_STATE n) 1).set (DMA_STATUS_ABORT_LATE n) 0
    let at' := d.get (DMA_RING_LO_BASE_LO n) * 4096 + d.get (DMA_RING_HI_BASE_HI n) * 2 ^ 32 + 32 * d.get (DMA_CONS_CONS n)
    let code := hostReadCode res
    if code ≠ .ok then dmaFail n code 0 false true at' d1
    else if !descOk v then dmaFail n .addr 0 (descOf v).irq false (descOf v).dev d1
    else setDesc n (some (descOf v)) d1
/-- The channel whose turn it is (R563): the one whose piece is under way, otherwise the next with a descriptor in progress
after the one served last. -/
def dmaTurn (d : Dev) : Option Nat :=
  if d.host.dmaOn.isSome then d.host.dmaOn else
  ((List.range 8).map (fun i => (d.host.lastCh + 1 + i) % 8)).find? (fun n => (dmaDesc d n).isSome)
/-- Words written into the host window, up to the first that is not answered OK. -/
def windowWrites : List Nat → Dev → Resp × Dev
  | [], d => (.ok, d)
  | w :: ws, d =>
    let d1 := windowWrite (BitVec.ofNat 32 w) d
    if d1.ctl.ans.code = .ok then windowWrites ws d1 else (d1.ctl.ans.code, d1)
/-- The device's side of a piece of `n` bytes at `a`: its code and the bytes read; none where its answer has still to come
from the trees of external memory (R279). -/
def dmaDevice (space a n : Nat) (data : Option (List Byte)) (d : Dev) : Option (Resp × List Byte) × Dev :=
  match space with
  | 0 => let (c, bs, d1) := bar2Access (n + 1) a n data d; (some (c, bs), d1)
  | 1 =>
    let d1 := xHost .dma a n data d
    (d1.host.dmaAns, mapHost (fun h => { h with dmaAns := none }) d1)
  | _ => let (c, d1) := windowWrites (wordsOf (n / 4) (data.getD [])) d; (some (c, []), d1)
/-- What follows a piece that has moved: the end of the descriptor, an abort (R565), or the next piece. -/
def dmaNext (n moved : Nat) (x : DmaDesc) (d : Dev) : Dev :=
  if moved = x.len then dmaEnd n .ok moved x.abort x.irq x.abort d
  else if x.abort then dmaEnd n .aborted moved false x.irq true d
  else setDesc n (some { x with moved := moved }) d
/-- A piece has moved, or failed on the device's side. -/
def dmaMoved (n : Nat) (x : DmaDesc) (c : Resp) (bs : List Byte) (d : Dev) : Dev :=
  let len := Nat.min 512 (x.len - x.moved)
  if c ≠ .ok then dmaFail n c x.moved x.irq false (x.dev + x.moved) d
  else dmaNext n (x.moved + len) x (if x.out then hostWrites (len + 1) (x.host + x.moved) bs d else d)
/-- A piece is sent to the device's side: it moves at once, or is under way in the trees of external memory. -/
def dmaSend (n : Nat) (x : DmaDesc) (data : Option (List Byte)) (d : Dev) : Dev :=
  match dmaDevice x.space (x.dev + x.moved) (Nat.min 512 (x.len - x.moved)) data d with
  | (some (c, bs), d1) => dmaMoved n x c bs d1
  | (none, d1) => mapHost (fun h => { h with dmaOn := some n }) d1
/-- DMA_PIECE: channel `n`, whose turn it is, moves its next 512 bytes; `data` is what host memory holds there. A piece that
went into the trees of external memory ends with the first DMA_PIECE after its answer. -/
def dmaPiece (n res : Nat) (data : List Byte) (d : Dev) : Dev :=
  match dmaDesc d n with
  | none => d
  | some x =>
    if dmaTurn d ≠ some n ∨ !busMaster d then d
    else if d.host.dmaOn.isSome then
      match d.host.dmaAns with
      | none => d
      | some (c, bs) => dmaMoved n x c bs (mapHost (fun h => { h with dmaOn := none, dmaAns := none }) d)
    else
      let len := Nat.min 512 (x.len - x.moved)
      let d0 := mapHost (fun h => { h with lastCh := n }) d
      if x.out then dmaSend n x none d0
      else if hostReadCode res ≠ .ok then dmaFail n (hostReadCode res) x.moved x.irq true (x.host + x.moved) d0
      else dmaSend n x (some (data.take len ++ List.replicate (len - data.length) 0)) d0

/-! ### The management I2C target (R566) -/

/-- A transaction reaches the target: its pins are there, and the address is its own. -/
def mi2cTakes (d : Dev) (addr : Nat) : Bool := mi2cPins d && addr == d.get MI2C_STATUS_ADDR
/-- The access of a transaction ends: a failed one is logged. -/
def mi2cEnd (off : Nat) (d : Dev) : Dev :=
  if d.ctl.ans.code = .ok then d else hostErr 4 d.ctl.ans.code 0 0 off 0 d
/-- MI2C_WRITE: command 0x01. -/
def mi2cWrite (addr off v : Nat) (d : Dev) : Dev :=
  if !mi2cTakes d addr then d
  else mi2cEnd off (if off < 2 ^ 27 then regWrite off v d else d.answer .addr)
/-- MI2C_READ: command 0x02: code and data; the data bytes of a failed read are open (log 47). -/
def mi2cRead (addr off : Nat) (d : Dev) : Dev :=
  if !mi2cTakes d addr then d
  else
    let d1 := if off < 2 ^ 27 then regRead off d else d.answer .addr
    let d2 := if d1.ctl.ans.code = .ok then d1 else (d1.answer d1.ctl.ans.code [d1.freeVal 32]).bump
    mi2cEnd off d2

/-! ### The meanings -/

/-- CONFIG_REQUEST (R556). -/
def execConfigRequest (dw : Fin 1024) (be : BitVec 4) (data : Option Word) (s : State) : Host.Outcome State Fault Refusal :=
  run s (configRequest dw.val be.toNat data)
/-- BAR0_REQUEST (R4). -/
def execBar0Request (dw : BitVec 25) (len : BitVec 10) (fbe lbe : BitVec 4) (reqId : BitVec 16) (data : Option (List Word))
    (s : State) : Host.Outcome State Fault Refusal :=
  run s (barRequest len.toNat data (fun n => bar0 (4 * dw.toNat) n fbe.toNat lbe.toNat reqId.toNat data))
/-- BAR2_REQUEST (R560). -/
def execBar2Request (dw : BitVec 26) (len : BitVec 10) (fbe lbe : BitVec 4) (reqId : BitVec 16) (data : Option (List Word))
    (s : State) : Host.Outcome State Fault Refusal :=
  run s (barRequest len.toNat data (fun n => bar2 (4 * dw.toNat) n fbe.toNat lbe.toNat reqId.toNat data))
/-- BAR4_REQUEST (R559). -/
def execBar4Request (dw : BitVec 26) (len : BitVec 10) (fbe lbe : BitVec 4) (reqId : BitVec 16) (data : Option (List Word))
    (s : State) : Host.Outcome State Fault Refusal :=
  run s (barRequest len.toNat data (fun n => bar4 (4 * dw.toNat) n fbe.toNat lbe.toNat reqId.toNat data))
/-- BAR_TIMEOUT (R561). -/
def execBarTimeout (s : State) : Host.Outcome State Fault Refusal := run s barTimeout
/-- PERST_N (R558). -/
def execPerstN (s : State) : Host.Outcome State Fault Refusal := run s (portReset true)
/-- HOT_RESET (R558). -/
def execHotReset (s : State) : Host.Outcome State Fault Refusal := run s (portReset true)
/-- PCIE_LINK_DOWN (R558). -/
def execPcieLinkDown (s : State) : Host.Outcome State Fault Refusal := run s (portReset true)
/-- FUNCTION_LEVEL_RESET (R558). -/
def execFunctionLevelReset (s : State) : Host.Outcome State Fault Refusal := run s (portReset false)
/-- PERST_N_RELEASE (R558): width x1, x2, x4 or x8, speed 2.5 to 32.0 GT/s. -/
def execPerstNRelease (ns : BitVec 27) (width : Fin 4) (speed : Fin 5) (s : State) : Host.Outcome State Fault Refusal :=
  run s (perstRelease ns.toNat (width.val + 1) (speed.val + 1))
/-- DMA_DESCRIPTOR (R563). -/
def execDmaDescriptor (n : Fin 8) (res : Fin 4) (desc : BitVec 256) (s : State) : Host.Outcome State Fault Refusal :=
  run s (dmaDescriptor n.val res.val desc)
/-- DMA_PIECE (R563). -/
def execDmaPiece (n : Fin 8) (res : Fin 4) (data : List Byte) (s : State) : Host.Outcome State Fault Refusal :=
  run s (dmaPiece n.val res.val data)
/-- DMA_ABORT (R565). -/
def execDmaAbort (n : Fin 8) (s : State) : Host.Outcome State Fault Refusal := run s (dmaCmdWrite n.val false true)
/-- DMA_RESUME (R564). -/
def execDmaResume (n : Fin 8) (s : State) : Host.Outcome State Fault Refusal := run s (dmaCmdWrite n.val true false)
/-- MI2C_WRITE (R566). -/
def execMi2cWrite (addr : BitVec 7) (off v : Word) (s : State) : Host.Outcome State Fault Refusal :=
  run s (mi2cWrite addr.toNat off.toNat v.toNat)
/-- MI2C_READ (R566). -/
def execMi2cRead (addr : BitVec 7) (off : Word) (s : State) : Host.Outcome State Fault Refusal :=
  run s (mi2cRead addr.toNat off.toNat)
/-- MI2C_BAD_COMMAND (R566): NACK, and nothing is performed. -/
def execMi2cBadCommand (s : State) : Host.Outcome State Fault Refusal := run s (fun d => d)

end Sys2Proof.Machine
end

