-- ==== Sys2Proof/Machine/Resets.lean ====
section
/-! DEFINITION. Starts and resets (R407, R470, R471, R477 to R482, R578, R579, R584): PROG_N, cold start, warm reset, replay,
brown-out, the reference clock. -/
namespace Sys2Proof.Machine
open Sys2Proof.Machine.Reg

/-! ### What PROG_N and warm reset share -/

/-- Every ring is halted at once, without capture: IDLE, ARM 0, safe values from the next edge (R470). -/
def haltAll (d : Dev) : Dev :=
  let d1 := forEach (List.range 128) d (fun r d => (d.set (RING_SCHED_ARM r) 0).set (RING_FAB_STATUS_CLOSE_REASON r) 0)
  let d2 := forEach d1.leads d1 (fun l d => syncSched l (haltGroup l 0 d))
  recomputeCeil (forEach (List.range 128) d2 (fun r d => mapRing r (fun x => { x with closeReq := .none, heldArm := false }) d))
/-- The ring side of every slot is reset (R187): the clocked side is in RESYNC. -/
def slotsReset (d : Dev) : Dev :=
  forEach (List.range 128) d (fun r d => forEach (List.range 26) d (fun t d => nearReset r t d))
/-- The ring side of every slot comes out of reset (R189). -/
def slotsReturn (d : Dev) : Dev :=
  forEach (List.range 128) d (fun r d => forEach (List.range 26) d (fun t d => nearReturn r t d))
/-- What Ringmaster gives up (R407). -/
def masterReset (d : Dev) : Dev :=
  d.resetFlds (fldsAt 0x001000E0 ++ [RM_PPS_IN_STAT_REJECTS, RM_PPS_IN_STAT_ACCEPTS])
/-- A load and what waits for it are given up; DONE is driven low (R470, R480). -/
def loadStops (d : Dev) : Dev :=
  let d1 := mapCfg (fun c => { c with port := [], win := [], syncP := false, syncW := false, load := none, doneAt := none,
                                      endAt := none, replays := false, clears := false }) d
  ((((doneLow d1).set CFG_STATUS_BUSY 0).set CFG_STATUS_STATE 0).set CFG_STATUS_RELEASED 0)
/-- Frames of types 0, 1 and 3, the settings shadow, RING_CFG_ID and held bits are cleared (R470). -/
def clearConfig (d : Dev) : Dev :=
  mapCfg (fun c => { c with clears := true })
    (dropHeld true (List.range 128) (clearShadow (forEach (List.range 128) (d.set CFG_STATUS_FULL_DONE 0) clearFrames)))
/-- CAR_BAD and SHADOW_BAD are cleared (R498). -/
def clearBad (d : Dev) : Dev := forEach (List.range 4) (d.set CAR_STATUS_SHADOW_BAD 0) (fun i d => d.set (CAR_BAD_RINGS i) 0)

/-! ### PROG_N (R470) -/

/-- PROG_N_FALL: the falling edge of an accepted pulse. -/
def prognFall (d : Dev) : Dev :=
  let d1 := ((loadStops (bistCut d)).set CFG_STATUS_INIT_PIN 0).set CFG_STATUS_FULL_DONE 0
  let d2 := clearBad (carStop (slotsReset (haltAll d1)))
  let d3 := endMembership false (masterReset d2)
  mapCfg (fun c => { c with progLow := true })
    (forEach [RM_CONTRACT_CTRL_LOCK, TG_CTRL_LOCK, CFG_CTRL_LOCK, XM_CFG_LOCK, SEC_CTRL_LOCK] d3 (fun f d => d.set f 0))
/-- PROG_N_RISE: configuration is cleared and the engines are reset, data memory apart. -/
def prognRise (d : Dev) : Dev :=
  if !d.cfg.progLow then d
  else
    let d1 := clearConfig (mapCfg (fun c => { c with progLow := false }) d)
    (slotsReturn (forEach (List.range 128) d1 engsRestart)).bbr 15 2
/-- CLEAR_DONE: INIT_N is released (R471), after an automatic run and the field trim of a cold start (Table 13-6); a
reserved CFG_MODE keeps it low (R458). -/
def clearDone (d : Dev) : Dev :=
  if !d.cfg.clears ∨ d.trim.op = 3 ∨ (d.flag BIST_STATUS_BUSY ∧ d.flag BIST_STATUS_AUTO) ∨ 5 ≤ d.get CFG_STATUS_MODE then d
  else mapCfg (fun c => { c with clears := false, initAt := d.tb }) ((d.set CFG_STATUS_INIT_PIN 1).set CFG_STATUS_STATE 1)

/-! ### Power-on reset and cold start (R477, R482, R579) -/

/-- Power-on reset: all is lost but fuses, the trim store, the hours in it, and what stands outside the device. A commit
of the trim store is cut short (R483). -/
def powerOn (d : Dev) : Dev :=
  let kept := [CFG_KEY_STATUS_PROGRAMMED, CFG_KEY_STATUS_REQ_ENC_FUSE, CFG_KEY_STATUS_KCV, TRIM_STAT_COMMITS]
  let d0 : Dev := {
    ctl := { out := d.ctl.out, fresh := d.ctl.fresh
             time := { refclk := d.ctl.time.refclk, refLost := d.ctl.time.refLost } }
    cfg := { fuseKey := d.cfg.fuseKey }
    trim := { store := d.trim.store, torn := d.trim.torn || d.trim.op == 1 }
    tg := { savedHours := d.tg.savedHours, savedHot := d.tg.savedHot }
    pins := { pins := d.pins.pins.filterMap (fun e => if e.2.level then some (e.1, { level := true }) else none) } }
  let d1 := kept.foldl (fun x f => x.set f (d.get f)) d0
  (d1.set TG_LIFE_HOURS d.tg.savedHours).set TG_LIFE_HOT_HOT_HOURS d.tg.savedHot
/-- The trim store is checked and its set comes into force (R482); where the CRC fails, the field trim runs first. -/
def trimLoad (d : Dev) : Dev :=
  if setGood d.trim then
    let src := rdLe d.trim.store 0xFF8 4
    mapTrim (fun t => { t with buffer := setCells t.store, force := some (setCells t.store) }) ((d.set TRIM_SOURCE_STORED src).set TRIM_SOURCE_IN_FORCE src)
  else
    let d1 := ((mapTrim (fun t => { t with force := none }) d).set TRIM_SOURCE_STORED 3).set TRIM_SOURCE_IN_FORCE 2 |>.bbr 8 2
    force800 (trimStart 3 d1)
/-- COLD_START: power-on reset ends; straps and supplies as given, `vio` by bank. -/
def coldStart (mode casc : Nat) (master : Bool) (vio : List Nat) (d : Dev) : Dev :=
  let d1 := qmInit ((powerOn d).set CFG_STATUS_MODE mode)
  let d2 := ((d1.set MI2C_STATUS_ADDR (0x40 + casc)).set ICL_UID_LO_UID_LO (rdLe d1.trim.store 0x1000 4)).set ICL_UID_HI_UID_HI
    (rdLe d1.trim.store 0x1004 4)
  let d3 := forEach (List.range 6) { d2 with pins := { d2.pins with cascId := casc, master := master } } (fun b d =>
    let v := vio.getD b 0
    setSupply b v { d with pins := { d.pins with vioSeen := sset 0 d.pins.vioSeen b v } })
  let d4 := trimLoad (mapCfg (fun c => { c with clears := true, starting := true }) d3)
  let d5 := if 5 ≤ mode then (d4.set CFG_ERR_VALID 1).set CFG_ERR_CODE 16 else d4
  if d5.trim.op = 3 then d5 else autoRun d5
/-- FIELD_TRIM_DONE: after the field trim of a cold start the automatic run follows (Table 13-6). -/
def trimDone (vals : List Byte) (d : Dev) : Dev :=
  if d.trim.op = 3 then autoRun (fieldTrimDone vals d) else fieldTrimDone vals d

/-! ### Warm reset (R478 to R480) -/

/-- Registers that keep their values because what they show is not reset: the link and configuration space (R558), values
sampled or measured, counts of the trim store, mirrors of program memory, the map of external memory. -/
def warmShows (a : Nat) : Bool :=
  a == 0x410 || a == 0x518 || (decide (0x00450300 ≤ a ∧ a < 0x00450318)) || a == 0x00460010 || a == 0x01408004 ||
    (decide (0x04000000 ≤ a) && decide (0xC ≤ a % 0x1000 ∧ a % 0x1000 < 0x50))
/-- Whether the register field with number `k` keeps its value across warm reset (R5). -/
def warmKeeps (k : Nat) : Bool :=
  warmShows (k / 32) || (match fldOfKey k with | some f => f.keep || f.ty == .rwl | none => false)
/-- Every register takes its reset value but those that keep theirs. -/
def warmRegs (d : Dev) : Dev :=
  let keep := [CFG_STATUS_MODE, CAR_STATUS_LAST_CLEAN, ICL_STATUS_CASC_ID, ICL_STATUS_MASTER, ICL_STATUS_K]
  let d1 : Dev := { d with ctl := { d.ctl with rf := d.ctl.rf.filter (fun e => warmKeeps e.1) } }
  let d2 := keep.foldl (fun x f => x.set f (d.get f)) d1
  let d3 := (((d2.set XM_STATUS_FILE_ERR 0).set TRIM_STAT_FIELD_BUF 0).set TRIM_STAT_ABORT_LATE 0).set CAR_STATUS_STATE
    (if d.get CAR_STATUS_STATE = 4 then 4 else 0)
  d3.set CFG_STATUS_INIT_PIN (d.get CFG_STATUS_INIT_PIN)
/-- DMA channels stop as by ABORT (R558). -/
def dmaStop (d : Dev) : Dev :=
  dmaReset (dmaForsake (forEach (List.range 8) d (fun n d =>
    match dmaDesc d n with
    | some x => dmaEnd n .aborted x.moved false x.irq true d
    | none => d)))
/-- A port of the Ethernet complex, and a swingboat, at a warm reset (R336, R356). -/
def netReset (d : Dev) : Dev :=
  let d1 := forEach (List.range 48) d dropLink
  { d1 with net := { boats := (List.range 12).map (fun s => (s, { seq := (d1.boat s).seq, parked := true })) } }
/-- The cascade link at a warm reset: membership ends, every port leaves its partner (R381). -/
def linkReset (d : Dev) : Dev :=
  mapIcl (fun c => { c with held := [], written := [], tunDest := 0, tunWrite := false })
    (forEach (List.range 4) (endMembership true d) (fun q d => portLeave q 0 d))
/-- External memory and the crypto unit at a warm reset: requests of the rings are gone, credits start at 0 (R280). -/
def memReset (d : Dev) : Dev :=
  let host (q : XReq) : Bool := match q.who with | .host _ => true | .dma => true | _ => false
  { d with xm := { mem := d.xm.mem, reqs := d.xm.reqs.filter host, rdNow := d.xm.rdNow }
           cx := { d.cx with load := none, retire := none, resets := none } }
/-- An edge at a warm reset: its configuration and what it drives stay until the next edge puts safe values there; both
digits of RING_EDGE_STATUS return to their reset values (R93). -/
def edgeReset (e : EdgeSt) : EdgeSt := { e with status := 2, inStat := 0 }
/-- Rings at a warm reset: nothing of them but their logic and what they show to their neighbours. -/
def ringsReset (d : Dev) : Dev :=
  { d with rings := d.rings.map (fun e =>
      (e.1, { cfg := e.2.cfg, safe := e.2.safe, leaving := e.2.leaving, edges := e.2.edges.foldl (fun m p => sset {} m p.1 (edgeReset p.2)) [] })) }
/-- A ring whose load has failed stays CLOSED until a load covers it (R475). -/
def holdRegions (rs : List Nat) (d : Dev) : Dev :=
  forEach rs d (fun r d => (d.set (RING_STATUS_STATE r) 5).set (RING_FAB_STATUS_CLOSE_REASON r) 3)
/-- The conditions of R480. -/
def retains (d : Dev) : Bool := d.flag CFG_CTRL_RETAIN && d.flag CAR_STATUS_LAST_CLEAN && d.flag CFG_STATUS_FULL_DONE && !fullLoad d
/-- WARM_RESET: WARM_RST_N has been low for 1 us. -/
def warmReset (d : Dev) : Dev :=
  let again := retains d || d.cfg.replays
  let bad := (List.range 128).filter (fun r => d.get (RING_FAB_STATUS_CLOSE_REASON r) == 3)
  let d1 := dmaStop (bistCut (lifeSave d))
  let d2 := slotsReset (haltAll (loadStops d1))
  let d3 := forEach (List.range 128) d2 (fun r d => forEach (engsOf r) d clearExec)
  let d4 := memReset (ringsReset (netReset (linkReset (carStop d3))))
  let d5 := masterReset (warmRegs d4)
  let d6 := periphsReset (qmInit (if tgMode d5 = 0 then d5 else enterSafety d5))
  let d7 := settleLink (selectUpstream (rediscover d6))
  let d8 := if again then holdRegions bad d7 else d7
  mapCfg (fun c => { c with warm := true, replays := again }) (recomputeCeil d8)
/-- Ports and controllers train (R260, R336, R376). -/
def trainAll (d : Dev) : Dev :=
  let d1 := forEach (List.range 48) d (fun p d => d.set (EP_STATUS_STATE p) (if d.flag (EP_CFG_EN p) then 1 else 0))
  let d2 := forEach (List.range 4) d1 (fun q d => d.set (ICL_PORT_STATUS_STATE q) (if d.flag (ICL_PORT_CFG_EN q) then 1 else 0))
  forEach (List.range 8) d2 (fun n d => if d.flag (XMC_CTRL_EN n) then trainStart n d else d)
/-- The settings shadow is replayed (R480): device records in load order, then ring by ring. -/
def replay (d : Dev) : Dev :=
  let d1 := (mapCfg (fun c => { c with replays := false }) d).set CFG_STATUS_STATE 6
  let recs := d.cfg.shadow
  let all := recs.filter (fun x => isDevFrame x.faddr) ++ (List.range 128).flatMap (fun r =>
    recs.filter (fun x => !isDevFrame x.faddr && frameRing x.faddr == r))
  match applyRecs all (dropHeld true (List.range 128) d1) with
  | (some (x, code), d2) =>
    failFull (((((d2.set CFG_ERR_VALID 1).set CFG_ERR_CODE 13).set CFG_ERR_RESP code.code).set CFG_ERR_RECORD x.idx).set
      CFG_ERR_FADDR_FADDR x.faddr)
  | (none, d2) =>
    let d3 := (((d2.set CFG_STATUS_STATE 4).set CFG_STATUS_FULL_DONE 1).set CFG_STATUS_INIT_PIN 1).raise CFG_IRQ_CAUSE_REPLAY_DONE
    carFirst (mapCfg (fun c => { c with doneAt := some d3.tb }) d3)
/-- WARM_RESET_END: the reset phase ends with the strap pins as given; analogue BIST where it is due (R479), then the replay, or clearing. -/
def warmEnd (casc : Nat) (master : Bool) (d : Dev) : Dev :=
  if !d.cfg.warm then d
  else
    let d0 : Dev := { d with pins := { d.pins with cascId := casc, master := master } }
    let d1 := slotsReturn (mapCfg (fun c => { c with warm := false }) d0)
    let d2 := ((sampleStraps d1).set CFG_STATUS_LAST_WARM 1).bbr 15 1
    let d3 := if disc d2 = 0 then d2 else setDisc 3 d2
    let due := abistDue d3
    let d4 := (d3.set CFG_STATUS_ABIST_SKIPPED (b2n !due)).set CFG_STATUS_CFG_SKIPPED (b2n d3.cfg.replays)
    let d5 := if due then autoRun d4 else trainAll d4
    if !d5.cfg.replays then clearConfig (d5.set CFG_STATUS_INIT_PIN 0)
    else if due then d5 else replay d5
/-- BIST_RUN_END: after the automatic run of a warm start the replay follows. -/
def runEnd (pats sig fails addr map : Nat) (d : Dev) : Dev :=
  let d1 := bistRunEnd pats sig fails addr map d
  if d.bist.run.isSome ∧ d1.bist.run.isNone ∧ d1.cfg.replays ∧ !d1.cfg.warm then replay d1 else d1

/-! ### The reference clock (R584) -/

/-- REFCLK_LOSS: a measurement in units of 10 kHz outside 150 to 162 MHz. -/
def refclkLoss (v : Nat) (d : Dev) : Dev :=
  if 15000 ≤ v ∧ v ≤ 16200 then d
  else (mapTime (fun t => { t with refclk := v, refLost := true }) d).set RM_STATUS_PLL_LOCK 0
/-- REFCLK_RETURN: the PLL locks again, without a step in TB. -/
def refclkReturn (v : Nat) (d : Dev) : Dev :=
  if !d.ctl.time.refLost ∨ v < 15000 ∨ 16200 < v then d
  else (mapTime (fun t => { t with refclk := v, refLost := false }) d).set RM_STATUS_PLL_LOCK 1

/-! ### The meanings -/

/-- PROG_N_FALL (R470). -/
def execProgNFall (s : State) : Host.Outcome State Fault Refusal := run s prognFall
/-- PROG_N_RISE (R470). -/
def execProgNRise (s : State) : Host.Outcome State Fault Refusal := run s prognRise
/-- CLEAR_DONE (R470, R471). -/
def execClearDone (s : State) : Host.Outcome State Fault Refusal := run s clearDone
/-- COLD_START (R477): the CFG_MODE, CASC_ID and CASC_MASTER straps, the supply of each bank. -/
def execColdStart (mode : Fin 8) (casc : Fin 16) (master : Bool) (vio : List (Fin 5)) (s : State) :
    Host.Outcome State Fault Refusal := run s (coldStart mode.val casc.val master (vio.map (·.val)))
/-- FIELD_TRIM_DONE (R482, R484). -/
def execFieldTrimDone (vals : List Byte) (s : State) : Host.Outcome State Fault Refusal := run s (trimDone vals)
/-- WARM_RESET (R478). -/
def execWarmReset (s : State) : Host.Outcome State Fault Refusal := run s warmReset
/-- WARM_RESET_END (R480, R373): new levels of CASC_ID and CASC_MASTER, or none. -/
def execWarmResetEnd (s : State) (straps : Option (Fin 16 × Bool) := none) : Host.Outcome State Fault Refusal :=
  run s (match straps with
    | none => warmEnd s.dev.pins.cascId s.dev.pins.master
    | some (casc, master) => warmEnd casc.val master)
/-- BIST_RUN_END (R513). -/
def execBistRunEnd (pats : BitVec 24) (sig fails addr : Word) (map : BitVec 96) (s : State) :
    Host.Outcome State Fault Refusal := run s (runEnd pats.toNat sig.toNat fails.toNat addr.toNat map.toNat)
/-- BROWN_OUT (R579). -/
def execBrownOut (s : State) : Host.Outcome State Fault Refusal := run s powerOn
/-- REFCLK_LOSS (R584). -/
def execRefclkLoss (v : BitVec 16) (s : State) : Host.Outcome State Fault Refusal := run s (refclkLoss v.toNat)
/-- REFCLK_RETURN (R584). -/
def execRefclkReturn (v : BitVec 16) (s : State) : Host.Outcome State Fault Refusal := run s (refclkReturn v.toNat)

end Sys2Proof.Machine
end

