-- ==== Sys2Proof/Machine/Dispatch.lean ====
section
/-! DEFINITION. One arm per command: each calls its own meaning, or rejects the command by name. -/
namespace Sys2Proof.Machine

/-- What a command does to everything but the queue of waiting commands. -/
def exec (i : Instr) (s : State) : Host.Outcome State Fault Refusal :=
  match i with
  | .registerWrite a v => Sys2Proof.Machine.execRegisterWrite a v s
  | .alarmClear mask => Sys2Proof.Machine.execAlarmClear mask s
  | .tickEdge ins => Sys2Proof.Machine.execTickEdge ins s
  | .deadline r => Sys2Proof.Machine.execDeadline r s
  | .ringFault r => Sys2Proof.Machine.execRingFault r s
  | .quiescence m => Sys2Proof.Machine.execQuiescence m s
  | .ringDoneAccept r ns => Sys2Proof.Machine.execRingDoneAccept r ns s
  | .ringArm r => Sys2Proof.Machine.execRingArm r s
  | .ringDisarm r => Sys2Proof.Machine.execRingDisarm r s
  | .restart r => Sys2Proof.Machine.execRestart r s
  | .forceSlip r => Sys2Proof.Machine.execForceSlip r s
  | .ringClrStats r => Sys2Proof.Machine.execRingClrStats r s
  | .tjDesignWrite col => Sys2Proof.Machine.execTjDesignWrite col s
  | .hlcFire r c => Sys2Proof.Machine.execHlcFire r c s
  | .packGateway r g => Sys2Proof.Machine.execPackGateway r g s
  | .unpackGateway r g => Sys2Proof.Machine.execUnpackGateway r g s
  | .ringMemRead r b portB => Sys2Proof.Machine.execRingMemRead r b portB s
  | .ringMemWrite r b portB => Sys2Proof.Machine.execRingMemWrite r b portB s
  | .groupForm r widthM1 heightM1 => Sys2Proof.Machine.execGroupForm r widthM1 heightM1 s
  | .groupDissolve r widthM1 heightM1 => Sys2Proof.Machine.execGroupDissolve r widthM1 heightM1 s
  | .ringMemHostAccess off len data => Sys2Proof.Machine.execRingMemHostAccess off len data s
  | .ringMemZero r => Sys2Proof.Machine.execRingMemZero r s
  | .ringMemZeroDone r => Sys2Proof.Machine.execRingMemZeroDone r s
  | .ringClrEcc r => Sys2Proof.Machine.execRingClrEcc r s
  | .actDispatch e => Sys2Proof.Machine.execActDispatch e s
  | .bundleIssue e meets => Sys2Proof.Machine.execBundleIssue e meets s
  | .xsResponse e => Sys2Proof.Machine.execXsResponse e s
  | .inputPortTransfer e p => Sys2Proof.Machine.execInputPortTransfer e p s
  | .outputPortTransfer e p => Sys2Proof.Machine.execOutputPortTransfer e p s
  | .engineDone e => Sys2Proof.Machine.execEngineDone e s
  | .engDmemHostAccess e a len data => Sys2Proof.Machine.execEngDmemHostAccess e a len data s
  | .progMemHostRead e a len => Sys2Proof.Machine.execProgMemHostRead e a len s
  | .engMemZero e => Sys2Proof.Machine.execEngMemZero e s
  | .engMemZeroDone e => Sys2Proof.Machine.execEngMemZeroDone e s
  | .clearRegs e => Sys2Proof.Machine.execClearRegs e s
  | .engClrEcc e => Sys2Proof.Machine.execEngClrEcc e s
  | .engClrStats e => Sys2Proof.Machine.execEngClrStats e s
  | .engDbgRead e => Sys2Proof.Machine.execEngDbgRead e s
  | .engDbgWrite e v => Sys2Proof.Machine.execEngDbgWrite e v s
  | .streamOutStage r ix => Sys2Proof.Machine.execStreamOutStage r ix s
  | .streamInWrite r ix w => Sys2Proof.Machine.execStreamInWrite r ix w s
  | .pulseOutToken r l => Sys2Proof.Machine.execPulseOutToken r l s
  | .requestAccept r t busy => Sys2Proof.Machine.execRequestAccept r t s busy
  | .responseDeliver r slot9 => Sys2Proof.Machine.execResponseDeliver r slot9 s
  | .pulseSend r l => Sys2Proof.Machine.execPulseSend r l s
  | .pulseDeliver r out l => Sys2Proof.Machine.execPulseDeliver r out l s
  | .pulseAck r out l pulse => Sys2Proof.Machine.execPulseAck r out l pulse s
  | .sideReset r t => Sys2Proof.Machine.execSideReset r t s
  | .resyncHandshake r t => Sys2Proof.Machine.execResyncHandshake r t s
  | .beatTimeout x step4 => Sys2Proof.Machine.execBeatTimeout x s step4
  | .beatResume x => Sys2Proof.Machine.execBeatResume x s
  | .tsFlush r t => Sys2Proof.Machine.execTsFlush r t s
  | .tsClrStats r t => Sys2Proof.Machine.execTsClrStats r t s
  | .qpush r t q ws eop vb seat => Sys2Proof.Machine.execQpush r t q ws eop vb seat s
  | .qpop r t q n whole seat push => Sys2Proof.Machine.execQpop r t q n whole seat s push
  | .qmark r t q seat => Sys2Proof.Machine.execQmark r t q seat s
  | .qrewind r t q seat => Sys2Proof.Machine.execQrewind r t q seat s
  | .qrelease r t q seat => Sys2Proof.Machine.execQrelease r t q seat s
  | .qcommit r t q discard seat => Sys2Proof.Machine.execQcommit r t q discard seat s
  | .streamOutSegment r ix => Sys2Proof.Machine.execStreamOutSegment r ix s
  | .streamInSegment r ix => Sys2Proof.Machine.execStreamInSegment r ix s
  | .queueReset q => Sys2Proof.Machine.execQueueReset q s
  | .abortPkt q => Sys2Proof.Machine.execAbortPkt q s
  | .qClrStats q => Sys2Proof.Machine.execQClrStats q s
  | .hostPush q eop vb => Sys2Proof.Machine.execHostPush q eop vb s
  | .hostPop q => Sys2Proof.Machine.execHostPop q s
  | .qdCfgWrite q v => Sys2Proof.Machine.execQdCfgWrite q v s
  | .watermarkLevelWrite q level => Sys2Proof.Machine.execWatermarkLevelWrite q level s
  | .poolLowLevelWrite level => Sys2Proof.Machine.execPoolLowLevelWrite level s
  | .counterClear a v => Sys2Proof.Machine.execCounterClear a v s
  | .trainingStart n => Sys2Proof.Machine.execTrainingStart n s
  | .trainingDone n ok retrained step rdLat eye dly => Sys2Proof.Machine.execTrainingDone n ok retrained step rdLat eye dly s
  | .driftTracking n x => Sys2Proof.Machine.execDriftTracking n x s
  | .retrain n => Sys2Proof.Machine.execRetrain n s
  | .xmcClrEcc n => Sys2Proof.Machine.execXmcClrEcc n s
  | .xmcClrStats n => Sys2Proof.Machine.execXmcClrStats n s
  | .xrd r t f off len seat => Sys2Proof.Machine.execXrd r t f off len seat s
  | .xwr r t f off ws seat => Sys2Proof.Machine.execXwr r t f off ws seat s
  | .transactionGrant n => Sys2Proof.Machine.execTransactionGrant n s
  | .fileEnable f enc hostR hostW k => Sys2Proof.Machine.execFileEnable f enc hostR hostW k s
  | .fileDisable f => Sys2Proof.Machine.execFileDisable f s
  | .fileInitDone f => Sys2Proof.Machine.execFileInitDone f s
  | .keyLoad k link => Sys2Proof.Machine.execKeyLoad k link s
  | .keyRetire k => Sys2Proof.Machine.execKeyRetire k s
  | .keyDrainDone k => Sys2Proof.Machine.execKeyDrainDone k s
  | .keyCooldownEnd k => Sys2Proof.Machine.execKeyCooldownEnd k s
  | .keyAbort k => Sys2Proof.Machine.execKeyAbort k s
  | .rekey f => Sys2Proof.Machine.execRekey f s
  | .migrationAbort f => Sys2Proof.Machine.execMigrationAbort f s
  | .migrationResume f => Sys2Proof.Machine.execMigrationResume f s
  | .pageReset f p => Sys2Proof.Machine.execPageReset f p s
  | .portEnable p v => Sys2Proof.Machine.execPortEnable p v s
  | .ethLinkUp p => Sys2Proof.Machine.execEthLinkUp p s
  | .ethLinkDown p => Sys2Proof.Machine.execEthLinkDown p s
  | .rxFrame p ix bytes tb => Sys2Proof.Machine.execRxFrame p ix bytes tb s
  | .ingressPush p ix => Sys2Proof.Machine.execIngressPush p ix s
  | .egressFrame p tb => Sys2Proof.Machine.execEgressFrame p tb s
  | .pfcXoffRepeat p ix => Sys2Proof.Machine.execPfcXoffRepeat p ix s
  | .txtsPop p => Sys2Proof.Machine.execTxtsPop p s
  | .swingboatEnable b v => Sys2Proof.Machine.execSwingboatEnable b v s
  | .swingboatBatch r ix => Sys2Proof.Machine.execSwingboatBatch r ix s
  | .swingboatRx b => Sys2Proof.Machine.execSwingboatRx b s
  | .swingboatDecompressed b => Sys2Proof.Machine.execSwingboatDecompressed b s
  | .iclPortEnable q v => Sys2Proof.Machine.execIclPortEnable q v s
  | .iclTrainingDone q => Sys2Proof.Machine.execIclTrainingDone q s
  | .barkerSend q => Sys2Proof.Machine.execBarkerSend q s
  | .barkerRx q => Sys2Proof.Machine.execBarkerRx q s
  | .keyProbe q => Sys2Proof.Machine.execKeyProbe q s
  | .probeRx q => Sys2Proof.Machine.execProbeRx q s
  | .linkLoss q => Sys2Proof.Machine.execLinkLoss q s
  | .rxSilence q => Sys2Proof.Machine.execRxSilence q s
  | .portFaultRetry q => Sys2Proof.Machine.execPortFaultRetry q s
  | .readyRx q => Sys2Proof.Machine.execReadyRx q s
  | .withdrawRx q => Sys2Proof.Machine.execWithdrawRx q s
  | .joinRx q => Sys2Proof.Machine.execJoinRx q s
  | .leaveRx q => Sys2Proof.Machine.execLeaveRx q s
  | .statusRx q => Sys2Proof.Machine.execStatusRx q s
  | .followerTimeout ix => Sys2Proof.Machine.execFollowerTimeout ix s
  | .iclFrameRx q bytes tb => Sys2Proof.Machine.execIclFrameRx q bytes tb s
  | .frameSend q tb => Sys2Proof.Machine.execFrameSend q tb s
  | .tokenBatchRx q fallback => Sys2Proof.Machine.execTokenBatchRx q s fallback
  | .tokenBatchWrite ch => Sys2Proof.Machine.execTokenBatchWrite ch s
  | .queueTransfer q => Sys2Proof.Machine.execQueueTransfer q s
  | .queueSegRx q => Sys2Proof.Machine.execQueueSegRx q s
  | .tunnelRead dest => Sys2Proof.Machine.execTunnelRead dest s
  | .tunnelWrite dest => Sys2Proof.Machine.execTunnelWrite dest s
  | .tunReqRx q => Sys2Proof.Machine.execTunReqRx q s
  | .tunRspRx q => Sys2Proof.Machine.execTunRspRx q s
  | .ptpSample ofs => Sys2Proof.Machine.execPtpSample ofs s
  | .ppsInEdge falling tb => Sys2Proof.Machine.execPpsInEdge falling tb s
  | .timeSet v => Sys2Proof.Machine.execTimeSet v s
  | .srcWrite v => Sys2Proof.Machine.execSrcWrite v s
  | .tickSet lo => Sys2Proof.Machine.execTickSet lo s
  | .tickMarkRx q => Sys2Proof.Machine.execTickMarkRx q s
  | .avsLinkStart ends => Sys2Proof.Machine.execAvsLinkStart ends s
  | .avsFrameDone crcOk errFlag value => Sys2Proof.Machine.execAvsFrameDone crcOk errFlag value s
  | .currentRead amps fails => Sys2Proof.Machine.execCurrentRead amps s fails
  | .slewWrite rate => Sys2Proof.Machine.execSlewWrite rate s
  | .sensorRead vcores temps mons => Sys2Proof.Machine.execSensorRead vcores temps mons s
  | .vsafeWrite mv => Sys2Proof.Machine.execVsafeWrite mv s
  | .force mv => Sys2Proof.Machine.execForce mv s
  | .syncWord window data => Sys2Proof.Machine.execSyncWord window data s
  | .headerPacket window data => Sys2Proof.Machine.execHeaderPacket window data s
  | .cfgFrame data => Sys2Proof.Machine.execCfgFrame data s
  | .encPacket data => Sys2Proof.Machine.execEncPacket data s
  | .endPacket data => Sys2Proof.Machine.execEndPacket data s
  | .hostWindowWrite v => Sys2Proof.Machine.execHostWindowWrite v s
  | .coldStart mode casc master vio => Sys2Proof.Machine.execColdStart mode casc master vio s
  | .commit code => Sys2Proof.Machine.execCommit code s
  | .fieldTrimDone vals => Sys2Proof.Machine.execFieldTrimDone vals s
  | .trimDataWrite v => Sys2Proof.Machine.execTrimDataWrite v s
  | .burnKey unlock => Sys2Proof.Machine.execBurnKey unlock s
  | .burnReqEnc unlock => Sys2Proof.Machine.execBurnReqEnc unlock s
  | .carouselEnable ueFault => Sys2Proof.Machine.execCarouselEnable ueFault s
  | .bistStart kind => Sys2Proof.Machine.execBistStart kind s
  | .bistRunEnd pats sig fails addr map => Sys2Proof.Machine.execBistRunEnd pats sig fails addr map s
  | .bbrMark fatal => Sys2Proof.Machine.execBbrMark fatal s
  | .bbrEntryRead ix w => Sys2Proof.Machine.execBbrEntryRead ix w s
  | .pinFunctionSwitch n func => Sys2Proof.Machine.execPinFunctionSwitch n func s
  | .pinCfgWrite n v => Sys2Proof.Machine.execPinCfgWrite n v s
  | .gpioOutSet ix v => Sys2Proof.Machine.execGpioOutSet ix v s
  | .gpioOutClr ix v => Sys2Proof.Machine.execGpioOutClr ix v s
  | .gpioFiltWrite v => Sys2Proof.Machine.execGpioFiltWrite v s
  | .pinEdge n level => Sys2Proof.Machine.execPinEdge n level s
  | .filterSettle n => Sys2Proof.Machine.execFilterSettle n s
  | .bankSupplyChange b vio => Sys2Proof.Machine.execBankSupplyChange b vio s
  | .bankSupplyReturn b vio => Sys2Proof.Machine.execBankSupplyReturn b vio s
  | .i2cXfer b v => Sys2Proof.Machine.execI2cXfer b v s
  | .spiXfer b v => Sys2Proof.Machine.execSpiXfer b v s
  | .mdioWrite b cl45 phy reg data => Sys2Proof.Machine.execMdioWrite b cl45 phy reg data s
  | .mdioRead b cl45 phy reg => Sys2Proof.Machine.execMdioRead b cl45 phy reg s
  | .mdioAddress b phy reg data => Sys2Proof.Machine.execMdioAddress b phy reg data s
  | .mdioReadIncrement b phy reg => Sys2Proof.Machine.execMdioReadIncrement b phy reg s
  | .txdPush k b v => Sys2Proof.Machine.execTxdPush k b v s
  | .rxdPop k b => Sys2Proof.Machine.execRxdPop k b s
  | .xferDone k b sent rx nack arb => Sys2Proof.Machine.execXferDone k b sent rx nack arb s
  | .i2cStretchTimeout b => Sys2Proof.Machine.execI2cStretchTimeout b s
  | .uartRxByte b v perr ferr => Sys2Proof.Machine.execUartRxByte b v perr ferr s
  | .uartTxByte b => Sys2Proof.Machine.execUartTxByte b s
  | .configRequest dw be data => Sys2Proof.Machine.execConfigRequest dw be data s
  | .bar0Request dw len fbe lbe reqId data => Sys2Proof.Machine.execBar0Request dw len fbe lbe reqId data s
  | .bar2Request dw len fbe lbe reqId data => Sys2Proof.Machine.execBar2Request dw len fbe lbe reqId data s
  | .bar4Request dw len fbe lbe reqId data => Sys2Proof.Machine.execBar4Request dw len fbe lbe reqId data s
  | .dmaDescriptor n res desc => Sys2Proof.Machine.execDmaDescriptor n res desc s
  | .dmaPiece n res data => Sys2Proof.Machine.execDmaPiece n res data s
  | .dmaAbort n => Sys2Proof.Machine.execDmaAbort n s
  | .dmaResume n => Sys2Proof.Machine.execDmaResume n s
  | .mi2cWrite addr off v => Sys2Proof.Machine.execMi2cWrite addr off v s
  | .mi2cRead addr off => Sys2Proof.Machine.execMi2cRead addr off s
  | .girqEoi v => Sys2Proof.Machine.execGirqEoi v s
  | .msixSend v => Sys2Proof.Machine.execMsixSend v s
  | .msixVectorUnmask v => Sys2Proof.Machine.execMsixVectorUnmask v s
  | .refclkLoss v => Sys2Proof.Machine.execRefclkLoss v s
  | .refclkReturn v => Sys2Proof.Machine.execRefclkReturn v s
  | .mapAgeOut ix masters => Sys2Proof.Machine.execMapAgeOut ix masters s
  | .pauseExpiry p => Sys2Proof.Machine.execPauseExpiry p s
  | .perstNRelease ns width speed => Sys2Proof.Machine.execPerstNRelease ns width speed s
  | .boundaryScanDrive v en => Sys2Proof.Machine.execBoundaryScanDrive v en s
  | .secTest => Sys2Proof.Machine.execSecTest s
  | .holdExpiry => Sys2Proof.Machine.execHoldExpiry s
  | .floorRecompute => Sys2Proof.Machine.execFloorRecompute s
  | .poolSweep => Sys2Proof.Machine.execPoolSweep s
  | .qmInitDone => Sys2Proof.Machine.execQmInitDone s
  | .keyLoadDone => Sys2Proof.Machine.execKeyLoadDone s
  | .pageOperationStart => Sys2Proof.Machine.execPageOperationStart s
  | .pageLineRewrite => Sys2Proof.Machine.execPageLineRewrite s
  | .writeResume => Sys2Proof.Machine.execWriteResume s
  | .counterStoreSweep => Sys2Proof.Machine.execCounterStoreSweep s
  | .mapSettle => Sys2Proof.Machine.execMapSettle s
  | .readySend => Sys2Proof.Machine.execReadySend s
  | .joinSend => Sys2Proof.Machine.execJoinSend s
  | .leave => Sys2Proof.Machine.execLeave s
  | .statusSend => Sys2Proof.Machine.execStatusSend s
  | .masterTimeout => Sys2Proof.Machine.execMasterTimeout s
  | .tunnelTimeout => Sys2Proof.Machine.execTunnelTimeout s
  | .pllLock => Sys2Proof.Machine.execPllLock s
  | .discTimeout => Sys2Proof.Machine.execDiscTimeout s
  | .runSet => Sys2Proof.Machine.execRunSet s
  | .runClear => Sys2Proof.Machine.execRunClear s
  | .applyPeriod => Sys2Proof.Machine.execApplyPeriod s
  | .align => Sys2Proof.Machine.execAlign s
  | .cancel => Sys2Proof.Machine.execCancel s
  | .ppsOutPulse => Sys2Proof.Machine.execPpsOutPulse s
  | .avsRetry => Sys2Proof.Machine.execAvsRetry s
  | .regulatorSettleTimeout => Sys2Proof.Machine.execRegulatorSettleTimeout s
  | .pmbusAlert => Sys2Proof.Machine.execPmbusAlert s
  | .decisionInterval => Sys2Proof.Machine.execDecisionInterval s
  | .governedClear => Sys2Proof.Machine.execGovernedClear s
  | .ageCheck => Sys2Proof.Machine.execAgeCheck s
  | .ageCheckTest => Sys2Proof.Machine.execAgeCheckTest s
  | .hourCount => Sys2Proof.Machine.execHourCount s
  | .lifeSave => Sys2Proof.Machine.execLifeSave s
  | .forceRelease => Sys2Proof.Machine.execForceRelease s
  | .clrFault => Sys2Proof.Machine.execClrFault s
  | .cfgAbort => Sys2Proof.Machine.execCfgAbort s
  | .progNFall => Sys2Proof.Machine.execProgNFall s
  | .progNRise => Sys2Proof.Machine.execProgNRise s
  | .clearDone => Sys2Proof.Machine.execClearDone s
  | .doneRelease => Sys2Proof.Machine.execDoneRelease s
  | .doneLow => Sys2Proof.Machine.execDoneLow s
  | .warmReset => Sys2Proof.Machine.execWarmReset s
  | .warmResetEnd straps => Sys2Proof.Machine.execWarmResetEnd s straps
  | .commitDone => Sys2Proof.Machine.execCommitDone s
  | .fieldTrim => Sys2Proof.Machine.execFieldTrim s
  | .trimAbort => Sys2Proof.Machine.execTrimAbort s
  | .trimDataRead => Sys2Proof.Machine.execTrimDataRead s
  | .burnDone => Sys2Proof.Machine.execBurnDone s
  | .carouselFrameCheck => Sys2Proof.Machine.execCarouselFrameCheck s
  | .carouselHalt => Sys2Proof.Machine.execCarouselHalt s
  | .carouselVote => Sys2Proof.Machine.execCarouselVote s
  | .carPass => Sys2Proof.Machine.execCarPass s
  | .carAbort => Sys2Proof.Machine.execCarAbort s
  | .carClrStats => Sys2Proof.Machine.execCarClrStats s
  | .bistAbort => Sys2Proof.Machine.execBistAbort s
  | .bistLimitCheck => Sys2Proof.Machine.execBistLimitCheck s
  | .bbrWrite => Sys2Proof.Machine.execBbrWrite s
  | .bbrPostFreeze => Sys2Proof.Machine.execBbrPostFreeze s
  | .bbrClear => Sys2Proof.Machine.execBbrClear s
  | .bbrUnfreeze => Sys2Proof.Machine.execBbrUnfreeze s
  | .bbrFreeze => Sys2Proof.Machine.execBbrFreeze s
  | .jtagRelease => Sys2Proof.Machine.execJtagRelease s
  | .barTimeout => Sys2Proof.Machine.execBarTimeout s
  | .perstN => Sys2Proof.Machine.execPerstN s
  | .hotReset => Sys2Proof.Machine.execHotReset s
  | .pcieLinkDown => Sys2Proof.Machine.execPcieLinkDown s
  | .functionLevelReset => Sys2Proof.Machine.execFunctionLevelReset s
  | .brownOut => Sys2Proof.Machine.execBrownOut s
  | .mi2cBadCommand => Sys2Proof.Machine.execMi2cBadCommand s

end Sys2Proof.Machine
end

