-- ==== Sys2Proof/Safety.lean ====
section
/-! DEFINITION. The terms in which statements speak of the block: a command that completes, what a command leaves
unchanged, the answer of a request, and the forms that the plain data of the state keep. -/
namespace Sys2Proof.Machine

/-- The parts of the device beside its register fields, for statements of what a command leaves unchanged. -/
inductive Part where
  | time | bbr | ans | out | fresh | rings | tg | chip | qm | xm | slots | cx | engs | net | icl | cfg | trim | car | bist
  | pins | host | xstop
  deriving DecidableEq, Repr

/-- A part is the same in both devices. -/
def Part.same (p : Part) (d d' : Dev) : Prop :=
  match p with
  | .time => d'.ctl.time = d.ctl.time
  | .bbr => d'.ctl.bbr = d.ctl.bbr
  | .ans => d'.ctl.ans = d.ctl.ans
  | .out => d'.ctl.out = d.ctl.out
  | .fresh => d'.ctl.fresh = d.ctl.fresh
  | .rings => d'.rings = d.rings
  | .tg => d'.tg = d.tg
  | .chip => d'.chip = d.chip
  | .qm => d'.qm = d.qm
  | .xm => d'.xm = d.xm
  | .slots => d'.slots = d.slots
  | .cx => d'.cx = d.cx
  | .engs => d'.engs = d.engs
  | .net => d'.net = d.net
  | .icl => d'.icl = d.icl
  | .cfg => d'.cfg = d.cfg
  | .trim => d'.trim = d.trim
  | .car => d'.car = d.car
  | .bist => d'.bist = d.bist
  | .pins => d'.pins = d.pins
  | .host => d'.host = d.host
  | .xstop => d'.xstop = d.xstop

/-- Every register field but those of `fs` reads as before. -/
def SameFlds (fs : List Fld) (d d' : Dev) : Prop := ∀ g : Fld, (∀ f ∈ fs, g.key ≠ f.key) → d'.get g = d.get g

/-- Every part but those of `ps` is as before. -/
def SameParts (ps : List Part) (d d' : Dev) : Prop := ∀ p : Part, p ∉ ps → p.same d d'

/-- Nothing but the fields of `fs` and the parts of `ps` has changed. -/
def OnlyChanges (fs : List Fld) (ps : List Part) (d d' : Dev) : Prop := SameFlds fs d d' ∧ SameParts ps d d'

/-- The command completes: `exec` answers a next state, the waiting commands are as before, and the device after it is as
`P` says. -/
def Completes (i : Instr) (s : State) (P : Dev → Prop) : Prop :=
  ∃ t : State, exec i s = .next t ∧ t.pending = s.pending ∧ P t.dev

/-- The request in hand was answered with `code` (R7). -/
def Answered (d : Dev) (code : Resp) : Prop := d.ctl.ans.code = code

/-- Both copies of the pointers of queue `q` agree, and no cell of its chain bears an error (R201, R235, R236). -/
def soundQueue (d : Dev) (q : Nat) : Bool :=
  (mismatch (d.queue q)).isNone && (badCell d q).isNone && (d.queue q).cells.all (fun c => match sget none d.qm.pool c with
    | some p => p.owner != .single && p.link != .single
    | none => true)

/-- The device once queue port `p` has given source `src` of its turn (R209): the next turn is the next source's. -/
def portTurn (p src : Nat) (d : Dev) : Dev := { d with qm := { d.qm with turn := sset 0 d.qm.turn p (src + 1) } }

/-- A place of the fabric that a digit reaches holds `v` (R62, R68): a cell input, a digit of a pack gateway, a pulse
lane. A capture register is no such place. -/
def SinkHas (v : Digit) (d : Dev) (p : Nat × DSink) : Prop :=
  match p.2 with
  | .cell c 0 => sget none (d.ring p.1).fab.cellA c = some v
  | .cell c _ => sget none (d.ring p.1).fab.cellB c = some v
  | .pack g i => sget none (d.ring p.1).fab.packs (32 * g + i) = some v
  | .slot 25 i => sget none (d.ring p.1).fab.pulses i = some v
  | _ => True

/-- Every byte of a memory outside `n` bytes from `a` up reads as before. -/
def SameBytesBut (m m' : List Host.Cell) (a n : Nat) : Prop := ∀ x : Nat, x < a ∨ a + n ≤ x → rdByte m' x = rdByte m x

/-- The forms that hold of every state of the block: the memories are in canonical form, the recorder's queue holds at most
its 16 events (R517), TICK_COUNT is a 64-bit number (R14). -/
def Dev.Forms (d : Dev) : Prop :=
  memWf d.chip.cells = true ∧ memWf d.xm.mem.cells = true ∧ d.ctl.bbr.queue.length ≤ 16 ∧ d.ctl.time.count < 2 ^ 64

/-- The forms of a state are those of its device. -/
def State.Forms (s : State) : Prop := s.dev.Forms

/-- The device after the commands of a list, one after the other. -/
def afterAll (cs : List Instr) (d : Dev) : Dev :=
  match cs with
  | [] => d
  | c :: rest => match exec c { dev := d } with
    | .next t => afterAll rest t.dev
    | .fault _ => d
    | .refused _ => d

end Sys2Proof.Machine
end

