-- ==== Sys2Proof/Certificates/Slice0/Obligations.lean ====
section
/-! DEFINITION. The statements about the block, for the provers: each a def Obligations.<Name> : Prop, listed in
OBLIGATIONS.json with the sections or the rule of spec/ it rests on. -/

open Sys2Proof Sys2Proof.Machine Sys2Proof.Machine.Reg

/-- The queue of commands; the idle step is the model's choice (log entry 1). -/
def Obligations.StepRunsFront : Prop :=
  (∀ (c : Instr) (rest : List Instr) (d : Dev),
    step { dev := d, pending := c :: rest } = exec c { dev := d, pending := rest }) ∧
  (∀ d : Dev, ∃ t : State, step { dev := d, pending := [] } = .next t ∧ t.pending = [] ∧ t.dev.tb = d.tb + 4 ∧
    t.dev.ctl.time.count = d.ctl.time.count ∧ OnlyChanges [] [.time] d t.dev)

/-- First in, first out, and no command stops the block.
Readings that are the model's choice, where a clause rests on one: log entry 1. -/
def Obligations.QueueRun : Prop :=
  ∀ (done left : List Instr) (d : Dev),
    Host.Core.run Sys2Proof.core done.length ({ dev := d, pending := done ++ left } : State) =
      Host.Outcome.next ({ dev := afterAll done d, pending := left } : State)

/-- The premises of the invariant hold at reset. -/
def Obligations.FormsAtReset : Prop :=
  State.reset.Forms ∧ State.reset.pending = [] ∧ State.reset.dev.get (RING_SCHED_ARM 0) = 0 ∧
  State.reset.dev.get QM_STATUS_STATE = 2 ∧ State.reset.dev.get CFG_STATUS_STATE = 0 ∧ State.reset.dev.get CAR_CTRL_EN = 1

/-- R14, R518 and the form of the memories, over every command. -/
def Obligations.FormsKept : Prop := ∀ s : State, s.Forms → ∃ t : State, step s = .next t ∧ t.Forms

/-- R26. A ring closed for inspection answers CLOSED instead (R512). -/
def Obligations.RingFiguresLocked : Prop :=
  (∀ (s : State) (r : Fin 128) (a : Fin 8) (v : Word) (o : Nat), o = 0x10 ∨ o = 0x30 → s.dev.inspected r.val = false →
    s.dev.get (RING_SCHED_ARM r.val) = 1 →
    Completes (.registerWrite (BitVec.ofNat 27 (ringBase r.val + o + 4 * a.val)) v) s (fun d =>
      Answered d .perm ∧ OnlyChanges [] [.ans] s.dev d)) ∧
  (∀ (s : State) (r : Fin 128) (a : Fin 8) (v : Word), s.dev.inspected r.val = false → s.dev.get (RING_SCHED_ARM r.val) = 0 →
    Completes (.registerWrite (BitVec.ofNat 27 (ringBase r.val + 0x10 + 4 * a.val)) v) s (fun d =>
      d.get (RING_ACT_DU_DU_TOTAL r.val a.val) = v.toNat % 2 ^ 29 ∧ Answered d .ok ∧
      OnlyChanges [RING_ACT_DU_DU_TOTAL r.val a.val] [.ans] s.dev d)) ∧
  (∀ (s : State) (r : Fin 128) (a : Fin 8) (v : Word), s.dev.inspected r.val = false → s.dev.get (RING_SCHED_ARM r.val) = 0 →
    Completes (.registerWrite (BitVec.ofNat 27 (ringBase r.val + 0x30 + 4 * a.val)) v) s (fun d =>
      d.get (RING_ACT_FIX_FIXED_NS r.val a.val) = v.toNat % 2 ^ 20 ∧ Answered d .ok ∧
      OnlyChanges [RING_ACT_FIX_FIXED_NS r.val a.val] [.ans] s.dev d))

/-- R186. -/
def Obligations.LostPulses : Prop :=
  (∀ (s : State) (r : Fin 128) (l : Fin 4), slotEn s.dev r 24 = true → slotSt s.dev r 24 = 1 → (lane s.dev r 24 l).busy = true →
    (lane s.dev r 24 l).acc = 15 → Completes (.pulseSend r l) s (fun d =>
      (lane d r 24 l).acc = 15 ∧ d.get (TS_IRQ_CAUSE_PULSE_LOST r 24) = 1 ∧
      d.get (TS_PULSE_LOST r 24) = Nat.min (s.dev.get (TS_PULSE_LOST r 24) + 1) 0xFFFF ∧
      OnlyChanges [TS_IRQ_CAUSE_PULSE_LOST r 24, TS_PULSE_LOST r 24] [] s.dev d)) ∧
  (∀ (s : State) (r : Fin 128) (l : Fin 4), slotSt s.dev r 24 = 1 → (lane s.dev r 24 l).busy = true →
    (lane s.dev r 24 l).delivered = false → (lane s.dev r 24 l).got.length = 15 → Completes (.pulseDeliver r false l) s (fun d =>
      (lane d r 24 l).got = (lane s.dev r 24 l).got ∧ d.get (TS_IRQ_CAUSE_PULSE_LOST r 24) = 1 ∧
      d.get (TS_PULSE_LOST r 24) = Nat.min (s.dev.get (TS_PULSE_LOST r 24) + 1) 0xFFFF ∧
      OnlyChanges [TS_IRQ_CAUSE_PULSE_LOST r 24, TS_PULSE_LOST r 24] [.slots] s.dev d)) ∧
  (∀ (s : State) (r : Fin 128) (l : Fin 4) (v : Digit), sget none (s.dev.ring r).fab.pulses l = some v → slotEn s.dev r 25 = true →
    (lane s.dev r 25 l).staged = 15 → Completes (.pulseOutToken r l) s (fun d =>
      (lane d r 25 l).staged = 15 ∧ d.get (TS_IRQ_CAUSE_PULSE_LOST r 25) = 1 ∧
      d.get (TS_PULSE_LOST r 25) = Nat.min (s.dev.get (TS_PULSE_LOST r 25) + 1) 0xFFFF ∧
      OnlyChanges [TS_IRQ_CAUSE_PULSE_LOST r 25, TS_PULSE_LOST r 25] [.rings] s.dev d)) ∧
  (∀ (d : Dev) (r l : Nat), l < 4 → slotSt d r 25 = 1 → (lane d r 25 l).busy = true →
    15 < (lane d r 25 l).acc + (lane d r 25 l).staged →
    (lane (sendStaged r l d) r 25 l).acc = 15 ∧ (sendStaged r l d).get (TS_IRQ_CAUSE_PULSE_LOST r 25) = 1 ∧
      (sendStaged r l d).get (TS_PULSE_LOST r 25) =
        Nat.min (d.get (TS_PULSE_LOST r 25) + ((lane d r 25 l).acc + (lane d r 25 l).staged - 15)) 0xFFFF)

/-- R224. -/
def Obligations.QRewindReturns : Prop :=
  (∀ (s : State) (r : Fin 128) (t : Fin 10) (q : Fin 16384) (x : QSt) (m : Nat), x = s.dev.queue q →
    qmBlocked s.dev = none → consumerOk s.dev (consSrc r t) q = true → soundQueue s.dev q = true → s.dev.qm.work = [] →
    x.ptrA.mark = some m → Completes (.qrewind r t q false) s (fun d =>
      d.queue q = x.setPtrs { x.ptrA with rd := m } ∧ (d.queue q).ptrA.mark = some m ∧ (d.queue q).ptrA.rd = m ∧
      (∀ k : Nat, k ≠ q.val → d.queue k = s.dev.queue k) ∧ Answered d .ok ∧ SameParts [.qm, .ans, .out] s.dev d ∧
      (x.base ≤ m → m ≤ x.ptrA.rd → x.ptrA.rd ≤ x.depthEnd (qMode s.dev q) →
        (d.queue q).depth (qMode s.dev q) = x.depth (qMode s.dev q) + (x.ptrA.rd - m) ∧
        (d.queue q).pkts (qMode s.dev q) = x.pkts (qMode s.dev q) +
          (((x.words.drop (m - x.base)).take (x.ptrA.rd - m)).filter (fun w => w.fin)).length))) ∧
  (∀ (s : State) (r : Fin 128) (t : Fin 10) (q : Fin 16384), qmBlocked s.dev = none →
    consumerOk s.dev (consSrc r t) q = true → soundQueue s.dev q = true → s.dev.qm.work = [] → (s.dev.queue q).ptrA.mark = none →
    Completes (.qrewind r t q false) s (fun d =>
      Answered d .ok ∧ d.qm = { s.dev.qm with turn := d.qm.turn } ∧ OnlyChanges [] [.ans, .qm] s.dev d))

/-- R239. -/
def Obligations.QueueResetRetries : Prop :=
  ∀ (s : State) (q : Fin 16384) (i : Nat) (c : PCell), s.dev.get QM_STATUS_STATE = 0 →
    s.dev.qm.cmdTill ≤ s.dev.tb → soundQueue s.dev q = true →
    (i, some c) ∈ s.dev.qm.pool → c.q = q.val → c.quar = true → c.gen = ((s.dev.queue q).gen + 1) % 256 →
    Completes (.queueReset q) s (fun d =>
      Answered d .retry ∧ d.qm = { s.dev.qm with cmdTill := d.qm.cmdTill } ∧ d.get QM_Q_CMD_STAT_RESULT = Resp.retry.code ∧
      OnlyChanges [QM_Q_CMD_STAT_ABORT_LATE, QM_Q_CMD_STAT_RESULT] [.ans, .qm, .fresh] s.dev d)

/-- Chapter 1: how a ring tick closes, what a missed deadline does, what a fault does.
Readings that are the model's choice, where a clause rests on one: log entries 1, 18 and 28. -/
def Obligations.RingDeadlines : Prop :=
  (∀ (s : State) (m : Fin 128), (s.dev.ring (s.dev.lead m)).run ≠ .out → quiet s.dev m = true →
    Completes (.quiescence m) s (fun d => d.ring m = { s.dev.ring m with qdone := true } ∧
      (∀ q : Nat, q ≠ m.val → d.ring q = s.dev.ring q) ∧ OnlyChanges [] [.rings] s.dev d)) ∧
  (∀ (s : State) (r : Fin 128) (ns : BitVec 32) (T : Nat), s.dev.lead r = r.val → (s.dev.ring r).run = .tick →
    (s.dev.ring r).done = none → (s.dev.ring r).due = none → (s.dev.ring r).judged = false → (s.dev.ring r).missed = false →
    (s.dev.ring r).force = false → (∀ m ∈ s.dev.members r, (s.dev.ring m).qdone = true) → endsNext s.dev r = true →
    T = Nat.max s.dev.tb ((s.dev.ring r).startTb + 4 * ns.toNat) → T / 4 ≤ (s.dev.ctl.time.nextEdge - 24) / 4 →
    Completes (.ringDoneAccept r ns) s (fun d => (d.ring r).done = some T ∧ (d.ring r).slackIn = true ∧ d.tb = T ∧
      d.get (RING_CLOSE_LAST_LATE r) = 0 ∧
      d.get (RING_CLOSE_LAST_CLOSE_NS r) = Nat.min ((T - (s.dev.ring r).startTb + 3) / 4) 0xFFFFFF ∧
      OnlyChanges [RING_CLOSE_LAST_LATE r, RING_CLOSE_LAST_CLOSE_NS r, RING_SLACK_LAST_SLACK_NS r, RING_SLACK_MIN_MIN_NS r]
        [.time, .rings, .tg] s.dev d)) ∧
  (∀ (s : State) (r : Fin 128) (t : Nat), toJudge s.dev r = true → (s.dev.ring r).run = .tick →
    (s.dev.ring r).done = some t → (s.dev.ring r).force = false → Completes (.deadline r) s (fun d =>
      d.get (RING_STATUS_CONSEC r) = 0 ∧ (d.ring r).judged = true ∧ (d.ring r).missed = false ∧
      d.tb = Nat.max s.dev.tb (s.dev.ctl.time.nextEdge - 24) ∧
      OnlyChanges [RING_STATUS_CONSEC r, RING_SLACK_LAST_SLACK_NS r, RING_SLACK_MIN_MIN_NS r] [.time, .rings, .tg] s.dev d)) ∧
  (∀ (s : State) (r : Fin 128), toJudge s.dev r = true → (s.dev.ring r).done = none → (s.dev.ring r).disarm = false →
    Completes (.deadline r) s (fun d =>
      d.get (RING_SLIP_COUNT_SLIPS r) = Nat.min (s.dev.get (RING_SLIP_COUNT_SLIPS r) + 1) (2 ^ 32 - 1) ∧
      d.get (RING_IRQ_CAUSE_SLIP r) = 1 ∧ (d.ring r).judged = true ∧ (d.ring r).missed = true ∧ (d.ring r).force = false ∧
      SameParts [.time, .bbr, .rings, .tg] s.dev d)) ∧
  (∀ (s : State) (r : Fin 128) (c : Nat), s.dev.lead r = r.val → (s.dev.ring r).due = some c → Completes (.ringFault r) s (fun d =>
    d.get (RING_STATUS_STATE r) = 4 ∧ d.get (RING_IRQ_CAUSE_FAULT r) = 1 ∧ (d.ring r).run = .out ∧ (d.ring r).due = none ∧
    (d.ring r).leaving = true ∧
      SameParts [.bbr, .rings, .qm, .slots, .engs] s.dev d))

/-- Chapter 1: RING_SCHED.ARM and RING_CMD.
Readings that are the model's choice, where a clause rests on one: log entries 18 and 29. -/
def Obligations.RingCommands : Prop :=
  (∀ (s : State) (r : Fin 128), s.dev.lead r = r.val → s.dev.members r = [r.val] → s.dev.get (RING_STATUS_STATE r) = 0 →
    s.dev.get (RING_SCHED_ARM r) = 0 → s.dev.get (RING_SCHED_SLIP_LIMIT r) ≠ 0 → (s.dev.ring r).schedAt = none →
    (s.dev.ring r).disarm = false → (s.dev.ring r).closeReq = .none → s.dev.get TG_STATUS_MODE ≠ 4 →
    s.dev.get TG_STATUS_MODE ≠ 5 → zeroing s.dev r = false →
    ringFits s.dev r (s.dev.get TG_VSAFE_MV) (s.dev.get RM_CONTRACT_CTRL_TJ_DESIGN) (periodCheck s.dev) (schedRegs s.dev r) = true →
    Completes (.ringArm r) s (fun d => d.get (RING_SCHED_ARM r) = 1 ∧ d.get (RING_STATUS_STATE r) = 1 ∧
      d.get (RING_STATUS_BUDGET_ERR r) = 0 ∧ (d.ring r).vals = schedRegs s.dev r ∧ Answered d .ok ∧
      SameParts [.ans, .rings, .engs] s.dev d)) ∧
  (∀ (s : State) (r : Fin 128), s.dev.lead r = r.val → s.dev.members r = [r.val] → s.dev.get (RING_STATUS_STATE r) = 0 →
    s.dev.get (RING_SCHED_ARM r) = 0 → s.dev.get (RING_SCHED_SLIP_LIMIT r) ≠ 0 → (s.dev.ring r).schedAt = none →
    (s.dev.ring r).closeReq = .none → s.dev.get TG_STATUS_MODE ≠ 4 →
    s.dev.get TG_STATUS_MODE ≠ 5 → zeroing s.dev r = false →
    ringFits s.dev r (s.dev.get TG_VSAFE_MV) (s.dev.get RM_CONTRACT_CTRL_TJ_DESIGN) (periodCheck s.dev) (schedRegs s.dev r) = false →
    Completes (.ringArm r) s (fun d => d.get (RING_SCHED_ARM r) = 0 ∧ d.get (RING_STATUS_STATE r) = 0 ∧
      d.get (RING_STATUS_BUDGET_ERR r) = 1 ∧ d.get (RING_IRQ_CAUSE_BUDGET_ERR r) = 1 ∧ Answered d .ok ∧
      OnlyChanges [RING_SCHED_ARM r, RING_STATUS_BUDGET_ERR r, RING_IRQ_CAUSE_BUDGET_ERR r] [.rings, .ans] s.dev d)) ∧
  (∀ (s : State) (r : Fin 128), s.dev.lead r = r.val → s.dev.get (RING_STATUS_STATE r) = 1 →
    s.dev.get (RING_SCHED_ARM r) = 1 → (s.dev.ring r).schedAt = none → (s.dev.ring r).run = .out →
    Completes (.ringDisarm r) s (fun d => d.get (RING_SCHED_ARM r) = 0 ∧ d.get (RING_STATUS_STATE r) = 0 ∧ Answered d .ok ∧
      SameParts [.ans, .rings, .engs] s.dev d)) ∧
  (∀ (s : State) (r : Fin 128), s.dev.lead r = r.val → s.dev.get (RING_STATUS_STATE r) = 4 →
    Completes (.restart r) s (fun d =>
      d.get (RING_STATUS_STATE r) = (if s.dev.get (RING_SCHED_ARM r) = 0 then 0 else 1) ∧
      d.get (RING_SCHED_ARM r) = s.dev.get (RING_SCHED_ARM r) ∧ Answered d .ok ∧
      SameParts [.ans, .rings, .engs] s.dev d)) ∧
  (∀ (s : State) (r : Fin 128), s.dev.inspected r = false → s.dev.lead r = r.val → Completes (.forceSlip r) s (fun d =>
    d.ring r = { s.dev.ring r with force := true } ∧ (∀ q : Nat, q ≠ r.val → d.ring q = s.dev.ring q) ∧ Answered d .ok ∧
    OnlyChanges [] [.rings, .ans] s.dev d)) ∧
  (∀ (s : State) (r : Fin 128), s.dev.inspected r = false → s.dev.lead r = r.val → Completes (.ringClrStats r) s (fun d =>
    d.get (RING_SLIP_COUNT_SLIPS r) = 0 ∧ d.get (RING_TICK_COUNT_TICKS r) = 0 ∧ d.get (RING_SLACK_MIN_MIN_NS r) = 0xFFFFFF ∧
    Answered d .ok ∧
    OnlyChanges [RING_SLIP_COUNT_SLIPS r, RING_TICK_COUNT_TICKS r, RING_SLACK_MIN_MIN_NS r] [.ans] s.dev d)) ∧
  (∀ (s : State) (r : Fin 128) (c : Instr), c ∈ [Instr.restart r, Instr.forceSlip r, Instr.ringClrStats r] →
    s.dev.inspected r = false → s.dev.lead r ≠ r.val →
    Completes c s (fun d => Answered d .perm ∧ OnlyChanges [] [.ans] s.dev d)) ∧
  (∀ (s : State) (r : Fin 128) (c : Instr),
    c ∈ [Instr.ringArm r, Instr.ringDisarm r, Instr.restart r, Instr.forceSlip r, Instr.ringClrStats r] →
    s.dev.inspected r = true → Completes c s (fun d => Answered d .closed ∧ OnlyChanges [] [.ans] s.dev d))

/-- Chapter 2: what one firing of a cell, a gateway or a memory port does to its tokens.
Readings that are the model's choice, where a clause rests on one: log entries 1, 9 and 10. -/
def Obligations.FabricTokens : Prop :=
  (∀ (s : State) (r : Fin 128) (c : Fin 24576) (h : HlcCfg) (a b : Digit), cellCfg s.dev r c = some h → h.mode = .func →
    inA s.dev r c = some a → inB s.dev r c = some b → canDrive s.dev r (.cell c 0) = true →
    Completes (.hlcFire r c) s (fun d => inA d r c = none ∧ inB d r c = none ∧
      (∀ p ∈ drives s.dev r (.cell c 0), SinkHas (h.table.getD (4 * a.val + b.val) 0) d p) ∧
      OnlyChanges [] [.rings] s.dev d)) ∧
  (∀ (s : State) (r : Fin 128) (c : Fin 24576) (h : HlcCfg) (a : Digit), cellCfg s.dev r c = some h → h.mode = .buf →
    inA s.dev r c = some a → canDrive s.dev r (.cell c 0) = true →
    Completes (.hlcFire r c) s (fun d => inA d r c = none ∧ (∀ p ∈ drives s.dev r (.cell c 0), SinkHas a d p) ∧
      OnlyChanges [] [.rings] s.dev d)) ∧
  (∀ (s : State) (r : Fin 128) (c : Fin 24576) (h : HlcCfg) (a : Digit), cellCfg s.dev r c = some h → h.mode = .sink →
    inA s.dev r c = some a → Completes (.hlcFire r c) s (fun d => inA d r c = none ∧ OnlyChanges [] [.rings] s.dev d)) ∧
  (∀ (s : State) (r g : Fin 128) (x : Nat → Digit) (h : Nat),
    (∀ i < 32, sget none (s.dev.ring r).fab.packs (32 * g.val + i) = some (x i)) → wsinkOf s.dev r (.pack g) = some (.unpack h) →
    wideAt s.dev r (.pack g) = [] → Completes (.packGateway r g) s (fun d =>
      (∃ t : Token, wideAt d r (.pack g) = [t] ∧ ∀ i < 32, digitOf t.toNat i = x i) ∧
      (∀ i < 32, sget none (d.ring r).fab.packs (32 * g.val + i) = none) ∧ OnlyChanges [] [.rings] s.dev d)) ∧
  (∀ (s : State) (r g : Fin 128) (t : Token) (rest : List Token) (f : Nat → Nat), waiting s.dev r (.unpack g) = t :: rest →
    (∀ i < 32, drives s.dev r (.unpack g i) = [(r.val, .cell (f i) 0)]) → (∀ i < 32, inA s.dev r (f i) = none) →
    (∀ i < 32, ∀ j < 32, f i = f j → i = j) → Completes (.unpackGateway r g) s (fun d =>
      waiting d r (.unpack g) = rest ∧ (∀ i < 32, inA d r (f i) = some (digitOf t.toNat i)) ∧
      OnlyChanges [] [.rings] s.dev d)) ∧
  (∀ (s : State) (r : Fin 128) (b : Fin 32) (portB : Bool) (t : Token) (h : Nat),
    sget none (s.dev.ring r).fab.memCmd (2 * b.val + b2n portB) = some t → isWriteCmd t = false →
    canDrive s.dev r (.memStatus b portB) = true → wsinkOf s.dev r (.mem b portB) = some (.unpack h) →
    wideAt s.dev r (.mem b portB) = [] → s.dev.chipFlaw (ringWordAt r b (bitsAt t.toNat 0 10)) = .none →
    wsrcOf s.dev r (.mem b portB) = none → Completes (.ringMemRead r b portB) s (fun d =>
      wideAt d r (.mem b portB) = [BitVec.ofNat 64 (rdLe s.dev.chip.cells (ringWordAt r b (bitsAt t.toNat 0 10)) 8)] ∧
      sget none (d.ring r).fab.memCmd (2 * b.val + b2n portB) = none ∧ OnlyChanges [] [.rings] s.dev d)) ∧
  (∀ (s : State) (r : Fin 128) (b : Fin 32) (portB : Bool) (t v : Token) (rest : List Token),
    sget none (s.dev.ring r).fab.memCmd (2 * b.val + b2n portB) = some t → isWriteCmd t = true →
    bitsAt t.toNat 12 8 = 255 → waiting s.dev r (.mem b portB) = v :: rest →
    canDrive s.dev r (.memStatus b portB) = true → Completes (.ringMemWrite r b portB) s (fun d =>
      rdLe d.chip.cells (ringWordAt r b (bitsAt t.toNat 0 10)) 8 = v.toNat ∧
      SameBytesBut s.dev.chip.cells d.chip.cells (ringWordAt r b (bitsAt t.toNat 0 10)) 8 ∧
      OnlyChanges [] [.rings, .chip] s.dev d))

/-- Chapter 2: ring groups and the host's side of a ring's fabric.
Readings that are the model's choice, where a clause rests on one: log entries 1, 2, 10 and 56. -/
def Obligations.RingMemoryAndGroups : Prop :=
  (∀ (s : State) (r : Fin 128) (w : Fin 16) (h : Fin 8), s.dev.inspected r = false →
    groupRefused s.dev r (w.val + 1) (h.val + 1) = false → Completes (.groupForm r w h) s (fun d =>
      (∀ m ∈ rectangle r (w.val + 1) (h.val + 1), d.get (RING_GROUP_LEAD m) = r.val ∧ d.get (RING_GROUP_EN m) = 1 ∧
        d.get (RING_STATUS_STATE m) = s.dev.get (RING_STATUS_STATE r)) ∧
      d.get (RING_GROUP_WIDTH_M1 r) = w.val ∧ d.get (RING_GROUP_HEIGHT_M1 r) = h.val ∧ d.get (RING_FAB_STATUS_GROUP_ERR r) = 0 ∧
      Answered d .ok ∧ SameParts [.ans] s.dev d)) ∧
  (∀ (s : State) (r : Fin 128) (w : Fin 16) (h : Fin 8), s.dev.inspected r = false →
    groupRefused s.dev r (w.val + 1) (h.val + 1) = true → Completes (.groupForm r w h) s (fun d =>
      d.get (RING_FAB_STATUS_GROUP_ERR r) = 1 ∧ d.get (RING_FAB_IRQ_CAUSE_GROUP_ERR r) = 1 ∧ Answered d .perm ∧
      OnlyChanges [RING_FAB_STATUS_GROUP_ERR r, RING_FAB_IRQ_CAUSE_GROUP_ERR r] [.ans] s.dev d)) ∧
  (∀ (s : State) (r : Fin 128) (w : Fin 16) (h : Fin 8), s.dev.inspected r = false → s.dev.lead r = r.val →
    s.dev.get (RING_GROUP_EN r) = 1 → s.dev.get (RING_SCHED_ARM r) = 0 → Completes (.groupDissolve r w h) s (fun d =>
      (∀ m ∈ s.dev.members r, d.lead m = m ∧ d.get (RING_STATUS_GROUPED m) = 0 ∧ d.get (RING_GROUP_EN m) = 0) ∧
      d.get (RING_GROUP_WIDTH_M1 r) = w.val ∧ d.get (RING_GROUP_HEIGHT_M1 r) = h.val ∧ d.get (RING_FAB_STATUS_GROUP_ERR r) = 0 ∧
      Answered d .ok ∧
      SameParts [.ans, .rings] s.dev d)) ∧
  (∀ (s : State) (r : Fin 128) (w : Fin 16) (h : Fin 8), s.dev.inspected r = false → s.dev.lead r ≠ r.val →
    Completes (.groupDissolve r w h) s (fun d =>
      d.get (RING_FAB_STATUS_GROUP_ERR r) = 1 ∧ d.get (RING_FAB_IRQ_CAUSE_GROUP_ERR r) = 1 ∧ Answered d .perm ∧
      OnlyChanges [RING_FAB_STATUS_GROUP_ERR r, RING_FAB_IRQ_CAUSE_GROUP_ERR r] [.ans] s.dev d)) ∧
  (∀ (s : State) (r : Fin 128) (w : Fin 16) (h : Fin 8), s.dev.inspected r = false → s.dev.lead r = r.val →
    s.dev.get (RING_GROUP_EN r) = 1 → s.dev.get (RING_SCHED_ARM r) = 1 → Completes (.groupDissolve r w h) s (fun d =>
      d.get (RING_FAB_STATUS_GROUP_ERR r) = 1 ∧ d.get (RING_FAB_IRQ_CAUSE_GROUP_ERR r) = 1 ∧ Answered d .perm ∧
      OnlyChanges [RING_FAB_STATUS_GROUP_ERR r, RING_FAB_IRQ_CAUSE_GROUP_ERR r] [.ans] s.dev d)) ∧
  (∀ (s : State) (off : BitVec 25) (n : Fin 16), unitOk off.toNat n = true →
    ringHostCode s.dev (off.toNat / 0x40000) (off.toNat / 0x2000 % 32) = .ok →
    s.dev.chipFlaw (off.toNat - off.toNat % 8) = .none → Completes (.ringMemHostAccess off n none) s (fun d =>
      Answered d .ok ∧ d.ctl.ans.data = [rdLe s.dev.chip.cells off.toNat n] ∧ OnlyChanges [] [.ans] s.dev d)) ∧
  (∀ (s : State) (off : BitVec 25) (n : Fin 16) (v : Token), unitOk off.toNat n = true →
    ringHostCode s.dev (off.toNat / 0x40000) (off.toNat / 0x2000 % 32) = .ok →
    s.dev.chipFlaw (off.toNat - off.toNat % 8) = .none → Completes (.ringMemHostAccess off n (some v)) s (fun d =>
      Answered d .ok ∧ rdLe d.chip.cells off.toNat n = v.toNat % 256 ^ n.val ∧
      SameBytesBut s.dev.chip.cells d.chip.cells off.toNat n ∧ OnlyChanges [] [.ans, .chip] s.dev d)) ∧
  (∀ (s : State) (off : BitVec 25) (n : Fin 16) (x : Option Token), unitOk off.toNat n = false →
    s.dev.rstate (off.toNat / 0x40000) ≠ 5 → xStopped s.dev (xRing (off.toNat / 0x40000)) = false →
    Completes (.ringMemHostAccess off n x) s (fun d =>
      Answered d .addr ∧ OnlyChanges [] [.ans] s.dev d)) ∧
  (∀ (s : State) (off : BitVec 25) (n : Fin 16) (x : Option Token), s.dev.rstate (off.toNat / 0x40000) ≠ 5 →
    xStopped s.dev (xRing (off.toNat / 0x40000)) = true → Completes (.ringMemHostAccess off n x) s (fun d =>
      Answered d .clockStopped ∧ OnlyChanges [] [.ans] s.dev d)) ∧
  (∀ (s : State) (off : BitVec 25) (n : Fin 16) (x : Option Token) (c : Resp), unitOk off.toNat n = true →
    ringHostCode s.dev (off.toNat / 0x40000) (off.toNat / 0x2000 % 32) = c → c ≠ .ok →
    Completes (.ringMemHostAccess off n x) s (fun d => Answered d c ∧ OnlyChanges [] [.ans] s.dev d)) ∧
  (∀ (s : State) (r : Fin 128), s.dev.inspected r = false → (s.dev.rstate r = 0 ∨ s.dev.rstate r = 4) →
    Completes (.ringMemZero r) s (fun d => d.get (RING_FAB_STATUS_MEM_BUSY r) = 1 ∧ Answered d .ok ∧
      OnlyChanges [RING_FAB_STATUS_MEM_BUSY r] [.ans] s.dev d)) ∧
  (∀ (s : State) (r : Fin 128), s.dev.get (RING_FAB_STATUS_MEM_BUSY r) = 1 → Completes (.ringMemZeroDone r) s (fun d =>
    (∀ x : Nat, rdByte d.chip.cells x =
      if r.val * 0x40000 ≤ x ∧ x < r.val * 0x40000 + 0x40000 then 0 else rdByte s.dev.chip.cells x) ∧
    d.get (RING_FAB_STATUS_MEM_BUSY r) = 0 ∧ d.get (RING_FAB_IRQ_CAUSE_ZERO_DONE r) = 1 ∧
    OnlyChanges [RING_FAB_STATUS_MEM_BUSY r, RING_FAB_IRQ_CAUSE_ZERO_DONE r] [.chip] s.dev d)) ∧
  (∀ (s : State) (r : Fin 128), s.dev.inspected r = false → Completes (.ringClrEcc r) s (fun d =>
    d.get (RING_MEM_ECC_CE_COUNT r) = 0 ∧ d.get (RING_MEM_ECC_UE_COUNT r) = 0 ∧ d.get (RING_MEM_ECC_ADDR_VALID r) = 0 ∧
    Answered d .ok ∧
    OnlyChanges [RING_MEM_ECC_CE_COUNT r, RING_MEM_ECC_UE_COUNT r, RING_MEM_ECC_ADDR_VALID r] [.ans] s.dev d))

/-- Chapter 3: how an act starts, what crosses the ports, what an answer leaves.
Readings that are the model's choice, where a clause rests on one: log entries 1, 25, 26 and 28. -/
def Obligations.EngineActs : Prop :=
  (∀ (s : State) (e : Fin 1024), (s.dev.eng e).disp = true → headerUe s.dev e = none →
    headerValid (headerWord s.dev e 0) = true →
    4 ≤ bitsAt (headerWord s.dev e 1) (16 * (s.dev.eng e).act) 10 →
    bitsAt (headerWord s.dev e 1) (16 * (s.dev.eng e).act) 10 ≤ bitsAt (headerWord s.dev e 0) 24 10 → (s.dev.eng e).act < 8 →
    Completes (.actDispatch e) s (fun d =>
      d.get (ENG_STATUS_PC e) = bitsAt (headerWord s.dev e 1) (16 * (s.dev.eng e).act) 10 ∧
      d.eng e = { s.dev.eng e with disp := false, live := true, loops := [] } ∧
      d.get (ENG_HDR_VALID e) = 1 ∧ d.get (ENG_HDR_LAST e) = bitsAt (headerWord s.dev e 0) 24 10 ∧ SameParts [.engs] s.dev d)) ∧
  (∀ (s : State) (e : Fin 1024) (n : Nat), (s.dev.eng e).disp = true → headerUe s.dev e = some n →
    Completes (.actDispatch e) s (fun d =>
      d.get (ENG_STATUS_STATE e) = 4 ∧ d.get (ENG_FAULT_VALID e) = 1 ∧ d.get (ENG_FAULT_CODE e) = 2 ∧
      d.get (ENG_FAULT_PC e) = n ∧ d.get (ENG_IRQ_CAUSE_FAULT e) = 1 ∧ (d.eng e).ended = true ∧ (d.eng e).dead = true ∧
      SameParts [.engs, .bbr] s.dev d)) ∧
  (∀ (s : State) (e : Fin 1024), (s.dev.eng e).disp = true → headerUe s.dev e = none →
    headerValid (headerWord s.dev e 0) = false → Completes (.actDispatch e) s (fun d =>
      d.get (ENG_STATUS_STATE e) = 4 ∧ d.get (ENG_FAULT_VALID e) = 1 ∧ d.get (ENG_FAULT_CODE e) = 1 ∧
      (d.eng e).live = false ∧ (d.eng e).dead = true ∧ SameParts [.engs, .bbr] s.dev d)) ∧
  (∀ (s : State) (e : Fin 1024) (p : Fin 4) (t : Token) (rest : List Token),
    waiting s.dev (engRing e) (.eng (e.val % 8) p) = t :: rest → (s.dev.eng e).ended = false → 0 < inCredit s.dev e p →
    Completes (.inputPortTransfer e p) s (fun d =>
      (d.eng e).inPort p = (s.dev.eng e).inPort p ++ [t] ∧ OnlyChanges [] [.engs, .rings] s.dev d ∧
      (∀ q : Nat, q ≠ p.val → (d.eng e).inPort q = (s.dev.eng e).inPort q))) ∧
  (∀ (s : State) (e : Fin 1024) (p : Fin 4) (t : Token) (rest : List Token),
    waiting s.dev (engRing e) (.eng (e.val % 8) p) = t :: rest → (s.dev.eng e).ended = true →
    Completes (.inputPortTransfer e p) s (fun d =>
      d.get (ENG_PORT_DISCARD_TOKENS e) = Nat.min (s.dev.get (ENG_PORT_DISCARD_TOKENS e) + 1) (2 ^ 32 - 1) ∧
      d.get (ENG_STATUS_RESIDUE e) = 1 ∧
      OnlyChanges [ENG_PORT_DISCARD_TOKENS e, ENG_STATUS_RESIDUE e, ENG_IRQ_CAUSE_RESIDUE e] [.rings] s.dev d)) ∧
  (∀ (s : State) (e : Fin 1024) (p : Fin 4) (t : Token) (rest : List Token),
    (s.dev.eng e).outPort p = t :: rest → wideRoom s.dev (engRing e) (.eng (e.val % 8) p) = true →
    Completes (.outputPortTransfer e p) s (fun d =>
      d.eng e = { s.dev.eng e with outq := sset [] (s.dev.eng e).outq p rest } ∧ OnlyChanges [] [.engs, .rings] s.dev d)) ∧
  (∀ (s : State) (e : Fin 1024), (s.dev.eng e).ended = true → (s.dev.eng e).outq = [] → Completes (.engineDone e) s (fun d =>
    d.eng e = { s.dev.eng e with done := true } ∧ (∀ k : Nat, k ≠ e.val → d.eng k = s.dev.eng k) ∧
    OnlyChanges [] [.engs] s.dev d)) ∧
  (∀ (s : State) (e : Fin 1024) (a : SlotResp) (rest : List SlotResp) (t m : Nat),
    takeResp (engRing e) (e.val % 8) s.dev.xm.resps = some (a, rest) → a.who = .engine t m →
    (s.dev.eng e).srcUe = [] → a.op ≠ 2 → (∀ w ∈ s.dev.qm.work, w.r = engRing e → w.t ≠ e.val % 8) →
    Completes (.xsResponse e) s (fun d =>
      (d.eng e).rdTag t = a.code.code + 65536 * (a.units % 65536) ∧ d.xm.resps = rest ∧
      (a.op ≠ 8 → d.chip = s.dev.chip) ∧
      OnlyChanges [] [.xm, .engs, .chip, .rings, .qm] s.dev d))

/-- Chapters 3 and 4: bundles that end the act, that fault, that wait.
Readings that are the model's choice, where a clause rests on one: log entries 1, 24, 26 and 57. -/
def Obligations.EngineBundleStops : Prop :=
  (∀ (s : State) (e : Fin 1024) (meets : Bool) (w : Nat), (s.dev.eng e).live = true →
    fetch s.dev e (s.dev.get (ENG_STATUS_PC e)) = some w → decodeBundle w = some .stop →
    Completes (.bundleIssue e meets) s (fun d =>
      d.get (ENG_STATUS_STATE e) = 3 ∧ (d.eng e).live = false ∧ (d.eng e).ended = true ∧ (d.eng e).loops = [] ∧ (d.eng e).inq = [] ∧
      d.get (ENG_LAST_BUNDLES_BUNDLES e) = Nat.min ((s.dev.eng e).bundles + 1) (2 ^ 32 - 1) ∧
      d.get (ENG_LAST_DU_DU e) = Nat.min ((s.dev.eng e).du + 9) (2 ^ 32 - 1) ∧
      (d.eng e).v = (s.dev.eng e).v ∧ (d.eng e).s = (s.dev.eng e).s ∧ (d.eng e).p = (s.dev.eng e).p ∧ (d.eng e).a = (s.dev.eng e).a ∧
      OnlyChanges [ENG_STATUS_STATE e, ENG_LAST_DU_DU e, ENG_LAST_BUNDLES_BUNDLES e, ENG_LAST_CONFLICTS_CONFLICTS e,
        ENG_LAST_STALLS_STALLS e, ENG_MAX_DU_MAX_DU e, ENG_PORT_DISCARD_TOKENS e, ENG_STATUS_RESIDUE e, ENG_IRQ_CAUSE_RESIDUE e]
        [.engs] s.dev d)) ∧
  (∀ (s : State) (e : Fin 1024) (meets : Bool) (w : Nat), (s.dev.eng e).live = true →
    fetch s.dev e (s.dev.get (ENG_STATUS_PC e)) = some w → decodeBundle w = none →
    Completes (.bundleIssue e meets) s (fun d =>
      d.get (ENG_STATUS_STATE e) = 4 ∧ d.get (ENG_FAULT_VALID e) = 1 ∧ d.get (ENG_FAULT_CODE e) = 3 ∧
      d.get (ENG_FAULT_PC e) = s.dev.get (ENG_STATUS_PC e) ∧ d.get (ENG_IRQ_CAUSE_FAULT e) = 1 ∧ (d.eng e).dead = true ∧
      (d.eng e).v = (s.dev.eng e).v ∧ (d.eng e).s = (s.dev.eng e).s ∧ (d.eng e).p = (s.dev.eng e).p ∧ (d.eng e).a = (s.dev.eng e).a ∧
      SameParts [.engs, .bbr] s.dev d)) ∧
  (∀ (s : State) (e : Fin 1024) (meets : Bool), (s.dev.eng e).live = true →
    fetch s.dev e (s.dev.get (ENG_STATUS_PC e)) = none → Completes (.bundleIssue e meets) s (fun d =>
      d.get (ENG_STATUS_STATE e) = 4 ∧ d.get (ENG_FAULT_VALID e) = 1 ∧ d.get (ENG_FAULT_CODE e) = 2 ∧
      d.get (ENG_FAULT_PC e) = s.dev.get (ENG_STATUS_PC e) ∧ (d.eng e).dead = true ∧ SameParts [.engs, .bbr] s.dev d)) ∧
  (∀ (s : State) (e : Fin 1024) (meets pinv pls : Bool) (w pred : Nat) (ls : LsOp) (v0 v1 : VaOp) (m : MacOp) (a z : Nat),
    (s.dev.eng e).live = true → fetch s.dev e (s.dev.get (ENG_STATUS_PC e)) = some w →
    decodeBundle w = some (.ops pred pinv pls ls v0 v1 (.normal m .nop)) → ls.access (s.dev.eng e) = some (a, z) →
    (0xC000 ≤ a ∨ a % z ≠ 0) → Completes (.bundleIssue e meets) s (fun d =>
      d.get (ENG_STATUS_STATE e) = 4 ∧ d.get (ENG_FAULT_CODE e) = 6 ∧ d.get (ENG_FAULT_PC e) = s.dev.get (ENG_STATUS_PC e) ∧
      (d.eng e).v = (s.dev.eng e).v ∧ (d.eng e).s = (s.dev.eng e).s ∧ (d.eng e).p = (s.dev.eng e).p ∧ (d.eng e).a = (s.dev.eng e).a ∧
      SameParts [.engs, .bbr] s.dev d)) ∧
  (∀ (s : State) (e : Fin 1024) (meets pinv pls : Bool) (w pred : Nat) (ls : LsOp) (v0 v1 : VaOp) (t : Tail),
    (s.dev.eng e).live = true → fetch s.dev e (s.dev.get (ENG_STATUS_PC e)) = some w →
    decodeBundle w = some (.ops pred pinv pls ls v0 v1 t) → portWait s.dev e ls = true →
    Completes (.bundleIssue e meets) s (fun d =>
      d.get (ENG_STATUS_STATE e) = 2 ∧ d.eng e = { s.dev.eng e with waited := true } ∧
      (∀ k : Nat, k ≠ e.val → d.eng k = s.dev.eng k) ∧ OnlyChanges [ENG_STATUS_STATE e] [.engs] s.dev d)) ∧
  (∀ (s : State) (e : Fin 1024) (meets pinv pls : Bool) (w pred : Nat) (ls : LsOp) (v0 v1 : VaOp) (m : MacOp) (xs : XsOp),
    (s.dev.eng e).live = true → fetch s.dev e (s.dev.get (ENG_STATUS_PC e)) = some w →
    decodeBundle w = some (.ops pred pinv pls ls v0 v1 (.normal m xs)) → portWait s.dev e ls = false →
    tagWait (s.dev.eng e) xs = true → Completes (.bundleIssue e meets) s (fun d =>
      d.get (ENG_STATUS_STATE e) = 1 ∧ OnlyChanges [ENG_STATUS_STATE e] [] s.dev d))

/-- Chapters 3 and 4: what a bundle that retires writes and where execution goes on.
Readings that are the model's choice, where a clause rests on one: log entries 1, 24, 25, 27 and 57. -/
def Obligations.EngineBundleEffects : Prop :=
  (∀ (s : State) (e : Fin 1024) (meets pinv pls : Bool) (w pred : Nat) (v0 v1 : VaOp) (m : MacOp),
    (s.dev.eng e).live = true → fetch s.dev e (s.dev.get (ENG_STATUS_PC e)) = some w →
    decodeBundle w = some (.ops pred pinv pls .nop v0 v1 (.normal m .nop)) →
    (unwind (s.dev.get (ENG_STATUS_PC e)) (s.dev.eng e).loops).2 ≤ s.dev.get (ENG_HDR_LAST e) →
    Completes (.bundleIssue e meets) s (fun d =>
      d.eng e = { (s.dev.eng e).wrRegs (v0.result (s.dev.eng e) (governing (s.dev.eng e) pred pinv) ++
          v1.result (s.dev.eng e) (governing (s.dev.eng e) pred pinv) ++
          m.result (s.dev.eng e) (governing (s.dev.eng e) pred pinv)) with
        du := (s.dev.eng e).du + Nat.max (Nat.max v0.du v1.du) m.du, bundles := (s.dev.eng e).bundles + 1,
        stalls := (s.dev.eng e).stalls + b2n (s.dev.eng e).waited, waited := false,
        loops := (unwind (s.dev.get (ENG_STATUS_PC e)) (s.dev.eng e).loops).1 } ∧
      (∀ k : Nat, k ≠ e.val → d.eng k = s.dev.eng k) ∧ d.get (ENG_STATUS_STATE e) = 1 ∧
      d.get (ENG_STATUS_PC e) = (unwind (s.dev.get (ENG_STATUS_PC e)) (s.dev.eng e).loops).2 ∧
      OnlyChanges [ENG_STATUS_STATE e, ENG_STATUS_PC e] [.engs] s.dev d)) ∧
  (∀ (s : State) (e : Fin 1024) (meets pinv pls : Bool) (w pred : Nat) (v0 v1 : VaOp) (m : MacOp),
    (s.dev.eng e).live = true → fetch s.dev e (s.dev.get (ENG_STATUS_PC e)) = some w →
    decodeBundle w = some (.ops pred pinv pls .nop v0 v1 (.normal m .nop)) →
    s.dev.get (ENG_HDR_LAST e) < (unwind (s.dev.get (ENG_STATUS_PC e)) (s.dev.eng e).loops).2 →
    Completes (.bundleIssue e meets) s (fun d => d.get (ENG_STATUS_STATE e) = 4 ∧ d.get (ENG_FAULT_VALID e) = 1 ∧
      d.get (ENG_FAULT_CODE e) = 4 ∧ (d.eng e).dead = true ∧ SameParts [.engs, .bbr] s.dev d)) ∧
  (∀ (s : State) (e : Fin 1024) (meets pinv pls : Bool) (w pred endb j : Nat) (v0 v1 : VaOp) (c : LoopCount),
    (s.dev.eng e).live = true → fetch s.dev e (s.dev.get (ENG_STATUS_PC e)) = some w →
    decodeBundle w = some (.ops pred pinv pls .nop v0 v1 (.loop endb j c)) →
    loopFault s.dev e (s.dev.get (ENG_STATUS_PC e)) endb j (s.dev.eng e).loops = 0 → endb ≤ s.dev.get (ENG_HDR_LAST e) →
    0 < countOf c (s.dev.eng e) → Completes (.bundleIssue e meets) s (fun d =>
      (d.eng e).loops = ({
          first := s.dev.get (ENG_STATUS_PC e) + 1
          endb := endb
          left := Nat.min (countOf c (s.dev.eng e)) (boundOf s.dev e j) - 1 } : LoopSt) :: (s.dev.eng e).loops ∧
      d.get (ENG_STATUS_PC e) = s.dev.get (ENG_STATUS_PC e) + 1 ∧ d.get (ENG_STATUS_STATE e) = 1 ∧
      (countOf c (s.dev.eng e) ≤ boundOf s.dev e j → OnlyChanges [ENG_STATUS_STATE e, ENG_STATUS_PC e] [.engs] s.dev d) ∧
      (boundOf s.dev e j < countOf c (s.dev.eng e) → d.get (ENG_STATUS_CLAMPED e) = 1 ∧
        d.get (ENG_CLAMP_COUNT e) = Nat.min (s.dev.get (ENG_CLAMP_COUNT e) + 1) 65535 ∧
        d.get (ENG_CLAMP_PC e) = s.dev.get (ENG_STATUS_PC e) ∧ d.get (ENG_IRQ_CAUSE_CLAMP e) = 1))) ∧
  (∀ (s : State) (e : Fin 1024) (meets pinv pls inc : Bool) (w pred rt b : Nat) (ofs : Int),
    (s.dev.eng e).live = true → fetch s.dev e (s.dev.get (ENG_STATUS_PC e)) = some w →
    decodeBundle w = some (.ops pred pinv pls (.sst rt b inc ofs) .nop .nop (.normal .nop .nop)) →
    badAddr (lsAddr (s.dev.eng e) b inc ofs 4) 4 = false →
    s.dev.chipFlaw (dataAt e (8 * (lsAddr (s.dev.eng e) b inc ofs 4 / 8))) = .none → Completes (.bundleIssue e meets) s (fun d =>
      rdLe d.chip.cells (dataAt e (lsAddr (s.dev.eng e) b inc ofs 4)) 4 = (s.dev.eng e).rdS rt % 2 ^ 32 ∧
      SameBytesBut s.dev.chip.cells d.chip.cells (dataAt e (lsAddr (s.dev.eng e) b inc ofs 4)) 4 ∧
      (d.eng e).v = (s.dev.eng e).v ∧ (d.eng e).p = (s.dev.eng e).p ∧ (d.eng e).a = (s.dev.eng e).a ∧
      SameParts [.chip, .engs, .bbr] s.dev d)) ∧
  (∀ (s : State) (e : Fin 1024) (meets pinv pls : Bool) (w pred rt p n : Nat),
    (s.dev.eng e).live = true → fetch s.dev e (s.dev.get (ENG_STATUS_PC e)) = some w →
    decodeBundle w = some (.ops pred pinv pls (.recv rt p n) .nop .nop (.normal .nop .nop)) →
    n < ((s.dev.eng e).inPort p).length → (unwind (s.dev.get (ENG_STATUS_PC e)) (s.dev.eng e).loops).2 ≤ s.dev.get (ENG_HDR_LAST e) →
    Completes (.bundleIssue e meets) s (fun d =>
      (d.eng e).inPort p = ((s.dev.eng e).inPort p).drop (n + 1) ∧
      (d.eng e).rdV rt = packLanes 64 ((((s.dev.eng e).inPort p).take (n + 1)).map (·.toNat)) % 2 ^ 512 ∧
      d.chip = s.dev.chip ∧
      SameParts [.engs, .bbr] s.dev d)) ∧
  (∀ (s : State) (e : Fin 1024) (meets pinv pls : Bool) (w pred rt p n : Nat),
    (s.dev.eng e).live = true → fetch s.dev e (s.dev.get (ENG_STATUS_PC e)) = some w →
    decodeBundle w = some (.ops pred pinv pls (.send rt p n) .nop .nop (.normal .nop .nop)) →
    portWait s.dev e (.send rt p n) = false → (unwind (s.dev.get (ENG_STATUS_PC e)) (s.dev.eng e).loops).2 ≤ s.dev.get (ENG_HDR_LAST e) →
    Completes (.bundleIssue e meets) s (fun d =>
      (d.eng e).outPort p = (s.dev.eng e).outPort p ++ ((lanesOf 64 8 ((s.dev.eng e).rdV rt)).take (n + 1)).map (BitVec.ofNat 64) ∧
      (d.eng e).v = (s.dev.eng e).v ∧ d.chip = s.dev.chip ∧
      SameParts [.engs, .bbr] s.dev d)) ∧
  (∀ (s : State) (e : Fin 1024) (meets pinv pls : Bool) (w pred tg : Nat) (xs : XsOp) (q : SlotReq),
    (s.dev.eng e).live = true → fetch s.dev e (s.dev.get (ENG_STATUS_PC e)) = some w →
    decodeBundle w = some (.ops pred pinv pls .nop .nop .nop (.normal .nop xs)) → tagWait (s.dev.eng e) xs = false →
    xs.tag = some tg → xsRequest xs (s.dev.eng e) = some q → xs.desc (s.dev.eng e) = none → carriesData q.op = false →
    Completes (.bundleIssue e meets) s (fun d =>
      (d.eng e).rdTag tg % 16 = 15 ∧
      (d.slot (engRing e) (e.val % 8)).reqs = (s.dev.slot (engRing e) (e.val % 8)).reqs ++ [{ q with data := [] }] ∧
      d.chip = s.dev.chip ∧
      SameParts [.engs, .bbr, .rings, .slots] s.dev d))

/-- Chapter 4: integer lanes under a predicate, scalars, accumulators.
Readings that are the model's choice, where a clause rests on one: log entry 27. -/
def Obligations.VectorArithmetic : Prop :=
  (∀ (x : EngSt) (g vd va vb i : Nat), i < 16 → (x.wrRegs ((VaOp.vv .add .int32 vd va vb).result x g)).rdV vd / 2 ^ (32 * i) % 2 ^ 32 =
    if bitAt g (2 * i) then (x.rdV va / 2 ^ (32 * i) % 2 ^ 32 + x.rdV vb / 2 ^ (32 * i) % 2 ^ 32) % 2 ^ 32
    else x.rdV vd / 2 ^ (32 * i) % 2 ^ 32) ∧
  (∀ (x : EngSt) (g vd va vb i : Nat), i < 32 → (x.wrRegs ((VaOp.vv .adds .int16 vd va vb).result x g)).rdV vd / 2 ^ (16 * i) % 2 ^ 16 =
    if bitAt g i then wrap 16 (max (-32768) (min 32767 (signed 16 (x.rdV va / 2 ^ (16 * i) % 2 ^ 16) + signed 16 (x.rdV vb / 2 ^ (16 * i) % 2 ^ 16))))
    else x.rdV vd / 2 ^ (16 * i) % 2 ^ 16) ∧
  (∀ (x : EngSt) (g vd va vb i : Nat), i < 32 → (x.wrRegs ((VaOp.vv .subs .int16 vd va vb).result x g)).rdV vd / 2 ^ (16 * i) % 2 ^ 16 =
    if bitAt g i then wrap 16 (max (-32768) (min 32767 (signed 16 (x.rdV va / 2 ^ (16 * i) % 2 ^ 16) - signed 16 (x.rdV vb / 2 ^ (16 * i) % 2 ^ 16))))
    else x.rdV vd / 2 ^ (16 * i) % 2 ^ 16) ∧
  (∀ (x : EngSt) (g vd va vb i : Nat), i < 64 →
    signed 8 ((x.wrRegs ((VaOp.vv .max .int8 vd va vb).result x g)).rdV vd / 2 ^ (8 * i) % 2 ^ 8) =
    if bitAt g (i / 2) then max (signed 8 (x.rdV va / 2 ^ (8 * i) % 2 ^ 8)) (signed 8 (x.rdV vb / 2 ^ (8 * i) % 2 ^ 8))
    else signed 8 (x.rdV vd / 2 ^ (8 * i) % 2 ^ 8)) ∧
  (∀ (x : EngSt) (g sd sa : Nat) (imm : Int), (x.wrRegs ((VaOp.saddi sd sa imm).result x g)).rdS sd =
    if sd = 0 then 0 else (((x.rdS sa : Int) + imm) % 2 ^ 32).toNat) ∧
  (∀ (x : EngSt) (g ad : Nat), g = 0xFFFFFFFF → (x.wrRegs ((MacOp.accz ad).result x g)).rdA ad = 0) ∧
  (∀ (x : EngSt) (g vd va vb : Nat) (op : VecOp) (ty : ETy), let y := x.wrRegs ((VaOp.vv op ty vd va vb).result x g)
    y.s = x.s ∧ y.p = x.p ∧ y.a = x.a ∧ y.loops = x.loops ∧ y.inq = x.inq ∧ y.outq = x.outq ∧ y.tags = x.tags ∧
    ∀ n : Nat, n ≠ vd → y.rdV n = x.rdV n)

/-- Chapter 3: data memory, program memory, ENG_CMD and the debug window.
Readings that are the model's choice, where a clause rests on one: log entries 2 and 24. -/
def Obligations.EngineHostAccess : Prop :=
  (∀ (s : State) (e : Fin 1024) (a : BitVec 16) (len : Fin 16), dataHostCode s.dev e a.toNat len = .ok →
    s.dev.chipFlaw (dataAt e (8 * (a.toNat / 8))) = .none → Completes (.engDmemHostAccess e a len none) s (fun d =>
      d.ctl.ans.code = .ok ∧ d.ctl.ans.data = [rdLe s.dev.chip.cells (dataAt e a.toNat) len] ∧ OnlyChanges [] [.ans] s.dev d)) ∧
  (∀ (s : State) (e : Fin 1024) (a : BitVec 16) (len : Fin 16) (v : Token), dataHostCode s.dev e a.toNat len = .ok →
    s.dev.chipFlaw (dataAt e (8 * (a.toNat / 8))) = .none → Completes (.engDmemHostAccess e a len (some v)) s (fun d =>
      Answered d .ok ∧ rdLe d.chip.cells (dataAt e a.toNat) len = v.toNat % 256 ^ len.val ∧
      SameBytesBut s.dev.chip.cells d.chip.cells (dataAt e a.toNat) len ∧ OnlyChanges [] [.ans, .chip] s.dev d)) ∧
  (∀ (s : State) (e : Fin 1024) (a : BitVec 16) (len : Fin 16) (v : Option Token) (c : Resp),
    dataHostCode s.dev e a.toNat len = c → c ≠ .ok → Completes (.engDmemHostAccess e a len v) s (fun d =>
      Answered d c ∧ OnlyChanges [] [.ans] s.dev d)) ∧
  (∀ (s : State) (e : Fin 1024) (a : BitVec 14) (len : Fin 16), s.dev.inspected (engRing e) = false →
    xStopped s.dev (xProg e) = false → unitOk a.toNat len = true → s.dev.chipFlaw (bundleAt e (a.toNat / 16)) ≠ .double →
    Completes (.progMemHostRead e a len) s (fun d =>
      d.ctl.ans.code = .ok ∧ d.ctl.ans.data = [rdLe s.dev.chip.cells (bundleAt e 0 + a.toNat) len] ∧
      OnlyChanges [] [.ans] s.dev d)) ∧
  (∀ (s : State) (e : Fin 1024), s.dev.inspected (engRing e) = false → (s.dev.rstate (engRing e) = 0 ∨ s.dev.rstate (engRing e) = 4) →
    Completes (.engMemZero e) s (fun d => d.get (ENG_STATUS_MEM_BUSY e) = 1 ∧ Answered d .ok ∧
      OnlyChanges [ENG_STATUS_MEM_BUSY e] [.ans] s.dev d)) ∧
  (∀ (s : State) (e : Fin 1024), s.dev.inspected (engRing e) = false → (s.dev.rstate (engRing e) = 0 ∨ s.dev.rstate (engRing e) = 4) →
    Completes (.clearRegs e) s (fun d => d.eng e = { s.dev.eng e with v := [], s := [], p := [], a := [] } ∧ Answered d .ok ∧
      OnlyChanges [] [.ans, .engs] s.dev d)) ∧
  (∀ (s : State) (e : Fin 1024) (c : Instr), c ∈ [Instr.engMemZero e, Instr.clearRegs e] → s.dev.inspected (engRing e) = false →
    s.dev.rstate (engRing e) ≠ 0 → s.dev.rstate (engRing e) ≠ 4 →
    Completes c s (fun d => Answered d .perm ∧ OnlyChanges [] [.ans] s.dev d)) ∧
  (∀ (s : State) (e : Fin 1024), s.dev.get (ENG_STATUS_MEM_BUSY e) = 1 → Completes (.engMemZeroDone e) s (fun d =>
    (∀ a : Nat, a < 0xC000 → rdByte d.chip.cells (dataAt e a) = 0) ∧
    SameBytesBut s.dev.chip.cells d.chip.cells (dataAt e 0) 0xC000 ∧
    d.get (ENG_STATUS_MEM_BUSY e) = 0 ∧ d.get (ENG_IRQ_CAUSE_ZERO_DONE e) = 1 ∧
    OnlyChanges [ENG_STATUS_MEM_BUSY e, ENG_IRQ_CAUSE_ZERO_DONE e] [.chip] s.dev d)) ∧
  (∀ (s : State) (e : Fin 1024), s.dev.inspected (engRing e) = false → Completes (.engClrEcc e) s (fun d =>
    d.get (ENG_MEM_ECC_UE_COUNT e) = 0 ∧ d.get (ENG_MEM_ECC_CE_COUNT e) = 0 ∧ d.get (ENG_MEM_ECC_ADDR_VALID e) = 0 ∧ Answered d .ok ∧
    OnlyChanges [ENG_MEM_ECC_UE_COUNT e, ENG_MEM_ECC_CE_COUNT e, ENG_MEM_ECC_ADDR_VALID e] [.ans] s.dev d)) ∧
  (∀ (s : State) (e : Fin 1024), s.dev.inspected (engRing e) = false → Completes (.engClrStats e) s (fun d =>
    d.get (ENG_MAX_DU_MAX_DU e) = 0 ∧ d.get (ENG_PORT_DISCARD_TOKENS e) = 0 ∧ d.get (ENG_CLAMP_COUNT e) = 0 ∧ Answered d .ok ∧
    OnlyChanges [ENG_MAX_DU_MAX_DU e, ENG_PORT_DISCARD_TOKENS e, ENG_CLAMP_COUNT e] [.ans] s.dev d)) ∧
  (∀ (s : State) (e : Fin 1024), s.dev.rstate (engRing e) = 0 → s.dev.get (ENG_DBG_ADDR_FILE e) = 1 →
    s.dev.get (ENG_DBG_ADDR_INDEX e) < 16 → s.dev.get (ENG_DBG_ADDR_WORD e) = 0 → s.dev.get (ENG_DBG_ADDR_AUTO_INC e) = 0 →
    Completes (.engDbgRead e) s (fun d => d.ctl.ans.code = .ok ∧
      d.ctl.ans.data = [(s.dev.eng e).rdS (s.dev.get (ENG_DBG_ADDR_INDEX e))] ∧ OnlyChanges [] [.ans] s.dev d)) ∧
  (∀ (s : State) (e : Fin 1024) (v : Word), s.dev.rstate (engRing e) = 0 → s.dev.get (ENG_DBG_ADDR_FILE e) = 1 →
    s.dev.get (ENG_DBG_ADDR_INDEX e) < 16 → s.dev.get (ENG_DBG_ADDR_WORD e) = 0 → s.dev.get (ENG_DBG_ADDR_AUTO_INC e) = 0 →
    Completes (.engDbgWrite e v) s (fun d => Answered d .ok ∧
      (d.eng e).rdS (s.dev.get (ENG_DBG_ADDR_INDEX e)) = (if s.dev.get (ENG_DBG_ADDR_INDEX e) = 0 then 0 else v.toNat) ∧
      (∀ n : Nat, n ≠ s.dev.get (ENG_DBG_ADDR_INDEX e) → (d.eng e).rdS n = (s.dev.eng e).rdS n) ∧ OnlyChanges [] [.ans, .engs] s.dev d))

/-- Chapter 5, streams (R177, R178), and the malformed segment of R214.
Readings that are the model's choice, where a clause rests on one: log entries 1, 22 and 53. -/
def Obligations.StreamCrossings : Prop :=
  (∀ (s : State) (r : Fin 128) (i : Fin 4) (w : Token) (rest : List Token), slotEn s.dev r (soutSlot i) = true →
    waiting s.dev r (.slot (soutSlot i)) = w :: rest → 0 < (s.dev.slot r (soutSlot i)).space → Completes (.streamOutStage r i) s (fun d =>
      d.slot r (soutSlot i) = { s.dev.slot r (soutSlot i) with
        staged := (s.dev.slot r (soutSlot i)).staged ++ [w], space := (s.dev.slot r (soutSlot i)).space - 1 } ∧
      waiting d r (.slot (soutSlot i)) = rest ∧ OnlyChanges [] [.rings, .slots] s.dev d)) ∧
  (∀ (s : State) (r : Fin 128) (i : Fin 4) (w : Token) (rest : List Token), slotEn s.dev r (soutSlot i) = true →
    waiting s.dev r (.slot (soutSlot i)) = w :: rest → (s.dev.slot r (soutSlot i)).space = 0 → Completes (.streamOutStage r i) s (fun d =>
      d.get (TS_DROP_TOKENS r (soutSlot i)) =
        Nat.min (s.dev.get (TS_DROP_TOKENS r (soutSlot i)) + 1) (2 ^ (TS_DROP_TOKENS r (soutSlot i)).w - 1) ∧
      d.get (TS_IRQ_CAUSE_DROP r (soutSlot i)) = 1 ∧ waiting d r (.slot (soutSlot i)) = rest ∧
      OnlyChanges [TS_DROP_TOKENS r (soutSlot i), TS_IRQ_CAUSE_DROP r (soutSlot i)] [.rings] s.dev d)) ∧
  (∀ (s : State) (r : Fin 128) (i : Fin 4) (w : Token) (rest : List Token), slotEn s.dev r (soutSlot i) = false →
    waiting s.dev r (.slot (soutSlot i)) = w :: rest → Completes (.streamOutStage r i) s (fun d =>
      waiting d r (.slot (soutSlot i)) = rest ∧ OnlyChanges [] [.rings] s.dev d)) ∧
  (∀ (s : State) (r : Fin 128) (i : Fin 4) (w : Token), slotEn s.dev r (sinSlot i) = true → slotSt s.dev r (sinSlot i) = 1 →
    (s.dev.slot r (sinSlot i)).fin.length < 64 → Completes (.streamInWrite r i w) s (fun d =>
      d.slot r (sinSlot i) = { s.dev.slot r (sinSlot i) with fin := (s.dev.slot r (sinSlot i)).fin ++ [(s.dev.tb, w)] } ∧
      Answered d .ok ∧ OnlyChanges [] [.slots, .ans] s.dev d)) ∧
  (∀ (s : State) (r : Fin 128) (i : Fin 4) (w : Token),
    (slotEn s.dev r (sinSlot i) = false ∨ slotSt s.dev r (sinSlot i) ≠ 1 ∨ 64 ≤ (s.dev.slot r (sinSlot i)).fin.length) →
    Completes (.streamInWrite r i w) s (fun d => Answered d .retry ∧ OnlyChanges [] [.ans] s.dev d)) ∧
  (∀ (s : State) (r : Fin 128) (i : Fin 4) (k : Nat) (h : Token) (rest : List (Nat × Token)), slotEn s.dev r (soutSlot i) = true →
    slotSt s.dev r (soutSlot i) = 1 → s.dev.get (TS_CFG_TARGET r (soutSlot i)) = r.val / 2 →
    (s.dev.slot r (soutSlot i)).pub = (k, h) :: rest → (s.dev.slot r (soutSlot i)).seg = none → bitsAt h.toNat 26 6 = 0 →
    qmBlocked s.dev = none → s.dev.qm.work = [] →
    Completes (.streamOutSegment r i) s (fun d =>
      (d.slot r (soutSlot i)).pub = rest.filter (fun e => e.1 != k) ∧ (d.slot r (soutSlot i)).seg = none ∧
      d.get (QM_PORT_STAT_P_BAD (r / 2)) =
        Nat.min (s.dev.get (QM_PORT_STAT_P_BAD (r / 2)) + 1) (2 ^ (QM_PORT_STAT_P_BAD (r / 2)).w - 1) ∧
      d.qm = { s.dev.qm with turn := d.qm.turn } ∧ OnlyChanges [QM_PORT_STAT_P_BAD (r / 2)] [.slots, .qm] s.dev d)) ∧
  (∀ (s : State) (r : Fin 128) (i : Fin 4) (k n m : Nat) (h : Token) (es : List (Nat × Token)) (d1 : Dev),
    slotEn s.dev r (soutSlot i) = true → slotSt s.dev r (soutSlot i) = 1 → s.dev.get (TS_CFG_TARGET r (soutSlot i)) = r.val / 2 →
    (s.dev.slot r (soutSlot i)).pub = (k, h) :: es → (s.dev.slot r (soutSlot i)).seg = none → n = bitsAt h.toNat 26 6 → n ≠ 0 →
    es.length = n → bitsAt h.toNat 14 2 = 0 → bitsAt h.toNat 17 3 = 0 → bitsAt h.toNat 23 3 = 0 → h.toNat < 2 ^ 32 →
    qmBlocked s.dev = none → s.dev.qm.work = [] → (s.dev.queue (bitsAt h.toNat 0 14)).lock = none →
    qPush (soutSrc r (soutSlot i)) (bitsAt h.toNat 0 14) (narrowWords (es.map (·.2)) (bitAt h.toNat 16) (bitsAt h.toNat 20 3))
      (mapSlot r (soutSlot i) (fun x => { x with pub := es }) (portTurn (r / 2) (32 * r + soutSlot i) s.dev)) = (.ok, m, d1) →
    Completes (.streamOutSegment r i) s (fun d =>
      d.slot r (soutSlot i) = { d1.slot r (soutSlot i) with pub := (d1.slot r (soutSlot i)).pub.drop n, seg := none } ∧
      (∀ x y : Nat, (x, y) ≠ (r.val, soutSlot i) → y < 26 → d.slot x y = d1.slot x y) ∧ OnlyChanges [] [.slots] d1 d)) ∧
  (∀ (s : State) (r : Fin 128) (i : Fin 4), s.dev.get (QM_SIN_EN (4 * r + i)) = 0 → s.dev.qm.work = [] →
    Completes (.streamInSegment r i) s (fun d =>
      d.qm = { s.dev.qm with turn := d.qm.turn } ∧ OnlyChanges [] [.qm] s.dev d)) ∧
  (∀ (s : State) (r : Fin 128) (i : Fin 4) (q : Nat) (w : QWord) (c : Resp) (d1 : Dev), s.dev.get (QM_SIN_EN (4 * r + i)) = 1 →
    q = s.dev.get (QM_SIN_QUEUE (4 * r + i)) → s.dev.get (TS_CFG_TARGET r (sinSlot i)) = 0x40 + r.val / 4 →
    segmentWords s.dev q = 1 → streamRoom s.dev r (sinSlot i) 5 = true → s.dev.get (QM_SIN_WHOLE (4 * r + i)) = 0 →
    s.dev.qm.work = [] →
    qPop (r.val / 4, 32 * r.val + sinSlot i) q 1 false (portTurn (64 + r / 4) (32 * r + sinSlot i) s.dev) = (c, [w], d1) → Completes (.streamInSegment r i) s (fun d =>
      (d.slot r (sinSlot i)).fin = (d1.slot r (sinSlot i)).fin ++
        (segmentHeader q [w] :: wordTokens w).map (fun x => (d1.tb, x)) ∧
      OnlyChanges [] [.slots, .qm] d1 d ∧ d.qm.queues = d1.qm.queues ∧ d.qm.pool = d1.qm.pool))

/-- Chapter 5, pulses: R181, R184 to R186, R188.
Readings that are the model's choice, where a clause rests on one: log entries 1 and 22. -/
def Obligations.PulseCrossings : Prop :=
  (∀ (s : State) (r : Fin 128) (l : Fin 4) (v : Digit), sget none (s.dev.ring r).fab.pulses l = some v → slotEn s.dev r 25 = true →
    (lane s.dev r 25 l).staged < 15 → Completes (.pulseOutToken r l) s (fun d =>
      lane d r 25 l = { lane s.dev r 25 l with staged := (lane s.dev r 25 l).staged + 1 } ∧
      sget none (d.ring r).fab.pulses l = none ∧ (∀ k : Nat, k ≠ l.val → lane d r 25 k = lane s.dev r 25 k) ∧
      OnlyChanges [] [.rings, .slots] s.dev d)) ∧
  (∀ (s : State) (r : Fin 128) (l : Fin 4) (v : Digit), sget none (s.dev.ring r).fab.pulses l = some v → slotEn s.dev r 25 = true →
    15 ≤ (lane s.dev r 25 l).staged → Completes (.pulseOutToken r l) s (fun d =>
      d.get (TS_PULSE_LOST r 25) = Nat.min (s.dev.get (TS_PULSE_LOST r 25) + 1) (2 ^ (TS_PULSE_LOST r 25).w - 1) ∧
      d.get (TS_IRQ_CAUSE_PULSE_LOST r 25) = 1 ∧
      OnlyChanges [TS_PULSE_LOST r 25, TS_IRQ_CAUSE_PULSE_LOST r 25] [.rings] s.dev d)) ∧
  (∀ (s : State) (r : Fin 128) (l : Fin 4), slotEn s.dev r 24 = true → slotSt s.dev r 24 = 1 →
    (lane s.dev r 24 l).busy = false → Completes (.pulseSend r l) s (fun d =>
      lane d r 24 l = { lane s.dev r 24 l with busy := true, delivered := false } ∧ OnlyChanges [] [.slots] s.dev d)) ∧
  (∀ (s : State) (r : Fin 128) (l : Fin 4), slotEn s.dev r 24 = true → slotSt s.dev r 24 = 1 →
    (lane s.dev r 24 l).busy = true → (lane s.dev r 24 l).acc < 15 → Completes (.pulseSend r l) s (fun d =>
      lane d r 24 l = { lane s.dev r 24 l with acc := (lane s.dev r 24 l).acc + 1 } ∧ OnlyChanges [] [.slots] s.dev d)) ∧
  (∀ (s : State) (r : Fin 128) (l : Fin 4), slotEn s.dev r 24 = true → slotSt s.dev r 24 = 1 →
    (lane s.dev r 24 l).busy = true → 15 ≤ (lane s.dev r 24 l).acc → Completes (.pulseSend r l) s (fun d =>
      d.get (TS_PULSE_LOST r 24) = Nat.min (s.dev.get (TS_PULSE_LOST r 24) + 1) (2 ^ (TS_PULSE_LOST r 24).w - 1) ∧
      d.get (TS_IRQ_CAUSE_PULSE_LOST r 24) = 1 ∧
      OnlyChanges [TS_PULSE_LOST r 24, TS_IRQ_CAUSE_PULSE_LOST r 24] [] s.dev d)) ∧
  (∀ (s : State) (r : Fin 128) (l : Fin 4), slotEn s.dev r 24 = true → slotSt s.dev r 24 ≠ 1 → Completes (.pulseSend r l) s (fun d =>
    d.get (TS_PULSE_DISCARDED r 24) = Nat.min (s.dev.get (TS_PULSE_DISCARDED r 24) + 1) (2 ^ (TS_PULSE_DISCARDED r 24).w - 1) ∧
    OnlyChanges [TS_PULSE_DISCARDED r 24] [] s.dev d)) ∧
  (∀ (s : State) (r : Fin 128) (l : Fin 4), slotSt s.dev r 24 = 1 → (lane s.dev r 24 l).busy = true →
    (lane s.dev r 24 l).delivered = false → (lane s.dev r 24 l).got.length < 15 → Completes (.pulseDeliver r false l) s (fun d =>
      lane d r 24 l = { lane s.dev r 24 l with delivered := true, got := (lane s.dev r 24 l).got ++ [s.dev.tb / 4] } ∧
      OnlyChanges [] [.slots] s.dev d)) ∧
  (∀ (s : State) (r : Fin 128) (l : Fin 4), slotSt s.dev r 25 = 1 → (lane s.dev r 25 l).busy = true →
    (lane s.dev r 25 l).delivered = false → Completes (.pulseDeliver r true l) s (fun d =>
      lane d r 25 l = { lane s.dev r 25 l with delivered := true } ∧ d.ctl.out = .slotOut r 25 l 0 :: s.dev.ctl.out ∧
      OnlyChanges [] [.slots, .out] s.dev d)) ∧
  (∀ (s : State) (r : Fin 128) (l : Fin 4) (o p : Bool), slotSt s.dev r (24 + b2n o) = 1 → (lane s.dev r (24 + b2n o) l).busy = true →
    (lane s.dev r (24 + b2n o) l).delivered = true → (p = false ∨ o = true) → Completes (.pulseAck r o l p) s (fun d =>
      lane d r (24 + b2n o) l = { lane s.dev r (24 + b2n o) l with
        busy := decide (0 < (lane s.dev r (24 + b2n o) l).acc), delivered := false, acc := (lane s.dev r (24 + b2n o) l).acc - 1 } ∧
      OnlyChanges [] [.slots] s.dev d)) ∧
  (∀ (s : State) (r : Fin 128) (l : Fin 4), slotSt s.dev r 24 = 1 → (lane s.dev r 24 l).busy = true →
    (lane s.dev r 24 l).delivered = true → Completes (.pulseAck r false l true) s (fun d =>
      lane d r 24 l = { lane s.dev r 24 l with busy := true, delivered := false } ∧ OnlyChanges [] [.slots] s.dev d))

/-- Chapter 5, request slots and stops: R172, R182, R187 to R192, R198.
Readings that are the model's choice, where a clause rests on one: log entries 1, 22, 53 and 56. -/
def Obligations.RequestsAndStops : Prop :=
  (∀ (s : State) (r : Fin 128) (t : Fin 10) (busy : Bool) (q : SlotReq) (rest : List SlotReq), t.val < 8 → slotEn s.dev r t = false →
    (s.dev.slot r t).reqs = q :: rest → q.op ≠ 8 → Completes (.requestAccept r t busy) s (fun d =>
      d.slot r t = { s.dev.slot r t with reqs := rest } ∧
      d.xm.resps = s.dev.xm.resps ++ [{ r := r, t := t, who := q.who, op := q.op, code := .addr, token := Resp.addr.code }] ∧
      OnlyChanges [] [.slots, .xm] s.dev d)) ∧
  (∀ (s : State) (r : Fin 128) (t : Fin 10) (busy : Bool) (q : SlotReq) (rest : List SlotReq), t.val < 8 → slotEn s.dev r t = true →
    slotSt s.dev r t = 3 → (s.dev.slot r t).reqs = q :: rest → q.op ≠ 8 → Completes (.requestAccept r t busy) s (fun d =>
      d.slot r t = { s.dev.slot r t with reqs := rest } ∧
      d.xm.resps = s.dev.xm.resps ++
        [{ r := r, t := t, who := q.who, op := q.op, code := .clockStopped, token := Resp.clockStopped.code }] ∧
      OnlyChanges [] [.slots, .xm, .rings] s.dev d)) ∧
  (∀ (s : State) (r : Fin 128) (t : Fin 10) (busy : Bool), slotEn s.dev r t = true →
    (slotSt s.dev r t = 2 ∨ (slotSt s.dev r t = 1 ∧ 16 ≤ slotLevel s.dev r t - (s.dev.slot r t).reqs.length)) →
    Completes (.requestAccept r t busy) s (fun d => OnlyChanges [] [] s.dev d)) ∧
  (∀ (s : State) (r : Fin 128) (t : Fin 10) (q : SlotReq) (rest : List SlotReq), t.val < 8 → slotEn s.dev r t = true →
    slotSt s.dev r t = 1 → slotLevel s.dev r t - (s.dev.slot r t).reqs.length < 16 → (s.dev.slot r t).reqs = q :: rest →
    q.op ∈ [3, 4, 5] → q.who = .fabric → q.seat = false → qmBlocked s.dev = none → soundQueue s.dev q.tgt = true →
    s.dev.qm.work = [] → Completes (.requestAccept r t false) s (fun d =>
      (d.slot r t).reqs = rest ∧
      d.xm.resps = s.dev.xm.resps ++ [({
        r := r, t := t, who := .fabric, op := q.op, code := if consumerOk s.dev (consSrc r t) q.tgt then .ok else .perm
        token := if consumerOk s.dev (consSrc r t) q.tgt then Resp.ok.code else Resp.perm.code } : SlotResp)] ∧
      SameParts [.xm, .slots, .qm] s.dev d)) ∧
  (∀ (s : State) (r : Fin 128) (nine : Bool) (a : SlotResp) (rest : List SlotResp),
    takeResp r (8 + b2n nine) s.dev.xm.resps = some (a, rest) → a.who = .fabric →
    wsinkOf s.dev r (.slot (8 + b2n nine)) = some (.slot 10) → s.dev.qm.work = [] → Completes (.responseDeliver r nine) s (fun d =>
      wideAt d r (.slot (8 + b2n nine)) = wideAt s.dev r (.slot (8 + b2n nine)) ++ BitVec.ofNat 64 a.token :: a.data ∧
      d.xm = { s.dev.xm with resps := rest } ∧ OnlyChanges [] [.rings, .xm] s.dev d)) ∧
  (∀ (s : State) (r : Fin 128) (t : Fin 26), slotEn s.dev r t = true → slotSt s.dev r t = 1 → Completes (.sideReset r (.slot t)) s (fun d =>
    d.get (TS_STATUS_STATE r t) = 2 ∧ d.get (TS_STATUS_FAR_RST r t) = 1 ∧
    OnlyChanges [TS_STATUS_STATE r t, TS_STATUS_FAR_RST r t] [.slots] s.dev d)) ∧
  (∀ (s : State) (r : Fin 128) (t : Fin 26), 10 ≤ t.val → t.val < 18 → slotEn s.dev r t = true → slotSt s.dev r t = 2 →
    ringSideReset s.dev = false → Completes (.resyncHandshake r (.slot t)) s (fun d =>
      d.get (TS_STATUS_STATE r t) = 1 ∧ d.get (TS_STATUS_FAR_RST r t) = 0 ∧ d.get (TS_IRQ_CAUSE_RESYNC_DONE r t) = 1 ∧
      d.get (TS_DISCARD_ENTRIES r t) = Nat.min (s.dev.get (TS_DISCARD_ENTRIES r t) + ((s.dev.slot r t).fin.length +
        (s.dev.slot r t).staged.length + (s.dev.slot r t).pub.length)) (2 ^ (TS_DISCARD_ENTRIES r t).w - 1) ∧
      (d.slot r t).fin = [] ∧ (d.slot r t).staged = [] ∧ (d.slot r t).pub = [] ∧ (d.slot r t).resynced = true ∧
      OnlyChanges [TS_STATUS_STATE r t, TS_STATUS_FAR_RST r t, TS_IRQ_CAUSE_RESYNC_DONE r t, TS_DISCARD_ENTRIES r t,
        TS_PULSE_DISCARDED r t] [.slots] s.dev d)) ∧
  (∀ (s : State) (r : Fin 128) (t : Fin 26) (step4 : Bool), slotEn s.dev r t = true → slotSt s.dev r t = 1 → 10 ≤ t.val →
    Completes (.beatTimeout (.slot r t) step4) s (fun d =>
      d.get (TS_STATUS_STATE r t) = 3 ∧ d.get (TS_IRQ_CAUSE_CLOCK_STOPPED r t) = 1 ∧ (d.slot r t).val = none ∧
      (d.slot r t).fin = (s.dev.slot r t).fin ∧ (d.slot r t).pub = (s.dev.slot r t).pub ∧
      OnlyChanges [TS_STATUS_STATE r t, TS_IRQ_CAUSE_CLOCK_STOPPED r t, BBR_LOST_QUEUE] [.slots, .rings, .bbr] s.dev d)) ∧
  (∀ (s : State) (e : Fin 1024) (step4 : Bool), xState s.dev (xData e) = 0 → Completes (.beatTimeout (.engData e) step4) s (fun d =>
    xStopped d (xData e) = true ∧ (∀ x : Nat, x ≠ xData e → xStopped d x = xStopped s.dev x) ∧
    (∀ a n : Nat, d.rstate (engRing e) ≠ 5 → dataHostCode d e a n = .clockStopped) ∧
    OnlyChanges [BBR_LOST_QUEUE] [.xstop, .bbr] s.dev d)) ∧
  (∀ (s : State) (e : Fin 1024), Completes (.beatResume (.engData e)) s (fun d =>
    xStopped d (xData e) = false ∧ (∀ x : Nat, x ≠ xData e → xStopped d x = xStopped s.dev x) ∧
    OnlyChanges [] [.xstop] s.dev d)) ∧
  (∀ (s : State) (r : Fin 128) (t : Fin 26), 10 ≤ t.val → t.val < 18 → slotEn s.dev r t = true → slotSt s.dev r t = 3 →
    ringSideReset s.dev = false → s.dev.get (TS_STATUS_FAR_RST r t) = 0 → Completes (.beatResume (.slot r t)) s (fun d =>
      d.get (TS_STATUS_STATE r t) = 1 ∧ d.get (TS_IRQ_CAUSE_RESYNC_DONE r t) = 1 ∧ (d.slot r t).fin = [] ∧ (d.slot r t).resynced = true ∧
      SameParts [.slots] s.dev d)) ∧
  (∀ (s : State) (r : Fin 128) (t : Fin 26), s.dev.inspected r = false → s.dev.rstate r = 0 → t.val < 18 →
    slotEn s.dev r t = true → Completes (.tsFlush r t) s (fun d => d.get (TS_STATUS_STATE r t) = 2 ∧ Answered d .ok ∧
      OnlyChanges [TS_STATUS_STATE r t] [.slots, .ans] s.dev d)) ∧
  (∀ (s : State) (r : Fin 128) (t : Fin 26), s.dev.inspected r = false → s.dev.rstate r ∈ [1, 2, 3] →
    Completes (.tsFlush r t) s (fun d => Answered d .perm ∧ OnlyChanges [] [.ans] s.dev d)) ∧
  (∀ (s : State) (r : Fin 128) (t : Fin 26), s.dev.inspected r = false → Completes (.tsClrStats r t) s (fun d =>
    d.get (TS_DISCARD_ENTRIES r t) = 0 ∧ d.get (TS_DROP_TOKENS r t) = 0 ∧ d.get (TS_PULSE_DISCARDED r t) = 0 ∧
    d.get (TS_PULSE_LOST r t) = 0 ∧ Answered d .ok ∧
    OnlyChanges [TS_DISCARD_ENTRIES r t, TS_DROP_TOKENS r t, TS_PULSE_DISCARDED r t, TS_PULSE_LOST r t] [.ans] s.dev d))

/-- Chapter 6, pushes: R207, R211 to R216, R226, R240, R243.
Readings that are the model's choice, where a clause rests on one: log entries 12, 13 and 58. -/
def Obligations.QueuePushes : Prop :=
  (∀ (s : State) (r : Fin 128) (t : Fin 10) (q : Fin 16384) (w : Token) (vb : Fin 8) (c : Nat),
    qmBlocked s.dev = none → producerOk s.dev (prodSrc r t) q = true → soundQueue s.dev q = true → s.dev.qm.work = [] → qMode s.dev q = 0 →
    s.dev.get (QD_WM_LEVEL q) = 0 → (s.dev.queue q).openN = 0 → (s.dev.queue q).cells = [c] →
    (s.dev.queue q).ptrA.tail < (s.dev.queue q).base + 8 → Completes (.qpush r t q [w] true vb false) s (fun d =>
      d.queue q = ({ s.dev.queue q with
        words := (s.dev.queue q).words ++ [({
          data := (leBytes 8 w.toNat).take (if vb.val = 0 then 8 else vb.val)
          vb := if vb.val = 0 then 8 else vb.val
          fin := true } : QWord)]
        pktLen := (s.dev.queue q).pktLen + 1 } : QSt).setPtrs { (s.dev.queue q).ptrA with tail := (s.dev.queue q).ptrA.tail + 1 } ∧
      (∀ k : Nat, k ≠ q.val → d.queue k = s.dev.queue k) ∧ d.ctl.ans.code = .ok ∧ d.ctl.ans.data = [1] ∧
      OnlyChanges [QD_STAT_ABOVE q] [.qm, .ans] s.dev d)) ∧
  (∀ (s : State) (r : Fin 128) (t : Fin 10) (q : Fin 16384) (w : Token) (vb : Fin 8) (c : Nat),
    qmBlocked s.dev = none → producerOk s.dev (prodSrc r t) q = true → soundQueue s.dev q = true → s.dev.qm.work = [] → qMode s.dev q = 0 →
    s.dev.get (QD_WM_LEVEL q) = 0 → (s.dev.queue q).openN = 0 → (s.dev.queue q).cells = [c] →
    (s.dev.queue q).ptrA.tail = (s.dev.queue q).base + 8 → s.dev.get (QD_CFG_MAX_CELLS q) = 1 →
    Completes (.qpush r t q [w] true vb false) s (fun d =>
      d.get (QD_DROP_WORDS q) = Nat.min (s.dev.get (QD_DROP_WORDS q) + 1) (2 ^ 32 - 1) ∧ d.get (QD_STAT_OVERRUN q) = 1 ∧
      d.qm = { s.dev.qm with turn := d.qm.turn } ∧ d.ctl.ans.code = .ok ∧ d.ctl.ans.data = [0] ∧
      OnlyChanges [QD_STAT_ABOVE q, QD_DROP_WORDS q, QD_STAT_OVERRUN q, QM_IRQ_CAUSE_ATTN] [.ans, .qm] s.dev d)) ∧
  (∀ (s : State) (r : Fin 128) (t : Fin 10) (q : Fin 16384) (w : Token) (ws : List Token) (eop : Bool) (vb : Fin 8) (o : QSource),
    qmBlocked s.dev = none → producerOk s.dev (prodSrc r t) q = true → soundQueue s.dev q = true → s.dev.qm.work = [] → qMode s.dev q = 1 →
    (s.dev.queue q).lock = some o → o ≠ prodSrc r t → (s.dev.queue q).discard = [] →
    Completes (.qpush r t q (w :: ws) eop vb false) s (fun d =>
      d.ctl.ans.code = .retry ∧ d.ctl.ans.data = [0] ∧ OnlyChanges [] [.ans] s.dev d)) ∧
  (∀ (s : State) (r : Fin 128) (t : Fin 10) (q : Fin 16384) (w : Token) (ws : List Token) (eop : Bool) (vb : Fin 8),
    qmBlocked s.dev ≠ some .closed → producerOk s.dev (prodSrc r t) q = false → s.dev.qm.work = [] → Completes (.qpush r t q (w :: ws) eop vb false) s (fun d =>
      d.ctl.ans.code = .perm ∧ d.ctl.ans.data = [0] ∧ OnlyChanges [] [.ans] s.dev d)) ∧
  (∀ (s : State) (r : Fin 128) (t : Fin 10) (q : Fin 16384) (w : Token) (ws : List Token) (eop seat : Bool) (vb : Fin 8),
    s.dev.get QM_STATUS_STATE = 2 → producerOk s.dev (prodSrc r t) q = true → s.dev.qm.work = [] → Completes (.qpush r t q (w :: ws) eop vb seat) s (fun d =>
      d.ctl.ans.code = .retry ∧ d.ctl.ans.data = [0] ∧ OnlyChanges [] [.ans] s.dev d)) ∧
  (∀ (s : State) (q : Fin 16384) (vb : Fin 8) (c : Nat),
    s.dev.get QM_STATUS_STATE = 0 → producerOk s.dev (0x5C, 0) q = true → soundQueue s.dev q = true → s.dev.qm.hostTill ≤ s.dev.tb → qMode s.dev q = 0 →
    s.dev.get (QD_WM_LEVEL q) = 0 → (s.dev.queue q).openN = 0 → (s.dev.queue q).cells = [c] →
    (s.dev.queue q).ptrA.tail < (s.dev.queue q).base + 8 → Completes (.hostPush q true vb) s (fun d =>
      (d.queue q).words = (s.dev.queue q).words ++ [({
        data := (leBytes 8 (s.dev.get (QM_HOST_DATA_DATA 0) + 2 ^ 32 * s.dev.get (QM_HOST_DATA_DATA 1))).take (if vb.val = 0 then 8 else vb.val)
        vb := if vb.val = 0 then 8 else vb.val
        fin := true } : QWord)] ∧
      (d.queue q).ptrA.tail = (s.dev.queue q).ptrA.tail + 1 ∧ d.get QM_HOST_STAT_RESP = Resp.ok.code ∧ d.tb < d.qm.hostTill ∧
      Answered d .ok ∧ OnlyChanges [QD_STAT_ABOVE q, QM_HOST_STAT_RESP] [.qm, .fresh, .ans] s.dev d)) ∧
  (∀ (s : State) (q : Fin 16384) (eop : Bool) (vb : Fin 8) (c : Instr), c ∈ [Instr.hostPush q eop vb, .hostPop q] →
    s.dev.get QM_STATUS_STATE ≠ 1 → s.dev.tb < s.dev.qm.hostTill →
    Completes c s (fun d => Answered d .retry ∧ OnlyChanges [] [.ans] s.dev d))

/-- Chapter 6, pops, marks and commits: R211, R215, R220, R222 to R225, R243.
Readings that are the model's choice, where a clause rests on one: log entries 12 and 58. -/
def Obligations.QueuePops : Prop :=
  (∀ (s : State) (r : Fin 128) (t : Fin 10) (q : Fin 16384) (w : QWord) (rest : List QWord) (c : Nat),
    qmBlocked s.dev = none → consumerOk s.dev (consSrc r t) q = true → soundQueue s.dev q = true → s.dev.qm.work = [] →
    s.dev.get (QD_WM_LEVEL q) = 0 → (s.dev.queue q).cells = [c] → (s.dev.queue q).visible (qMode s.dev q) = w :: rest →
    w.flaws = [] → w.tagFlaw = .none → Completes (.qpop r t q 1 false false none) s (fun d =>
      d.queue q = (s.dev.queue q).setPtrs { (s.dev.queue q).ptrA with rd := (s.dev.queue q).ptrA.rd + 1 } ∧
      (∀ k : Nat, k ≠ q.val → d.queue k = s.dev.queue k) ∧
      d.ctl.ans.code = .ok ∧ d.ctl.ans.data = 1 :: (wordTokens w).map (·.toNat) ∧
      OnlyChanges [QD_STAT_ABOVE q] [.qm, .ans] s.dev d)) ∧
  (∀ (s : State) (r : Fin 128) (t : Fin 10) (q : Fin 16384) (n : Fin 64) (whole : Bool),
    qmBlocked s.dev = none → consumerOk s.dev (consSrc r t) q = true → soundQueue s.dev q = true → s.dev.qm.work = [] →
    (s.dev.queue q).visible (qMode s.dev q) = [] → Completes (.qpop r t q n whole false none) s (fun d =>
      d.ctl.ans.code = .ok ∧ d.ctl.ans.data = [0] ∧ d.qm.queues = s.dev.qm.queues ∧ OnlyChanges [] [.ans, .qm] s.dev d)) ∧
  (∀ (s : State) (r : Fin 128) (t : Fin 10) (q : Fin 16384) (c : Instr),
    c ∈ [Instr.qpop r t q 1 false false none, .qmark r t q false, .qrewind r t q false, .qrelease r t q false] →
    qmBlocked s.dev ≠ some .closed → consumerOk s.dev (consSrc r t) q = false → s.dev.qm.work = [] → Completes c s (fun d =>
      Answered d .perm ∧ OnlyChanges [] [.ans] s.dev d)) ∧
  (∀ (s : State) (r : Fin 128) (t : Fin 10) (q : Fin 16384) (c : Nat),
    qmBlocked s.dev = none → consumerOk s.dev (consSrc r t) q = true → soundQueue s.dev q = true → s.dev.qm.work = [] →
    s.dev.get (QD_WM_LEVEL q) = 0 → (s.dev.queue q).cells = [c] →
    Completes (.qmark r t q false) s (fun d =>
      d.queue q = (s.dev.queue q).setPtrs { (s.dev.queue q).ptrA with mark := some (s.dev.queue q).ptrA.rd } ∧
      Answered d .ok ∧ OnlyChanges [QD_STAT_ABOVE q] [.qm, .ans] s.dev d) ∧
    Completes (.qrelease r t q false) s (fun d =>
      d.queue q = (s.dev.queue q).setPtrs { (s.dev.queue q).ptrA with mark := none } ∧
      Answered d .ok ∧ OnlyChanges [QD_STAT_ABOVE q] [.qm, .ans] s.dev d)) ∧
  (∀ (s : State) (r : Fin 128) (t : Fin 10) (q : Fin 16384) (m : Nat),
    qmBlocked s.dev = none → consumerOk s.dev (consSrc r t) q = true → soundQueue s.dev q = true → s.dev.qm.work = [] →
    s.dev.get (QD_WM_LEVEL q) = 0 → (s.dev.queue q).ptrA.mark = some m → Completes (.qrewind r t q false) s (fun d =>
      d.queue q = (s.dev.queue q).setPtrs { (s.dev.queue q).ptrA with rd := m } ∧
      Answered d .ok ∧ OnlyChanges [QD_STAT_ABOVE q] [.qm, .ans] s.dev d)) ∧
  (∀ (s : State) (r : Fin 128) (t : Fin 10) (q : Fin 16384),
    qmBlocked s.dev = none → producerOk s.dev (prodSrc r t) q = true → soundQueue s.dev q = true → s.dev.qm.work = [] → qMode s.dev q = 2 →
    s.dev.get (QD_WM_LEVEL q) = 0 → (s.dev.queue q).lock = some (prodSrc r t) → (s.dev.queue q).failed = false →
    Completes (.qcommit r t q false false) s (fun d =>
      (d.queue q).ptrA = { (s.dev.queue q).ptrA with commit := (s.dev.queue q).ptrA.tail } ∧ (d.queue q).ptrB = (d.queue q).ptrA ∧
      (d.queue q).lock = none ∧ (d.queue q).words.length = (s.dev.queue q).words.length ∧
      ((d.queue q).words.getLast?.map (·.fin)) = (s.dev.queue q).words.getLast?.map (fun _ => true) ∧
      d.ctl.ans.code = .ok ∧ d.ctl.ans.data = [(s.dev.queue q).pktLen] ∧ OnlyChanges [QD_STAT_ABOVE q] [.qm, .ans] s.dev d)) ∧
  (∀ (s : State) (r : Fin 128) (t : Fin 10) (q : Fin 16384),
    qmBlocked s.dev = none → producerOk s.dev (prodSrc r t) q = true → soundQueue s.dev q = true → s.dev.qm.work = [] → qMode s.dev q = 2 →
    s.dev.get (QD_WM_LEVEL q) = 0 → (s.dev.queue q).lock = some (prodSrc r t) → Completes (.qcommit r t q true false) s (fun d =>
      (d.queue q).ptrA = { (s.dev.queue q).ptrA with tail := (s.dev.queue q).ptrA.commit } ∧ (d.queue q).lock = none ∧
      (d.queue q).words = (s.dev.queue q).words.take ((s.dev.queue q).ptrA.commit - (s.dev.queue q).base) ∧
      d.ctl.ans.code = .ok ∧ d.ctl.ans.data = [0] ∧
      OnlyChanges [QD_STAT_ABOVE q, QM_IRQ_CAUSE_POOL_LOW] [.qm, .ans] s.dev d)) ∧
  (∀ (s : State) (q : Fin 16384), s.dev.get QM_STATUS_STATE = 0 → consumerOk s.dev (0x5C, 0) q = true →
    soundQueue s.dev q = true → s.dev.qm.hostTill ≤ s.dev.tb → (s.dev.queue q).visible (qMode s.dev q) = [] → Completes (.hostPop q) s (fun d =>
      d.get QM_HOST_STAT_EMPTY = 1 ∧ d.get QM_HOST_STAT_RESP = Resp.ok.code ∧ Answered d .ok ∧
      d.qm = { s.dev.qm with hostTill := d.qm.hostTill } ∧
      OnlyChanges [QM_HOST_STAT_EMPTY, QM_HOST_STAT_RESP] [.qm, .fresh, .ans] s.dev d)) ∧
  (∀ (s : State) (q : Fin 16384) (w : QWord) (rest : List QWord) (c : Nat), s.dev.get QM_STATUS_STATE = 0 →
    consumerOk s.dev (0x5C, 0) q = true → soundQueue s.dev q = true → s.dev.qm.hostTill ≤ s.dev.tb → s.dev.get (QD_WM_LEVEL q) = 0 →
    (s.dev.queue q).cells = [c] → (s.dev.queue q).visible (qMode s.dev q) = w :: rest → w.flaws = [] → w.tagFlaw = .none →
    Completes (.hostPop q) s (fun d =>
      d.queue q = (s.dev.queue q).setPtrs { (s.dev.queue q).ptrA with rd := (s.dev.queue q).ptrA.rd + 1 } ∧
      (∀ k : Nat, k ≠ q.val → d.queue k = s.dev.queue k) ∧
      (∀ i : Nat, i < 8 → d.get (QM_HOST_DATA_DATA i) = leNat ((w.data.drop (4 * i)).take 4)) ∧
      d.get QM_HOST_STAT_END = b2n w.fin ∧ d.get QM_HOST_STAT_TRUNC = b2n w.trunc ∧ d.get QM_HOST_STAT_ERR = b2n w.err ∧
      d.get QM_HOST_STAT_VB = w.vb % 2 ^ QM_HOST_STAT_VB.w ∧ d.get QM_HOST_STAT_EMPTY = 0 ∧
      d.get QM_HOST_STAT_RESP = Resp.ok.code ∧ d.tb < d.qm.hostTill ∧ Answered d .ok ∧
      OnlyChanges ([QD_STAT_ABOVE q.val, QM_HOST_STAT_END, QM_HOST_STAT_TRUNC, QM_HOST_STAT_ERR, QM_HOST_STAT_VB,
        QM_HOST_STAT_EMPTY, QM_HOST_STAT_RESP] ++ (List.range 8).map QM_HOST_DATA_DATA) [.qm, .fresh, .ans] s.dev d))

/-- Chapter 6: R232, R237 to R243, R248, R254.
Readings that are the model's choice, where a clause rests on one: log entries 1, 12 and 58. -/
def Obligations.QueueCommands : Prop :=
  (∀ (s : State) (q : Fin 16384), s.dev.get QM_STATUS_STATE = 0 → s.dev.qm.cmdTill ≤ s.dev.tb → soundQueue s.dev q = true → nextGenBusy s.dev q = false → s.dev.get (QD_STAT_ABOVE q) = 0 →
    Completes (.queueReset q) s (fun d =>
      d.queue q = { gen := ((s.dev.queue q).gen + 1) % 256 } ∧ (∀ k : Nat, k ≠ q.val → d.queue k = s.dev.queue k) ∧
      d.qm.pool = quarantine q (s.dev.queue q).gen (s.dev.queue q).cells s.dev.qm.pool ∧ d.get QM_Q_CMD_STAT_RESULT = Resp.ok.code ∧ Answered d .ok ∧
      OnlyChanges [QM_Q_CMD_STAT_ABORT_LATE, QM_Q_CMD_STAT_RESULT] [.qm, .fresh, .ans] s.dev d)) ∧
  (∀ (s : State) (q : Fin 16384) (o : QSource), s.dev.get QM_STATUS_STATE = 0 → s.dev.qm.cmdTill ≤ s.dev.tb → soundQueue s.dev q = true → (s.dev.queue q).lock = some o → qMode s.dev q = 1 →
    Completes (.abortPkt q) s (fun d =>
      (d.queue q).lock = none ∧ (d.queue q).discard = o :: (s.dev.queue q).discard ∧ (d.queue q).ptrA = (s.dev.queue q).ptrA ∧
      ((d.queue q).words.getLast?.map (fun w => (w.fin, w.trunc))) = (s.dev.queue q).words.getLast?.map (fun _ => (true, true)) ∧
      d.get (QD_STAT_TRUNC q) = 1 ∧ Answered d .ok ∧
      OnlyChanges [QM_Q_CMD_STAT_ABORT_LATE, QM_Q_CMD_STAT_RESULT, QD_STAT_TRUNC q] [.qm, .fresh, .ans] s.dev d)) ∧
  (∀ (s : State) (q : Fin 16384), s.dev.get QM_STATUS_STATE = 0 → s.dev.qm.cmdTill ≤ s.dev.tb → soundQueue s.dev q = true → Completes (.qClrStats q) s (fun d =>
      d.get (QD_DROP_WORDS q) = 0 ∧ d.get (QD_STAT_WM_COUNT q) = 0 ∧ Answered d .ok ∧
      d.qm = { s.dev.qm with cmdTill := d.qm.cmdTill } ∧
      OnlyChanges [QM_Q_CMD_STAT_ABORT_LATE, QM_Q_CMD_STAT_RESULT, QD_DROP_WORDS q, QD_STAT_WM_COUNT q] [.qm, .fresh, .ans] s.dev d)) ∧
  (∀ (s : State) (q : Fin 16384) (c : Instr), c ∈ [Instr.queueReset q, .abortPkt q, .qClrStats q] →
    s.dev.get QM_STATUS_STATE ≠ 1 → s.dev.tb < s.dev.qm.cmdTill →
    Completes c s (fun d => Answered d .retry ∧ OnlyChanges [] [.ans] s.dev d)) ∧
  (∀ s : State, s.dev.get QM_STATUS_STATE = 2 → Completes .qmInitDone s (fun d =>
    d.get QM_STATUS_STATE = 0 ∧ d.qm = { s.dev.qm with lowArm := d.qm.lowArm } ∧ OnlyChanges [QM_STATUS_STATE] [.qm] s.dev d)) ∧
  (∀ (s : State) (c : PCell), s.dev.qm.sweepPos + 1 < 262144 → sget none s.dev.qm.pool s.dev.qm.sweepPos = some c → c.owner = .none →
    c.gen ≠ (s.dev.queue c.q).gen → Completes .poolSweep s (fun d =>
      sget none d.qm.pool s.dev.qm.sweepPos = none ∧ d.qm.sweepPos = s.dev.qm.sweepPos + 1 ∧
      (∀ k : Nat, k ≠ s.dev.qm.sweepPos → sget none d.qm.pool k = sget none s.dev.qm.pool k) ∧ d.qm.queues = s.dev.qm.queues ∧
      d.get QM_SWEEP_FREED_CELLS = Nat.min (s.dev.get QM_SWEEP_FREED_CELLS + 1) (2 ^ 32 - 1) ∧
      OnlyChanges [QM_SWEEP_FREED_CELLS, QM_IRQ_CAUSE_POOL_LOW] [.qm] s.dev d)) ∧
  (∀ s : State, s.dev.qm.sweepPos + 1 < 262144 → sget none s.dev.qm.pool s.dev.qm.sweepPos = none → Completes .poolSweep s (fun d =>
    d.qm = { s.dev.qm with sweepPos := s.dev.qm.sweepPos + 1 } ∧ OnlyChanges [] [.qm] s.dev d)) ∧
  (∀ (s : State) (q : Fin 16384) (v : Word), s.dev.get QM_STATUS_STATE ≠ 1 → s.dev.get (QD_CFG_EN q) = 1 → bitAt v.toNat 31 = true →
    limitTo (.zeroAt 3) (bitsAt v.toNat 29 2) ≠ s.dev.get (QD_CFG_MODE q) → Completes (.qdCfgWrite q v) s (fun d =>
      Answered d .perm ∧ OnlyChanges [] [.ans] s.dev d)) ∧
  (∀ (s : State) (q : Fin 16384) (v : Word), s.dev.get QM_STATUS_STATE ≠ 1 → s.dev.get (QD_CFG_EN q) = 0 →
    s.dev.get (QD_BIND_CONS q) < 0x58 → Completes (.qdCfgWrite q v) s (fun d =>
      d.get (QD_CFG_EN q) = bitsAt v.toNat 31 1 ∧ d.get (QD_CFG_MODE q) = (if bitsAt v.toNat 29 2 = 3 then 0 else bitsAt v.toNat 29 2) ∧
      d.get (QD_CFG_MAX_CELLS q) = bitsAt v.toNat 0 18 ∧ Answered d .ok ∧ d.qm = s.dev.qm ∧
      OnlyChanges [QD_CFG_EN q, QD_CFG_MODE q, QD_CFG_PACK q, QD_CFG_WM_IRQ q, QD_CFG_KEY_EN q, QD_CFG_KEY_IDX q,
        QD_CFG_MAX_CELLS q, QM_IRQ_CAUSE_ATTN] [.ans] s.dev d)) ∧
  (∀ (s : State) (q : Fin 16384) (level : BitVec 22), s.dev.get QM_STATUS_STATE ≠ 1 → Completes (.watermarkLevelWrite q level) s (fun d =>
    d.get (QD_WM_LEVEL q) = level.toNat ∧
    d.get (QD_STAT_ABOVE q) = (if level.toNat ≠ 0 ∧ level.toNat ≤ (s.dev.queue q).occ then 1 else 0) ∧ Answered d .ok ∧
    OnlyChanges [QD_WM_LEVEL q, QD_STAT_ABOVE q] [.out, .ans] s.dev d)) ∧
  (∀ (s : State) (level : BitVec 19), s.dev.get QM_STATUS_STATE ≠ 1 → Completes (.poolLowLevelWrite level) s (fun d =>
    d.get QM_POOL_LOW_LEVEL = level.toNat ∧ d.qm = { s.dev.qm with lowArm := decide (level.toNat ≤ poolFree s.dev) } ∧ Answered d .ok ∧
    OnlyChanges [QM_POOL_LOW_LEVEL] [.qm, .ans] s.dev d))

/-- Chapter 7: R271 to R277, R262, and R304.
Readings that are the model's choice, where a clause rests on one: log entries 1, 2 and 21. -/
def Obligations.MemoryRequests : Prop :=
  (∀ (s : State) (r : Fin 128) (t : Fin 10) (f : Fin 256) (off : Word) (len : Fin 64) (seat : Bool),
    (s.dev.get (XF_CFG_EN f) = 0 ∨ ringRight s.dev r f false = false) → off.toNat % 8 = 0 → off.toNat + 8 * len.val ≤ fileBytes s.dev f →
    fileStart s.dev f + off.toNat + 8 * len.val ≤ 4096 * usablePages s.dev →
    ctlCode s.dev (ctlsOf s.dev (fileStart s.dev f + off.toNat) (8 * len.val)) = .ok → Completes (.xrd r t f off len seat) s (fun d =>
      d.ctl.ans.code = .perm ∧ d.ctl.ans.data = 0 :: List.replicate len.val 0 ∧
      d.get (XM_RING_STAT_DENIED r) = Nat.min (s.dev.get (XM_RING_STAT_DENIED r) + 1) 65535 ∧
      OnlyChanges [XM_RING_STAT_DENIED r] [.ans] s.dev d)) ∧
  (∀ (s : State) (r : Fin 128) (t : Fin 10) (f : Fin 256) (off : Word) (len : Fin 64) (seat : Bool),
    s.dev.get (XF_CFG_EN f) = 1 → ringRight s.dev r f false = true → off.toNat % 8 ≠ 0 →
    ctlCode s.dev (ctlsOf s.dev (fileStart s.dev f + off.toNat) (8 * len.val)) = .ok → Completes (.xrd r t f off len seat) s (fun d =>
      d.ctl.ans.code = .addr ∧ d.ctl.ans.data = 0 :: List.replicate len.val 0 ∧ OnlyChanges [] [.ans] s.dev d)) ∧
  (∀ (s : State) (r : Fin 128) (t : Fin 10) (f : Fin 256) (off : Word) (seat : Bool) (c : Instr),
    c ∈ [Instr.xrd r t f off 0 seat, Instr.xwr r t f off [] seat] →
    s.dev.get (XF_CFG_EN f) = 1 → (∀ w : Bool, ringRight s.dev r f w = true) → off.toNat % 8 = 0 → off.toNat ≤ fileBytes s.dev f →
    fileStart s.dev f + off.toNat ≤ 4096 * usablePages s.dev →
    Completes c s (fun d => d.ctl.ans.code = .ok ∧ d.ctl.ans.data = [0] ∧ OnlyChanges [] [.ans] s.dev d)) ∧
  (∀ (s : State) (r : Fin 128) (t : Fin 10) (f : Fin 256) (off : Word),
    s.dev.get (XF_CFG_EN f) = 1 → ringRight s.dev r f false = true → off.toNat % 8 = 0 → off.toNat + 8 ≤ fileBytes s.dev f →
    fileStart s.dev f + off.toNat + 8 ≤ 4096 * usablePages s.dev →
    fileEnc s.dev f = false → ctlCode s.dev (ctlsOf s.dev (fileStart s.dev f + off.toNat) 8) = .ok →
    Completes (.xrd r t f off 1 false) s (fun d =>
      d.xm.reqs = s.dev.xm.reqs ++ [({
        src := 16 * r.val + t.val
        who := .bare
        addr := fileStart s.dev f + off.toNat
        words := 1
        parts := [{
          ctl := ctlOf s.dev (fileStart s.dev f + off.toNat)
          file := f.val
          epoch := s.dev.get (CF_CTRL_EPOCH f)
          addr := fileStart s.dev f + off.toNat
          len := 8
          dyn := 1 }] } : XReq)] ∧
      d.xm.mem = s.dev.xm.mem ∧ OnlyChanges [] [.xm] s.dev d)) ∧
  (∀ (s : State) (r : Fin 128) (t : Fin 10) (f : Fin 256) (off : Word) (w : Token),
    s.dev.get (XF_CFG_EN f) = 1 → ringRight s.dev r f true = true → off.toNat % 8 = 0 → off.toNat + 8 ≤ fileBytes s.dev f →
    fileStart s.dev f + off.toNat + 8 ≤ 4096 * usablePages s.dev →
    fileEnc s.dev f = false → ctlCode s.dev (ctlsOf s.dev (fileStart s.dev f + off.toNat) 8) = .ok →
    Completes (.xwr r t f off [w] false) s (fun d =>
      d.xm.reqs = s.dev.xm.reqs ++ [({
        src := 16 * r.val + t.val
        who := .bare
        addr := fileStart s.dev f + off.toNat
        data := some (leBytes 8 w.toNat)
        words := 1
        parts := [{
          ctl := ctlOf s.dev (fileStart s.dev f + off.toNat)
          file := f.val
          epoch := s.dev.get (CF_CTRL_EPOCH f)
          addr := fileStart s.dev f + off.toNat
          len := 8
          dyn := 1 }] } : XReq)] ∧
      d.xm.mem = s.dev.xm.mem ∧ OnlyChanges [] [.xm] s.dev d)) ∧
  (∀ (s : State) (n : Fin 8) (q : XReq) (x : XPart), xmcState s.dev n = 2 → s.dev.xm.reqs = [q] → q.parts = [x] → q.who = .bare →
    q.data = none → q.words = 1 → q.addr = x.addr → x.ctl = n.val → x.key = none → x.len = 8 → x.addr % 8 = 0 → x.seated = 1 → x.dyn = 0 →
    x.waits = false → x.code = none → opHolds s.dev x = false → sget 0 s.dev.xm.mem.modes (placeOf s.dev x.addr / 8) = 1 →
    sget Flaw.none s.dev.xm.mem.flaws (placeOf s.dev x.addr / 8) = .none →
    Completes (.transactionGrant n) s (fun d =>
      d.xm.reqs = [] ∧ d.xm.mem = s.dev.xm.mem ∧ d.ctl.ans.code = .ok ∧ d.ctl.ans.data = [1, rdLe s.dev.xm.mem.cells (placeOf s.dev x.addr) 8] ∧
      OnlyChanges [] [.xm, .ans] s.dev d)) ∧
  (∀ (s : State) (n : Fin 8) (q : XReq) (x : XPart) (bs : List Byte), xmcState s.dev n = 2 → s.dev.xm.reqs = [q] → q.parts = [x] →
    q.who = .bare → q.data = some bs → bs.length = 8 → q.addr = x.addr → x.ctl = n.val → x.key = none → x.len = 8 → x.addr % 8 = 0 →
    x.seated = 1 → x.dyn = 0 → x.waits = false → x.code = none → opHolds s.dev x = false → Completes (.transactionGrant n) s (fun d =>
      d.xm.reqs = [] ∧ rdBytes d.xm.mem.cells (placeOf s.dev x.addr) 8 = bs ∧
      SameBytesBut s.dev.xm.mem.cells d.xm.mem.cells (placeOf s.dev x.addr) 8 ∧
      d.ctl.ans.code = .ok ∧ d.ctl.ans.data = [1] ∧ OnlyChanges [] [.xm, .ans] s.dev d)) ∧
  (∀ (s : State) (n : Fin 8), xmcState s.dev n = 2 → s.dev.xm.reqs = [] → sget 0 s.dev.xm.drift n ≠ 0 →
    Completes (.transactionGrant n) s (fun d =>
      d.xm = { s.dev.xm with drift := sset 0 s.dev.xm.drift n (sget 0 s.dev.xm.drift n - 1) } ∧ OnlyChanges [] [.xm] s.dev d)) ∧
  (∀ (s : State) (n : Fin 8), xmcState s.dev n ≠ 2 → Completes (.transactionGrant n) s (fun d => OnlyChanges [] [] s.dev d)) ∧
  (∀ (s : State) (q : XReq) (x : XPart) (bs : List Byte) (k tag own : Nat), s.dev.xm.reqs = [q] → q.parts = [x] → q.who = .bare →
    q.data = some bs → bs.length = 64 → q.addr = x.addr → x.addr % 64 = 0 → x.len = 64 → x.key = some own → x.waits = true → x.code = none →
    willRewrite s.dev (x.addr / 4096) (x.addr / 64 % 64) = false → (csEntry s.dev (x.addr / 4096)).flaws = [] →
    (csEntry s.dev (x.addr / 4096)).poison = false → lineMinor (csEntry s.dev (x.addr / 4096)) (x.addr / 64 % 64) < 63 →
    writeKey s.dev x.file own x.epoch (x.addr / 64) = (k, tag) → slotServes s.dev k 0 = true → Completes .writeResume s (fun d =>
      d.xm.reqs = [] ∧ d.get CX_IRQ_CAUSE_REENC_WAIT = 1 ∧ d.ctl.ans.code = .ok ∧ d.ctl.ans.data = [8] ∧
      lineMinor (csEntry d (x.addr / 4096)) (x.addr / 64 % 64) = lineMinor (csEntry s.dev (x.addr / 4096)) (x.addr / 64 % 64) + 1 ∧
      sget 0 d.xm.mem.tags (placeOf s.dev x.addr / 64) = tag ∧ OnlyChanges [CX_IRQ_CAUSE_REENC_WAIT] [.xm, .cx, .ans] s.dev d))

/-- Chapter 7: R260 to R263, R269, R288, R316.
Readings that are the model's choice, where a clause rests on one: log entries 1, 19 and 60. -/
def Obligations.FilesAndTraining : Prop :=
  (∀ (s : State) (f : Fin 256) (hr hw : Bool) (k : Fin 64), s.dev.get (XF_CFG_EN f) = 0 → fileFits s.dev f false k = true →
    Completes (.fileEnable f false hr hw k) s (fun d =>
      d.get (XF_CFG_EN f) = 1 ∧ d.get (XF_CFG_MODE f) = 0 ∧ d.get (XF_CFG_HOST_R f) = b2n hr ∧ d.get (XF_CFG_HOST_W f) = b2n hw ∧
      d.get (XF_CFG_KEY_IDX f) = k.val ∧ Answered d .ok ∧
      OnlyChanges [XF_CFG_EN f, XF_CFG_MODE f, XF_CFG_HOST_R f, XF_CFG_HOST_W f, XF_CFG_KEY_IDX f] [.ans] s.dev d)) ∧
  (∀ (s : State) (f : Fin 256) (enc hr hw : Bool) (k : Fin 64), s.dev.get (XF_CFG_EN f) = 0 → fileFits s.dev f enc k = false →
    Completes (.fileEnable f enc hr hw k) s (fun d =>
      d.get XM_STATUS_FILE_ERR = 1 ∧ Answered d .perm ∧ OnlyChanges [XM_STATUS_FILE_ERR] [.ans] s.dev d)) ∧
  (∀ (s : State) (f : Fin 256), s.dev.get (XF_CFG_EN f) = 1 → s.dev.get (XF_CFG_MODE f) = 0 → cfState s.dev f = 0 →
    Completes (.fileDisable f) s (fun d => d.get (XF_CFG_EN f) = 0 ∧
      d.cx = { s.dev.cx with migrated := s.dev.cx.migrated.filter (· != f.val) } ∧ Answered d .ok ∧
      OnlyChanges [XF_CFG_EN f] [.cx, .ans] s.dev d)) ∧
  (∀ (s : State) (n : Fin 8), n.val < popCount s.dev → xmcState s.dev n = 0 → s.dev.get (XMC_CTRL_EN n) = 0 →
    Completes (.trainingStart n) s (fun d =>
      d.get (XMC_STATUS_STATE n) = 1 ∧ d.get (XMC_STATUS_STEP n) = 1 ∧ d.get (XMC_CTRL_EN n) = 1 ∧
      d.get (XMC_STATUS_WARM n) = s.dev.get (XMC_TRAIN_SUM_VALID n) ∧ Answered d .ok ∧
      OnlyChanges [XMC_CTRL_EN n, XMC_STATUS_STATE n, XMC_STATUS_STEP n, XMC_STATUS_WARM n, XMC_STATUS_RETRAINED n] [.ans] s.dev d)) ∧
  (∀ (s : State) (n step : Fin 8) (re : Bool) (rdLat eye : BitVec 8) (dly : List (BitVec 8 × BitVec 8)),
    xmcState s.dev n = 1 → s.dev.get (XMC_STATUS_WARM n) = 0 → s.dev.get (XMC_CTRL_EN n) = 1 →
    Completes (.trainingDone n true re step rdLat eye dly) s (fun d =>
      d.get (XMC_STATUS_STATE n) = 2 ∧ d.get (XMC_TRAIN_SUM_RD_LAT n) = rdLat.toNat ∧ d.get (XMC_TRAIN_SUM_EYE_MIN n) = eye.toNat ∧
      d.get (XMC_TRAIN_SUM_VALID n) = 1 ∧ d.get (XMC_IRQ_CAUSE_TRAIN_DONE n) = 1 ∧ SameParts [.xm] s.dev d)) ∧
  (∀ (s : State) (n step : Fin 8) (re : Bool) (rdLat eye : BitVec 8) (dly : List (BitVec 8 × BitVec 8)),
    xmcState s.dev n = 1 → s.dev.get (XMC_STATUS_WARM n) = 0 → s.dev.get (XMC_CTRL_EN n) = 1 →
    Completes (.trainingDone n false re step rdLat eye dly) s (fun d =>
      d.get (XMC_STATUS_STATE n) = 3 ∧ d.get (XMC_STATUS_STEP n) = step.val ∧ d.get (XMC_TRAIN_SUM_VALID n) = 0 ∧
      d.get (XMC_IRQ_CAUSE_TRAIN_FAIL n) = 1 ∧
      OnlyChanges [XMC_STATUS_STATE n, XMC_STATUS_STEP n, XMC_TRAIN_SUM_VALID n, XMC_IRQ_CAUSE_TRAIN_FAIL n, BBR_LOST_QUEUE] [.bbr] s.dev d)) ∧
  (∀ (s : State) (n : Fin 8) (x : DriftStep), xmcState s.dev n = 2 → Completes (.driftTracking n x) s (fun d =>
    sget 0 d.xm.drift n = sget 0 s.dev.xm.drift n + 16 ∧ d.xm.reqs = s.dev.xm.reqs ∧ d.xm.mem = s.dev.xm.mem ∧
    (∀ i : Nat, i < 72 → sget 0 d.xm.rdNow (72 * n + i) = stepDelay (sget 0 s.dev.xm.rdNow (72 * n + i)) (bitAt x.down.toNat i)
      (bitAt x.up.toNat i)) ∧
    (x.margin.toNat < 40 → d.get (XMC_STATUS_DRIFT_LOW n) = 1 ∧ d.get (XMC_IRQ_CAUSE_DRIFT n) = 1) ∧
    OnlyChanges [XMC_STATUS_DRIFT_LOW n, XMC_IRQ_CAUSE_DRIFT n] [.xm] s.dev d)) ∧
  (∀ (s : State) (n : Fin 8), (xmcState s.dev n = 2 ∨ xmcState s.dev n = 3) → Completes (.retrain n) s (fun d =>
    d.get (XMC_STATUS_STATE n) = 1 ∧ d.get (XMC_STATUS_STEP n) = 3 ∧ d.get (XMC_STATUS_WARM n) = 0 ∧ Answered d .ok ∧
    OnlyChanges [XMC_STATUS_STATE n, XMC_STATUS_STEP n, XMC_STATUS_WARM n, XMC_STATUS_RETRAINED n] [.ans] s.dev d)) ∧
  (∀ (s : State) (n : Fin 8), (xmcState s.dev n = 0 ∨ xmcState s.dev n = 1) → Completes (.retrain n) s (fun d =>
    Answered d .perm ∧ OnlyChanges [] [.ans] s.dev d)) ∧
  (∀ (s : State) (n : Fin 8), xmcState s.dev n ≠ 4 → Completes (.xmcClrEcc n) s (fun d =>
    d.get (XMC_ECC_UE_COUNT n) = 0 ∧ d.get (XMC_ECC_CE_COUNT n) = 0 ∧ d.get (XMC_ECC_ADDR_VALID n) = 0 ∧ Answered d .ok ∧
    OnlyChanges [XMC_ECC_UE_COUNT n, XMC_ECC_CE_COUNT n, XMC_ECC_ADDR_VALID n] [.ans] s.dev d)) ∧
  (∀ (s : State) (n : Fin 8), xmcState s.dev n ≠ 4 → Completes (.xmcClrStats n) s (fun d =>
    d.get (XMC_ARB_ACTIVE_MAX n) = 0 ∧ d.get (XMC_ARB_MAX_WAIT n) = 0 ∧ Answered d .ok ∧
    OnlyChanges [XMC_ARB_ACTIVE_MAX n, XMC_ARB_MAX_WAIT n] [.ans] s.dev d)) ∧
  (∀ (s : State) (n : Fin 8) (c : Instr), c ∈ [Instr.trainingStart n, .retrain n, .xmcClrEcc n, .xmcClrStats n] →
    xmcState s.dev n = 4 → Completes c s (fun d => Answered d .closed ∧ OnlyChanges [] [.ans] s.dev d))

/-- Chapter 8: R12, R293 to R298, R323, R324. -/
def Obligations.KeySlots : Prop :=
  (∀ (s : State) (k : Fin 64) (link : Bool), s.dev.cx.closed = false → ksBusy s.dev = false → slotState s.dev k = 0 →
    Completes (.keyLoad k link) s (fun d =>
      d.cx = { s.dev.cx with load := some (k.val, b2n link), retired := s.dev.cx.retired.filter (· != k.val) } ∧ ksBusy d = true ∧ d.get KS_CMD_STAT_SLOT = k.val ∧
      Answered d .ok ∧
      OnlyChanges [KS_CMD_STAT_ABORT_LATE, KS_CMD_STAT_SLOT, KS_CMD_STAT_RESULT] [.cx, .ans] s.dev d)) ∧
  (∀ (s : State) (k : Fin 64) (link : Bool) (c : Resp), s.dev.cx.closed = false → ksBusy s.dev = false →
    ((slotState s.dev k = 3 ∧ c = .retry) ∨ (slotState s.dev k = 1 ∧ c = .perm) ∨ (slotState s.dev k = 2 ∧ c = .perm)) →
    Completes (.keyLoad k link) s (fun d => d.get KS_CMD_STAT_RESULT = c.code ∧ Answered d c ∧
      OnlyChanges [KS_CMD_STAT_SLOT, KS_CMD_STAT_RESULT] [.ans] s.dev d)) ∧
  (∀ (s : State) (k use : Nat), k < 64 → use < 2 → s.dev.cx.load = some (k, use) → Completes .keyLoadDone s (fun d =>
    keyOf d k = (List.range 8).flatMap (fun i => leBytes 4 (s.dev.get (KS_DATA_KEY i))) ∧ d.cx.load = none ∧
    (∀ j : Nat, j ≠ k → keyOf d j = keyOf s.dev j) ∧ slotState d k = 1 ∧ d.get (KS_STATE_FRESH k) = 1 ∧ d.get (KS_STATE_USE k) = use ∧
    frameCtr d k = 0 ∧ (∀ i : Nat, i < 8 → d.get (KS_DATA_KEY i) = 0) ∧ ksBusy d = false ∧ SameParts [.cx] s.dev d)) ∧
  (∀ (s : State) (k : Fin 64), s.dev.cx.closed = false → ksBusy s.dev = false → slotState s.dev k = 1 →
    Completes (.keyRetire k) s (fun d => slotState d k = 2 ∧ d.cx = { s.dev.cx with retire := some k.val } ∧ ksBusy d = true ∧
      Answered d .ok ∧ OnlyChanges [KS_STATE_STATE k, KS_CMD_STAT_ABORT_LATE, KS_CMD_STAT_SLOT, KS_CMD_STAT_RESULT]
        [.cx, .ans] s.dev d)) ∧
  (∀ (s : State) (k : Fin 64), slotState s.dev k = 2 → slotInFlight s.dev k = false → s.dev.cx.retire = some k.val → s.dev.cx.load = none →
    Completes (.keyDrainDone k) s (fun d =>
      slotState d k = 3 ∧ keyOf d k = [] ∧ frameCtr d k = 0 ∧ (∀ j : Nat, j ≠ k.val → keyOf d j = keyOf s.dev j) ∧ d.cx.retire = none ∧
      ksBusy d = false ∧ d.get CX_IRQ_CAUSE_KEY_DONE = 1 ∧ SameParts [.cx] s.dev d)) ∧
  (∀ (s : State) (k : Fin 64), slotState s.dev k = 3 → Completes (.keyCooldownEnd k) s (fun d =>
    slotState d k = 0 ∧ OnlyChanges [KS_STATE_STATE k] [] s.dev d)) ∧
  (∀ (s : State) (k : Fin 64), s.dev.cx.closed = false → s.dev.cx.load = none → slotState s.dev k = 2 → Completes (.keyAbort k) s (fun d =>
    slotState d k = 1 ∧ keyOf d k = keyOf s.dev k ∧ d.get KS_CMD_STAT_RESULT = Resp.aborted.code ∧ Answered d .ok ∧
    OnlyChanges [KS_STATE_STATE k, KS_CMD_STAT_SLOT, KS_CMD_STAT_RESULT] [.cx, .ans] s.dev d)) ∧
  (∀ (s : State) (mask : BitVec 6), s.dev.cx.closed = false → Completes (.alarmClear mask) s (fun d =>
    (∀ i : Nat, i < 6 → bitAt (d.get SEC_ALARM_CAUSE) i = (bitAt (s.dev.get SEC_ALARM_CAUSE) i && !bitAt mask.toNat i)) ∧
    Answered d .ok ∧ OnlyChanges [SEC_ALARM_CAUSE] [.ans] s.dev d)) ∧
  (∀ s : State, s.dev.cx.closed = false → s.dev.get SEC_CTRL_AUTO_ZERO = 0 → Completes .secTest s (fun d =>
    bitAt (d.get SEC_ALARM_CAUSE) 5 = true ∧ (∀ i : Nat, i < 5 → bitAt (d.get SEC_ALARM_CAUSE) i = bitAt (s.dev.get SEC_ALARM_CAUSE) i) ∧
    Answered d .ok ∧ OnlyChanges [SEC_ALARM_CAUSE, BBR_LOST_QUEUE] [.bbr, .ans] s.dev d))

/-- Chapter 8: R300 to R319.
Readings that are the model's choice, where a clause rests on one: log entries 1, 20, 52 and 59. -/
def Obligations.CountersAndMigration : Prop :=
  (∀ (s : State) (f : Fin 256), s.dev.cx.op = some (.init f.val) → s.dev.cx.inits = [] → s.dev.cx.resets = none →
    Completes (.fileInitDone f) s (fun d =>
      cfState d f = 2 ∧ d.get (CF_HW_LOST f) = 0 ∧ d.get (CF_HW_HW f) = 0 ∧ d.cx.op = none ∧
      (∀ p : Nat, s.dev.get (XF_BASE_BASE f) ≤ p → p < s.dev.get (XF_BASE_BASE f) + s.dev.get (XF_SIZE_SIZE f) → csEntry d p = {}) ∧
      (∀ p : Nat, (p < s.dev.get (XF_BASE_BASE f) ∨ s.dev.get (XF_BASE_BASE f) + s.dev.get (XF_SIZE_SIZE f) ≤ p) →
        csEntry d p = csEntry s.dev p) ∧
      OnlyChanges [CF_CTRL_STATE f, CF_HW_LOST f, CF_HW_HW f] [.cx] s.dev d)) ∧
  (∀ (s : State) (p f v : Nat) (rest : List Nat), s.dev.cx.op = none → s.dev.cx.inits = [] → s.dev.cx.resets = none →
    s.dev.cx.queue = p :: rest → fileOfPage s.dev p = some f → fileEnc s.dev f = true → cfState s.dev f = 2 →
    (csEntry s.dev p).flaws = [] → (csEntry s.dev p).poison = false → (csEntry s.dev p).reenc = false →
    (csEntry s.dev p).major + 1 < 0xFFF000 → s.dev.get (CF_HW_LOST f) = 0 → sget (0, 0, 0) s.dev.cx.hw f = (v, v, v) →
    Completes .pageOperationStart s (fun d =>
      d.cx.op = some (.reenc p) ∧ d.cx.queue = rest ∧
      csEntry d p = { csEntry s.dev p with
        oldMajor := (csEntry s.dev p).major, major := (csEntry s.dev p).major + 1, linePtr := 0, reenc := true, migr := false } ∧
      (∀ k : Nat, k ≠ p → csEntry d k = csEntry s.dev k) ∧
      sget (0, 0, 0) d.cx.hw f = (Nat.max v ((csEntry s.dev p).major + 1), Nat.max v ((csEntry s.dev p).major + 1),
        Nat.max v ((csEntry s.dev p).major + 1)) ∧ SameParts [.cx] s.dev d)) ∧
  (∀ (s : State) (p f k : Nat), s.dev.cx.op = some (.reenc p) → fileOfPage s.dev p = some f → (csEntry s.dev p).flaws = [] →
    (csEntry s.dev p).poison = false → (csEntry s.dev p).reenc = true → (csEntry s.dev p).linePtr < 63 →
    xmcState s.dev (ctlOf s.dev (64 * (64 * p + (csEntry s.dev p).linePtr))) = 2 → migrating s.dev f = false →
    s.dev.get (XF_CFG_KEY_IDX f) = k → slotState s.dev k = 1 →
    opCost s.dev ≤ s.dev.cx.grants → s.dev.get (XF_CFG_EN f) = 1 →
    sget 0 s.dev.xm.mem.tags (placeOf s.dev (64 * (64 * p + (csEntry s.dev p).linePtr)) / 64) = s.dev.get (CF_CTRL_EPOCH f) →
    (∀ i : Nat, i < 8 → sget 0 s.dev.xm.mem.modes (placeOf s.dev (64 * (64 * p + (csEntry s.dev p).linePtr)) / 8 + i) = 2 ∧
      sget Flaw.none s.dev.xm.mem.flaws (placeOf s.dev (64 * (64 * p + (csEntry s.dev p).linePtr)) / 8 + i) = .none) →
    Completes .pageLineRewrite s (fun d =>
      (csEntry d p).linePtr = (csEntry s.dev p).linePtr + 1 ∧ lineMinor (csEntry d p) (csEntry s.dev p).linePtr = 0 ∧
      (csEntry d p).reenc = true ∧ d.cx.op = some (.reenc p) ∧
      sget 0 d.xm.mem.tags (placeOf s.dev (64 * (64 * p + (csEntry s.dev p).linePtr)) / 64) = s.dev.get (CF_CTRL_EPOCH f) ∧
      SameBytesBut s.dev.xm.mem.cells d.xm.mem.cells (placeOf s.dev (64 * (64 * p + (csEntry s.dev p).linePtr))) 64 ∧
      OnlyChanges [] [.cx, .xm] s.dev d)) ∧
  (∀ (s : State) (f : Fin 256), s.dev.cx.closed = false → s.dev.get CX_CMD_STAT_BUSY = 0 → canMigrate s.dev f = true →
    Completes (.rekey f) s (fun d =>
      cfState d f = 3 ∧ d.get (XF_CFG_KEY_IDX f) = s.dev.get (CF_CTRL_NEXT_SLOT f) ∧
      d.get (CF_CTRL_EPOCH f) = (s.dev.get (CF_CTRL_EPOCH f) + 1) % 16 ∧ d.get (CF_CTRL_OLD_EPOCH f) = s.dev.get (CF_CTRL_EPOCH f) ∧
      d.get (CF_CTRL_OLD_SLOT f) = s.dev.get (XF_CFG_KEY_IDX f) ∧ d.get (CF_MIG_POINTER f) = 0 ∧ d.get (CF_HW_HW f) = 0 ∧
      d.get CX_IRQ_CAUSE_CMD_DONE = 1 ∧ Answered d .ok ∧ SameParts [.cx, .ans] s.dev d)) ∧
  (∀ (s : State) (f : Fin 256), s.dev.cx.closed = false → s.dev.get CX_CMD_STAT_BUSY = 0 → canMigrate s.dev f = false →
    (cfState s.dev f = 0 ∨ cfState s.dev f = 2) → Completes (.rekey f) s (fun d =>
      Answered d .perm ∧ OnlyChanges [CX_CMD_STAT_BUSY, CX_CMD_STAT_RESULT, CX_CMD_STAT_ABORT_LATE] [.ans] s.dev d)) ∧
  (∀ (s : State) (f : Fin 256), s.dev.cx.closed = false → s.dev.get CX_CMD_STAT_BUSY = 0 → cfState s.dev f = 3 → s.dev.cx.op = none →
    Completes (.migrationAbort f) s (fun d => cfState d f = 4 ∧ d.get CX_IRQ_CAUSE_CMD_DONE = 1 ∧
      d.get CX_CMD_STAT_RESULT = Resp.aborted.code ∧ Answered d .ok ∧
      OnlyChanges [CF_CTRL_STATE f, CX_CMD_STAT_BUSY, CX_CMD_STAT_RESULT, CX_IRQ_CAUSE_CMD_DONE] [.ans] s.dev d)) ∧
  (∀ (s : State) (f : Fin 256), s.dev.cx.closed = false → s.dev.get CX_CMD_STAT_BUSY = 0 → cfState s.dev f = 4 →
    Completes (.migrationResume f) s (fun d => cfState d f = 3 ∧ d.get CX_IRQ_CAUSE_CMD_DONE = 1 ∧ Answered d .ok ∧
      OnlyChanges [CF_CTRL_STATE f, CX_CMD_STAT_BUSY, CX_CMD_STAT_RESULT, CX_CMD_STAT_ABORT_LATE, CX_IRQ_CAUSE_CMD_DONE] [.ans] s.dev d)) ∧
  (∀ (s : State) (f : Fin 256) (p : Fin 65536), s.dev.cx.closed = false → s.dev.get CX_CMD_STAT_BUSY = 0 →
    fileOfPage s.dev p ≠ some f.val → Completes (.pageReset f p) s (fun d =>
      Answered d .addr ∧ OnlyChanges [CX_CMD_STAT_BUSY, CX_CMD_STAT_RESULT, CX_CMD_STAT_ABORT_LATE] [.ans] s.dev d)) ∧
  (∀ (s : State) (f : Fin 256) (p : Fin 65536) (v : Nat), s.dev.cx.closed = false → s.dev.get CX_CMD_STAT_BUSY = 0 →
    s.dev.get (XF_CFG_EN f) = 1 → fileEnc s.dev f = true → fileOfPage s.dev p = some f.val →
    slotServes s.dev (s.dev.get (XF_CFG_KEY_IDX f)) 0 = true → cfState s.dev f = 2 → s.dev.get (CF_HW_LOST f) = 0 →
    sget (0, 0, 0) s.dev.cx.hw f = (v, v, v) → v + 1 < 2 ^ 24 → s.dev.cx.op = none → s.dev.cx.inits = [] → pageReady s.dev p = true →
    Completes (.pageReset f p) s (fun d =>
      csEntry d p = { major := v + 1 } ∧ (∀ k : Nat, k ≠ p.val → csEntry d k = csEntry s.dev k) ∧ d.get (CF_HW_HW f) = v + 1 ∧
      d.get CX_IRQ_CAUSE_CMD_DONE = 1 ∧ d.get CX_CMD_STAT_RESULT = Resp.ok.code ∧ Answered d .ok ∧
      (∀ x : Nat, (∀ i : Nat, i < 4096 → placeOf s.dev (4096 * p.val + i) ≠ x) →
        rdByte d.xm.mem.cells x = rdByte s.dev.xm.mem.cells x) ∧ SameParts [.cx, .xm, .ans] s.dev d)) ∧
  (∀ s : State, (csEntry s.dev s.dev.cx.sweep).flaws = [] → Completes .counterStoreSweep s (fun d =>
    d.cx = { s.dev.cx with sweep := (s.dev.cx.sweep + 1) % 65536 } ∧ OnlyChanges [] [.cx] s.dev d))

/-- Chapter 9, ports: R333, R336, R344 to R346, R361.
Readings that are the model's choice, where a clause rests on one: log entries 1, 14 and 16. -/
def Obligations.EthernetLinks : Prop :=
  (∀ (s : State) (p : Fin 48) (v : Word), octetClosed s.dev (p / 8) = false → s.dev.get (EP_CFG_EN p) = 0 → bitAt v.toNat 31 = true →
    enableRefused s.dev p (bitsAt v.toNat 27 4) = false → Completes (.portEnable p v) s (fun d =>
      d.get (EP_STATUS_STATE p) = 1 ∧ d.get (EP_CFG_EN p) = 1 ∧ d.get (EP_CFG_MODE p) = bitsAt v.toNat 27 4 ∧
      d.get (EP_CFG_MAX_FRAME p) = Nat.min 16000 (Nat.max 64 (bitsAt v.toNat 0 14)) ∧ Answered d .ok ∧
      OnlyChanges (EP_STATUS_STATE p :: epCfgFlds p) [.ans] s.dev d)) ∧
  (∀ (s : State) (p : Fin 48) (v : Word), octetClosed s.dev (p / 8) = false → s.dev.get (EP_CFG_EN p) = 0 → bitAt v.toNat 31 = true →
    enableRefused s.dev p (bitsAt v.toNat 27 4) = true → Completes (.portEnable p v) s (fun d =>
      d.get (EP_STATUS_CFG_ERR p) = 1 ∧ d.get (EP_IRQ_CAUSE_CFG_ERR p) = 1 ∧ Answered d .perm ∧
      OnlyChanges [EP_STATUS_CFG_ERR p, EP_IRQ_CAUSE_CFG_ERR p] [.ans] s.dev d)) ∧
  (∀ (s : State) (p : Fin 48) (v : Word), octetClosed s.dev (p / 8) = false → s.dev.get (EP_CFG_EN p) = 1 →
    bitsAt v.toNat 27 4 ≠ s.dev.get (EP_CFG_MODE p) → Completes (.portEnable p v) s (fun d =>
      Answered d .perm ∧ OnlyChanges [] [.ans] s.dev d)) ∧
  (∀ (s : State) (p : Fin 48), s.dev.get (EP_STATUS_STATE p) = 1 →
    s.dev.get (EP_STATUS_LINK_UP p) = 0 → Completes (.ethLinkUp p) s (fun d =>
      d.get (EP_STATUS_STATE p) = 2 ∧ d.get (EP_STATUS_LINK_UP p) = 1 ∧ d.get (EP_IRQ_CAUSE_LINK_CHG p) = 1 ∧
      d.get (EP_STATUS_FEC_LOCK p) = (if portMode s.dev p = 11 ∨ portMode s.dev p = 13 then 0 else 1) ∧
      d.get (EP_STATUS_AN_DONE p) = s.dev.get (EP_AN_AN p) ∧ d.get (EP_STATUS_TRAIN_DONE p) = s.dev.get (EP_AN_AN p) ∧
      OnlyChanges [EP_STATUS_STATE p, EP_STATUS_LINK_UP p, EP_IRQ_CAUSE_LINK_CHG p, EP_STATUS_FEC_LOCK p, EP_STATUS_AN_DONE p,
        EP_STATUS_TRAIN_DONE p] [] s.dev d)) ∧
  (∀ (s : State) (p : Fin 48) (t : Nat), s.dev.get (EP_STATUS_STATE p) = 2 → (s.dev.port p).tx = some t → s.dev.tb < t →
    (s.dev.port p).boatq = [] → (s.dev.port p).pause = [] → s.dev.get (EP_STATUS_LINK_UP p) = 1 → Completes (.ethLinkDown p) s (fun d =>
      d.get (EP_STATUS_STATE p) = 1 ∧ d.get (EP_STATUS_LINK_UP p) = 0 ∧ d.get (EP_STATUS_FEC_LOCK p) = 0 ∧
      d.get (EP_STATUS_AN_DONE p) = 0 ∧ d.get (EP_STATUS_TRAIN_DONE p) = 0 ∧ d.get (EP_IRQ_CAUSE_LINK_CHG p) = 1 ∧
      d.get (EP_TX_LOST_FRAMES p) = Nat.min (s.dev.get (EP_TX_LOST_FRAMES p) + 1) (2 ^ 32 - 1) ∧ (d.port p).tx = none ∧
      (d.port p).buf = (s.dev.port p).buf ∧ SameParts [.net] s.dev d)) ∧
  (∀ (s : State) (p : Fin 48) (i : Fin 8), s.dev.get (EP_CFG_PFC_TX p) = 1 → s.dev.get (EP_STATUS_STATE p) = 2 →
    s.dev.get (EP_CLASS_EN p i) = 1 → s.dev.get (QD_STAT_ABOVE (s.dev.get (EP_CLASS_QUEUE p i))) = 1 →
    Completes (.pfcXoffRepeat p i) s (fun d =>
      d.ctl.out = .pause p i Config.pauseTime :: s.dev.ctl.out ∧ OnlyChanges [] [.out] s.dev d)) ∧
  (∀ (s : State) (p : Fin 48) (i t : Nat), (s.dev.port p).pause = [(i, t)] → (s.dev.port p).tx = none →
    Completes (.pauseExpiry p) s (fun d =>
      (d.port p).pause = [] ∧ d.tb = Nat.max s.dev.tb t ∧ d.get (EP_STATUS_PAUSED p) = 0 ∧
      OnlyChanges [EP_STATUS_PAUSED p] [.net, .time] s.dev d)) ∧
  (∀ (s : State) (p : Fin 48) (e : Nat × Nat × Nat) (rest : List (Nat × Nat × Nat)), (s.dev.port p).txts = e :: rest →
    Completes (.txtsPop p) s (fun d =>
      d.ctl.ans.code = .ok ∧ d.ctl.ans.data = [s.dev.get (EP_TXTS3_NS p) * 4 + s.dev.get (EP_TXTS3_QNS p)] ∧
      (d.port p).txts = rest ∧ d.get (EP_TXTS0_VALID p) = (if rest = [] then 0 else 1) ∧
      OnlyChanges [EP_TXTS0_VALID p, EP_TXTS0_TAG p, EP_TXTS1_SEC_LO p, EP_TXTS2_SEC_HI p, EP_TXTS3_NS p, EP_TXTS3_QNS p]
        [.net, .ans] s.dev d))

/-- Chapter 9, frames: R335, R337, R340 to R342, R346.
Readings that are the model's choice, where a clause rests on one: log entries 1, 14, 15 and 16. -/
def Obligations.EthernetFrames : Prop :=
  (∀ (s : State) (p : Fin 48) (i : Fin 4) (bs : List Byte) (tb : BitVec 64), portUp s.dev p = true →
    (bs.length < 64 ∨ s.dev.get (EP_CFG_MAX_FRAME p) < bs.length) → Completes (.rxFrame p i bs tb) s (fun d =>
      d.get (EP_RX_BAD_FRAMES p) = Nat.min (s.dev.get (EP_RX_BAD_FRAMES p) + 1) (2 ^ 32 - 1) ∧ d.get (EP_IRQ_CAUSE_RX_DROP p) = 1 ∧
      OnlyChanges [EP_RX_BAD_FRAMES p, EP_IRQ_CAUSE_RX_DROP p] [] s.dev d)) ∧
  (∀ (s : State) (p : Fin 48) (i : Fin 4) (bs : List Byte) (tb : BitVec 64), portUp s.dev p = true → 64 ≤ bs.length →
    bs.length ≤ s.dev.get (EP_CFG_MAX_FRAME p) → crcGood crc32 bs = true → netNat (bytesAt bs 12 2) ≠ 0x8808 →
    boatOf s.dev p bs = none → s.dev.get (EP_CLASS_EN p (framePrio s.dev p bs)) = 0 → Completes (.rxFrame p i bs tb) s (fun d =>
      d.get (EP_RX_DROP_FRAMES p) = Nat.min (s.dev.get (EP_RX_DROP_FRAMES p) + 1) (2 ^ 32 - 1) ∧ d.get (EP_IRQ_CAUSE_RX_DROP p) = 1 ∧
      OnlyChanges [EP_RX_DROP_FRAMES p, EP_IRQ_CAUSE_RX_DROP p] [] s.dev d)) ∧
  (∀ (s : State) (p : Fin 48) (i : Fin 4) (bs : List Byte) (tb : BitVec 64), portUp s.dev p = false →
    Completes (.rxFrame p i bs tb) s (fun d => OnlyChanges [] [] s.dev d)) ∧
  (∀ (s : State) (p : Fin 48) (i : Fin 4) (bs : List Byte) (tb : BitVec 64) (b : Nat), portUp s.dev p = true → 64 ≤ bs.length →
    bs.length ≤ s.dev.get (EP_CFG_MAX_FRAME p) → crcGood crc32 bs = true → netNat (bytesAt bs 12 2) ≠ 0x8808 →
    boatOf s.dev p bs = some b → Completes (.rxFrame p i bs tb) s (fun d =>
      d.get (EP_RX_FRAMES_FRAMES p) = Nat.min (s.dev.get (EP_RX_FRAMES_FRAMES p) + 1) (2 ^ 32 - 1) ∧
      (d.boat b).rx = (s.dev.boat b).rx ++ [(bs, true)] ∧ d.net.ports = s.dev.net.ports ∧
      OnlyChanges [EP_RX_FRAMES_FRAMES p] [.net] s.dev d)) ∧
  (∀ (s : State) (p : Fin 48) (i : Fin 4) (f : RxBuf) (rest : List RxBuf) (d1 : Dev), octetClosed s.dev (p / 8) = false →
    (s.dev.port p).buf = f :: rest → f.ad = i.val →
    pushFrame p f s.dev = (false, d1) → d1.net = s.dev.net → Completes (.ingressPush p i) s (fun d =>
      (d.port p).buf = rest ∧ d.qm = d1.qm ∧ (∀ q : Nat, q ≠ p.val → d.port q = s.dev.port q) ∧
      (∀ g : Fld, d.get g = d1.get g) ∧
      SameParts [.qm, .net] s.dev d)) ∧
  (∀ (s : State) (p : Fin 48) (tb : BitVec 64) (f : BoatFrame) (rest : List BoatFrame), portUp s.dev p = true →
    xStopped s.dev (xEth p) = false → (s.dev.port p).tx = none → (s.dev.port p).boatq = f :: rest → (s.dev.port p).pause = [] → s.dev.get (EP_STATUS_PAUSED p) = 0 →
    Completes (.egressFrame p tb) s (fun d =>
      d.ctl.out = .eth p (f.bytes ++ leBytes 4 (crc32 f.bytes)) :: s.dev.ctl.out ∧ (d.port p).boatq = rest ∧
      (d.port p).tx.isSome = true ∧ (∀ k : Nat, k ≠ p.val → d.port k = s.dev.port k) ∧ OnlyChanges [] [.net, .out] s.dev d)) ∧
  (∀ (s : State) (p : Fin 48) (tb : BitVec 64), portUp s.dev p = false → Completes (.egressFrame p tb) s (fun d =>
    OnlyChanges [] [] s.dev d)) ∧
  (∀ (s : State) (p : Fin 48) (i : Fin 4), octetClosed s.dev (p / 8) = true → Completes (.ingressPush p i) s (fun d =>
    OnlyChanges [] [] s.dev d)) ∧
  (∀ (s : State) (p : Fin 48) (i : Fin 4) (bs : List Byte) (tb : BitVec 64) (f : RxBuf) (d1 : Dev), portUp s.dev p = true →
    64 ≤ bs.length → bs.length ≤ s.dev.get (EP_CFG_MAX_FRAME p) → crcGood crc32 bs = true → netNat (bytesAt bs 12 2) ≠ 0x8808 →
    boatOf s.dev p bs = none → s.dev.get (EP_CLASS_EN p (framePrio s.dev p bs)) = 1 → s.dev.get (EP_CFG_META p) = 0 →
    s.dev.get (EP_CFG_KEEP_FCS p) = 0 → (s.dev.port p).buf = [] →
    f = { ad := i.val % portAdapters s.dev p, queue := s.dev.get (EP_CLASS_QUEUE p (framePrio s.dev p bs)),
          data := bs.take (bs.length - 4), size := bs.length } →
    pushFrame p f s.dev = (false, d1) → Completes (.rxFrame p i bs tb) s (fun d => d = d1))

/-- Chapter 9, swingboats: R351 to R355.
Readings that are the model's choice, where a clause rests on one: log entries 1, 16 and 53. -/
def Obligations.Swingboats : Prop :=
  (∀ (s : State) (b : Fin 12) (v : Word), octetClosed s.dev (b / 2) = false → s.dev.get (SB_CFG_EN b) = 0 → bitAt v.toNat 31 = true →
    boatRefused s.dev b (bitsAt v.toNat 16 6) = true → Completes (.swingboatEnable b v) s (fun d =>
      d.get (SB_STATUS_CFG_ERR b) = 1 ∧ Answered d .perm ∧ OnlyChanges [SB_STATUS_CFG_ERR b] [.ans] s.dev d)) ∧
  (∀ (s : State) (b : Fin 12) (v : Word), octetClosed s.dev (b / 2) = false → s.dev.get (SB_CFG_EN b) = 0 →
    boatRefused s.dev b (bitsAt v.toNat 16 6) = false → Completes (.swingboatEnable b v) s (fun d =>
      d.get (SB_CFG_EN b) = bitsAt v.toNat 31 1 ∧ d.get (SB_CFG_TX_EN b) = bitsAt v.toNat 30 1 ∧
      d.get (SB_CFG_PORT b) = bitsAt v.toNat 16 6 ∧ d.get (SB_CFG_ETYPE b) = bitsAt v.toNat 0 16 ∧ Answered d .ok ∧
      OnlyChanges (sbCfgFlds b) [.ans] s.dev d)) ∧
  (∀ (s : State) (r : Fin 128) (i : Fin 4) (k : Nat) (h : Token), slotEn s.dev r (soutSlot i) = true → slotSt s.dev r (soutSlot i) = 1 →
    0x80 ≤ s.dev.get (TS_CFG_TARGET r (soutSlot i)) → s.dev.get (TS_CFG_TARGET r (soutSlot i)) < 0xE0 →
    s.dev.get (SB_CFG_EN ((s.dev.get (TS_CFG_TARGET r (soutSlot i)) - 0x80) / 8)) = 1 →
    s.dev.get (SB_CFG_TX_EN ((s.dev.get (TS_CFG_TARGET r (soutSlot i)) - 0x80) / 8)) = 1 →
    octetClosed s.dev ((s.dev.get (TS_CFG_TARGET r (soutSlot i)) - 0x80) / 8 / 2) = false →
    (s.dev.boat ((s.dev.get (TS_CFG_TARGET r (soutSlot i)) - 0x80) / 8)).parked = false → (s.dev.slot r (soutSlot i)).pub = [(k, h)] →
    s.dev.get (SB_TXS_EN ((s.dev.get (TS_CFG_TARGET r (soutSlot i)) - 0x80) / 8) (bitsAt h.toNat 0 5)) = 0 →
    Completes (.swingboatBatch r i) s (fun d =>
      (d.slot r (soutSlot i)).pub = [] ∧
      d.get (SB_TX_BAD_EVENTS ((s.dev.get (TS_CFG_TARGET r (soutSlot i)) - 0x80) / 8)) =
        Nat.min (s.dev.get (SB_TX_BAD_EVENTS ((s.dev.get (TS_CFG_TARGET r (soutSlot i)) - 0x80) / 8)) + 1) (2 ^ 32 - 1) ∧
      OnlyChanges [SB_TX_BAD_EVENTS ((s.dev.get (TS_CFG_TARGET r (soutSlot i)) - 0x80) / 8),
        SB_IRQ_CAUSE_TX_BAD ((s.dev.get (TS_CFG_TARGET r (soutSlot i)) - 0x80) / 8)] [.slots] s.dev d)) ∧
  (∀ (s : State) (r : Fin 128) (i : Fin 4) (k g b j : Nat) (h : Token) (ts : List Token), slotEn s.dev r (soutSlot i) = true →
    slotSt s.dev r (soutSlot i) = 1 → g = s.dev.get (TS_CFG_TARGET r (soutSlot i)) → 0x80 ≤ g → g < 0xE0 → b = (g - 0x80) / 8 →
    s.dev.get (SB_CFG_EN b) = 1 → s.dev.get (SB_CFG_TX_EN b) = 1 → octetClosed s.dev (b / 2) = false → (s.dev.boat b).parked = false →
    (s.dev.slot r (soutSlot i)).pub = (h :: ts).map (fun w => (k, w)) → j = bitsAt h.toNat 0 5 → s.dev.get (SB_TXS_EN b j) = 1 →
    s.dev.get (SB_TXS_CHANNEL b j) = g % 8 → bitsAt h.toNat 8 8 = 8 * s.dev.get (SB_TXS_NBLK b j) →
    ts.length = 8 * s.dev.get (SB_TXS_NBLK b j) → portUp s.dev (s.dev.get (SB_CFG_PORT b)) = true →
    Completes (.swingboatBatch r i) s (fun d =>
      (d.slot r (soutSlot i)).pub = [] ∧
      (d.port (s.dev.get (SB_CFG_PORT b))).boatq = (s.dev.port (s.dev.get (SB_CFG_PORT b))).boatq ++ [({
        boat := b
        prio := s.dev.get (SB_CFG_PRIO b)
        bytes := boatFrame s.dev b j ((k % 2 ^ 64 + 2 ^ 64 - 1) % 2 ^ 64) (sget 0 (s.dev.boat b).seq j)
          (blocksOf (s.dev.get (SB_TXS_NBLK b j)) ts) } : BoatFrame)] ∧
      sget 0 (d.boat b).seq j = (sget 0 (s.dev.boat b).seq j + 1) % 65536 ∧
      d.get (SB_TX_FRAMES_FRAMES b) = Nat.min (s.dev.get (SB_TX_FRAMES_FRAMES b) + 1) (2 ^ 32 - 1) ∧
      OnlyChanges [SB_TX_FRAMES_FRAMES b] [.slots, .net] s.dev d)) ∧
  (∀ (s : State) (b : Fin 12) (bs : List Byte) (rest : List (List Byte × Bool)) (j tick : Nat), octetClosed s.dev (b / 2) = false →
    (s.dev.boat b).rx = (bs, true) :: rest → rxEntry s.dev b (streamIdOf bs) = some j → netNat (bytesAt bs (payloadAt bs) 1) = 0x20 →
    netNat (bytesAt bs (payloadAt bs + 1) 1) = s.dev.get (SB_RXS_M b j) →
    netNat (bytesAt bs (payloadAt bs + 12) 2) = s.dev.get (SB_RXS_NBLK b j) →
    payloadAt bs + 16 + s.dev.get (SB_RXS_NBLK b j) * (1 + 4 * s.dev.get (SB_RXS_M b j)) + 4 ≤ bs.length →
    (s.dev.boat b).dec = [] → (s.dev.boat b).held = [] → tick = netNat (bytesAt bs (payloadAt bs + 4) 8) →
    tick ≤ s.dev.ctl.time.count → s.dev.ctl.time.count + 1 < tick + s.dev.get (SB_RXS_LAG b j) →
    Completes (.swingboatRx b) s (fun d =>
      (∃ f : HeldFrame, (d.boat b).dec = (s.dev.boat b).dec ++ [f] ∧ f.j = j ∧ f.tick = tick ∧
        f.data.length = 8 * s.dev.get (SB_RXS_NBLK b j)) ∧ (d.boat b).rx = rest ∧ (d.boat b).held = [] ∧
      d.get (SB_RX_FRAMES_FRAMES b) = Nat.min (s.dev.get (SB_RX_FRAMES_FRAMES b) + 1) (2 ^ 32 - 1) ∧
      OnlyChanges [SB_RX_FRAMES_FRAMES b] [.net, .fresh] s.dev d)) ∧
  (∀ (s : State) (b : Fin 12) (bs : List Byte) (good : Bool) (rest : List (List Byte × Bool)), octetClosed s.dev (b / 2) = false →
    (s.dev.boat b).rx = (bs, good) :: rest → rxEntry s.dev b (streamIdOf bs) = none → Completes (.swingboatRx b) s (fun d =>
      d.boat b = { s.dev.boat b with rx := rest } ∧
      d.get (SB_RX_REJECT_FRAMES b) = Nat.min (s.dev.get (SB_RX_REJECT_FRAMES b) + 1) (2 ^ 32 - 1) ∧
      d.get (SB_IRQ_CAUSE_RX_REJECT b) = 1 ∧ OnlyChanges [SB_RX_REJECT_FRAMES b, SB_IRQ_CAUSE_RX_REJECT b] [.net] s.dev d)) ∧
  (∀ (s : State) (b : Fin 12) (bs : List Byte) (rest : List (List Byte × Bool)) (j : Nat), octetClosed s.dev (b / 2) = false →
    (s.dev.boat b).rx = (bs, true) :: rest → rxEntry s.dev b (streamIdOf bs) = some j → netNat (bytesAt bs (payloadAt bs) 1) = 0x20 →
    netNat (bytesAt bs (payloadAt bs + 1) 1) = s.dev.get (SB_RXS_M b j) →
    netNat (bytesAt bs (payloadAt bs + 12) 2) = s.dev.get (SB_RXS_NBLK b j) →
    payloadAt bs + 16 + s.dev.get (SB_RXS_NBLK b j) * (1 + 4 * s.dev.get (SB_RXS_M b j)) + 4 ≤ bs.length →
    (s.dev.boat b).dec = [] → (s.dev.boat b).held = [] → s.dev.ctl.time.count < netNat (bytesAt bs (payloadAt bs + 4) 8) →
    Completes (.swingboatRx b) s (fun d => d.boat b = { s.dev.boat b with rx := rest } ∧
      d.get (SB_RX_EARLY_FRAMES b) = Nat.min (s.dev.get (SB_RX_EARLY_FRAMES b) + 1) (2 ^ 32 - 1) ∧
      OnlyChanges [SB_RX_EARLY_FRAMES b] [.net] s.dev d)) ∧
  (∀ (s : State) (b : Fin 12) (f : HeldFrame) (rest : List HeldFrame), octetClosed s.dev (b / 2) = false →
    (s.dev.boat b).dec = f :: rest → Completes (.swingboatDecompressed b) s (fun d =>
      d.boat b = { s.dev.boat b with dec := rest, held := (s.dev.boat b).held ++ [f] } ∧
      (∀ c : Nat, c ≠ b.val → d.boat c = s.dev.boat c) ∧ d.net.ports = s.dev.net.ports ∧ OnlyChanges [] [.net] s.dev d))

/-- Chapter 10, bring-up: R372, R374 to R377, R396.
Readings that are the model's choice, where a clause rests on one: log entries 1, 31, 34 and 62. -/
def Obligations.CascadePorts : Prop :=
  (∀ (s : State) (q : Fin 4) (v : Word), iclClosed s.dev = false → s.dev.get (ICL_PORT_CFG_EN q) = 0 → bitAt v.toNat 31 = true →
    Completes (.iclPortEnable q v) s (fun d => d.get (ICL_PORT_CFG_EN q) = 1 ∧ iclState d q = 1 ∧ Answered d .ok ∧
      OnlyChanges [ICL_PORT_CFG_EN q, ICL_PORT_STATUS_STATE q] [.ans] s.dev d)) ∧
  (∀ (s : State) (q : Fin 4) (v : Word), iclClosed s.dev = true → Completes (.iclPortEnable q v) s (fun d =>
    Answered d .closed ∧ OnlyChanges [] [.ans] s.dev d)) ∧
  (∀ (s : State) (q : Fin 4), iclState s.dev q = 1 → Completes (.iclTrainingDone q) s (fun d =>
    iclState d q = 2 ∧ d.iport q = { s.dev.iport q with lastRx := s.dev.tb } ∧
    OnlyChanges [ICL_PORT_STATUS_STATE q] [.icl] s.dev d)) ∧
  (∀ (s : State) (q : Fin 4), iclTrained s.dev q = true → Completes (.barkerSend q) s (fun d =>
    d.iport q = { s.dev.iport q with wait := (s.dev.iport q).wait ++ [{}] } ∧
    (∀ k : Nat, k ≠ q.val → d.iport k = s.dev.iport k) ∧ OnlyChanges [] [.icl] s.dev d)) ∧
  (∀ (s : State) (q : Fin 4) (t : Int) (f : IclFrame) (rest : List (Int × IclFrame)) (n : Nat), (s.dev.iport q).inbox = (t, f) :: rest →
    f.type = 0 → n = leNat (bytesAt f.body 0 64) → (s.dev.iport q).peer = none → bitsAt n 208 64 = 0 → bitsAt n 0 4 ≠ ownId s.dev →
    bitAt n 4 = false → s.dev.ctl.time.follow = false → cascState s.dev ≠ 2 →
    (s.dev.get ICL_CFG_EN = 0 ∨ isMaster s.dev = true) → Completes (.barkerRx q) s (fun d =>
      (d.iport q).inbox = rest ∧ (d.iport q).peer = some (barkerPeer n) ∧ (d.iport q).echo = some (bitsAt n 144 64, t) ∧
      d.get (ICL_PORT_STATUS_P_VALID q) = 1 ∧ d.get (ICL_PORT_STATUS_P_MASTER q) = 0 ∧
      d.get (ICL_PORT_STATUS_P_PORT q) = bitsAt n 5 2 ∧ d.get (ICL_PORT_STATUS_P_ID q) = bitsAt n 0 4 ∧ iclState d q = iclState s.dev q ∧
      SameParts [.icl] s.dev d)) ∧
  (∀ (s : State) (q : Fin 4) (p : Partner), (s.dev.iport q).peer = some p → iclState s.dev q = 2 →
    s.dev.get (ICL_PORT_DLY_VALID q) = 1 → linkUsable s.dev q = true → ctrlReady s.dev = true → p.keyReady = true →
    p.slot = s.dev.get ICL_CFG_CTRL_SLOT → p.hop = s.dev.get ICL_CFG_HOP_NS → Completes (.keyProbe q) s (fun d =>
      (d.iport q).probed = true ∧ (∃ f : IclFrame, (d.iport q).wait = (s.dev.iport q).wait ++ [f] ∧ f.type = 2 ∧ f.a = 1 ∧
        f.src = ownId s.dev ∧ f.dest = s.dev.get (ICL_PORT_STATUS_P_ID q) ∧ f.body.length = 64) ∧ OnlyChanges [] [.icl] s.dev d)) ∧
  (∀ (s : State) (q : Fin 4) (p : Partner), (s.dev.iport q).peer = some p → iclState s.dev q = 2 →
    s.dev.get (ICL_PORT_DLY_VALID q) = 1 → linkUsable s.dev q = false → s.dev.ctl.time.follow = false → cascState s.dev ≠ 2 →
    Completes (.keyProbe q) s (fun d => iclState d q = 4 ∧ d.get (ICL_PORT_STATUS_WHY q) = 1 ∧ d.get ICL_IRQ_CAUSE_PORT_FAULT = 1 ∧
      SameParts [.icl] s.dev d)) ∧
  (∀ (s : State) (q : Fin 4) (t : Int) (f : IclFrame) (rest : List (Int × IclFrame)), (s.dev.iport q).probed = true → iclState s.dev q = 2 →
    (s.dev.iport q).inbox = (t, f) :: rest → f.type = 2 → f.a = 1 →
    f.body = (List.range 16).flatMap (fun _ => [(0x1F : Byte), 0xE7, BitVec.ofNat 8 f.src, BitVec.ofNat 8 f.port]) →
    s.dev.ctl.time.follow = false → cascState s.dev ≠ 2 → (s.dev.get ICL_CFG_EN = 0 ∨ isMaster s.dev = true) →
    Completes (.probeRx q) s (fun d =>
      iclState d q = 3 ∧ (d.iport q).inbox = rest ∧ SameParts [.icl] s.dev d)) ∧
  (∀ (s : State) (q : Fin 4), iclTrained s.dev q = true → s.dev.ctl.time.follow = false → cascState s.dev ≠ 2 →
    Completes (.linkLoss q) s (fun d => iclState d q = 1 ∧ (d.iport q).peer = none ∧ (d.iport q).wait = [] ∧ (d.iport q).inbox = [] ∧
      d.get (ICL_PORT_STATUS_P_VALID q) = 0 ∧ d.get (ICL_PORT_DLY_VALID q) = 0 ∧
      SameParts [.icl, .time] s.dev d)) ∧
  (∀ (s : State) (q : Fin 4), iclState s.dev q = 2 → s.dev.ctl.time.follow = false → cascState s.dev ≠ 2 →
    Completes (.rxSilence q) s (fun d => iclState d q = 1 ∧ d.tb = Nat.max s.dev.tb ((s.dev.iport q).lastRx + 8000) ∧
      (d.iport q).peer = none ∧ (d.iport q).wait = [] ∧
      SameParts [.icl, .time] s.dev d)) ∧
  (∀ (s : State) (q : Fin 4), iclState s.dev q = 4 → (s.dev.iport q).peer = none → Completes (.portFaultRetry q) s (fun d =>
    iclState d q = 2 ∧ d.get (ICL_PORT_STATUS_WHY q) = 0 ∧ d.iport q = { s.dev.iport q with probed := false } ∧
    OnlyChanges [ICL_PORT_STATUS_STATE q, ICL_PORT_STATUS_WHY q] [.icl] s.dev d))

/-- Chapter 10, frames: R368 to R371, R387 to R389, R399.
Readings that are the model's choice, where a clause rests on one: log entries 1, 30, 34 and 37. -/
def Obligations.CascadeFrames : Prop :=
  (∀ (s : State) (q : Fin 4) (tb : BitVec 64), iclTrained s.dev q = true → (s.dev.iport q).wait = [{}] → Completes (.frameSend q tb) s (fun d =>
    (∃ bs : List Byte, d.ctl.out = .icl q bs :: s.dev.ctl.out ∧ bs.length = 84) ∧ (d.iport q).wait = [] ∧
    d.tb = Nat.max s.dev.tb (s.dev.ownTb tb.toNat) ∧ OnlyChanges [] [.icl, .out, .time] s.dev d)) ∧
  (∀ (s : State) (q : Fin 4) (bs : List Byte) (tb : BitVec 64), iclTrained s.dev q = false → Completes (.iclFrameRx q bs tb) s (fun d =>
    OnlyChanges [] [] s.dev d)) ∧
  (∀ (s : State) (q : Fin 4) (bs : List Byte) (tb : BitVec 64), iclTrained s.dev q = true → readFrame bs = none →
    bitsAt (leNat (bs.take 16)) 0 4 ≠ 4 → Completes (.iclFrameRx q bs tb) s (fun d =>
      d.get (ICL_PORT_RXBAD_FRAMES q) = Nat.min (s.dev.get (ICL_PORT_RXBAD_FRAMES q) + 1) (2 ^ 32 - 1) ∧
      (d.iport q).inbox = (s.dev.iport q).inbox ∧ OnlyChanges [ICL_PORT_RXBAD_FRAMES q] [.icl, .time] s.dev d)) ∧
  (∀ (s : State) (q : Fin 4) (bs : List Byte) (tb : BitVec 64) (f : IclFrame), iclTrained s.dev q = true → readFrame bs = some f → f.type = 0 →
    Completes (.iclFrameRx q bs tb) s (fun d =>
      (d.iport q).inbox = (s.dev.iport q).inbox ++ [(d.tbNow, f)] ∧ (d.iport q).lastRx = d.tb ∧
      d.get (ICL_PORT_RXFRAMES_FRAMES q) = Nat.min (s.dev.get (ICL_PORT_RXFRAMES_FRAMES q) + 1) (2 ^ 32 - 1) ∧
      OnlyChanges [ICL_PORT_RXFRAMES_FRAMES q] [.icl, .time] s.dev d)) ∧
  (∀ (s : State) (q : Fin 4) (bs : List Byte) (tb : BitVec 64) (f : IclFrame) (o : Nat), iclTrained s.dev q = true → readFrame bs = some f →
    f.type ≠ 0 → f.bcast = false → f.dest ≠ ownId s.dev → portTo s.dev f.dest = some o → f.hops < 15 →
    Completes (.iclFrameRx q bs tb) s (fun d =>
      (d.iport o).wait = (s.dev.iport o).wait ++ [{ f with hops := f.hops + 1, sealed := true }] ∧
      (d.iport q).inbox = (s.dev.iport q).inbox ∧ OnlyChanges [ICL_PORT_RXFRAMES_FRAMES q] [.icl, .time] s.dev d)) ∧
  (∀ (s : State) (dest : Fin 16) (c : Instr), c ∈ [Instr.tunnelRead dest, .tunnelWrite dest] → iclClosed s.dev = false →
    s.dev.get ICL_TUN_STAT_BUSY = 0 → dest.val = ownId s.dev → Completes c s (fun d =>
      d.get ICL_TUN_STAT_RESULT = Resp.addr.code ∧ Answered d .ok ∧ OnlyChanges [ICL_TUN_STAT_RESULT, ICL_TUN_STAT_BUSY] [.ans] s.dev d)) ∧
  (∀ (s : State) (dest : Fin 16) (c : Instr), c ∈ [Instr.tunnelRead dest, .tunnelWrite dest] → iclClosed s.dev = false →
    s.dev.get ICL_TUN_STAT_BUSY = 1 → Completes c s (fun d => Answered d .retry ∧ OnlyChanges [] [.ans] s.dev d)) ∧
  (∀ (s : State) (dest : Fin 16) (o : Nat) (w : Bool) (c : Instr), c = (if w then .tunnelWrite dest else .tunnelRead dest) →
    iclClosed s.dev = false → s.dev.get ICL_TUN_STAT_BUSY = 0 → dest.val ≠ ownId s.dev → portTo s.dev dest = some o → Completes c s (fun d =>
      d.get ICL_TUN_STAT_BUSY = 1 ∧ d.icl.tunDest = dest.val ∧ d.icl.tunWrite = w ∧ d.icl.tunAt = s.dev.tb ∧
      (∃ f : IclFrame, (d.iport o).wait = (s.dev.iport o).wait ++ [f] ∧ f.type = 5 ∧ f.dest = dest.val ∧ f.src = ownId s.dev) ∧
      Answered d .ok ∧ OnlyChanges [ICL_TUN_STAT_BUSY] [.icl, .ans] s.dev d)) ∧
  (∀ (s : State) (q : Fin 4) (t : Int) (f : IclFrame) (rest : List (Int × IclFrame)), (s.dev.iport q).inbox = (t, f) :: rest → f.type = 6 →
    s.dev.get ICL_TUN_STAT_BUSY = 1 → f.src = s.dev.icl.tunDest → Completes (.tunRspRx q) s (fun d =>
      d.get ICL_TUN_STAT_BUSY = 0 ∧ d.get ICL_TUN_STAT_RESULT = (respOf (Config.tunRspOf f.body).1).code ∧ (d.iport q).inbox = rest ∧
      (s.dev.icl.tunWrite = true → d.get ICL_TUN_DATA_DATA = s.dev.get ICL_TUN_DATA_DATA) ∧
      OnlyChanges [ICL_TUN_STAT_BUSY, ICL_TUN_STAT_RESULT, ICL_TUN_DATA_DATA] [.icl] s.dev d)) ∧
  (∀ s : State, s.dev.get ICL_TUN_STAT_BUSY = 1 → Completes .tunnelTimeout s (fun d =>
    d.get ICL_TUN_STAT_BUSY = 0 ∧ d.get ICL_TUN_STAT_RESULT = Resp.timeout.code ∧ d.tb = Nat.max s.dev.tb (s.dev.icl.tunAt + 80000) ∧
    OnlyChanges [ICL_TUN_STAT_BUSY, ICL_TUN_STAT_RESULT] [.time] s.dev d)) ∧
  (∀ (s : State) (q : Fin 4) (t : Int) (f : IclFrame) (rest : List (Int × IclFrame)) (o : Nat), (s.dev.iport q).inbox = (t, f) :: rest →
    f.type = 5 → s.dev.get ICL_CFG_TUN_ACCEPT = 0 → portTo s.dev f.src = some o → o ≠ q.val → Completes (.tunReqRx q) s (fun d =>
      (d.iport q).inbox = rest ∧ (∃ g : IclFrame, (d.iport o).wait = (s.dev.iport o).wait ++ [g] ∧ g.type = 6 ∧ g.dest = f.src ∧
        g.body = pad8 (Config.tunRspBody Resp.perm.code 0)) ∧ OnlyChanges [] [.icl, .ans] s.dev d)) ∧
  (∀ (s : State) (q : Fin 4) (i : Nat) (w : QWord) (ws : List QWord) (d1 : Dev), (List.range 16).find? (transferReady s.dev q) = some i →
    (∀ k : Nat, k < 4 → (s.dev.iport k).wait = []) →
    qPop (iclSrc q q) (s.dev.get (ICL_QTX_A_QUEUE i)) ((s.dev.queue (s.dev.get (ICL_QTX_A_QUEUE i))).depth
      (qMode s.dev (s.dev.get (ICL_QTX_A_QUEUE i)))) true s.dev = (.ok, w :: ws, d1) → d1.icl = s.dev.icl →
    slotSends s.dev (s.dev.get (QD_CFG_KEY_IDX (s.dev.get (ICL_QTX_A_QUEUE i)))) = true → s.dev.get (ICL_QTX_A_ACTIVE i) = 0 →
    Completes (.queueTransfer q) s (fun d =>
      (d.iport (s.dev.get (ICL_QTX_A_PRI_PORT i))).wait = packetFrames s.dev q i (w :: ws) ∧ d.qm = d1.qm ∧ (∀ g : Fld, d.get g = d1.get g) ∧
      SameParts [.qm, .icl] s.dev d)) ∧
  (∀ (s : State) (q : Fin 4) (t : Int) (f : IclFrame) (rest : List (Int × IclFrame)), (s.dev.iport q).inbox = (t, f) :: rest → f.type = 4 →
    bitAt f.a 14 = true → bitAt f.a 15 = false → 0 < f.body.length → f.body.length ≤ 32 → (s.dev.iport q).opens = [] →
    (s.dev.iport q).segs = [] → Completes (.queueSegRx q) s (fun d =>
      (d.iport q).inbox = rest ∧ (d.iport q).segs = [] ∧
      (d.iport q).opens = [{ flow := 4 * f.src + f.port, queue := bitsAt f.a 0 14, tail := f.body }] ∧ OnlyChanges [] [.icl] s.dev d)) ∧
  (∀ (s : State) (q : Fin 4) (t : Int) (f : IclFrame) (rest : List (Int × IclFrame)) (e : Dev),
    (s.dev.iport q).inbox = (t, f) :: rest → f.type = 5 → s.dev.get ICL_CFG_TUN_ACCEPT = 1 →
    e = tunAccess f.body (takeInbox q (fun f => f.type == 5) s.dev).2 → Completes (.tunReqRx q) s (fun d =>
      (∀ o : Nat, portTo e f.src = some o → ∃ g : IclFrame, (d.iport o).wait = (e.iport o).wait ++ [g] ∧ g.type = 6 ∧
        g.dest = f.src ∧ g.body = pad8 (Config.tunRspBody e.ctl.ans.code.code (e.ctl.ans.data.headD 0))) ∧
      d.ctl.ans = e.ctl.ans ∧ OnlyChanges [] [.icl] e d))

/-- Chapter 10, forming and leaving a cascade: R374, R378 to R382, R392, R395.
Readings that are the model's choice, where a clause rests on one: log entries 1, 34, 38 and 62. -/
def Obligations.CascadeMembership : Prop :=
  (∀ (s : State) (m o : Nat), cascState s.dev = 1 → readyOk s.dev = true → s.dev.icl.master = some m → portTo s.dev m = some o →
    Completes .readySend s (fun d => cascState d = 2 ∧
      (∃ f : IclFrame, (d.iport o).wait = (s.dev.iport o).wait ++ [f] ∧ f.type = 2 ∧ f.a = 2 ∧ f.dest = m ∧ f.body = leBytes 8 (ownUid s.dev)) ∧
      OnlyChanges [ICL_STATUS_STATE] [.icl] s.dev d)) ∧
  (∀ (s : State) (q : Fin 4) (t : Int) (f : IclFrame) (rest : List (Int × IclFrame)), (s.dev.iport q).inbox = (t, f) :: rest → f.type = 2 →
    f.a = 2 → isMaster s.dev = true → bitAt (s.dev.get ICL_MEMBERS_MEMBERS) f.src = false → f.src ∉ s.dev.icl.ready →
    Completes (.readyRx q) s (fun d => d.icl.ready = f.src :: s.dev.icl.ready ∧ d.icl.alive = sput s.dev.icl.alive f.src s.dev.tb ∧
      (d.iport q).inbox = rest ∧ OnlyChanges [] [.icl] s.dev d)) ∧
  (∀ (s : State) (q : Fin 4) (t : Int) (f : IclFrame) (rest : List (Int × IclFrame)), (s.dev.iport q).inbox = (t, f) :: rest → f.type = 2 →
    f.a = 3 → isMaster s.dev = true → bitAt (s.dev.get ICL_MEMBERS_MEMBERS) f.src = false → s.dev.icl.joinSet = none →
    Completes (.withdrawRx q) s (fun d => d.icl.ready = s.dev.icl.ready.filter (· != f.src) ∧ (d.iport q).inbox = rest ∧
      OnlyChanges [] [.icl] s.dev d)) ∧
  (∀ (s : State) (i : Nat) (rest : List Nat), s.dev.get ICL_CFG_EN = 1 → isMaster s.dev = true → s.dev.get CFG_STATUS_DONE_PIN = 1 →
    ctrlReady s.dev = true → s.dev.icl.ready = i :: rest → i < 16 → bitAt (s.dev.get ICL_MEMBERS_MEMBERS) i = false →
    s.dev.icl.lastJoin = none → s.dev.ctl.time.running = true → s.dev.icl.joinSet = none → cascState s.dev = 3 → Completes .joinSend s (fun d =>
      (∃ set j : Nat, d.icl.joinSet = some set ∧ bitAt set i = true ∧ bitAt set (ownId s.dev) = true ∧ d.ctl.time.join = some (j, j) ∧
        d.get ICL_JOIN_LO_J_LO + 2 ^ 32 * d.get ICL_JOIN_HI_J_HI = j ∧ j < 2 ^ 64) ∧
      d.icl.lastJoin = some s.dev.tb ∧ OnlyChanges [ICL_JOIN_LO_J_LO, ICL_JOIN_HI_J_HI] [.icl, .time] s.dev d)) ∧
  (∀ (s : State) (q : Fin 4) (t : Int) (f : IclFrame) (rest : List (Int × IclFrame)), (s.dev.iport q).inbox = (t, f) :: rest → f.type = 2 →
    f.a = 4 → isMaster s.dev = false → cascState s.dev = 2 → bitAt (leNat (bytesAt f.body 8 2)) (ownId s.dev) = true →
    (s.dev.ctl.time.count : Int) < (leNat (bytesAt f.body 0 8) : Int) - s.dev.icl.mOff → Completes (.joinRx q) s (fun d =>
      d.icl.joinSet = some (leNat (bytesAt f.body 8 2)) ∧ (d.iport q).inbox = rest ∧
      d.ctl.time.join = some (((leNat (bytesAt f.body 0 8) : Int) - s.dev.icl.mOff).toNat, leNat (bytesAt f.body 0 8)) ∧
      OnlyChanges [ICL_JOIN_LO_J_LO, ICL_JOIN_HI_J_HI] [.icl, .time] s.dev d)) ∧
  (∀ s : State, iclClosed s.dev = false → cascState s.dev = 3 → s.dev.ctl.time.follow = false → Completes .leave s (fun d =>
    d.get ICL_MEMBERS_MEMBERS = 0 ∧ cascState d = (if s.dev.get ICL_CFG_EN = 1 then 1 else 0) ∧ d.icl.master = none ∧
    d.get RM_CONTRACT_CTRL_CASC_ALLOW = 0 ∧ Answered d .ok ∧
      SameParts [.icl, .time, .ans] s.dev d)) ∧
  (∀ (s : State) (q : Fin 4) (t : Int) (f : IclFrame) (rest : List (Int × IclFrame)) (i : Nat), (s.dev.iport q).inbox = (t, f) :: rest →
    f.type = 2 → f.a = 5 → isMaster s.dev = false → i = leNat (bytesAt f.body 0 8) % 16 → bitAt (s.dev.get ICL_MEMBERS_MEMBERS) i = true →
    Completes (.leaveRx q) s (fun d => bitAt (d.get ICL_MEMBERS_MEMBERS) i = false ∧ d.get ICL_IRQ_CAUSE_FOLLOWER_LEFT = 1 ∧
      (∀ k : Nat, k ≠ i → bitAt (d.get ICL_MEMBERS_MEMBERS) k = bitAt (s.dev.get ICL_MEMBERS_MEMBERS) k) ∧ SameParts [.icl] s.dev d)) ∧
  (∀ (s : State) (i : Fin 16) (t : Nat), s.dev.icl.alive = [(i.val, t)] → isMaster s.dev = true →
    bitAt (s.dev.get ICL_MEMBERS_MEMBERS) i = true → Completes (.followerTimeout i) s (fun d =>
      bitAt (d.get ICL_MEMBERS_MEMBERS) i = false ∧ d.get ICL_IRQ_CAUSE_FOLLOWER_LEFT = 1 ∧ d.tb = Nat.max s.dev.tb (t + 40000) ∧
      d.icl.alive = [] ∧ SameParts [.icl, .time] s.dev d)) ∧
  (∀ s : State, isMaster s.dev = false → cascState s.dev = 3 → s.dev.ctl.time.follow = false → s.dev.get ICL_STATUS_CASC_ERR = 0 →
    Completes .masterTimeout s (fun d => cascState d = 4 ∧ d.get ICL_STATUS_CASC_ERR = 4 ∧ d.get ICL_IRQ_CAUSE_MASTER_LOST = 1 ∧
      d.get ICL_IRQ_CAUSE_CASC_ERR = 1 ∧ d.get RM_CONTRACT_CTRL_CASC_ALLOW = 1 ∧ d.icl.joinSet = none ∧
      d.tb = Nat.max s.dev.tb (s.dev.icl.heard + 40000) ∧
      SameParts [.icl, .time] s.dev d)) ∧
  (∀ (s : State) (m o : Nat), isMaster s.dev = false → cascState s.dev = 3 → s.dev.icl.master = some m → portTo s.dev m = some o →
    Completes .statusSend s (fun d =>
      (∃ f : IclFrame, (d.iport o).wait = (s.dev.iport o).wait ++ [f] ∧ f.type = 2 ∧ f.a = 6 ∧ f.dest = m ∧ f.body.length = 8) ∧
      OnlyChanges [] [.icl] s.dev d)) ∧
  (∀ (s : State) (q : Fin 4) (t : Int) (f : IclFrame) (rest : List (Int × IclFrame)), (s.dev.iport q).inbox = (t, f) :: rest → f.type = 2 →
    f.a = 6 → Completes (.statusRx q) s (fun d =>
      d.get ICL_MAP_PRESENT = s.dev.get ICL_MAP_PRESENT ||| bitsAt (leNat (bytesAt f.body 0 8)) 16 16 ∧
      d.get ICL_MAP_MASTERS = s.dev.get ICL_MAP_MASTERS ∧ (d.iport q).inbox = rest ∧
      OnlyChanges [ICL_MAP_PRESENT] [.icl] s.dev d)) ∧
  (∀ (s : State) (i : Fin 16) (t : Nat), s.dev.icl.seenP = [(i.val, t)] → i.val ≠ ownId s.dev → Completes (.mapAgeOut i false) s (fun d =>
    bitAt (d.get ICL_MAP_PRESENT) i = false ∧ d.icl.seenP = [] ∧ d.tb = Nat.max s.dev.tb (t + 1024000) ∧ d.icl.mapAt = d.tb ∧
    OnlyChanges [ICL_MAP_PRESENT] [.icl, .time] s.dev d)) ∧
  (∀ s : State, s.dev.get ICL_CFG_EN = 1 → (cascState s.dev = 0 ∨ cascState s.dev = 1) → s.dev.get ICL_MAP_MASTERS = 0 →
    s.dev.get ICL_STATUS_CASC_ERR = 0 → s.dev.ctl.time.follow = false → Completes .mapSettle s (fun d =>
      d.get ICL_STATUS_CASC_ERR = 1 ∧ d.get ICL_IRQ_CAUSE_CASC_ERR = 1 ∧ d.tb = Nat.max s.dev.tb (s.dev.icl.mapAt + 256000) ∧
      OnlyChanges [ICL_STATUS_CASC_ERR, ICL_IRQ_CAUSE_CASC_ERR] [.time] s.dev d)) ∧
  (∀ (s : State) (m : Fin 16), s.dev.get ICL_CFG_EN = 1 → cascState s.dev = 1 → s.dev.get ICL_MAP_MASTERS = 2 ^ m.val →
    s.dev.get ICL_STATUS_CASC_ERR = 0 → s.dev.ctl.time.follow = false → Completes .mapSettle s (fun d =>
      d.icl.master = some m.val ∧ d.icl.heard = d.tb ∧ d.get ICL_STATUS_CASC_ERR = 0 ∧ d.tb = Nat.max s.dev.tb (s.dev.icl.mapAt + 256000) ∧
      SameParts [.icl, .time] s.dev d))

/-- Chapters 10 and 11: R384 to R386, R415 to R419.
Readings that are the model's choice, where a clause rests on one: log entries 1, 32, 33, 35, 36 and 38. -/
def Obligations.CascadeTokens : Prop :=
  (∀ (s : State) (q : Fin 4) (fb : Bool) (t : Int) (f : IclFrame) (rest : List (Int × IclFrame)),
    (s.dev.iport q).inbox = (t, f) :: rest → f.type = 3 →
    batchLate s.dev f.b = true → Completes (.tokenBatchRx q fb) s (fun d =>
      d.get (ICL_PORT_LATE_BATCHES q) = Nat.min (s.dev.get (ICL_PORT_LATE_BATCHES q) + 1) (2 ^ 32 - 1) ∧ (d.iport q).inbox = rest ∧
      d.icl.held = s.dev.icl.held ∧ OnlyChanges [ICL_PORT_LATE_BATCHES q] [.icl] s.dev d)) ∧
  (∀ (s : State) (q : Fin 4) (fb : Bool) (t : Int) (f : IclFrame) (rest : List (Int × IclFrame)),
    (s.dev.iport q).inbox = (t, f) :: rest → f.type = 3 →
    1 < edgesTo s.dev f.b → s.dev.icl.held = [] → s.dev.icl.written = [] → Completes (.tokenBatchRx q fb) s (fun d =>
      (∃ b : Batch, d.icl.held = [b] ∧ b.q = q.val ∧ b.ch = f.c % 32 ∧ b.due = f.b ∧ b.send = f.a ∧ b.src = f.src ∧ b.fb = fb ∧
        b.data.length = f.body.length / 8) ∧ (d.iport q).inbox = rest ∧ OnlyChanges [] [.icl] s.dev d)) ∧
  (∀ (s : State) (ch : Fin 32) (b : Batch) (r t : Nat), s.dev.icl.held = [b] → b.ch = ch.val → edgesTo s.dev b.due = 1 →
    batchLate s.dev b.due = false → inSlotOf s.dev (0xE0 + ch.val) = some (r, t) → streamRoom s.dev r t (b.data.length + 1) = true →
    Completes (.tokenBatchWrite ch) s (fun d =>
      (d.slot r t).fin = (s.dev.slot r t).fin ++ (batchHeader b :: b.data).map (fun w => (s.dev.tb, w)) ∧
      d.icl.held = [] ∧ d.icl.written = b :: s.dev.icl.written ∧ OnlyChanges [] [.icl, .slots] s.dev d)) ∧
  (∀ (s : State) (q : Fin 4) (t : Int) (f : IclFrame) (rest : List (Int × IclFrame)), (s.dev.iport q).inbox = (t, f) :: rest → f.type = 1 →
    isMaster s.dev = true → Completes (.tickMarkRx q) s (fun d =>
      d.iport q = { s.dev.iport q with inbox := rest } ∧ OnlyChanges [] [.icl] s.dev d)) ∧
  (∀ (s : State) (q : Fin 4) (t : Int) (f : IclFrame) (rest : List (Int × IclFrame)), (s.dev.iport q).inbox = (t, f) :: rest → f.type = 1 →
    isMaster s.dev = false → upstream s.dev = some q.val → (∀ k : Nat, k < 4 → k ≠ q.val → iclUp s.dev k = false) → f.hops < 15 →
    mayFollow s.dev = true → cascState s.dev = 1 → s.dev.ctl.time.follow = true → s.dev.ctl.time.running = true → astate s.dev = 3 →
    (t - markTime s.dev q f).natAbs ≤ 4 → Completes (.tickMarkRx q) s (fun d =>
      d.get RM_CASC_STATUS_MARKERS = (s.dev.get RM_CASC_STATUS_MARKERS + 1) % 2 ^ RM_CASC_STATUS_MARKERS.w ∧
      d.get RM_CASC_ERR_LAST = wrap 16 (t - markTime s.dev q f) ∧
      astate d = (if 15 ≤ s.dev.ctl.time.goodMarks then 4 else 3) ∧
      d.ctl.time.goodMarks = Nat.min (s.dev.ctl.time.goodMarks + 1) 16 ∧ d.ctl.time.badMarks = 0 ∧
      OnlyChanges [RM_CASC_STATUS_ASTATE, RM_CASC_STATUS_MARKERS, RM_CASC_ERR_LAST, RM_CASC_ERR_MAX] [.time, .icl] s.dev d))

/-- Chapter 11: the tick generator and its commands.
Readings that are the model's choice, where a clause rests on one: log entries 1, 17 and 29. -/
def Obligations.TickGenerator : Prop :=
  (∀ s : State, s.dev.ctl.time.refLost = false → Completes .pllLock s (fun d => d.get RM_STATUS_PLL_LOCK = 1 ∧
    OnlyChanges [RM_STATUS_PLL_LOCK] [] s.dev d)) ∧
  (∀ s : State, s.dev.get RM_CTRL_RUN = 0 → s.dev.get RM_STATUS_PLL_LOCK = 1 → Completes .runSet s (fun d =>
    d.get RM_CTRL_RUN = 1 ∧ d.get RM_STATUS_RUNNING = 1 ∧ d.ctl.time.running = true ∧ Answered d .ok ∧
    d.ctl.time.nextEdge = (s.dev.tb + 3) / 4 * 4 + 4 * s.dev.get RM_PERIOD_NOW_NS ∧ d.ctl.time.accRst = true ∧
    OnlyChanges [RM_CTRL_RUN, RM_CTRL_AUTO_ALIGN, RM_CTRL_TICK_IRQ_DIV, RM_STATUS_RUNNING] [.time, .ans] s.dev d)) ∧
  (∀ s : State, s.dev.get RM_CTRL_RUN = 0 → s.dev.get RM_STATUS_PLL_LOCK = 0 → Completes .runSet s (fun d =>
    d.get RM_CTRL_RUN = 0 ∧ Answered d .retry ∧
    OnlyChanges [RM_CTRL_AUTO_ALIGN, RM_CTRL_TICK_IRQ_DIV] [.ans] s.dev d)) ∧
  (∀ s : State, s.dev.get RM_CTRL_RUN = 1 → armedLeads s.dev = [] → s.dev.get RM_CONTRACT_CTRL_CASC_ALLOW = 0 →
    Completes .runClear s (fun d =>
      d.get RM_CTRL_RUN = 0 ∧ d.get RM_STATUS_RUNNING = 0 ∧ d.ctl.time.running = false ∧ Answered d .ok ∧
      SameParts [.time, .ans, .rings] s.dev d)) ∧
  (∀ s : State, s.dev.get RM_CTRL_RUN = 1 → armedLeads s.dev ≠ [] → Completes .runClear s (fun d =>
    Answered d .perm ∧ OnlyChanges [] [.ans] s.dev d)) ∧
  (∀ (s : State) (lo : Word), s.dev.get RM_CTRL_RUN = 0 → Completes (.tickSet lo) s (fun d =>
    d.ctl.time = { s.dev.ctl.time with count := s.dev.get RM_TICK_SET_HI_SET_HI * 2 ^ 32 + lo.toNat } ∧ Answered d .ok ∧
    OnlyChanges [RM_TICK_SET_LO_SET_LO] [.time, .ans] s.dev d)) ∧
  (∀ (s : State) (lo : Word), s.dev.get RM_CTRL_RUN = 1 → Completes (.tickSet lo) s (fun d =>
    Answered d .perm ∧ OnlyChanges [] [.ans] s.dev d)) ∧
  (∀ (s : State) (ins : List (Fin 128 × Fin 32 × BitVec 56 × Bool)), s.dev.ctl.time.running = true →
    s.dev.ctl.time.join = none → s.dev.ctl.time.pend = none → s.dev.ctl.time.rephase = none →
    s.dev.ctl.time.fixNext = none → s.dev.ctl.time.accRst = false → Completes (.tickEdge ins) s (fun d =>
      d.ctl.time.count = (s.dev.ctl.time.count + 1) % 2 ^ 64 ∧ d.ctl.time.lastEdge = s.dev.ctl.time.nextEdge ∧
      s.dev.ctl.time.nextEdge ≤ d.tb ∧
      d.get RM_PERIOD_NOW_FRAC_ACC = (s.dev.get RM_PERIOD_NOW_FRAC_ACC + s.dev.get RM_PERIOD_NOW_FRAC_FRAC) % 65536 ∧
      d.ctl.time.nextEdge = s.dev.ctl.time.nextEdge + 4 * (s.dev.get RM_PERIOD_NOW_NS +
        (if 65536 ≤ s.dev.get RM_PERIOD_NOW_FRAC_ACC + s.dev.get RM_PERIOD_NOW_FRAC_FRAC then 1 else 0)))) ∧
  (∀ (s : State) (ins : List (Fin 128 × Fin 32 × BitVec 56 × Bool)), s.dev.ctl.time.running = false →
    exec (.tickEdge ins) s = .next s) ∧
  (∀ s : State, s.dev.get RM_CMD_STAT_BUSY = 0 → s.dev.get RM_STATUS_DISC ≠ 4 → s.dev.get RM_CTRL_RUN = 0 →
    failing s.dev (s.dev.get TG_VSAFE_MV) (s.dev.get RM_CONTRACT_CTRL_TJ_DESIGN) (s.dev.get RM_PERIOD_NEXT_NS) = [] →
    Completes .applyPeriod s (fun d =>
      d.get RM_PERIOD_NOW_NS = s.dev.get RM_PERIOD_NEXT_NS ∧
      d.get RM_PERIOD_NOW_FRAC_FRAC = s.dev.get RM_PERIOD_NEXT_FRAC_FRAC ∧ d.get RM_CMD_STAT_RESULT = 0 ∧
      d.get RM_IRQ_CAUSE_CMD_DONE = 1 ∧ d.ctl.time.cmdDone = true ∧ Answered d .ok ∧
      SameParts [.time, .ans] s.dev d)) ∧
  (∀ s : State, s.dev.get RM_CMD_STAT_BUSY = 0 → s.dev.get RM_STATUS_DISC ≠ 4 → s.dev.get RM_CTRL_RUN = 1 →
    failing s.dev (s.dev.get TG_VSAFE_MV) (s.dev.get RM_CONTRACT_CTRL_TJ_DESIGN) (s.dev.get RM_PERIOD_NEXT_NS) = [] →
    Completes .applyPeriod s (fun d =>
      (∃ n, d.ctl.time.pend = some (.period (s.dev.get RM_PERIOD_NEXT_NS) (s.dev.get RM_PERIOD_NEXT_FRAC_FRAC) n true)) ∧
      d.get RM_PERIOD_NOW_NS = s.dev.get RM_PERIOD_NOW_NS ∧ d.get RM_CMD_STAT_BUSY = 1 ∧ d.get RM_STATUS_PEND = 1 ∧
      Answered d .ok ∧
      OnlyChanges [RM_STATUS_PEND, RM_CMD_STAT_BUSY, RM_CMD_STAT_ABORT_LATE, RM_CMD_STAT_RESULT, RM_CMD_EFFECT_LO_EFFECT_LO,
        RM_CMD_EFFECT_HI_EFFECT_HI] [.time, .ans] s.dev d)) ∧
  (∀ s : State, s.dev.get RM_CMD_STAT_BUSY = 0 → s.dev.get RM_STATUS_DISC ≠ 4 →
    failing s.dev (s.dev.get TG_VSAFE_MV) (s.dev.get RM_CONTRACT_CTRL_TJ_DESIGN) (s.dev.get RM_PERIOD_NEXT_NS) ≠ [] →
    Completes .applyPeriod s (fun d =>
      d.get RM_CONTRACT_STATUS_PERIOD_REJ = 1 ∧ d.get RM_CMD_STAT_RESULT = 4 ∧ Answered d .perm ∧
      OnlyChanges [RM_CONTRACT_STATUS_PERIOD_REJ, RM_CMD_STAT_RESULT, RM_CMD_STAT_ABORT_LATE] [.time, .ans] s.dev d)) ∧
  (∀ s : State, s.dev.get RM_CMD_STAT_BUSY = 0 → s.dev.get RM_STATUS_DISC ≠ 4 → s.dev.get RM_CTRL_RUN = 1 →
    Completes .align s (fun d => (∃ tb n, d.ctl.time.pend = some (.align tb n true)) ∧ d.get RM_CMD_STAT_BUSY = 1 ∧
      d.get RM_STATUS_PEND = 1 ∧ Answered d .ok ∧
      OnlyChanges [RM_STATUS_PEND, RM_CMD_STAT_BUSY, RM_CMD_STAT_ABORT_LATE, RM_CMD_STAT_RESULT, RM_CMD_EFFECT_LO_EFFECT_LO,
        RM_CMD_EFFECT_HI_EFFECT_HI] [.time, .ans] s.dev d)) ∧
  (∀ s : State, s.dev.get RM_CMD_STAT_BUSY = 0 → s.dev.get RM_CTRL_RUN = 0 → Completes .align s (fun d =>
    d.get RM_CMD_STAT_RESULT = 4 ∧ Answered d .perm ∧
    OnlyChanges [RM_CMD_STAT_RESULT, RM_CMD_STAT_ABORT_LATE] [.time, .ans] s.dev d)) ∧
  (∀ s : State, s.dev.ctl.time.pend ≠ none → s.dev.get RM_CMD_STAT_BUSY = 1 → effectNow s.dev.ctl.time = false →
    Completes .cancel s (fun d =>
      d.ctl.time.pend = none ∧ d.get RM_CMD_STAT_BUSY = 0 ∧ d.get RM_CMD_STAT_RESULT = 11 ∧ d.get RM_STATUS_PEND = 0 ∧
      d.get RM_IRQ_CAUSE_CMD_DONE = 1 ∧ Answered d .ok ∧
      OnlyChanges [RM_CMD_STAT_BUSY, RM_CMD_STAT_RESULT, RM_STATUS_PEND, RM_IRQ_CAUSE_CMD_DONE] [.time, .ans] s.dev d)) ∧
  (∀ s : State, s.dev.get RM_CMD_STAT_BUSY = 1 → effectNow s.dev.ctl.time = true → Completes .cancel s (fun d =>
    d.get RM_CMD_STAT_ABORT_LATE = 1 ∧ Answered d .ok ∧ OnlyChanges [RM_CMD_STAT_ABORT_LATE] [.ans] s.dev d)) ∧
  (∀ s : State, s.dev.ctl.time.pend = none → s.dev.ctl.time.cmdDone = true → Completes .cancel s (fun d =>
    d.get RM_CMD_STAT_ABORT_LATE = 1 ∧ Answered d .ok ∧ OnlyChanges [RM_CMD_STAT_ABORT_LATE] [.ans] s.dev d))

/-- Chapter 11: discipline and time of day.
Readings that are the model's choice, where a clause rests on one: log entries 1, 2 and 17. -/
def Obligations.TimeDiscipline : Prop :=
  (∀ (s : State) (v : Word), s.dev.get RM_DISC_SRC = 1 → s.dev.get RM_STATUS_DISC = 0 → s.dev.get RM_STATUS_HISTORY = 0 →
    Completes (.ptpSample v) s (fun d =>
      d.ctl.time.todOff = s.dev.ctl.time.todOff - signed 32 v.toNat ∧ d.get RM_STATUS_HISTORY = 1 ∧
      d.get RM_STATUS_DISC = 1 ∧ d.get RM_IRQ_CAUSE_LOCK_CHG = 1 ∧ d.ctl.time.lastSample = some s.dev.tb ∧ Answered d .ok ∧
      OnlyChanges [RM_OFS_LAST_OFS, RM_STATUS_HISTORY, RM_STATUS_DISC, RM_IRQ_CAUSE_LOCK_CHG] [.time, .ans] s.dev d)) ∧
  (∀ (s : State) (falling : Bool) (tb : BitVec 64), ppsPin s.dev = true → falling = s.dev.flag RM_DISC_PPS_POL →
    s.dev.ctl.time.lastPps = none → s.dev.get RM_STATUS_DISC ≠ 2 → Completes (.ppsInEdge falling tb) s (fun d =>
      d.get RM_PPS_IN_STAT_ACCEPTS = (s.dev.get RM_PPS_IN_STAT_ACCEPTS + 1) % 65536 ∧
      d.get RM_PPS_IN_STAT_REJECTS = s.dev.get RM_PPS_IN_STAT_REJECTS ∧
      d.get RM_PPS_IN_NS_NS = ((((Nat.max s.dev.tb (s.dev.ownTb tb.toNat) : Nat) : Int) + s.dev.ctl.time.todOff
        - signed 16 (s.dev.get RM_PPS_ADJ_IN_ADJ)) % (second : Int)).toNat / 4 ∧
      OnlyChanges [RM_PPS_IN_STAT_ACCEPTS, RM_PPS_IN_NS_NS, RM_PPS_IN_NS_QNS] [.time] s.dev d)) ∧
  (∀ s : State, (s.dev.get RM_STATUS_DISC = 1 ∨ s.dev.get RM_STATUS_DISC = 2) → Completes .discTimeout s (fun d =>
    d.get RM_STATUS_DISC = 3 ∧ d.get RM_IRQ_CAUSE_HOLDOVER = 1 ∧ d.get RM_IRQ_CAUSE_LOCK_CHG = 1 ∧
    OnlyChanges [RM_STATUS_DISC, RM_IRQ_CAUSE_HOLDOVER, RM_IRQ_CAUSE_LOCK_CHG] [.time] s.dev d)) ∧
  (∀ (s : State) (v : Word), s.dev.get RM_DISC_SRC = 0 → Completes (.timeSet v) s (fun d =>
    d.tod = ((s.dev.get RM_TIME_SET_SEC_LO_SEC_LO + 2 ^ 32 * s.dev.get RM_TIME_SET_SEC_HI_SEC_HI) * second + v.toNat : Nat) ∧
    Answered d .ok ∧ OnlyChanges [RM_TIME_SET_NS_NS, RM_TIME_SET_NS_QNS] [.time, .ans] s.dev d)) ∧
  (∀ (s : State) (v : Word), s.dev.get RM_DISC_SRC ≠ 0 → Completes (.timeSet v) s (fun d =>
    Answered d .perm ∧ OnlyChanges [] [.ans] s.dev d)) ∧
  (∀ (s : State) (v : Word), v.toNat / 2 ^ 30 = 0 → s.dev.get RM_STATUS_DISC ≠ 4 → Completes (.srcWrite v) s (fun d =>
    d.get RM_DISC_SRC = 0 ∧ d.get RM_STATUS_DISC = 0 ∧ Answered d .ok ∧
      SameParts [.time, .ans] s.dev d)) ∧
  (∀ s : State, s.dev.get RM_PPS_OUT_EN = 1 → s.dev.get RM_PPS_OUT_ALWAYS = 1 → Completes .ppsOutPulse s (fun d =>
    (∃ sec : Int, d.ctl.time.ppsSec = some sec ∧
      d.ctl.out = .ppsOut (s.dev.flag RM_PPS_OUT_POL) (s.dev.get RM_PPS_OUT_WIDTH) sec.toNat :: s.dev.ctl.out) ∧
    OnlyChanges [] [.time, .out] s.dev d))

/-- Chapter 12, the regulator link: what starts, ends and repeats a frame.
Readings that are the model's choice, where a clause rests on one: log entries 1 and 61. -/
def Obligations.RegulatorLink : Prop :=
  (∀ s : State, s.dev.get TG_STATUS_MODE = 0 → s.dev.tg.frames = [] → s.dev.tg.held = false → s.dev.tg.cut = false →
    s.dev.tg.inStatus = false → s.dev.get TG_FORCE_EN = 0 → Completes (.avsLinkStart [(true, false), (true, false)]) s (fun d =>
    d.get TG_STATUS_MODE = 1 ∧ d.get TG_STATUS_HOLD_LEFT = 256 ∧
    d.tg.cmd = some (Nat.min (if s.dev.tg.auto800 then 800 else s.dev.get TG_EFF_VSAFE_EFF_MV) 900) ∧
    d.tg.rateSent = true ∧ d.get TG_STATUS_REG_FAULT = 0 ∧
    d.ctl.out = .avs .readStatus :: .avs (.writeRate (s.dev.get TG_AVS_SLEW)) :: s.dev.ctl.out ∧
    OnlyChanges [TG_STATUS_MODE, TG_STATUS_HOLD_LEFT, TG_STATUS_BELOW_FLOOR, TG_STATUS_REG_FAULT] [.out, .tg, .rings] s.dev d)) ∧
  (∀ (s : State) (f : AvsFrame) (rest : List AvsFrame) (e : Bool) (v : BitVec 16),
    s.dev.tg.frames = f :: rest → s.dev.tg.held = false → s.dev.tg.cut = false → s.dev.tg.attempt < 3 →
    Completes (.avsFrameDone false e v) s (fun d =>
      d.tg = { s.dev.tg with attempt := s.dev.tg.attempt + 1 } ∧
      d.ctl.out = .avs (if s.dev.tg.inStatus then .readStatus else f) :: s.dev.ctl.out ∧
      d.get TG_AVS_ERRORS = Nat.min (s.dev.get TG_AVS_ERRORS + 1) 65535 ∧
      OnlyChanges [TG_AVS_ERRORS] [.out, .tg] s.dev d)) ∧
  (∀ (s : State) (f : AvsFrame) (rest : List AvsFrame) (e : Bool) (v : BitVec 16),
    s.dev.tg.frames = f :: rest → s.dev.tg.held = false → s.dev.tg.cut = false → 3 ≤ s.dev.tg.attempt →
    s.dev.get TG_STATUS_REG_FAULT = 0 → Completes (.avsFrameDone false e v) s (fun d =>
      d.get TG_STATUS_REG_FAULT = 1 ∧ d.get TG_IRQ_CAUSE_REG_FAULT = 1 ∧ d.tg.held = true ∧ d.tg.frames = s.dev.tg.frames ∧
      OnlyChanges [TG_AVS_ERRORS, TG_STATUS_REG_FAULT, TG_IRQ_CAUSE_REG_FAULT, BBR_LOST_QUEUE] [.out, .tg, .bbr] s.dev d)) ∧
  (∀ (s : State) (mv : Nat) (rest : List AvsFrame) (v : BitVec 16),
    s.dev.tg.frames = .writeVoltage mv :: rest → s.dev.tg.held = false → s.dev.tg.inStatus = true →
    Completes (.avsFrameDone true false v) s (fun d =>
      d.get TG_VCMD_CMD_MV = mv % 1024 ∧
      d.tg = { s.dev.tg with frames := rest, inStatus := false, attempt := 0, pairTry := 0, cut := false } ∧
      d.get TG_STATUS_REG_FAULT = 0 ∧ d.ctl.out = .avs .readStatus :: s.dev.ctl.out ∧
      OnlyChanges [TG_VCMD_CMD_MV, TG_STATUS_REG_FAULT] [.out, .tg] s.dev d)) ∧
  (∀ s : State, s.dev.get TG_STATUS_REG_FAULT = 1 → Completes .avsRetry s (fun d =>
    d.tg = { s.dev.tg with held := false } ∧ OnlyChanges [] [.tg] s.dev d)) ∧
  (∀ (s : State) (amps : BitVec 16) (fails : Fin 5), s.dev.get TG_STATUS_MODE ≠ 0 → fails.val < 4 →
    Completes (.currentRead amps fails) s (fun d =>
      d.get TG_IOUT_AMPS = amps.toNat ∧ d.get TG_AVS_ERRORS = Nat.min (s.dev.get TG_AVS_ERRORS + fails.val) 65535 ∧
      d.get TG_STATUS_REG_FAULT = 0 ∧ d.ctl.out = List.replicate (fails.val + 1) (.avs .readCurrent) ++ s.dev.ctl.out ∧
      OnlyChanges [TG_IOUT_AMPS, TG_AVS_ERRORS, TG_STATUS_REG_FAULT] [.out] s.dev d)) ∧
  (∀ (s : State) (amps : BitVec 16), s.dev.get TG_STATUS_MODE ≠ 0 → Completes (.currentRead amps 4) s (fun d =>
    d.get TG_STATUS_REG_FAULT = 1 ∧ d.get TG_IOUT_AMPS = s.dev.get TG_IOUT_AMPS ∧
    d.get TG_AVS_ERRORS = Nat.min (s.dev.get TG_AVS_ERRORS + 4) 65535 ∧
      OnlyChanges [TG_STATUS_REG_FAULT, TG_AVS_ERRORS, TG_IRQ_CAUSE_REG_FAULT, BBR_LOST_QUEUE] [.bbr, .out, .tg] s.dev d)) ∧
  (∀ (s : State) (rate : BitVec 8), Completes (.slewWrite rate) s (fun d =>
    d.get TG_AVS_SLEW = (if rate.toNat = 0 then 1 else rate.toNat) ∧ Answered d .ok ∧ d.tg.rateSent = false ∧
    d.tg.frames = (if s.dev.tg.held then [] else s.dev.tg.frames.take 1) ++ .writeRate (d.get TG_AVS_SLEW) ::
      (if s.dev.tg.held then s.dev.tg.frames else s.dev.tg.frames.drop 1).filter (fun f => !isRate f) ∧
    OnlyChanges [TG_AVS_SLEW] [.ans, .tg] s.dev d))

/-- Chapter 12: what moves Tightrope between its modes and what its bounds follow.
Readings that are the model's choice, where a clause rests on one: log entries 1 and 61. -/
def Obligations.GovernorModes : Prop :=
  (∀ s : State, (s.dev.get TG_STATUS_MODE = 1 ∨ s.dev.get TG_STATUS_MODE = 2) → s.dev.get TG_STATUS_HOLD_LEFT = 0 →
    Completes .holdExpiry s (fun d => d.get TG_STATUS_MODE = 3 ∧ d.tg = { s.dev.tg with sMin := none } ∧
      OnlyChanges [TG_STATUS_MODE] [.tg] s.dev d)) ∧
  (∀ s : State, Completes .floorRecompute s (fun d =>
    d.get RM_CONTRACT_STATUS_FLOOR_MV = (match floorRow s.dev with | some row => 650 + 25 * row | none => 900) ∧
    d.get RM_CONTRACT_STATUS_FLOOR_NONE = (if floorRow s.dev = none then 1 else 0) ∧
    d.get TG_EFF_VSAFE_EFF_MV = Nat.min (Nat.max (s.dev.get TG_VSAFE_MV)
      (d.get RM_CONTRACT_STATUS_FLOOR_MV + s.dev.get TG_STEP_GUARD)) 900 ∧
    OnlyChanges [RM_CONTRACT_STATUS_FLOOR_MV, RM_CONTRACT_STATUS_FLOOR_NONE, RM_CONTRACT_STATUS_T_RANGE,
      RM_CONTRACT_STATUS_VSAFE_LOW, TG_EFF_VSAFE_EFF_MV, TG_STATUS_BELOW_FLOOR] [.tg, .rings] s.dev d)) ∧
  (∀ s : State, s.dev.get TG_CTRL_LOCK = 0 → Completes .governedClear s (fun d =>
    d.get TG_CTRL_GOVERNED = 0 ∧ d.get TG_CTRL_LOCK = 0 ∧ Answered d .ok ∧
    OnlyChanges [TG_CTRL_LOCK, TG_CTRL_GOVERNED, TG_CTRL_TARGET_HI, TG_CTRL_TARGET_LO, TG_EFF_VSAFE_EFF_MV,
      TG_STATUS_BELOW_FLOOR] [.tg, .rings, .ans] s.dev d)) ∧
  (∀ (s : State) (c : Nat), s.dev.get TG_CTRL_LOCK = 0 → s.dev.get TG_STATUS_MODE = 3 → s.dev.tg.age = none →
    s.dev.tg.cmd = some c → c < Nat.min (s.dev.get RM_CONTRACT_STATUS_FLOOR_MV + s.dev.get TG_STEP_GUARD) 900 →
    Completes .governedClear s (fun d =>
      d.tg.cmd = some (Nat.min (s.dev.get RM_CONTRACT_STATUS_FLOOR_MV + s.dev.get TG_STEP_GUARD) 900))) ∧
  (∀ s : State, s.dev.get TG_CTRL_LOCK = 1 → s.dev.get TG_CTRL_GOVERNED = 1 → Completes .governedClear s (fun d =>
    Answered d .perm ∧ OnlyChanges [] [.ans] s.dev d)) ∧
  (∀ (s : State) (mv : BitVec 10), armedLeads s.dev = [] → s.dev.get TG_STATUS_MODE ≠ 0 → s.dev.get TG_STATUS_MODE ≠ 5 →
    650 ≤ mv.toNat → mv.toNat ≤ 900 → Completes (.force mv) s (fun d =>
      d.get TG_FORCE_EN = 1 ∧ d.get TG_FORCE_MV = mv.toNat ∧ d.get TG_STATUS_MODE = 4 ∧ d.tg.cmd = some mv.toNat ∧
      Answered d .ok ∧
      OnlyChanges [TG_FORCE_EN, TG_FORCE_MV, TG_STATUS_MODE, TG_STATUS_BELOW_FLOOR] [.tg, .rings, .ans] s.dev d)) ∧
  (∀ (s : State) (mv : BitVec 10), armedLeads s.dev = [] → s.dev.get TG_STATUS_MODE = 0 → 650 ≤ mv.toNat → mv.toNat ≤ 900 →
    Completes (.force mv) s (fun d =>
      d.get TG_FORCE_EN = 1 ∧ d.get TG_FORCE_MV = mv.toNat ∧ Answered d .ok ∧
      OnlyChanges [TG_FORCE_EN, TG_FORCE_MV] [.ans] s.dev d)) ∧
  (∀ (s : State) (mv : BitVec 10), (armedLeads s.dev ≠ [] ∨ s.dev.get TG_STATUS_MODE = 5 ∨ mv.toNat < 650 ∨ 900 < mv.toNat) →
    Completes (.force mv) s (fun d => Answered d .perm ∧ OnlyChanges [] [.ans] s.dev d)) ∧
  (∀ s : State, s.dev.get TG_STATUS_MODE = 4 → s.dev.tg.auto800 = false → Completes .forceRelease s (fun d =>
    d.get TG_FORCE_EN = 0 ∧ d.get TG_STATUS_MODE = 2 ∧ d.get TG_STATUS_HOLD_LEFT = s.dev.get TG_HOLD_RECOVER ∧
    d.tg.cmd = some (Nat.min (s.dev.get TG_EFF_VSAFE_EFF_MV) 900) ∧ Answered d .ok ∧
    OnlyChanges [TG_FORCE_EN, TG_FORCE_MV, TG_STATUS_MODE, TG_STATUS_HOLD_LEFT, TG_STATUS_BELOW_FLOOR] [.tg, .rings, .ans]
      s.dev d)) ∧
  (∀ s : State, s.dev.get TG_STATUS_MODE = 5 → tjMax s.dev < threshold (s.dev.get TG_THERM_HOT) → s.dev.tg.auto800 = false →
    Completes .clrFault s (fun d =>
      d.get TG_STATUS_MODE = 2 ∧ d.get TG_STATUS_HOLD_LEFT = s.dev.get TG_HOLD_RECOVER ∧ d.tg.tripArm = true ∧
      d.tg.cmd = some (Nat.min (s.dev.get TG_EFF_VSAFE_EFF_MV) 900) ∧ Answered d .ok ∧
      OnlyChanges [TG_STATUS_MODE, TG_STATUS_HOLD_LEFT, TG_STATUS_BELOW_FLOOR] [.tg, .rings, .ans] s.dev d)) ∧
  (∀ s : State, threshold (s.dev.get TG_THERM_HOT) ≤ tjMax s.dev → Completes .clrFault s (fun d =>
    Answered d .perm ∧ OnlyChanges [] [.ans] s.dev d))

/-- Chapter 12: the decision of TRACK, the age check and the hour counts.
Readings that are the model's choice, where a clause rests on one: log entries 1, 41, 53 and 61. -/
def Obligations.GovernorSteps : Prop :=
  (∀ (s : State) (c x r : Nat), s.dev.get TG_STATUS_MODE = 3 → s.dev.tg.cmd = some c → s.dev.tg.settled = true →
    s.dev.tg.age = none → s.dev.tg.sMin = some (x, r) → x < s.dev.get TG_CTRL_TARGET_LO → Completes .decisionInterval s (fun d =>
      d.tg.cmd = some (Nat.min (c + s.dev.get TG_STEP_STEP_UP) 900) ∧ d.tg.sMin = none ∧
      d.get TG_SLACK_S_MIN = x % 256 ∧ d.get TG_SLACK_RING = r % 128 ∧
      OnlyChanges [TG_SLACK_S_MIN, TG_SLACK_RING, TG_STATUS_BELOW_FLOOR] [.tg, .rings] s.dev d)) ∧
  (∀ (s : State) (c x r : Nat), s.dev.get TG_STATUS_MODE = 3 → s.dev.tg.cmd = some c → s.dev.tg.sMin = some (x, r) →
    (s.dev.tg.settled = false ∨ s.dev.tg.age.isSome = true ∨
      (s.dev.get TG_CTRL_TARGET_LO ≤ x ∧ x ≤ s.dev.get TG_CTRL_TARGET_HI)) →
    Completes .decisionInterval s (fun d => d.tg = { s.dev.tg with sMin := none } ∧
      d.get TG_SLACK_S_MIN = x % 256 ∧ d.get TG_SLACK_RING = r % 128 ∧
      OnlyChanges [TG_SLACK_S_MIN, TG_SLACK_RING] [.tg] s.dev d)) ∧
  (∀ (s : State) (c x r : Nat), s.dev.get TG_STATUS_MODE = 3 → s.dev.tg.cmd = some c → s.dev.tg.settled = true →
    s.dev.tg.age = none → s.dev.tg.sMin = some (x, r) → s.dev.get TG_CTRL_TARGET_LO ≤ x → s.dev.get TG_CTRL_TARGET_HI < x →
    s.dev.get TG_STATUS_REG_FAULT = 0 → s.dev.get TG_IRQ_CAUSE_REG_ALERT = 0 → monsFailed s.dev ≤ 8 → c ≤ 900 →
    s.dev.get TG_STEP_STEP_DN ≠ 0 → lowerBound s.dev < c → Completes .decisionInterval s (fun d =>
      d.tg.cmd = some (Nat.max (c - s.dev.get TG_STEP_STEP_DN) (lowerBound s.dev)) ∧ d.tg.sMin = none ∧
      OnlyChanges [TG_SLACK_S_MIN, TG_SLACK_RING, TG_STATUS_BELOW_FLOOR] [.tg, .rings] s.dev d)) ∧
  (∀ (s : State) (c : Nat), s.dev.tg.age = none → s.dev.get TG_STATUS_MODE ≠ 0 → s.dev.get TG_STATUS_MODE ≠ 4 →
    s.dev.get TG_STATUS_MODE ≠ 5 → s.dev.tg.cmd = some c → Completes .ageCheck s (fun d =>
      d.tg.age = some { back := c, ready := s.dev.tb + 40000000 } ∧ d.tg.eolRun = 0 ∧ Answered d .ok ∧
      d.tg.cmd = some (if c < s.dev.get TG_EFF_VSAFE_EFF_MV then Nat.min (s.dev.get TG_EFF_VSAFE_EFF_MV) 900 else c) ∧
      OnlyChanges [TG_STATUS_BELOW_FLOOR] [.tg, .rings, .ans] s.dev d)) ∧
  (∀ (s : State) (a : AgeChk) (c : Nat), s.dev.tg.age = some a → s.dev.tg.eolRun < 16 → s.dev.get TG_STATUS_MODE = 3 →
    s.dev.get TG_STATUS_REG_FAULT = 0 → s.dev.get TG_IRQ_CAUSE_REG_ALERT = 0 → monsFailed s.dev ≤ 8 →
    s.dev.tg.cmd = some c → Nat.max a.back (lowerBound s.dev) < c → Completes .ageCheckTest s (fun d =>
      d.tg.age = none ∧ d.tg.cmd = some (Nat.min (Nat.max a.back (lowerBound s.dev)) 900) ∧ d.tb = Nat.max s.dev.tb a.ready ∧
      OnlyChanges [TG_STATUS_BELOW_FLOOR] [.tg, .rings, .time] s.dev d)) ∧
  (∀ (s : State) (a : AgeChk), s.dev.tg.age = some a → s.dev.tg.eolRun < 16 →
    (s.dev.get TG_STATUS_MODE = 1 ∨ s.dev.get TG_STATUS_MODE = 2) → Completes .ageCheckTest s (fun d =>
      d.tg = { s.dev.tg with age := none } ∧ d.tb = Nat.max s.dev.tb a.ready ∧ OnlyChanges [] [.tg, .time] s.dev d)) ∧
  (∀ (s : State) (a : AgeChk), s.dev.tg.age = some a → 16 ≤ s.dev.tg.eolRun → Completes .ageCheckTest s (fun d =>
    d.tg.age = none ∧ d.get TG_STATUS_MODE = 6 ∧ d.get TG_STATUS_EOL_WARN = 1 ∧ d.get TG_IRQ_CAUSE_EOL_WARN = 1 ∧
    d.tg.cmd = s.dev.tg.cmd ∧
      OnlyChanges [TG_STATUS_MODE, TG_STATUS_EOL_WARN, TG_IRQ_CAUSE_EOL_WARN, BBR_LOST_QUEUE] [.time, .bbr, .tg] s.dev d)) ∧
  (∀ s : State, Completes .hourCount s (fun d =>
    d.get TG_LIFE_HOURS = Nat.min (s.dev.get TG_LIFE_HOURS + 1) (2 ^ 32 - 1) ∧
    d.get TG_LIFE_HOT_HOT_HOURS = (if s.dev.tg.hotHour then Nat.min (s.dev.get TG_LIFE_HOT_HOT_HOURS + 1) (2 ^ 32 - 1)
      else s.dev.get TG_LIFE_HOT_HOT_HOURS) ∧ d.tg = { s.dev.tg with hotHour := false } ∧
    OnlyChanges [TG_LIFE_HOURS, TG_LIFE_HOT_HOT_HOURS] [.tg] s.dev d)) ∧
  (∀ s : State, Completes .lifeSave s (fun d =>
    d.tg = { s.dev.tg with savedHours := s.dev.get TG_LIFE_HOURS, savedHot := s.dev.get TG_LIFE_HOT_HOT_HOURS } ∧
    OnlyChanges [] [.tg] s.dev d))

/-- Chapter 12 and R31: writes of the safety net and of the design temperature, readings, alarms.
Readings that are the model's choice, where a clause rests on one: log entries 1, 8, 55 and 61. -/
def Obligations.SafetyNetAndSensors : Prop :=
  (∀ (s : State) (mv : BitVec 10), s.dev.get TG_CTRL_LOCK = 0 → 700 ≤ mv.toNat → mv.toNat ≤ 900 →
    failing s.dev mv.toNat (s.dev.get RM_CONTRACT_CTRL_TJ_DESIGN) (periodCheck s.dev) = [] → Completes (.vsafeWrite mv) s (fun d =>
      d.get TG_VSAFE_MV = mv.toNat ∧ Answered d .ok ∧
      d.get TG_EFF_VSAFE_EFF_MV = Nat.min (Nat.max mv.toNat (s.dev.get RM_CONTRACT_STATUS_FLOOR_MV + s.dev.get TG_STEP_GUARD)) 900 ∧
      OnlyChanges [TG_VSAFE_MV, TG_EFF_VSAFE_EFF_MV, TG_STATUS_BELOW_FLOOR] [.tg, .rings, .ans] s.dev d)) ∧
  (∀ (s : State) (mv : BitVec 10), s.dev.get TG_CTRL_LOCK = 0 → 700 ≤ mv.toNat → mv.toNat ≤ 900 →
    failing s.dev mv.toNat (s.dev.get RM_CONTRACT_CTRL_TJ_DESIGN) (periodCheck s.dev) ≠ [] → Completes (.vsafeWrite mv) s (fun d =>
      d.get RM_CONTRACT_STATUS_PERIOD_REJ = 1 ∧ Answered d .perm ∧
      OnlyChanges [RM_CONTRACT_STATUS_PERIOD_REJ] [.ans] s.dev d)) ∧
  (∀ (s : State) (mv : BitVec 10), (mv.toNat < 700 ∨ 900 < mv.toNat) → Completes (.vsafeWrite mv) s (fun d =>
    Answered d .perm ∧ OnlyChanges [] [.ans] s.dev d)) ∧
  (∀ (s : State) (col : Fin 8), s.dev.get RM_CONTRACT_CTRL_LOCK = 0 →
    failing s.dev (s.dev.get TG_VSAFE_MV) (Nat.min col.val 5) (periodCheck s.dev) = [] → Completes (.tjDesignWrite col) s (fun d =>
      d.get RM_CONTRACT_CTRL_TJ_DESIGN = Nat.min col.val 5 ∧ Answered d .ok ∧
      OnlyChanges [RM_CONTRACT_CTRL_TJ_DESIGN, RM_CONTRACT_CEIL_NONE, RM_CONTRACT_CEIL_LIMIT_RING, RM_CONTRACT_CEIL_CEIL,
        RM_CONTRACT_STATUS_VSAFE_LOW] [.ans] s.dev d)) ∧
  (∀ (s : State) (col : Fin 8), s.dev.get RM_CONTRACT_CTRL_LOCK = 0 →
    failing s.dev (s.dev.get TG_VSAFE_MV) (Nat.min col.val 5) (periodCheck s.dev) ≠ [] → Completes (.tjDesignWrite col) s (fun d =>
      d.get RM_CONTRACT_STATUS_PERIOD_REJ = 1 ∧ Answered d .perm ∧
      OnlyChanges [RM_CONTRACT_STATUS_PERIOD_REJ] [.ans] s.dev d)) ∧
  (∀ (s : State) (vcores : Vector (BitVec 10) 8) (temps : List (Option Int)) (mons : List (Option Nat)),
    Completes (.sensorRead vcores temps mons) s (fun d =>
      d.get TG_VCMD_SENSED_MV = lowestSense vcores ∧ d.tg.temps = (padTo 32 temps).map goodTemp ∧
      d.tg.mons = (trimmed s.dev (padTo 64 mons)).map goodMon ∧
      d.get TG_SENS_FAIL_SENS = failBits ((padTo 32 temps).map goodTemp) % 2 ^ 32)) ∧
  (∀ s : State, s.dev.tg.settled = false → Completes .regulatorSettleTimeout s (fun d =>
    d.get TG_IRQ_CAUSE_REG_SLOW = 1 ∧ OnlyChanges [TG_IRQ_CAUSE_REG_SLOW] [] s.dev d)) ∧
  (∀ s : State, alertPin s.dev = true → Completes .pmbusAlert s (fun d =>
    d.get TG_IRQ_CAUSE_REG_ALERT = 1 ∧ OnlyChanges [TG_IRQ_CAUSE_REG_ALERT, BBR_LOST_QUEUE] [.bbr] s.dev d))

/-- R459 to R461, R471: what the two routes take and how a stream begins.
Readings that are the model's choice, where a clause rests on one: log entries 1 and 39. -/
def Obligations.ConfigRoutes : Prop :=
  (∀ (s : State) (v : Word), portLoad s.dev = false → Completes (.hostWindowWrite v) s (fun d =>
    d.cfg = { s.dev.cfg with win := s.dev.cfg.win ++ [v] } ∧ Answered d .ok ∧ OnlyChanges [] [.ans, .cfg] s.dev d)) ∧
  (∀ (s : State) (v : Word), portLoad s.dev = true → Completes (.hostWindowWrite v) s (fun d =>
    Answered d .retry ∧ OnlyChanges [] [.ans] s.dev d)) ∧
  (∀ (s : State) (data : List Word), s.dev.cfg.syncW = false → windowLoad s.dev = false →
    s.dev.get CFG_STATUS_INIT_PIN = 0 → Completes (.syncWord true data) s (fun d =>
      d.cfg = { s.dev.cfg with win := [] } ∧ OnlyChanges [] [.cfg] s.dev d)) ∧
  (∀ (s : State) (data skipped rest : List Word), s.dev.cfg.syncW = false → windowLoad s.dev = false →
    s.dev.get CFG_STATUS_INIT_PIN = 1 → s.dev.cfg.win = skipped ++ 0x5A3C96E1#32 :: rest → (0x5A3C96E1#32 : Word) ∉ skipped →
    Completes (.syncWord true data) s (fun d =>
      d.cfg = { s.dev.cfg with win := rest, syncW := true } ∧ d.tb = Nat.max s.dev.tb (s.dev.cfg.initAt + 4000) ∧
      d.get CFG_STATUS_STATE = (if s.dev.get CFG_STATUS_STATE = 1 then 2 else s.dev.get CFG_STATUS_STATE) ∧
      OnlyChanges [CFG_STATUS_STATE] [.cfg, .time] s.dev d)) ∧
  (∀ (s : State) (data : List Word) (rest : List Bool), portPins s.dev = true → s.dev.cfg.load = none →
    s.dev.cfg.syncP = false → s.dev.get CFG_STATUS_INIT_PIN = 1 →
    afterSync (if portWidth s.dev ≤ 4 then 1 else portWidth s.dev)
      (s.dev.cfg.port ++ data.flatMap (fun v => transferBits s.dev (portWidth s.dev) v.toNat)).length
      (s.dev.cfg.port ++ data.flatMap (fun v => transferBits s.dev (portWidth s.dev) v.toNat)) = some rest →
    Completes (.syncWord false data) s (fun d =>
      d.cfg = { s.dev.cfg with port := rest, syncP := true } ∧ d.tb = Nat.max s.dev.tb (s.dev.cfg.initAt + 4000) ∧
      d.get CFG_STATUS_STATE = (if s.dev.get CFG_STATUS_STATE = 1 then 2 else s.dev.get CFG_STATUS_STATE) ∧
      OnlyChanges [CFG_STATUS_STATE] [.cfg, .time] s.dev d))

/-- R462, R469, R473, R474: what the HEADER of a route does.
Readings that are the model's choice, where a clause rests on one: log entries 1 and 39. -/
def Obligations.ConfigHeaders : Prop :=
  (∀ (s : State) (window : Bool) (data : List Word) (d1 : Dev) (ws : List Nat),
    d1 = (if window then s.dev else portTake data s.dev) → synced d1 window = true → (window = true ∨ windowLoad d1 = false) →
    streamWords d1 window = 0x10000008 :: ws → 8 ≤ ws.length →
    headerCode (dropWords window 9 d1) window (ws.take 8) = 0 → bitAt (ws.getD 2 0) 0 = false →
    Completes (.headerPacket window data) s (fun d =>
      d.cfg.load = some ({
        window := window
        enc := bitAt (ws.getD 2 0) 1
        design := ws.getD 1 0
        mask := 2 ^ 128 - 1
        aad := (0x10000008 :: ws.take 8).flatMap (leBytes 4) } : LoadSt) ∧
      d.get CFG_STATUS_STATE = 3 ∧ d.get CFG_STATUS_BUSY = 1 ∧ d.get CFG_STATUS_ABORT_LATE = 0 ∧ d.get CFG_FRAMES_FRAMES = 0 ∧
      d.get CFG_STATUS_ENC_LAST = b2n (bitAt (ws.getD 2 0) 1) ∧ d.get CFG_STATUS_PARTIAL_LAST = 0 ∧
      synced d window = false ∧
      OnlyChanges [CFG_STATUS_STATE, CFG_STATUS_BUSY, CFG_STATUS_ABORT_LATE, CFG_FRAMES_FRAMES, CFG_STATUS_ENC_LAST,
        CFG_STATUS_PARTIAL_LAST] [.cfg] s.dev d)) ∧
  (∀ (s : State) (data : List Word) (ws : List Nat), s.dev.cfg.syncW = true →
    streamWords s.dev true = 0x10000008 :: ws → 8 ≤ ws.length →
    headerCode (dropWords true 9 s.dev) true (ws.take 8) = 0 → bitAt (ws.getD 2 0) 0 = true →
    Completes (.headerPacket true data) s (fun d =>
      (∃ l : LoadSt, d.cfg.load = some l ∧ l.part = true ∧ l.window = true ∧ l.design = ws.getD 1 0 ∧ l.left = 0 ∧
        l.mask = ws.getD 3 0 + 2 ^ 32 * ws.getD 4 0 + 2 ^ 64 * ws.getD 5 0 + 2 ^ 96 * ws.getD 6 0) ∧
      d.cfg.win = s.dev.cfg.win.drop 9 ∧ d.cfg.syncW = false)) ∧
  (∀ (s : State) (data : List Word) (d1 : Dev) (ws : List Nat) (c : Nat), d1 = portTake data s.dev →
    d1.cfg.syncP = true → windowLoad d1 = false → streamWords d1 false = 0x10000008 :: ws → 8 ≤ ws.length →
    headerCode (dropWords false 9 d1) false (ws.take 8) = c → c ∈ [1, 2, 10, 11] → bitAt (ws.getD 2 0) 0 = false →
    Completes (.headerPacket false data) s (fun d =>
      d.get CFG_ERR_VALID = 1 ∧ d.get CFG_ERR_CODE = c ∧ d.get CFG_STATUS_STATE = 5 ∧ d.get CFG_STATUS_INIT_PIN = 0 ∧
      d.get CFG_IRQ_CAUSE_LOAD_ERR = 1 ∧ d.cfg.load = s.dev.cfg.load ∧
      OnlyChanges [CFG_ERR_VALID, CFG_ERR_CODE, CFG_ERR_RESP, CFG_ERR_RECORD, CFG_STATUS_STATE, CFG_STATUS_INIT_PIN,
        CFG_IRQ_CAUSE_LOAD_ERR, BBR_LOST_QUEUE] [.cfg, .bbr] s.dev d)) ∧
  (∀ (s : State) (data : List Word) (ws : List Nat) (c : Nat), s.dev.cfg.syncW = true →
    streamWords s.dev true = 0x10000008 :: ws → 8 ≤ ws.length →
    headerCode (dropWords true 9 s.dev) true (ws.take 8) = c → c ∈ [6, 7, 8, 15] →
    Completes (.headerPacket true data) s (fun d =>
      d.get CFG_ERR_VALID = 1 ∧ d.get CFG_ERR_CODE = c ∧ d.cfg.load = s.dev.cfg.load ∧ d.cfg.syncW = false ∧
      OnlyChanges [CFG_ERR_VALID, CFG_ERR_CODE, CFG_ERR_RESP, CFG_ERR_RECORD, CFG_IRQ_CAUSE_LOAD_ERR, BBR_LOST_QUEUE]
        [.cfg, .bbr] s.dev d)) ∧
  (∀ (s : State) (data : List Word), s.dev.cfg.syncW = false → Completes (.headerPacket true data) s (fun d =>
    OnlyChanges [] [] s.dev d))

/-- R461, R463, R468, R471, R500: frames and encrypted packets while a full load runs.
Readings that are the model's choice, where a clause rests on one: log entries 1 and 39. -/
def Obligations.ConfigFrames : Prop :=
  (∀ (s : State) (data : List Word) (l : LoadSt) (d1 : Dev) (ws : List Nat),
    loadHead data s.dev = some (l, .waits, d1) → l.left ≠ 0 → l.part = false → ws = streamWords d1 l.window →
    129 ≤ ws.length → frameValid l.next = true → frameType l.next ≤ 1 → frameCrc l.next (ws.take 128) = ws.getD 128 0 →
    Completes (.cfgFrame data) s (fun d =>
      storedWords d l.next = ws.take 128 ∧ frameRef d l.next = ws.getD 128 0 ∧
      d.get CFG_FRAMES_FRAMES = (s.dev.get CFG_FRAMES_FRAMES + 1) % 2 ^ 32 ∧
      d.cfg.load = some { l with next := nextAddr l.next, left := l.left - 1 } ∧
      OnlyChanges [CFG_FRAMES_FRAMES] [.cfg, .rings] s.dev d)) ∧
  (∀ (s : State) (data : List Word) (l : LoadSt) (d1 : Dev) (ws : List Nat),
    loadHead data s.dev = some (l, .waits, d1) → l.left ≠ 0 → l.part = false → ws = streamWords d1 l.window →
    129 ≤ ws.length → frameValid l.next = true → frameType l.next = 4 → frameCrc l.next (ws.take 128) = ws.getD 128 0 →
    Completes (.cfgFrame data) s (fun d =>
      d.chip.cells = wrBytes s.dev.chip.cells (frameMem l.next) ((ws.take 128).flatMap (leBytes 4)) ∧
      SameBytesBut s.dev.chip.cells d.chip.cells (frameMem l.next) 512 ∧
      d.get CFG_FRAMES_FRAMES = (s.dev.get CFG_FRAMES_FRAMES + 1) % 2 ^ 32 ∧
      d.cfg.load = some { l with next := nextAddr l.next, left := l.left - 1 } ∧
      OnlyChanges [CFG_FRAMES_FRAMES] [.cfg, .chip] s.dev d)) ∧
  (∀ (s : State) (data : List Word) (l : LoadSt) (d1 : Dev) (ws : List Nat) (c : Nat),
    loadHead data s.dev = some (l, .waits, d1) → l.left ≠ 0 → l.part = false → ws = streamWords d1 l.window →
    129 ≤ ws.length → c = (if frameValid l.next then 3 else 4) →
    (frameValid l.next = true → frameCrc l.next (ws.take 128) ≠ ws.getD 128 0) → l.next < 2 ^ 32 →
    Completes (.cfgFrame data) s (fun d =>
      d.get CFG_ERR_VALID = 1 ∧ d.get CFG_ERR_CODE = c ∧ d.get CFG_ERR_FADDR_FADDR = l.next ∧ d.cfg.load = none ∧
      d.get CFG_STATUS_STATE = 5 ∧ d.get CFG_STATUS_INIT_PIN = 0 ∧ d.get CFG_STATUS_BUSY = 0 ∧
      OnlyChanges [CFG_ERR_VALID, CFG_ERR_CODE, CFG_ERR_RESP, CFG_ERR_RECORD, CFG_ERR_FADDR_FADDR, CFG_STATUS_STATE,
        CFG_STATUS_INIT_PIN, CFG_STATUS_BUSY, CFG_IRQ_CAUSE_LOAD_ERR, BBR_LOST_QUEUE] [.cfg, .bbr] s.dev d)) ∧
  (∀ (s : State) (data : List Word) (l : LoadSt) (d1 : Dev), loadHead data s.dev = some (l, .bad, d1) → l.part = false →
    Completes (.cfgFrame data) s (fun d =>
      d.get CFG_ERR_CODE = 1 ∧ d.cfg.load = none ∧ d.get CFG_STATUS_STATE = 5 ∧ d.get CFG_STATUS_INIT_PIN = 0)) ∧
  (∀ (s : State) (data : List Word) (l : LoadSt) (d1 : Dev) (n : Nat) (ws : List Nat) (iv : List Nat) (cipher : List Byte),
    loadHead data s.dev = some (l, .enc n, d1) → l.part = false → ws = ((streamWords d1 l.window).drop 1).take n →
    iv = ((ws.take 3).flatMap (leBytes 4)).map (·.toNat) → cipher = ((ws.drop 3).take (n - 7)).flatMap (leBytes 4) →
    wordsOf (n - 7) (gcmPlain s.dev.cfg.fuseKey iv cipher) = [0] →
    gcmTag s.dev.cfg.fuseKey iv (l.aad.map (·.toNat)) (cipher.map (·.toNat)) =
      beNat (((ws.drop (n - 4)).flatMap (leBytes 4)).map (·.toNat)) →
    Completes (.encPacket data) s (fun d =>
      d.cfg.load = some { l with encIn := true } ∧ OnlyChanges [] [.cfg] s.dev d)) ∧
  (∀ (s : State) (data : List Word) (l : LoadSt) (d1 : Dev) (n : Nat) (ws : List Nat) (iv : List Nat) (cipher : List Byte),
    loadHead data s.dev = some (l, .enc n, d1) → l.part = false → ws = ((streamWords d1 l.window).drop 1).take n →
    iv = ((ws.take 3).flatMap (leBytes 4)).map (·.toNat) → cipher = ((ws.drop 3).take (n - 7)).flatMap (leBytes 4) →
    wordsOf (n - 7) (gcmPlain s.dev.cfg.fuseKey iv cipher) = [0] →
    gcmTag s.dev.cfg.fuseKey iv (l.aad.map (·.toNat)) (cipher.map (·.toNat)) ≠
      beNat (((ws.drop (n - 4)).flatMap (leBytes 4)).map (·.toNat)) →
    Completes (.encPacket data) s (fun d =>
      d.cfg.load = none ∧ d.get CFG_ERR_VALID = 1 ∧ d.get CFG_ERR_CODE = 9 ∧ d.get CFG_STATUS_STATE = 5))

/-- R466, R467, R472, R474, R476: how a load ends.
Readings that are the model's choice, where a clause rests on one: log entries 1, 39 and 40. -/
def Obligations.ConfigEnds : Prop :=
  (∀ (s : State) (data : List Word) (l : LoadSt) (d1 d2 : Dev) (ws : List Nat),
    loadHead data s.dev = some (l, .fin, d1) → l.part = false → ws = streamWords d1 l.window → ws.getD 2 0 = 0 →
    ws.getD 1 0 = s.dev.get CFG_FRAMES_FRAMES →
    applyRecs l.recs (dropHeld true (maskRings l.mask) (dropWords l.window 3 d1)) = (none, d2) →
    Completes (.endPacket data) s (fun d =>
      d.cfg.load = none ∧ d.get CFG_STATUS_STATE = 4 ∧ d.get CFG_STATUS_BUSY = 0 ∧ d.get CFG_STATUS_FULL_DONE = 1 ∧
      d.get CFG_STATUS_RELEASED = 0 ∧ d.get CFG_DESIGN_DESIGN_ID = l.design % 2 ^ 32 ∧ d.get CFG_IRQ_CAUSE_LOAD_DONE = 1 ∧
      d.cfg.shadow = l.recs)) ∧
  (∀ (s : State) (data : List Word) (l : LoadSt) (d1 : Dev) (ws : List Nat) (c : Nat),
    loadHead data s.dev = some (l, .fin, d1) → l.part = false → ws = streamWords d1 l.window →
    (c = 1 ∧ ws.getD 2 0 ≠ 0 ∨ c = 12 ∧ ws.getD 2 0 = 0 ∧ ws.getD 1 0 ≠ s.dev.get CFG_FRAMES_FRAMES) →
    Completes (.endPacket data) s (fun d =>
      d.get CFG_ERR_CODE = c ∧ d.cfg.load = none ∧ d.get CFG_STATUS_STATE = 5 ∧ d.get CFG_STATUS_INIT_PIN = 0 ∧
      OnlyChanges [CFG_ERR_VALID, CFG_ERR_CODE, CFG_ERR_RESP, CFG_ERR_RECORD, CFG_STATUS_STATE, CFG_STATUS_INIT_PIN,
        CFG_STATUS_BUSY, CFG_IRQ_CAUSE_LOAD_ERR, BBR_LOST_QUEUE] [.cfg, .bbr] s.dev d)) ∧
  (∀ (s : State) (data : List Word) (l : LoadSt) (d1 : Dev) (r : Nat), loadHead data s.dev = some (l, .fin, d1) →
    l.part = true → r ∈ maskRings l.mask → s.dev.get (RING_STATUS_STATE r) ≠ 5 →
    Completes (.endPacket data) s (fun d => d.cfg.load = some l ∧ OnlyChanges [] [.cfg] s.dev d)) ∧
  (∀ (s : State) (t : Nat), s.dev.cfg.doneAt = some t → s.dev.get CFG_STATUS_RELEASED = 1 →
    Completes .doneRelease s (fun d => d.get CFG_STATUS_DONE_PIN = 1 ∧ d.tb = Nat.max s.dev.tb (t + 4000) ∧
      OnlyChanges [CFG_STATUS_DONE_PIN] [.time] s.dev d)) ∧
  (∀ (s : State) (t : Nat), s.dev.cfg.doneAt = some t → s.dev.get CFG_STATUS_RELEASED = 0 →
    s.dev.get CFG_CTRL_WAIT_XMC = 0 → s.dev.cfg.heldRun = false → s.dev.cfg.starting = false →
    (∀ r : Nat, r < 128 → (s.dev.ring r).heldArm = false) → Completes .doneRelease s (fun d =>
      d.get CFG_STATUS_DONE_PIN = 1 ∧ d.get CFG_STATUS_RELEASED = 1 ∧ d.get CFG_IRQ_CAUSE_RELEASE = 1 ∧
      d.tb = Nat.max s.dev.tb (t + 4000) ∧
      OnlyChanges [CFG_STATUS_DONE_PIN, CFG_STATUS_RELEASED, CFG_IRQ_CAUSE_RELEASE] [.time] s.dev d)) ∧
  (∀ s : State, Completes .doneLow s (fun d =>
    d.get CFG_STATUS_DONE_PIN = 0 ∧
    d.get CFG_IRQ_CAUSE_DONE_LOW = (if s.dev.get CFG_STATUS_RELEASED = 1 then 1 else s.dev.get CFG_IRQ_CAUSE_DONE_LOW) ∧
    OnlyChanges [CFG_STATUS_DONE_PIN, CFG_IRQ_CAUSE_DONE_LOW] [] s.dev d)) ∧
  (∀ (s : State) (l : LoadSt), s.dev.cfg.load = some l → l.part = false → Completes .cfgAbort s (fun d =>
    d.cfg.load = none ∧ d.get CFG_ERR_CODE = 14 ∧ d.get CFG_STATUS_STATE = 5 ∧ d.get CFG_STATUS_INIT_PIN = 0 ∧
    d.get CFG_STATUS_BUSY = 0 ∧ Answered d .ok ∧
    OnlyChanges [CFG_ERR_VALID, CFG_ERR_CODE, CFG_ERR_RESP, CFG_ERR_RECORD, CFG_STATUS_STATE, CFG_STATUS_INIT_PIN,
      CFG_STATUS_BUSY, CFG_IRQ_CAUSE_LOAD_ERR, BBR_LOST_QUEUE] [.cfg, .bbr, .ans] s.dev d)) ∧
  (∀ s : State, s.dev.cfg.load = none → s.dev.cfg.endAt = none → Completes .cfgAbort s (fun d =>
    Answered d .ok ∧ OnlyChanges [] [.ans] s.dev d))

/-- R469, R489: the fuses.
Readings that are the model's choice, where a clause rests on one: log entries 1 and 42. -/
def Obligations.KeyFuses : Prop :=
  (∀ (s : State) (u : BitVec 16), u ≠ 0xF05E#16 ∨ s.dev.get CFG_KEY_STATUS_PROGRAMMED = 1 →
    Completes (.burnKey u) s (fun d => Answered d .perm ∧ OnlyChanges [] [.ans] s.dev d)) ∧
  (∀ (s : State) (u : BitVec 16), u ≠ 0xF05E#16 →
    Completes (.burnReqEnc u) s (fun d => Answered d .perm ∧ OnlyChanges [] [.ans] s.dev d)) ∧
  (∀ s : State, s.dev.get CFG_KEY_STATUS_FUSE_BUSY = 1 →
    Completes (.burnReqEnc 0xF05E#16) s (fun d => Answered d .retry ∧ OnlyChanges [] [.ans] s.dev d)) ∧
  (∀ s : State, s.dev.get CFG_KEY_STATUS_PROGRAMMED = 0 → s.dev.get CFG_KEY_STATUS_FUSE_BUSY = 0 →
    Completes (.burnKey 0xF05E#16) s (fun d =>
      d.cfg = { s.dev.cfg with burning := some (true, false) } ∧ d.get CFG_KEY_STATUS_FUSE_BUSY = 1 ∧ Answered d .ok ∧
      OnlyChanges [CFG_KEY_STATUS_FUSE_BUSY] [.ans, .cfg] s.dev d)) ∧
  (∀ s : State, s.dev.get CFG_KEY_STATUS_FUSE_BUSY = 0 →
    Completes (.burnReqEnc 0xF05E#16) s (fun d =>
      d.cfg = { s.dev.cfg with burning := some (false, true) } ∧ d.get CFG_KEY_STATUS_FUSE_BUSY = 1 ∧ Answered d .ok ∧
      OnlyChanges [CFG_KEY_STATUS_FUSE_BUSY] [.ans, .cfg] s.dev d)) ∧
  (∀ (s : State) (r : Bool), s.dev.cfg.burning = some (true, r) → Completes .burnDone s (fun d =>
    d.cfg.fuseKey = fuseData s.dev ∧ d.cfg.burning = none ∧ d.get CFG_KEY_STATUS_PROGRAMMED = 1 ∧
    d.get CFG_KEY_STATUS_KCV = kcvOf (fuseData s.dev) % 2 ^ 16 ∧ d.get CFG_KEY_STATUS_FUSE_BUSY = 0 ∧
    (∀ i : Nat, i < 8 → d.get (CFG_FUSE_DATA_KEY i) = 0) ∧
    OnlyChanges ([CFG_KEY_STATUS_PROGRAMMED, CFG_KEY_STATUS_KCV, CFG_KEY_STATUS_REQ_ENC_FUSE, CFG_KEY_STATUS_FUSE_BUSY] ++
      (List.range 8).map CFG_FUSE_DATA_KEY) [.cfg] s.dev d)) ∧
  (∀ s : State, s.dev.cfg.burning = some (false, true) → Completes .burnDone s (fun d =>
    d.get CFG_KEY_STATUS_REQ_ENC_FUSE = 1 ∧ d.get CFG_KEY_STATUS_FUSE_BUSY = 0 ∧ d.cfg = { s.dev.cfg with burning := none } ∧
    OnlyChanges ([CFG_KEY_STATUS_REQ_ENC_FUSE, CFG_KEY_STATUS_FUSE_BUSY] ++ (List.range 8).map CFG_FUSE_DATA_KEY) [.cfg]
      s.dev d)) ∧
  (∀ s : State, s.dev.cfg.burning = none → Completes .burnDone s (fun d => OnlyChanges [] [] s.dev d))

/-- R481 to R484, R491: the trim store.
Readings that are the model's choice, where a clause rests on one: log entries 1, 41, 42 and 63. -/
def Obligations.TrimStore : Prop :=
  (∀ s : State, s.dev.get TRIM_STAT_BUSY = 0 → Completes (.commit 0xC5A7#16) s (fun d =>
    d.trim = { s.dev.trim with op := 1, endAt := none } ∧ d.get TRIM_STAT_BUSY = 1 ∧ Answered d .ok ∧
    OnlyChanges [TRIM_STAT_BUSY, TRIM_STAT_ABORT_LATE] [.ans, .trim] s.dev d)) ∧
  (∀ (s : State) (c : BitVec 16), c ≠ 0xC5A7#16 → Completes (.commit c) s (fun d =>
    Answered d .perm ∧ OnlyChanges [] [.ans] s.dev d)) ∧
  (∀ s : State, s.dev.get TRIM_STAT_BUSY = 1 → Completes (.commit 0xC5A7#16) s (fun d =>
    Answered d .retry ∧ OnlyChanges [] [.ans] s.dev d)) ∧
  (∀ s : State, s.dev.trim.op = 1 → Completes .commitDone s (fun d =>
    d.trim.op = 0 ∧ d.trim.torn = false ∧ d.trim.buffer = s.dev.trim.buffer ∧ d.get TRIM_STAT_BUSY = 0 ∧
    (∀ x : Nat, x < 0xFF8 → rdByte d.trim.store x = rdByte s.dev.trim.buffer x) ∧
    d.get TRIM_STAT_RES_RESULT = 0 ∧
    d.get TRIM_SOURCE_STORED = (if s.dev.get TRIM_STAT_FIELD_BUF = 1 then 2 else 1) ∧
    d.get TRIM_STAT_COMMITS = Nat.min (s.dev.get TRIM_STAT_COMMITS + 1) 4095 ∧
    OnlyChanges [TRIM_STAT_BUSY, TRIM_STAT_RES_RESULT, TRIM_SOURCE_STORED, TRIM_STAT_COMMITS] [.trim] s.dev d)) ∧
  (∀ (s : State) (r : Nat), r < 128 → s.dev.get (RING_SCHED_ARM r) = 1 → s.dev.get TRIM_STAT_BUSY = 0 →
    Completes .fieldTrim s (fun d => d.get TRIM_STAT_RES_RESULT = 3 ∧ Answered d .ok ∧
      OnlyChanges [TRIM_STAT_RES_RESULT] [.ans] s.dev d)) ∧
  (∀ s : State, (∀ r : Nat, r < 128 → s.dev.get (RING_SCHED_ARM r) = 0) → s.dev.get TG_STATUS_MODE ≠ 5 →
    s.dev.get TG_STATUS_MODE ≠ 0 → s.dev.get TRIM_STAT_BUSY = 0 → Completes .fieldTrim s (fun d =>
      d.trim = { s.dev.trim with op := 2, endAt := none } ∧ d.get TRIM_STAT_BUSY = 1 ∧ d.tg.auto800 = true ∧
      d.tg.cmd = some 800 ∧ Answered d .ok ∧
      OnlyChanges [TRIM_STAT_BUSY, TRIM_STAT_ABORT_LATE, TG_STATUS_BELOW_FLOOR] [.ans, .trim, .tg, .rings] s.dev d)) ∧
  (∀ (s : State) (vals : List Byte), s.dev.trim.op = 2 → inLimits s.dev = false → s.dev.get TG_STATUS_MODE = 3 →
    Completes (.fieldTrimDone vals) s (fun d =>
      d.trim = { s.dev.trim with op := 0, endAt := some s.dev.tb } ∧ d.get TRIM_STAT_RES_RESULT = 1 ∧ d.get TRIM_STAT_BUSY = 0 ∧
      d.tg = { s.dev.tg with auto800 := false } ∧
      OnlyChanges [TRIM_STAT_RES_RESULT, TRIM_STAT_BUSY] [.trim, .tg] s.dev d)) ∧
  (∀ (s : State) (vals : List Byte), s.dev.trim.op = 2 → inLimits s.dev = true → s.dev.get TG_STATUS_MODE = 3 →
    Completes (.fieldTrimDone vals) s (fun d =>
      d.trim = { s.dev.trim with op := 0, buffer := calCells vals, endAt := some s.dev.tb } ∧
      d.get TRIM_STAT_FIELD_BUF = 1 ∧ d.get TRIM_STAT_RES_RESULT = 0 ∧ d.get TRIM_STAT_BUSY = 0 ∧
      OnlyChanges [TRIM_STAT_RES_RESULT, TRIM_STAT_BUSY, TRIM_STAT_FIELD_BUF] [.trim, .tg] s.dev d)) ∧
  (∀ s : State, s.dev.trim.op = 2 → s.dev.get TG_STATUS_MODE = 3 → Completes .trimAbort s (fun d =>
    d.trim.op = 0 ∧ d.get TRIM_STAT_RES_RESULT = 2 ∧ d.get TRIM_STAT_BUSY = 0 ∧ d.get TRIM_STAT_FIELD_BUF = 0 ∧
    d.trim.store = s.dev.trim.store ∧ Answered d .ok ∧
    OnlyChanges [TRIM_STAT_RES_RESULT, TRIM_STAT_BUSY, TRIM_STAT_FIELD_BUF] [.trim, .tg, .ans, .fresh] s.dev d)) ∧
  (∀ s : State, s.dev.trim.torn = false → s.dev.get TRIM_ADDR_ADDR < 0x1010 → Completes .trimDataRead s (fun d =>
    Answered d .ok ∧ d.ctl.ans.data = [rdLe s.dev.trim.store (s.dev.get TRIM_ADDR_ADDR / 4 * 4) 4] ∧
    d.get TRIM_ADDR_ADDR = s.dev.get TRIM_ADDR_ADDR + 4 ∧ OnlyChanges [TRIM_ADDR_ADDR] [.ans] s.dev d)) ∧
  (∀ (s : State) (v : Word) (a : Nat), a = s.dev.get TRIM_ADDR_ADDR / 4 * 4 → a < 0xFF8 → Completes (.trimDataWrite v) s (fun d =>
    Answered d .ok ∧ d.trim = { s.dev.trim with buffer := wrLe s.dev.trim.buffer a 4 v.toNat } ∧
    rdLe d.trim.buffer a 4 = v.toNat ∧ SameBytesBut s.dev.trim.buffer d.trim.buffer a 4 ∧
    d.get TRIM_STAT_FIELD_BUF = 0 ∧ d.get TRIM_ADDR_ADDR = s.dev.get TRIM_ADDR_ADDR + 4 ∧
    OnlyChanges [TRIM_ADDR_ADDR, TRIM_STAT_FIELD_BUF] [.ans, .trim] s.dev d)) ∧
  (∀ (s : State) (v : Word), 0xFF8 ≤ s.dev.get TRIM_ADDR_ADDR → Completes (.trimDataWrite v) s (fun d =>
    Answered d .addr ∧ OnlyChanges [TRIM_ADDR_ADDR] [.ans] s.dev d))

/-- R495 to R503: what one frame check does.
Readings that are the model's choice, where a clause rests on one: log entries 1 and 44. -/
def Obligations.CarouselChecks : Prop :=
  (∀ s : State, carRunning s.dev = false → Completes .carouselFrameCheck s (fun d => OnlyChanges [] [] s.dev d)) ∧
  (∀ (s : State) (i : Nat), carRunning s.dev = true → carMay s.dev = true → xStopped s.dev xCarousel = false →
    s.dev.car.restarts < 4 → i = s.dev.get CAR_POS_INDEX → i < 98175 → s.dev.car.counter = i →
    carSkips s.dev (indexAddr i) = false → frameUe s.dev (indexAddr i) = 0 →
    (frameFlaws s.dev (indexAddr i)).countP (· == .single) = 0 → Completes .carouselFrameCheck s (fun d =>
      d.get CAR_POS_INDEX = i + 1 ∧ d.tb = Nat.max s.dev.tb (s.dev.car.at' + 1600) ∧
      d.car = { s.dev.car with counter := i + 1, at' := Nat.max s.dev.tb (s.dev.car.at' + 1600) } ∧
      OnlyChanges [CAR_POS_INDEX] [.time, .car] s.dev d)) ∧
  (∀ (s : State) (i n : Nat), carRunning s.dev = true → carMay s.dev = true → xStopped s.dev xCarousel = false →
    s.dev.car.restarts < 4 → i = s.dev.get CAR_POS_INDEX → i < 98175 → s.dev.car.counter = i →
    carSkips s.dev (indexAddr i) = false → frameUe s.dev (indexAddr i) = 0 → frameType (indexAddr i) ≠ 3 →
    n = (frameFlaws s.dev (indexAddr i)).countP (· == .single) → n ≠ 0 → Completes .carouselFrameCheck s (fun d =>
      d.get CAR_POS_INDEX = i + 1 ∧ d.get CAR_COUNT_CE = Nat.min (s.dev.get CAR_COUNT_CE + n) 65535 ∧
      d.get CAR_IRQ_CAUSE_CE = 1 ∧
      d.cfg = { s.dev.cfg with fflaws := zeroFlaws s.dev.cfg.fflaws (64 * frameIndex (indexAddr i)) 64 } ∧
      OnlyChanges [CAR_POS_INDEX, CAR_COUNT_CE, CAR_IRQ_CAUSE_CE] [.time, .car, .cfg] s.dev d)) ∧
  (∀ (s : State) (i a k : Nat), carRunning s.dev = true → carMay s.dev = true → xStopped s.dev xCarousel = false →
    s.dev.car.restarts < 4 → i = s.dev.get CAR_POS_INDEX → 97792 ≤ i → i < 98175 → s.dev.car.counter = i → a = indexAddr i →
    frameUe s.dev a = k → k ≠ 0 → Completes .carouselFrameCheck s (fun d =>
      d.get CAR_POS_INDEX = i + 1 ∧ d.get CAR_COUNT_UE = Nat.min (s.dev.get CAR_COUNT_UE + 1) 65535 ∧
      d.get CAR_LAST_UE_FADDR = a ∧ d.get CAR_STATUS_LAST_UE_KIND = k ∧ d.get CAR_STATUS_SHADOW_BAD = 1 ∧
      d.get CAR_IRQ_CAUSE_UE = 1 ∧ d.car.dirty = true ∧
      OnlyChanges [CAR_POS_INDEX, CAR_COUNT_UE, CAR_LAST_UE_FADDR, CAR_STATUS_LAST_UE_KIND, CAR_STATUS_SHADOW_BAD,
        CAR_IRQ_CAUSE_UE, BBR_LOST_QUEUE] [.time, .car, .bbr] s.dev d)) ∧
  (∀ s : State, carRunning s.dev = true → carMay s.dev = true → xStopped s.dev xCarousel = false →
    s.dev.car.restarts < 4 → s.dev.get CAR_POS_INDEX = 98175 → s.dev.car.counter = 98175 →
    frameUe s.dev (indexAddr 98175) = 0 → (frameFlaws s.dev (indexAddr 98175)).countP (· == .single) = 0 →
    s.dev.get CAR_CTRL_EN = 0 → Completes .carouselFrameCheck s (fun d =>
      d.get CAR_STATUS_PASSES = (s.dev.get CAR_STATUS_PASSES + 1) % 65536 ∧ d.get CAR_STATUS_STATE = 3 ∧
      d.get CAR_IRQ_CAUSE_PASS_DONE = 1 ∧ d.car.restarts = 0 ∧
      d.get CAR_STATUS_LAST_CLEAN = (if s.dev.car.dirty = false ∧ s.dev.get CAR_STATUS_SHADOW_BAD = 0 ∧
        (∀ j ∈ List.range 4, s.dev.get (CAR_BAD_RINGS j) = 0) then 1 else 0) ∧
      OnlyChanges [CAR_STATUS_PASSES, CAR_STATUS_STATE, CAR_IRQ_CAUSE_PASS_DONE, CAR_STATUS_LAST_CLEAN] [.time, .car]
        s.dev d)) ∧
  (∀ s : State, carRunning s.dev = true → carMay s.dev = true → xStopped s.dev xCarousel = false →
    s.dev.car.restarts < 4 → s.dev.car.counter ≠ s.dev.get CAR_POS_INDEX → Completes .carouselFrameCheck s (fun d =>
      d.get CAR_POS_INDEX = 0 ∧ d.car.counter = 0 ∧ d.car.restarts = s.dev.car.restarts + 1 ∧ d.car.dirty = true ∧
      d.get CAR_SEQ_RESTARTS = Nat.min (s.dev.get CAR_SEQ_RESTARTS + 1) 65535 ∧ d.get CAR_IRQ_CAUSE_RESTART = 1 ∧
      OnlyChanges [CAR_POS_INDEX, CAR_SEQ_RESTARTS, CAR_IRQ_CAUSE_RESTART, CAR_STATUS_SKIPPED, BBR_LOST_QUEUE]
        [.time, .car, .bbr] s.dev d)) ∧
  (∀ s : State, carRunning s.dev = true → 4 ≤ s.dev.car.restarts → Completes .carouselHalt s (fun d =>
    d.get CAR_STATUS_STATE = 4 ∧ d.get CAR_IRQ_CAUSE_HALTED = 1 ∧
    OnlyChanges [CAR_STATUS_STATE, CAR_IRQ_CAUSE_HALTED, BBR_LOST_QUEUE] [.bbr] s.dev d)) ∧
  (∀ s : State, s.dev.car.restarts < 4 → Completes .carouselHalt s (fun d => OnlyChanges [] [] s.dev d))

/-- R502, R504, R505, R523: commands and votes of Carousel.
Readings that are the model's choice, where a clause rests on one: log entries 1 and 44. -/
def Obligations.CarouselCommands : Prop :=
  (∀ (s : State) (ue : Bool), carRunning s.dev = false → carMay s.dev = true → Completes (.carouselEnable ue) s (fun d =>
    d.get CAR_CTRL_EN = 1 ∧ d.get CAR_CTRL_UE_ACTION = b2n ue ∧ d.get CAR_STATUS_STATE = 2 ∧ d.get CAR_POS_INDEX = 0 ∧
    d.car.counter = 0 ∧ d.car.restarts = 0 ∧ d.car.dirty = false ∧ Answered d .ok ∧
    OnlyChanges [CAR_CTRL_EN, CAR_CTRL_UE_ACTION, CAR_STATUS_STATE, CAR_POS_INDEX, CAR_STATUS_SKIPPED,
      CAR_STATUS_ABORT_LATE] [.ans, .car] s.dev d)) ∧
  (∀ (s : State) (ue : Bool), carRunning s.dev = true → Completes (.carouselEnable ue) s (fun d =>
    d.get CAR_CTRL_EN = 1 ∧ d.get CAR_CTRL_UE_ACTION = b2n ue ∧ Answered d .ok ∧
    OnlyChanges [CAR_CTRL_EN, CAR_CTRL_UE_ACTION] [.ans] s.dev d)) ∧
  (∀ s : State, carRunning s.dev = false → carMay s.dev = true → Completes .carPass s (fun d =>
    d.get CAR_STATUS_STATE = 2 ∧ d.get CAR_POS_INDEX = 0 ∧ d.car.counter = 0 ∧ Answered d .ok ∧
    OnlyChanges [CAR_STATUS_STATE, CAR_POS_INDEX, CAR_STATUS_SKIPPED, CAR_STATUS_ABORT_LATE] [.ans, .car] s.dev d)) ∧
  (∀ s : State, carRunning s.dev = true → Completes .carPass s (fun d => Answered d .ok ∧ OnlyChanges [] [.ans] s.dev d)) ∧
  (∀ s : State, carRunning s.dev = true → s.dev.car.endAt = none → Completes .carAbort s (fun d =>
    d.get CAR_CTRL_EN = 0 ∧ d.get CAR_STATUS_STATE = 3 ∧ Answered d .ok ∧
    OnlyChanges [CAR_CTRL_EN, CAR_STATUS_STATE] [.ans, .car] s.dev d)) ∧
  (∀ s : State, Completes .carClrStats s (fun d =>
    d.get CAR_COUNT_UE = 0 ∧ d.get CAR_COUNT_CE = 0 ∧ d.get CAR_SEQ_TMR = 0 ∧ d.get CAR_SEQ_RESTARTS = 0 ∧ Answered d .ok ∧
    OnlyChanges [CAR_COUNT_UE, CAR_COUNT_CE, CAR_SEQ_TMR, CAR_SEQ_RESTARTS] [.ans] s.dev d)) ∧
  (∀ (s : State) (x y : Nat), x ≠ y → s.dev.car.copies = [(0x0030000C, x, x, y)] → Completes .carouselVote s (fun d =>
    d.get CFG_CTRL_RETAIN = bitsAt x 0 1 ∧ d.get CFG_CTRL_WAIT_XMC = bitsAt x 1 1 ∧
    d.get CFG_CTRL_REQUIRE_ENC = bitsAt x 30 1 ∧ d.get CFG_CTRL_LOCK = bitsAt x 31 1 ∧
    d.get CAR_SEQ_TMR = Nat.min (s.dev.get CAR_SEQ_TMR + 1) 65535 ∧ d.car = { s.dev.car with copies := [] } ∧
    OnlyChanges [CFG_CTRL_RETAIN, CFG_CTRL_WAIT_XMC, CFG_CTRL_REQUIRE_ENC, CFG_CTRL_LOCK, CAR_SEQ_TMR] [.car] s.dev d)) ∧
  (∀ s : State, s.dev.car.copies = [] → Completes .carouselVote s (fun d => OnlyChanges [] [] s.dev d))

/-- R506 to R514, R525: self-test runs.
Readings that are the model's choice, where a clause rests on one: log entries 1, 43 and 52. -/
def Obligations.SelfTestRuns : Prop :=
  (∀ (s : State) (k : Fin 8), s.dev.get BIST_STATUS_BUSY = 1 → Completes (.bistStart k) s (fun d =>
    Answered d .retry ∧ OnlyChanges [] [.ans] s.dev d)) ∧
  (∀ (s : State) (k : Fin 8), s.dev.get BIST_STATUS_BUSY = 0 →
    (badTarget s.dev k.val (s.dev.get BIST_TARGET_TARGET) = true ∨ badState s.dev k.val (s.dev.get BIST_TARGET_TARGET) = true) →
    Completes (.bistStart k) s (fun d => d.get BIST_STATUS_VERDICT = 6 ∧ Answered d .ok ∧
      OnlyChanges [BIST_STATUS_VERDICT] [.ans] s.dev d)) ∧
  (∀ (s : State) (k : Fin 8), s.dev.get BIST_STATUS_BUSY = 0 →
    badTarget s.dev k.val (s.dev.get BIST_TARGET_TARGET) = false → badState s.dev k.val (s.dev.get BIST_TARGET_TARGET) = false →
    inLimits s.dev = false → Completes (.bistStart k) s (fun d =>
      d.get BIST_STATUS_VERDICT = 5 ∧ d.get BIST_LIMITS_VCORE_MV = sensed s.dev ∧ Answered d .ok ∧
      OnlyChanges [BIST_STATUS_VERDICT, BIST_LIMITS_VCORE_MV, BIST_LIMITS_REFCLK] [.ans] s.dev d)) ∧
  (∀ s : State, s.dev.get BIST_STATUS_BUSY = 0 → badTarget s.dev 2 (s.dev.get BIST_TARGET_TARGET) = false →
    inLimits s.dev = true → s.dev.qm.work = [] → Completes (.bistStart 2) s (fun d =>
      d.get BIST_STATUS_BUSY = 1 ∧ d.get BIST_STATUS_KIND = 2 ∧ d.get BIST_STATUS_VERDICT = 1 ∧ d.get BIST_STATUS_AUTO = 0 ∧
      d.get QM_STATUS_STATE = 1 ∧ Answered d .ok ∧ d.get BIST_DONE_PATTERNS = 0 ∧
      d.bist.run = some ({
        kind := 2
        target := s.dev.get BIST_TARGET_TARGET
        count := programmed s.dev 2 (s.dev.get BIST_TARGET_TARGET)
        expect := expected s.dev 2 } : RunSt) ∧
      OnlyChanges [BIST_STATUS_BUSY, BIST_STATUS_ABORT_LATE, BIST_STATUS_AUTO, BIST_STATUS_KIND, BIST_STATUS_VERDICT,
        BIST_STATUS_RESULT, BIST_DONE_PATTERNS, BIST_SIG_SIG, BIST_FAILS_FAILS, BIST_LIMITS_VCORE_MV, BIST_LIMITS_REFCLK,
        QM_STATUS_STATE] [.ans, .bist] s.dev d)) ∧
  (∀ (s : State) (b : RunSt), s.dev.bist.run = some b → Completes .bistAbort s (fun d =>
    d.bist = { s.dev.bist with run := some { b with stop := .aborted } } ∧ Answered d .ok ∧ OnlyChanges [] [.ans, .bist] s.dev d)) ∧
  (∀ (s : State) (b : RunSt), s.dev.bist.run = some b → b.stop = .goes → inLimits s.dev = false →
    Completes .bistLimitCheck s (fun d => d.bist = { s.dev.bist with run := some { b with stop := .limits } } ∧
      d.get BIST_LIMITS_VCORE_MV = sensed s.dev ∧ OnlyChanges [BIST_LIMITS_VCORE_MV, BIST_LIMITS_REFCLK] [.bist] s.dev d)) ∧
  (∀ (s : State) (pats : BitVec 24) (sig fails addr : Word) (map : BitVec 96), s.dev.bist.run = none →
    Completes (.bistRunEnd pats sig fails addr map) s (fun d => OnlyChanges [] [] s.dev d)) ∧
  (∀ (s : State) (b : RunSt) (pats : BitVec 24) (sig addr : Word) (map : BitVec 96), s.dev.bist.run = some b → b.kind = 4 →
    b.count ≤ pats.toNat → b.stop = .goes → s.dev.get BIST_STATUS_AUTO = 0 → s.dev.cfg.replays = false →
    Completes (.bistRunEnd pats sig 0 addr map) s (fun d =>
      d.get BIST_STATUS_BUSY = 0 ∧ d.get BIST_STATUS_VERDICT = (if sig.toNat = b.expect then 2 else 3) ∧
      d.get BIST_STATUS_RESULT = 0 ∧ d.get BIST_DONE_PATTERNS = b.count ∧ d.get BIST_SIG_SIG = sig.toNat ∧
      d.get BIST_FAILS_FAILS = 0 ∧ d.get BIST_IRQ_CAUSE_DONE = 1 ∧ d.cx = { s.dev.cx with closed := false } ∧
      d.bist.run = none ∧
      OnlyChanges [BIST_STATUS_BUSY, BIST_STATUS_VERDICT, BIST_STATUS_RESULT, BIST_DONE_PATTERNS, BIST_SIG_SIG,
        BIST_FAILS_FAILS, BIST_IRQ_CAUSE_DONE, BIST_IRQ_CAUSE_BAD, BBR_LOST_QUEUE] [.bist, .cx, .bbr] s.dev d)) ∧
  (∀ (s : State) (b : RunSt) (pats : BitVec 24) (sig addr : Word) (map : BitVec 96), s.dev.bist.run = some b → b.kind = 4 →
    pats.toNat < b.count → b.stop = .aborted → s.dev.get BIST_STATUS_AUTO = 0 → s.dev.cfg.replays = false →
    Completes (.bistRunEnd pats sig 0 addr map) s (fun d =>
      d.get BIST_STATUS_BUSY = 0 ∧ d.get BIST_STATUS_VERDICT = 4 ∧ d.get BIST_STATUS_RESULT = 11 ∧
      d.get BIST_DONE_PATTERNS = pats.toNat ∧ d.get BIST_IRQ_CAUSE_BAD = 1 ∧ d.bist.run = none ∧
      d.cx = { s.dev.cx with closed := false } ∧
      SameParts [.bbr, .bist, .cx] s.dev d))

/-- R515, R518, R519, R521: what the recorder writes and reads, and its commands.
Readings that are the model's choice, where a clause rests on one: log entries 1 and 54. -/
def Obligations.RecorderRuns : Prop :=
  (∀ s : State, s.dev.ctl.bbr.queue = [] → Completes .bbrWrite s (fun d => OnlyChanges [] [] s.dev d)) ∧
  (∀ (s : State) (e : BbrEvent) (rest : List BbrEvent), s.dev.ctl.bbr.queue = e :: rest →
    s.dev.get BBR_STATUS_FROZEN = 1 → s.dev.get BBR_STATUS_PENDING = 0 → Completes .bbrWrite s (fun d =>
      d.ctl.bbr = { s.dev.ctl.bbr with queue := rest } ∧
      d.get BBR_LOST_FROZEN = Nat.min (s.dev.get BBR_LOST_FROZEN + 1) 65535 ∧ OnlyChanges [BBR_LOST_FROZEN] [.bbr] s.dev d)) ∧
  (∀ (s : State) (e : BbrEvent) (rest : List BbrEvent) (i : Nat), s.dev.ctl.bbr.queue = e :: rest →
    s.dev.get BBR_STATUS_FROZEN = 0 → s.dev.get BBR_STATUS_PENDING = 0 → s.dev.get BBR_CTRL_TAP_EN = 0 →
    s.dev.ctl.bbr.freezeIn = none → e.fatal = false → i = s.dev.get BBR_STATUS_WR_PTR → Completes .bbrWrite s (fun d =>
      sget 0 d.ctl.bbr.entries i = bbrEntry e false s.dev.ctl.bbr.lostNow ∧ d.ctl.bbr.queue = rest ∧ d.ctl.bbr.lostNow = 0 ∧
      (∀ j : Nat, j ≠ i → sget 0 d.ctl.bbr.entries j = sget 0 s.dev.ctl.bbr.entries j) ∧
      d.get BBR_STATUS_WR_PTR = (i + 1) % 4096 ∧ OnlyChanges [BBR_STATUS_WR_PTR] [.bbr] s.dev d)) ∧
  (∀ (s : State) (e : BbrEvent) (rest : List BbrEvent) (i : Nat), s.dev.ctl.bbr.queue = e :: rest →
    s.dev.get BBR_STATUS_FROZEN = 0 → s.dev.get BBR_STATUS_PENDING = 0 → s.dev.get BBR_CTRL_TAP_EN = 0 →
    s.dev.ctl.bbr.freezeIn = none → e.fatal = true → e.source < 16 → bitAt (s.dev.get BBR_CTRL_TRIG) e.source = true →
    i = s.dev.get BBR_STATUS_WR_PTR → Completes .bbrWrite s (fun d =>
      sget 0 d.ctl.bbr.entries i = bbrEntry e true s.dev.ctl.bbr.lostNow ∧ d.get BBR_STATUS_PENDING = 1 ∧
      d.get BBR_STATUS_TRIG_IDX = i ∧ d.ctl.bbr.postLeft = s.dev.get BBR_CTRL_POST ∧
      d.get BBR_STATUS_WR_PTR = (i + 1) % 4096 ∧
      OnlyChanges [BBR_STATUS_WR_PTR, BBR_STATUS_PENDING, BBR_STATUS_TRIG_IDX] [.bbr] s.dev d)) ∧
  (∀ s : State, s.dev.get BBR_STATUS_PENDING = 1 → s.dev.ctl.bbr.postLeft = 0 → Completes .bbrPostFreeze s (fun d =>
    d.get BBR_STATUS_FROZEN = 1 ∧ d.get BBR_STATUS_PENDING = 0 ∧
    OnlyChanges [BBR_STATUS_FROZEN, BBR_STATUS_PENDING] [.bbr] s.dev d)) ∧
  (∀ s : State, (s.dev.get BBR_STATUS_PENDING = 0 ∨ s.dev.ctl.bbr.postLeft ≠ 0) →
    Completes .bbrPostFreeze s (fun d => OnlyChanges [] [] s.dev d)) ∧
  (∀ (s : State) (i : Fin 4096), sget Flaw.none s.dev.ctl.bbr.flaws i.val ≠ .double → Completes (.bbrEntryRead i 0) s (fun d =>
    Answered d .ok ∧ d.ctl.ans.data = [bitsAt (sget 0 s.dev.ctl.bbr.entries i.val) 0 32] ∧
    d.ctl.bbr = { s.dev.ctl.bbr with latch := some (i.val, sget 0 s.dev.ctl.bbr.entries i.val) } ∧
    OnlyChanges [] [.ans, .bbr] s.dev d)) ∧
  (∀ (s : State) (i : Fin 4096) (w : Fin 4) (x : Nat), w ≠ 0 → s.dev.ctl.bbr.latch = some (i.val, x) →
    Completes (.bbrEntryRead i w) s (fun d =>
      Answered d .ok ∧ d.ctl.ans.data = [bitsAt x (32 * w.val) 32] ∧ OnlyChanges [] [.ans] s.dev d)) ∧
  (∀ (s : State) (i : Fin 4096), sget Flaw.none s.dev.ctl.bbr.flaws i.val = .double → Completes (.bbrEntryRead i 0) s (fun d =>
    Answered d .ecc ∧ OnlyChanges [] [.ans] s.dev d)) ∧
  (∀ s : State, Completes .bbrClear s (fun d =>
    d.ctl.bbr.entries = [] ∧ d.ctl.bbr.flaws = [] ∧ d.ctl.bbr.queue = s.dev.ctl.bbr.queue ∧ d.get BBR_STATUS_WR_PTR = 0 ∧
    d.get BBR_LOST_FROZEN = 0 ∧ d.get BBR_LOST_QUEUE = 0 ∧ d.get BBR_STATUS_FROZEN = 0 ∧ d.get BBR_STATUS_PENDING = 0 ∧
    Answered d .ok ∧ OnlyChanges [BBR_STATUS_WR_PTR, BBR_LOST_FROZEN, BBR_LOST_QUEUE, BBR_STATUS_FROZEN, BBR_STATUS_PENDING]
      [.ans, .bbr] s.dev d)) ∧
  (∀ s : State, Completes .bbrUnfreeze s (fun d =>
    d.get BBR_STATUS_FROZEN = 0 ∧ d.get BBR_STATUS_PENDING = 0 ∧ d.ctl.bbr.entries = s.dev.ctl.bbr.entries ∧ Answered d .ok ∧
    OnlyChanges [BBR_STATUS_FROZEN, BBR_STATUS_PENDING] [.ans, .bbr] s.dev d)) ∧
  (∀ (s : State) (fatal : Bool), s.dev.ctl.bbr.queue.length < 16 → Completes (.bbrMark fatal) s (fun d =>
    (∃ e : BbrEvent, d.ctl.bbr = { s.dev.ctl.bbr with queue := s.dev.ctl.bbr.queue ++ [e] } ∧ e.source = 14 ∧ e.event = 1 ∧
      e.fatal = fatal ∧ e.data = s.dev.get BBR_MARK_DATA) ∧ Answered d .ok ∧ OnlyChanges [] [.ans, .bbr] s.dev d)) ∧
  (∀ (s : State) (fatal : Bool), 16 ≤ s.dev.ctl.bbr.queue.length → Completes (.bbrMark fatal) s (fun d =>
    d.ctl.bbr = { s.dev.ctl.bbr with lostNow := s.dev.ctl.bbr.lostNow + 1 } ∧
    d.get BBR_LOST_QUEUE = Nat.min (s.dev.get BBR_LOST_QUEUE + 1) 65535 ∧ Answered d .ok ∧
    OnlyChanges [BBR_LOST_QUEUE] [.ans, .bbr] s.dev d)) ∧
  (∀ s : State, s.dev.ctl.bbr.queue ≠ [] → s.dev.get BBR_STATUS_FROZEN = 0 → Completes .bbrFreeze s (fun d =>
    d.ctl.bbr = { s.dev.ctl.bbr with freezeIn := some 1 } ∧ Answered d .ok ∧ OnlyChanges [] [.ans, .bbr] s.dev d)) ∧
  (∀ s : State, (s.dev.ctl.bbr.queue = [] ∨ s.dev.get BBR_STATUS_FROZEN = 1) → Completes .bbrFreeze s (fun d =>
    d.get BBR_STATUS_FROZEN = 1 ∧ d.get BBR_STATUS_PENDING = 0 ∧ d.ctl.bbr.entries = s.dev.ctl.bbr.entries ∧ Answered d .ok ∧
    OnlyChanges [BBR_STATUS_FROZEN, BBR_STATUS_PENDING] [.ans, .bbr] s.dev d))

/-- R532, R535, R537, R539, R543: writes of the GPIO registers.
Readings that are the model's choice, where a clause rests on one: log entry 51. -/
def Obligations.GpioRegisters : Prop :=
  (∀ (s : State) (n : Fin 96) (f : Fin 16), (s.dev.pin n.val).switch = none → padLevel s.dev n.val = (s.dev.pin n.val).sync →
    f.val ≠ s.dev.get (GPIO_PIN_CFG_FUNC n.val) → funcOk n.val f.val = false → Completes (.pinFunctionSwitch n f) s (fun d =>
      Answered d .perm ∧ OnlyChanges [] [.ans] s.dev d)) ∧
  (∀ (s : State) (n : Fin 96) (f : Fin 16), (s.dev.pin n.val).switch = none → padLevel s.dev n.val = (s.dev.pin n.val).sync →
    f.val ≠ s.dev.get (GPIO_PIN_CFG_FUNC n.val) → funcOk n.val f.val = true → Completes (.pinFunctionSwitch n f) s (fun d =>
      d.get (GPIO_PIN_CFG_FUNC n.val) = f.val ∧ Answered d .ok ∧
      d.pin n.val = { s.dev.pin n.val with switch := some (s.dev.tb + 120), since := none } ∧
      (∀ m : Nat, m ≠ n.val → d.pin m = s.dev.pin m) ∧
      OnlyChanges (GPIO_PIN_CFG_FUNC n.val :: GPIO_MISC_IRQ_CAUSE_CONFLICT :: conflictFlds) [.ans, .pins] s.dev d)) ∧
  (∀ (s : State) (n : Fin 96) (v : Word), Completes (.pinCfgWrite n v) s (fun d =>
    d.get (GPIO_PIN_CFG_FUNC n.val) = s.dev.get (GPIO_PIN_CFG_FUNC n.val) ∧
    d.get (GPIO_PIN_CFG_PULL n.val) = bitsAt v.toNat 4 2 ∧ d.get (GPIO_PIN_CFG_DRIVE n.val) = bitsAt v.toNat 6 2 ∧
    d.get (GPIO_PIN_CFG_SLEW n.val) = bitsAt v.toNat 8 1 ∧ d.get (GPIO_PIN_CFG_OD n.val) = bitsAt v.toNat 9 1 ∧
    d.get (GPIO_PIN_CFG_FILT n.val) = bitsAt v.toNat 12 2 ∧ d.get (GPIO_PIN_CFG_EVT n.val) = bitsAt v.toNat 16 2 ∧
    (∀ m : Nat, m ≠ n.val → d.pin m = s.dev.pin m) ∧ Answered d .ok ∧
    OnlyChanges (GPIO_IRQ_CAUSE_EDGE (n.val / 32) :: pinCfgFlds n.val) [.ans, .pins] s.dev d)) ∧
  (∀ (s : State) (i : Fin 3) (v : Word), Completes (.gpioOutSet i v) s (fun d =>
    d.get (GPIO_OUT_OUT i.val) = s.dev.get (GPIO_OUT_OUT i.val) ||| v.toNat ∧ Answered d .ok ∧
    (∀ m : Nat, m / 32 ≠ i.val → d.pin m = s.dev.pin m) ∧
    OnlyChanges [GPIO_OUT_OUT i.val, GPIO_IRQ_CAUSE_EDGE i.val] [.ans, .pins] s.dev d)) ∧
  (∀ (s : State) (i : Fin 3) (v : Word), Completes (.gpioOutClr i v) s (fun d =>
    d.get (GPIO_OUT_OUT i.val) = s.dev.get (GPIO_OUT_OUT i.val) - (s.dev.get (GPIO_OUT_OUT i.val) &&& v.toNat) ∧ Answered d .ok ∧
    (∀ m : Nat, m / 32 ≠ i.val → d.pin m = s.dev.pin m) ∧
    OnlyChanges [GPIO_OUT_OUT i.val, GPIO_IRQ_CAUSE_EDGE i.val] [.ans, .pins] s.dev d)) ∧
  (∀ (s : State) (v : Word), Completes (.gpioFiltWrite v) s (fun d =>
    d.get GPIO_FILT_DEB_US = Nat.max 1 (bitsAt v.toNat 16 16) ∧ d.get GPIO_FILT_GLITCH = Nat.max 1 (bitsAt v.toNat 0 4) ∧
    Answered d .ok ∧ OnlyChanges [GPIO_FILT_DEB_US, GPIO_FILT_GLITCH, GPIO_IRQ_CAUSE_EDGE 0, GPIO_IRQ_CAUSE_EDGE 1,
      GPIO_IRQ_CAUSE_EDGE 2] [.ans, .pins] s.dev d))

/-- R529, R542 to R545, R551: events at the pins.
Readings that are the model's choice, where a clause rests on one: log entries 1 and 51. -/
def Obligations.GpioPins : Prop :=
  (∀ (s : State) (n : Fin 96) (l : Bool), s.dev.pins.jtag = none → (s.dev.pin n.val).switch = none →
    pinBit s.dev GPIO_OE_OE n.val = false → powered s.dev n.val = true → filtered s.dev n.val = false →
    (s.dev.pin n.val).sync = (s.dev.pin n.val).level → l ≠ (s.dev.pin n.val).level → Completes (.pinEdge n l) s (fun d =>
      d.pin n.val = { s.dev.pin n.val with level := l, sync := l, filt := l, since := none } ∧
      (∀ m : Nat, m ≠ n.val → d.pin m = s.dev.pin m) ∧
      d.get (GPIO_IRQ_CAUSE_EDGE (n.val / 32)) = (if s.dev.get (GPIO_PIN_CFG_EVT n.val) = 3 ∨
        s.dev.get (GPIO_PIN_CFG_EVT n.val) = (if l then 1 else 2) then
          s.dev.get (GPIO_IRQ_CAUSE_EDGE (n.val / 32)) ||| 2 ^ (n.val % 32)
        else s.dev.get (GPIO_IRQ_CAUSE_EDGE (n.val / 32))) ∧
      OnlyChanges [GPIO_IRQ_CAUSE_EDGE (n.val / 32)] [.pins] s.dev d)) ∧
  (∀ (s : State) (n : Fin 96) (l : Bool), s.dev.pins.jtag = none → (s.dev.pin n.val).switch = none →
    pinBit s.dev GPIO_OE_OE n.val = false → powered s.dev n.val = true → filtered s.dev n.val = true →
    (s.dev.pin n.val).sync = (s.dev.pin n.val).level → l ≠ (s.dev.pin n.val).level → Completes (.pinEdge n l) s (fun d =>
      d.pin n.val = { s.dev.pin n.val with
        level := l
        sync := l
        since := if l = (s.dev.pin n.val).filt then none else some s.dev.tb } ∧
      OnlyChanges [] [.pins] s.dev d)) ∧
  (∀ (s : State) (n : Fin 96), (s.dev.pin n.val).since = none →
    Completes (.filterSettle n) s (fun d => OnlyChanges [] [] s.dev d)) ∧
  (∀ (s : State) (n : Fin 96) (t : Nat), (s.dev.pin n.val).since = some t → powered s.dev n.val = true →
    s.dev.get (GPIO_PIN_CFG_FILT n.val) = 1 → Completes (.filterSettle n) s (fun d =>
      d.pin n.val = { s.dev.pin n.val with filt := (s.dev.pin n.val).sync, since := none } ∧
      d.tb = Nat.max s.dev.tb (t + 40 * s.dev.get GPIO_FILT_GLITCH) ∧
      OnlyChanges [GPIO_IRQ_CAUSE_EDGE (n.val / 32)] [.time, .pins] s.dev d)) ∧
  (∀ (s : State) (b : Fin 6) (vio : Fin 5), Completes (.bankSupplyChange b vio) s (fun d =>
    d.get (GPIO_BANK_VIO b.val) = vio.val ∧ sget 0 d.pins.vioSeen b.val = vio.val ∧
    d.get GPIO_MISC_IRQ_CAUSE_BANK_CHG = (if sget 0 s.dev.pins.vioSeen b.val = vio.val then s.dev.get GPIO_MISC_IRQ_CAUSE_BANK_CHG
      else 1) ∧
    OnlyChanges (GPIO_BANK_VIO b.val :: GPIO_MISC_IRQ_CAUSE_BANK_CHG :: GPIO_MISC_IRQ_CAUSE_CONFLICT :: conflictFlds) [.pins]
      s.dev d)) ∧
  (∀ (s : State) (b : Fin 6) (vio : Fin 5), s.dev.get (GPIO_BANK_VIO b.val) = 0 → vio ≠ 0 →
    Completes (.bankSupplyReturn b vio) s (fun d =>
      d.get (GPIO_BANK_VIO b.val) = vio.val ∧ d.pins.vioSeen = s.dev.pins.vioSeen ∧
      (∀ n ∈ bankPins b.val, (d.pin n).since = none ∧ (d.pin n).switch = none ∧ (d.pin n).filt = (d.pin n).sync) ∧
      OnlyChanges (GPIO_BANK_VIO b.val :: GPIO_MISC_IRQ_CAUSE_CONFLICT :: conflictFlds) [.pins] s.dev d)) ∧
  (∀ (s : State) (v en : BitVec 96), Completes (.boundaryScanDrive v en) s (fun d =>
    d.pins.jtag = some (v.toNat, en.toNat) ∧
    OnlyChanges [GPIO_IRQ_CAUSE_EDGE 0, GPIO_IRQ_CAUSE_EDGE 1, GPIO_IRQ_CAUSE_EDGE 2] [.pins] s.dev d)) ∧
  (∀ s : State, s.dev.pins.jtag ≠ none → Completes .jtagRelease s (fun d =>
    d.pins.jtag = none ∧ (∀ n : Nat, n < 96 → (d.pin n).switch = some (s.dev.tb + 120)) ∧ OnlyChanges [] [.pins] s.dev d)) ∧
  (∀ s : State, s.dev.pins.jtag = none → Completes .jtagRelease s (fun d => OnlyChanges [] [] s.dev d))

/-- R546, R547, R555: the FIFOs of the peripherals.
Readings that are the model's choice, where a clause rests on one: log entries 1 and 51. -/
def Obligations.PeripheralFifos : Prop :=
  (∀ (s : State) (k : Fin 3) (b : Fin 6) (v : BitVec 8), (s.dev.periph k.val b.val).tx.length < fifoDepth k.val →
    Completes (.txdPush k b v) s (fun d =>
      d.periph k.val b.val = { s.dev.periph k.val b.val with tx := (s.dev.periph k.val b.val).tx ++ [v.toNat] } ∧ Answered d .ok ∧
      d.get (byKind k.val (I2C_STAT_TXLVL b.val) (SPI_STAT_TXLVL b.val) (UART_STAT_TXLVL b.val) (MDIO_STAT_TXLVL b.val)) =
        (s.dev.periph k.val b.val).tx.length + 1 ∧ SameParts [.ans, .pins] s.dev d)) ∧
  (∀ (s : State) (k : Fin 3) (b : Fin 6) (v : BitVec 8), fifoDepth k.val ≤ (s.dev.periph k.val b.val).tx.length →
    Completes (.txdPush k b v) s (fun d =>
      d.get (byKind k.val (I2C_STAT_TX_OVF b.val) (SPI_STAT_TX_OVF b.val) (UART_STAT_TX_OVF b.val) (MDIO_STAT_TX_OVF b.val)) = 1 ∧
      Answered d .ok ∧
      OnlyChanges [byKind k.val (I2C_STAT_TX_OVF b.val) (SPI_STAT_TX_OVF b.val) (UART_STAT_TX_OVF b.val) (MDIO_STAT_TX_OVF b.val),
        byKind k.val (I2C_IRQ_CAUSE_ERR b.val) (SPI_IRQ_CAUSE_ERR b.val) (UART_IRQ_CAUSE_ERR b.val) (MDIO_IRQ_CAUSE_ERR b.val)]
        [.ans] s.dev d)) ∧
  (∀ (s : State) (k : Fin 4) (b : Fin 6), (s.dev.periph k.val b.val).rx = [] → Completes (.rxdPop k b) s (fun d =>
    Answered d .ok ∧ d.ctl.ans.data = [0] ∧ OnlyChanges [] [.ans] s.dev d)) ∧
  (∀ (s : State) (k : Fin 4) (b : Fin 6) (v : Nat) (rest : List Nat), (s.dev.periph k.val b.val).rx = v :: rest →
    Completes (.rxdPop k b) s (fun d =>
      Answered d .ok ∧ d.ctl.ans.data = [2 ^ 31 + v] ∧ d.periph k.val b.val = { s.dev.periph k.val b.val with rx := rest } ∧
      SameParts [.ans, .pins] s.dev d)) ∧
  (∀ (s : State) (b : Fin 6) (v : BitVec 8) (perr ferr : Bool), s.dev.get (UART_CFG_EN b.val) = 1 →
    servedBy s.dev 4 [b.val] [1, 8] ≠ none → s.dev.get (UART_CFG_DATA7 b.val) = 0 → (s.dev.periph 2 b.val).rx.length < 64 →
    Completes (.uartRxByte b v perr ferr) s (fun d =>
      (d.periph 2 b.val).rx = (s.dev.periph 2 b.val).rx ++ [v.toNat + 1024 * b2n perr + 512 * b2n ferr] ∧
      (d.periph 2 b.val).tx = (s.dev.periph 2 b.val).tx ∧
      d.get (UART_IRQ_CAUSE_DONE b.val) = (if (s.dev.periph 2 b.val).rx = [] then 1 else s.dev.get (UART_IRQ_CAUSE_DONE b.val)) ∧
      OnlyChanges [UART_IRQ_CAUSE_DONE b.val, UART_STAT_RXLVL b.val, UART_STAT_TXLVL b.val, UART_STAT_BUSY b.val] [.pins]
        s.dev d)) ∧
  (∀ (s : State) (b : Fin 6) (v : BitVec 8) (perr ferr : Bool), s.dev.get (UART_CFG_EN b.val) = 0 →
    Completes (.uartRxByte b v perr ferr) s (fun d => OnlyChanges [] [] s.dev d)) ∧
  (∀ (s : State) (b : Fin 6) (v : Nat) (rest : List Nat), (s.dev.periph 2 b.val).tx = v :: rest →
    s.dev.get (UART_CFG_EN b.val) = 1 → s.dev.get (UART_CFG_FLOW b.val) = 0 → Completes (.uartTxByte b) s (fun d =>
      d.periph 2 b.val = { s.dev.periph 2 b.val with tx := rest } ∧ d.ctl.out = .periph 2 b.val [v] :: s.dev.ctl.out ∧
      d.get (UART_STAT_BUSY b.val) = (if rest = [] then 0 else 1) ∧
      OnlyChanges [UART_STAT_RXLVL b.val, UART_STAT_TXLVL b.val, UART_STAT_BUSY b.val] [.out, .pins] s.dev d)) ∧
  (∀ (s : State) (b : Fin 6), (s.dev.periph 2 b.val).tx = [] → Completes (.uartTxByte b) s (fun d => OnlyChanges [] [] s.dev d))

/-- R546, R547: transfers of the serial controllers.
Readings that are the model's choice, where a clause rests on one: log entries 1 and 51. -/
def Obligations.PeripheralTransfers : Prop :=
  (∀ (s : State) (b : Fin 6) (v : Word), (16 < bitsAt v.toNat 0 5 ∨ 16 < bitsAt v.toNat 8 5 ∨
    (s.dev.periph 0 b.val).tx.length < bitsAt v.toNat 0 5) → Completes (.i2cXfer b v) s (fun d =>
      Answered d .perm ∧ OnlyChanges [] [.ans] s.dev d)) ∧
  (∀ (s : State) (b : Fin 6) (v : Word), bitsAt v.toNat 0 5 ≤ 16 → bitsAt v.toNat 8 5 ≤ 16 →
    bitsAt v.toNat 0 5 ≤ (s.dev.periph 0 b.val).tx.length → (s.dev.periph 0 b.val).xfer = none →
    s.dev.get (I2C_CFG_EN b.val) = 1 → Completes (.i2cXfer b v) s (fun d =>
      d.periph 0 b.val = { s.dev.periph 0 b.val with
        xfer := some ((s.dev.periph 0 b.val).tx.take (bitsAt v.toNat 0 5), bitsAt v.toNat 8 5) } ∧
      d.get (I2C_STAT_BUSY b.val) = 1 ∧ Answered d .ok ∧
      OnlyChanges [I2C_STAT_BUSY b.val, I2C_STAT_RXLVL b.val, I2C_STAT_TXLVL b.val] [.ans, .out, .pins] s.dev d)) ∧
  (∀ (s : State) (b : Fin 6) (v : Word), bitsAt v.toNat 0 5 ≤ 16 → (s.dev.periph 1 b.val).xfer ≠ none →
    Completes (.spiXfer b v) s (fun d => Answered d .retry ∧ OnlyChanges [] [.ans] s.dev d)) ∧
  (∀ (s : State) (b : Fin 6) (v : Word), bitsAt v.toNat 0 5 ≤ 16 → (s.dev.periph 1 b.val).xfer = none →
    s.dev.get (SPI_CFG_EN b.val) = 1 → Completes (.spiXfer b v) s (fun d =>
      (∃ out : List Nat, d.periph 1 b.val = { s.dev.periph 1 b.val with xfer := some (out, bitsAt v.toNat 0 5) } ∧
        out.length = bitsAt v.toNat 0 5) ∧
      d.get (SPI_STAT_BUSY b.val) = 1 ∧ Answered d .ok ∧
      OnlyChanges [SPI_STAT_BUSY b.val, SPI_STAT_RXLVL b.val, SPI_STAT_TXLVL b.val] [.ans, .out, .pins] s.dev d)) ∧
  (∀ (s : State) (b : Fin 6) (v : Word), bitsAt v.toNat 0 5 ≤ 16 → (s.dev.periph 1 b.val).xfer = none →
    s.dev.get (SPI_CFG_EN b.val) = 0 → Completes (.spiXfer b v) s (fun d => Answered d .ok ∧ OnlyChanges [] [.ans] s.dev d)) ∧
  (∀ (s : State) (b : Fin 6) (phy reg : BitVec 5) (data : BitVec 16) (cl45 : Bool) (i : Instr) (n : Nat),
    (s.dev.periph 3 b.val).xfer = none → s.dev.get (MDIO_CFG_EN b.val) = 1 →
    (i = .mdioWrite b cl45 phy reg data ∧ n = 0 ∨ i = .mdioRead b cl45 phy reg ∧ n = 1 ∨
      i = .mdioAddress b phy reg data ∧ n = 0 ∨ i = .mdioReadIncrement b phy reg ∧ n = 1) → Completes i s (fun d =>
      d.periph 3 b.val = { s.dev.periph 3 b.val with xfer := some ([], n) } ∧ d.get (MDIO_STAT_BUSY b.val) = 1 ∧ Answered d .ok ∧
      OnlyChanges [MDIO_STAT_BUSY b.val, MDIO_STAT_RXLVL b.val, MDIO_STAT_TXLVL b.val] [.ans, .out, .pins] s.dev d)) ∧
  (∀ (s : State) (k : Fin 4) (b : Fin 6) (sent : Fin 17) (rx : List (BitVec 16)) (nack arb : Bool),
    (s.dev.periph k.val b.val).xfer = none →
    Completes (.xferDone k b sent rx nack arb) s (fun d => OnlyChanges [] [] s.dev d)) ∧
  (∀ (s : State) (b : Fin 6) (sent : Fin 17) (rx : List (BitVec 16)) (out : List Nat),
    (s.dev.periph 0 b.val).xfer = some (out, 0) → servedBy s.dev 2 [b.val] [1, 9] ≠ none →
    Completes (.xferDone 0 b sent rx false false) s (fun d =>
      d.periph 0 b.val = { s.dev.periph 0 b.val with tx := (s.dev.periph 0 b.val).tx.drop out.length, xfer := none } ∧
      d.get (I2C_IRQ_CAUSE_DONE b.val) = 1 ∧ d.get (I2C_STAT_BUSY b.val) = 0 ∧
      OnlyChanges [I2C_STAT_BUSY b.val, I2C_STAT_RXLVL b.val, I2C_STAT_TXLVL b.val, I2C_IRQ_CAUSE_DONE b.val] [.pins]
        s.dev d)) ∧
  (∀ (s : State) (b : Fin 6) (sent : Fin 17) (out : List Nat) (n : Nat),
    (s.dev.periph 0 b.val).xfer = some (out, n) → servedBy s.dev 2 [b.val] [1, 9] ≠ none →
    Completes (.xferDone 0 b sent [] true false) s (fun d =>
      (d.periph 0 b.val).xfer = none ∧ (d.periph 0 b.val).tx = (s.dev.periph 0 b.val).tx.drop (Nat.min sent.val out.length) ∧
      (d.periph 0 b.val).rx = (s.dev.periph 0 b.val).rx ∧ d.get (I2C_STAT_NACK b.val) = 1 ∧
      d.get (I2C_IRQ_CAUSE_ERR b.val) = 1 ∧ d.get (I2C_IRQ_CAUSE_DONE b.val) = 1 ∧
      SameParts [.pins] s.dev d)) ∧
  (∀ (s : State) (b : Fin 6) (sent : Fin 17) (v : BitVec 16) (out : List Nat),
    (s.dev.periph 3 b.val).xfer = some (out, 1) → servedBy s.dev 5 [b.val] [3, 12] ≠ none →
    Completes (.xferDone 3 b sent [v] false false) s (fun d =>
      (d.periph 3 b.val).xfer = none ∧ (d.periph 3 b.val).rx = [v.toNat] ∧ d.get (MDIO_IRQ_CAUSE_DONE b.val) = 1 ∧
      d.get (MDIO_STAT_BUSY b.val) = 0 ∧
      SameParts [.pins] s.dev d)) ∧
  (∀ (s : State) (b : Fin 6), (s.dev.periph 0 b.val).xfer ≠ none → Completes (.i2cStretchTimeout b) s (fun d =>
    d.periph 0 b.val = { s.dev.periph 0 b.val with xfer := none } ∧ d.get (I2C_STAT_TIMEOUT b.val) = 1 ∧
    d.get (I2C_IRQ_CAUSE_ERR b.val) = 1 ∧ d.get (I2C_IRQ_CAUSE_DONE b.val) = 1 ∧
    OnlyChanges [I2C_STAT_BUSY b.val, I2C_STAT_RXLVL b.val, I2C_STAT_TXLVL b.val, I2C_STAT_TIMEOUT b.val,
      I2C_IRQ_CAUSE_ERR b.val, I2C_IRQ_CAUSE_DONE b.val] [.pins] s.dev d))

/-- R4, R5, R7, R252, R512: writes of registers.
Readings that are the model's choice, where a clause rests on one: log entry 56. -/
def Obligations.RegisterAccess : Prop :=
  (∀ (s : State) (v : Word), Completes (.registerWrite 4#27 v) s (fun d =>
    d.get GLOBAL_SCRATCH_DATA = v.toNat ∧ Answered d .ok ∧ OnlyChanges [GLOBAL_SCRATCH_DATA] [.ans] s.dev d)) ∧
  (∀ (s : State) (v : Word), Completes (.registerWrite 0x18#27 v) s (fun d =>
    d.get (GIRQ_EN_EN 0) = v.toNat ∧ Answered d .ok ∧ OnlyChanges [GIRQ_EN_EN 0] [.ans] s.dev d)) ∧
  (∀ (s : State) (v : Word), Completes (.registerWrite 0#27 v) s (fun d => Answered d .ok ∧ OnlyChanges [] [.ans] s.dev d)) ∧
  (∀ (s : State) (v : Word), Completes (.registerWrite 0x400#27 v) s (fun d =>
    d.get HOST_ERRLOG0_VALID = (if bitAt v.toNat 31 then 0 else s.dev.get HOST_ERRLOG0_VALID) ∧ Answered d .ok ∧
    OnlyChanges [HOST_ERRLOG0_VALID] [.ans] s.dev d)) ∧
  (∀ (s : State) (a : BitVec 27) (v : Word), behindStop s.dev a.toNat = true →
    Completes (.registerWrite a v) s (fun d => Answered d .clockStopped ∧ OnlyChanges [] [.ans] s.dev d)) ∧
  (∀ (s : State) (v : Word), xStopped s.dev xConfig = false → s.dev.get CFG_CTRL_LOCK = 1 → bitAt v.toNat 31 = true →
    b2n (bitAt v.toNat 30) ≠ s.dev.get CFG_CTRL_REQUIRE_ENC → Completes (.registerWrite 0x0030000C#27 v) s (fun d =>
      Answered d .perm ∧ OnlyChanges [] [.ans] s.dev d)) ∧
  (∀ (s : State) (a : BitVec 27) (v : Word), closedAt s.dev a.toNat = true → Completes (.registerWrite a v) s (fun d =>
    Answered d .closed ∧ OnlyChanges [] [.ans] s.dev d)) ∧
  (∀ (s : State) (a : BitVec 27) (v : Word), closedAt s.dev a.toNat = false → behindStop s.dev a.toNat = false → a.toNat % 4 ≠ 0 →
    Completes (.registerWrite a v) s (fun d => Answered d .addr ∧ OnlyChanges [] [.ans] s.dev d)) ∧
  (∀ (s : State) (a : BitVec 27) (v : Word), 0x04400000 ≤ a.toNat → Completes (.registerWrite a v) s (fun d =>
    Answered d .addr ∧ OnlyChanges [] [.ans] s.dev d)) ∧
  (∀ (s : State) (v : Word), s.dev.cx.closed = false → Completes (.counterClear 0x01000018#27 v) s (fun d =>
    d.get CX_CS_ECC_UE_COUNT = 0 ∧ d.get CX_CS_ECC_CE_COUNT = 0 ∧ Answered d .ok ∧
    OnlyChanges [CX_CS_ECC_UE_COUNT, CX_CS_ECC_CE_COUNT] [.ans] s.dev d)) ∧
  (∀ (s : State) (a : BitVec 27) (v : Word), a.toNat < 0x00820000 → Completes (.counterClear a v) s (fun d =>
    OnlyChanges [] [] s.dev d))

/-- R4, R8, R556 to R561, R570: requests of the host.
Readings that are the model's choice, where a clause rests on one: log entries 1, 45 and 46. -/
def Obligations.HostRequests : Prop :=
  (∀ (s : State) (dw : Fin 1024) (be : BitVec 4) (data : Option Word), s.dev.host.inReset = true →
    Completes (.configRequest dw be data) s (fun d => OnlyChanges [] [] s.dev d)) ∧
  (∀ (s : State) (dw : Fin 1024) (be : BitVec 4) (data : Option Word) (t : Nat), s.dev.host.inReset = false →
    s.dev.host.readyAt = some t → s.dev.tb < t → Completes (.configRequest dw be data) s (fun d =>
      d.ctl.out = .configRetry :: s.dev.ctl.out ∧ OnlyChanges [] [.out] s.dev d)) ∧
  (∀ (s : State) (be : BitVec 4) (t : Nat), s.dev.host.inReset = false → s.dev.host.readyAt = some t → t ≤ s.dev.tb →
    Completes (.configRequest 0 be none) s (fun d =>
      d.ctl.out = .completion .ok [0xB2301E9C] :: s.dev.ctl.out ∧ Answered d .ok ∧ OnlyChanges [] [.out, .ans] s.dev d)) ∧
  (∀ (s : State) (v : Word) (t : Nat), s.dev.host.inReset = false → s.dev.host.readyAt = some t → t ≤ s.dev.tb →
    Completes (.configRequest 1 15#4 (some v)) s (fun d =>
      d.get HOST_STATUS_BME = bitsAt v.toNat 2 1 ∧ cfgRaw d 1 = v.toNat ∧ Answered d .ok ∧
      OnlyChanges [HOST_STATUS_BME] [.out, .ans, .host] s.dev d)) ∧
  (∀ (s : State) (a : BitVec 25) (b : BitVec 26) (len : BitVec 10) (fbe lbe : BitVec 4) (id : BitVec 16) (data : Option (List Word))
    (c : Instr), s.dev.host.inReset = true →
    c ∈ [Instr.bar0Request a len fbe lbe id data, .bar2Request b len fbe lbe id data, .bar4Request b len fbe lbe id data] →
    Completes c s (fun d => OnlyChanges [] [] s.dev d)) ∧
  (∀ (s : State) (a : BitVec 25) (b : BitVec 26) (fbe lbe : BitVec 4) (id : BitVec 16) (p : Instr × Nat),
    s.dev.host.inReset = false → fbe ≠ 15#4 → s.dev.get HOST_ERRLOG0_VALID = 0 →
    p ∈ [(Instr.bar0Request a 1#10 fbe lbe id none, 0), (.bar2Request b 1#10 fbe lbe id none, 1), (.bar4Request b 1#10 fbe lbe id none, 2)] →
    Completes p.1 s (fun d =>
      Answered d .addr ∧ d.ctl.ans.data = [0xFFFFFFFF] ∧ d.ctl.out = .completion .addr [0xFFFFFFFF] :: s.dev.ctl.out ∧
      d.get HOST_IRQ_CAUSE_ERR = 1 ∧ d.get HOST_ERRLOG0_VALID = 1 ∧ d.get HOST_ERRLOG0_ROUTE = p.2 ∧ d.get HOST_ERRLOG0_CODE = 3 ∧
      d.get HOST_ERRLOG0_REQ_ID = id.toNat ∧
      OnlyChanges [HOST_IRQ_CAUSE_ERR, HOST_ERRLOG0_VALID, HOST_ERRLOG0_ROUTE, HOST_ERRLOG0_CODE, HOST_ERRLOG0_CHANNEL,
        HOST_ERRLOG0_REQ_ID, HOST_ERRLOG1_ADDR_LO, HOST_ERRLOG2_ADDR_HI] [.out, .ans] s.dev d)) ∧
  (∀ (s : State) (id : BitVec 16), s.dev.host.inReset = false → Completes (.bar0Request 1#25 1#10 15#4 0#4 id none) s (fun d =>
    Answered d .ok ∧ d.ctl.ans.data = [s.dev.get GLOBAL_SCRATCH_DATA] ∧
    d.ctl.out = .completion .ok [s.dev.get GLOBAL_SCRATCH_DATA] :: s.dev.ctl.out ∧ OnlyChanges [] [.out, .ans] s.dev d)) ∧
  (∀ (s : State) (id : BitVec 16) (v : Word), s.dev.host.inReset = false →
    Completes (.bar0Request 1#25 1#10 15#4 0#4 id (some [v])) s (fun d =>
      d.get GLOBAL_SCRATCH_DATA = v.toNat ∧ Answered d .ok ∧ OnlyChanges [GLOBAL_SCRATCH_DATA] [.ans] s.dev d)) ∧
  (∀ (s : State) (dw : BitVec 26) (id : BitVec 16) (v : Nat), s.dev.host.inReset = false → dw.toNat % 2 = 0 →
    4 * dw.toNat < 0x02000000 → v < 2 ^ 64 →
    ringHostRead (4 * dw.toNat / 0x40000) (4 * dw.toNat / 0x2000 % 32) (4 * dw.toNat / 8 % 1024) 0 8 s.dev = (.ok, v, s.dev) →
    Completes (.bar2Request dw 2#10 15#4 15#4 id none) s (fun d =>
      Answered d .ok ∧ d.ctl.ans.data = [v % 2 ^ 32, v / 2 ^ 32] ∧ OnlyChanges [] [.out, .ans] s.dev d)) ∧
  (∀ (s : State) (dw : BitVec 26) (id : BitVec 16) (v : Word), s.dev.host.inReset = false → 0x07000000 ≤ 4 * dw.toNat →
    Completes (.bar2Request dw 1#10 15#4 0#4 id (some [v])) s (fun d =>
      Answered d .addr ∧ d.get HOST_IRQ_CAUSE_ERR = 1 ∧
      OnlyChanges [HOST_IRQ_CAUSE_ERR, HOST_ERRLOG0_VALID, HOST_ERRLOG0_ROUTE, HOST_ERRLOG0_CODE, HOST_ERRLOG0_CHANNEL,
        HOST_ERRLOG0_REQ_ID, HOST_ERRLOG1_ADDR_LO, HOST_ERRLOG2_ADDR_HI, HOST_ERRLOG3_COUNT] [.out, .ans] s.dev d)) ∧
  (∀ (s : State) (dw : BitVec 26) (id : BitVec 16) (x : XPart), s.dev.host.inReset = false → s.dev.xm.reqs = [] →
    hostParts false 4 (4 * dw.toNat) 4 [] s.dev = ([x], [], s.dev) → x.code = none →
    Completes (.bar4Request dw 1#10 15#4 0#4 id none) s (fun d =>
      d.xm.reqs = [({
        src := 2048
        who := .host id.toNat
        addr := 4 * dw.toNat
        words := 1
        parts := [x]
        since := s.dev.tb } : XReq)] ∧ OnlyChanges [] [.xm] s.dev d)) ∧
  (∀ s : State, s.dev.xm.reqs = [] → Completes .barTimeout s (fun d => OnlyChanges [] [] s.dev d)) ∧
  (∀ (s : State) (q : XReq) (rest : List XReq) (id : Nat), s.dev.xm.reqs = q :: rest → q.who = .host id → q.data = none →
    q.words = 1 → Completes .barTimeout s (fun d =>
      Answered d .timeout ∧ d.ctl.out = .completion .timeout [0xFFFFFFFF] :: s.dev.ctl.out ∧
      d.xm.reqs = { q with who := .gone } :: rest ∧ d.tb = Nat.max s.dev.tb (q.since + 160000) ∧
      d.get HOST_IRQ_CAUSE_ERR = 1 ∧
      SameParts [.time, .ans, .out, .xm] s.dev d))

/-- R562 to R565, R575: the DMA channels.
Readings that are the model's choice, where a clause rests on one: log entries 1, 21 and 48. -/
def Obligations.DmaChannels : Prop :=
  (∀ (s : State) (n : Fin 8) (res : Fin 4) (v : BitVec 256), dmaWants s.dev n.val = false →
    Completes (.dmaDescriptor n res v) s (fun d => OnlyChanges [] [] s.dev d)) ∧
  (∀ (s : State) (n : Fin 8) (v : BitVec 256), dmaWants s.dev n.val = true → descOk v = true →
    Completes (.dmaDescriptor n 0 v) s (fun d =>
      dmaDesc d n.val = some (descOf v) ∧ d.get (DMA_STATUS_BUSY n.val) = 1 ∧ d.get (DMA_STATUS_STATE n.val) = 1 ∧
      d.get (DMA_STATUS_ABORT_LATE n.val) = 0 ∧ (∀ m : Nat, m ≠ n.val → dmaDesc d m = dmaDesc s.dev m) ∧
      OnlyChanges [DMA_STATUS_BUSY n.val, DMA_STATUS_STATE n.val, DMA_STATUS_ABORT_LATE n.val] [.host] s.dev d)) ∧
  (∀ (s : State) (n : Fin 8) (v : BitVec 256), dmaWants s.dev n.val = true → descOk v = false →
    s.dev.get HOST_ERRLOG0_VALID = 0 → Completes (.dmaDescriptor n 0 v) s (fun d =>
      dmaDesc d n.val = none ∧ d.get (DMA_STATUS_STATE n.val) = 2 ∧ d.get (DMA_STATUS_BUSY n.val) = 0 ∧
      d.get (DMA_STATUS_RESULT n.val) = 3 ∧ d.get (DMA_IRQ_CAUSE_HALT n.val) = 1 ∧ d.get HOST_ERRLOG0_VALID = 1 ∧
      d.get HOST_ERRLOG0_ROUTE = 3 ∧ d.get HOST_ERRLOG0_CODE = 3 ∧ d.get HOST_ERRLOG0_CHANNEL = n.val ∧
      SameParts [.out, .host] s.dev d)) ∧
  (∀ (s : State) (n : Fin 8) (v : BitVec 256), dmaWants s.dev n.val = true → Completes (.dmaDescriptor n 2 v) s (fun d =>
    dmaDesc d n.val = none ∧ d.get (DMA_STATUS_STATE n.val) = 2 ∧ d.get (DMA_STATUS_RESULT n.val) = 5 ∧
    d.get HOST_IRQ_CAUSE_ERR = 1 ∧
      SameParts [.out, .host] s.dev d)) ∧
  (∀ (s : State) (n : Fin 8) (res : Fin 4) (data : List Byte), dmaDesc s.dev n.val = none →
    Completes (.dmaPiece n res data) s (fun d => OnlyChanges [] [] s.dev d)) ∧
  (∀ (s : State) (n : Fin 8) (x : DmaDesc) (data : List Byte), dmaDesc s.dev n.val = some x → dmaTurn s.dev = some n.val →
    busMaster s.dev = true → x.space = 2 → x.out = false → x.abort = false → x.irq = false → x.len = x.moved + 8 →
    data.length = 8 → portLoad s.dev = false → s.dev.host.dmaOn = none → s.dev.host.dmaAns = none →
    Completes (.dmaPiece n 0 data) s (fun d =>
      d.cfg = { s.dev.cfg with win := s.dev.cfg.win ++ (wordsOf 2 data).map (fun w => BitVec.ofNat 32 w) } ∧
      dmaDesc d n.val = none ∧ d.host.lastCh = n.val ∧ d.get (DMA_STATUS_BUSY n.val) = 0 ∧ d.get (DMA_STATUS_RESULT n.val) = 0 ∧
      d.get (DMA_CONS_CONS n.val) = (if s.dev.get (DMA_CONS_CONS n.val) + 1 < s.dev.get (DMA_RING_SIZE_SIZE n.val) then
        (s.dev.get (DMA_CONS_CONS n.val) + 1) % 4096 else 0) ∧
      OnlyChanges [DMA_CONS_CONS n.val, DMA_STATUS_RESULT n.val, DMA_STATUS_BUSY n.val, DMA_STATUS_ABORT_LATE n.val,
        DMA_STATUS_STATE n.val] [.ans, .out, .cfg, .host] s.dev d)) ∧
  (∀ (s : State) (n : Fin 8) (x : DmaDesc), dmaDesc s.dev n.val = some x → Completes (.dmaAbort n) s (fun d =>
    dmaDesc d n.val = some { x with abort := true } ∧ Answered d .ok ∧ OnlyChanges [] [.ans, .host] s.dev d)) ∧
  (∀ (s : State) (n : Fin 8), s.dev.get (DMA_STATUS_STATE n.val) = 2 → Completes (.dmaResume n) s (fun d =>
    d.get (DMA_STATUS_STATE n.val) = s.dev.get (DMA_CTRL_EN n.val) ∧ Answered d .ok ∧
    OnlyChanges [DMA_STATUS_STATE n.val] [.ans] s.dev d)) ∧
  (∀ (s : State) (n : Fin 8), s.dev.get (DMA_STATUS_STATE n.val) ≠ 2 → Completes (.dmaResume n) s (fun d =>
    Answered d .ok ∧ OnlyChanges [] [.ans] s.dev d))

/-- R566, R568: the management I2C target and the vectors.
Readings that are the model's choice, where a clause rests on one: log entries 1, 45 and 47. -/
def Obligations.ManagementAndMessages : Prop :=
  (∀ (s : State) (addr : BitVec 7) (off v : Word) (c : Instr), mi2cTakes s.dev addr.toNat = false →
    c ∈ [Instr.mi2cWrite addr off v, .mi2cRead addr off, .mi2cBadCommand] →
    Completes c s (fun d => OnlyChanges [] [] s.dev d)) ∧
  (∀ s : State, Completes .mi2cBadCommand s (fun d => OnlyChanges [] [] s.dev d)) ∧
  (∀ (s : State) (addr : BitVec 7) (v : Word), mi2cTakes s.dev addr.toNat = true → Completes (.mi2cWrite addr 4#32 v) s (fun d =>
    d.get GLOBAL_SCRATCH_DATA = v.toNat ∧ Answered d .ok ∧ OnlyChanges [GLOBAL_SCRATCH_DATA] [.ans] s.dev d)) ∧
  (∀ (s : State) (addr : BitVec 7), mi2cTakes s.dev addr.toNat = true → Completes (.mi2cRead addr 4#32) s (fun d =>
    Answered d .ok ∧ d.ctl.ans.data = [s.dev.get GLOBAL_SCRATCH_DATA] ∧ OnlyChanges [] [.ans] s.dev d)) ∧
  (∀ (s : State) (addr : BitVec 7) (off v : Word), mi2cTakes s.dev addr.toNat = true → 2 ^ 27 ≤ off.toNat →
    s.dev.get HOST_ERRLOG0_VALID = 0 → Completes (.mi2cWrite addr off v) s (fun d =>
      Answered d .addr ∧ d.get HOST_ERRLOG0_VALID = 1 ∧ d.get HOST_ERRLOG0_ROUTE = 4 ∧ d.get HOST_ERRLOG0_CODE = 3 ∧
      d.get HOST_ERRLOG1_ADDR_LO = off.toNat ∧ d.get HOST_IRQ_CAUSE_ERR = 1 ∧
      OnlyChanges [HOST_ERRLOG0_CODE, HOST_ERRLOG0_ROUTE, HOST_ERRLOG0_VALID, HOST_ERRLOG0_CHANNEL, HOST_ERRLOG0_REQ_ID,
        HOST_ERRLOG1_ADDR_LO, HOST_ERRLOG2_ADDR_HI, HOST_IRQ_CAUSE_ERR] [.ans] s.dev d)) ∧
  (∀ (s : State) (v : Fin 256), asserted s.dev v.val = true → inService s.dev v.val = false → s.dev.host.msixOn = true →
    vectorMasked s.dev v.val = false → Completes (.msixSend v) s (fun d =>
      d.ctl.out = .msix v.val (msixDw s.dev v.val 0 + 2 ^ 32 * msixDw s.dev v.val 1) (msixDw s.dev v.val 2) :: s.dev.ctl.out ∧
      inService d v.val = true ∧ OnlyChanges [GIRQ_INSERV_INSERV (v.val / 32)] [.out, .host] s.dev d)) ∧
  (∀ (s : State) (v : Fin 256), asserted s.dev v.val = true → inService s.dev v.val = false → s.dev.host.msixOn = true →
    vectorMasked s.dev v.val = true → Completes (.msixSend v) s (fun d =>
      d.host = { s.dev.host with pba := s.dev.host.pba ||| 2 ^ v.val } ∧ OnlyChanges [] [.host] s.dev d)) ∧
  (∀ (s : State) (v : Fin 256), asserted s.dev v.val = false → Completes (.msixSend v) s (fun d => OnlyChanges [] [] s.dev d)) ∧
  (∀ (s : State) (v : Fin 256), bitAt s.dev.host.pba v.val = false → Completes (.msixVectorUnmask v) s (fun d =>
    msixDw d v.val 3 = 0 ∧ (∀ i : Nat, i ≠ 3 → msixDw d v.val i = msixDw s.dev v.val i) ∧ OnlyChanges [] [.host] s.dev d)) ∧
  (∀ (s : State) (v : Fin 256), inService s.dev v.val = true →
    asserted (s.dev.clrBit (GIRQ_INSERV_INSERV (v.val / 32)) (v.val % 32)) v.val = false → Completes (.girqEoi v) s (fun d =>
      inService d v.val = false ∧ Answered d .ok ∧ OnlyChanges [GIRQ_INSERV_INSERV (v.val / 32)] [.ans] s.dev d)) ∧
  (∀ (s : State) (v : Fin 256), inService s.dev v.val = false → Completes (.girqEoi v) s (fun d =>
    Answered d .ok ∧ OnlyChanges [] [.ans] s.dev d))

/-- R558, R584: resets of the host port and the reference clock.
Readings that are the model's choice, where a clause rests on one: log entries 1, 45 and 46. -/
def Obligations.PortResets : Prop :=
  (∀ (s : State) (c : Instr), c ∈ [Instr.perstN, .hotReset, .pcieLinkDown] → Completes c s (fun d =>
    d.host = ({} : HostSt) ∧ d.get HOST_STATUS_BME = 0 ∧ d.get HOST_STATUS_MSIX_EN = 0 ∧ d.get HOST_STATUS_WIDTH = 0 ∧
    d.get HOST_STATUS_SPEED = 0 ∧ (∀ i : Nat, i < 8 → d.get (GIRQ_INSERV_INSERV i) = 0) ∧
    (∀ n : Nat, n < 8 → d.get (DMA_CTRL_EN n) = 0 ∧ d.get (DMA_STATUS_STATE n) = 0 ∧ d.get (DMA_STATUS_BUSY n) = 0) ∧
    SameParts [.host, .xm] s.dev d ∧ d.xm.mem = s.dev.xm.mem)) ∧
  (∀ s : State, s.dev.host.inReset = false → Completes .functionLevelReset s (fun d =>
    d.host.inReset = false ∧ d.host.readyAt = s.dev.host.readyAt ∧ d.host.descs = [] ∧ d.host.msixOn = false ∧
    d.get HOST_STATUS_BME = 0 ∧ d.get HOST_STATUS_MSIX_EN = 0 ∧ d.get HOST_STATUS_WIDTH = s.dev.get HOST_STATUS_WIDTH ∧
    d.get HOST_STATUS_SPEED = s.dev.get HOST_STATUS_SPEED ∧ SameParts [.host, .xm] s.dev d)) ∧
  (∀ (s : State) (ns : BitVec 27) (w : Fin 4) (sp : Fin 5), s.dev.host.inReset = true →
    Completes (.perstNRelease ns w sp) s (fun d =>
      d.host = { s.dev.host with inReset := false, readyAt := some (s.dev.tb + 4 * Nat.min ns.toNat 100000000) } ∧
      d.get HOST_STATUS_WIDTH = w.val + 1 ∧ d.get HOST_STATUS_SPEED = sp.val + 1 ∧
      OnlyChanges [HOST_STATUS_WIDTH, HOST_STATUS_SPEED] [.host] s.dev d)) ∧
  (∀ (s : State) (ns : BitVec 27) (w : Fin 4) (sp : Fin 5), s.dev.host.inReset = false →
    Completes (.perstNRelease ns w sp) s (fun d => OnlyChanges [] [] s.dev d)) ∧
  (∀ (s : State) (v : BitVec 16), 15000 ≤ v.toNat → v.toNat ≤ 16200 →
    Completes (.refclkLoss v) s (fun d => OnlyChanges [] [] s.dev d)) ∧
  (∀ (s : State) (v : BitVec 16), (v.toNat < 15000 ∨ 16200 < v.toNat) → Completes (.refclkLoss v) s (fun d =>
    d.ctl.time = { s.dev.ctl.time with refclk := v.toNat, refLost := true } ∧ d.get RM_STATUS_PLL_LOCK = 0 ∧
    OnlyChanges [RM_STATUS_PLL_LOCK] [.time] s.dev d)) ∧
  (∀ (s : State) (v : BitVec 16), s.dev.ctl.time.refLost = true → 15000 ≤ v.toNat → v.toNat ≤ 16200 →
    Completes (.refclkReturn v) s (fun d =>
      d.ctl.time = { s.dev.ctl.time with refclk := v.toNat, refLost := false } ∧ d.get RM_STATUS_PLL_LOCK = 1 ∧
      OnlyChanges [RM_STATUS_PLL_LOCK] [.time] s.dev d)) ∧
  (∀ (s : State) (v : BitVec 16), s.dev.ctl.time.refLost = false →
    Completes (.refclkReturn v) s (fun d => OnlyChanges [] [] s.dev d))

/-- R470, R471, R477 to R482, R579: starts and resets of the device.
Readings that are the model's choice, where a clause rests on one: log entries 1, 7, 49 and 50. -/
def Obligations.DeviceResets : Prop :=
  (∀ s : State, s.dev.bist.run = none → Completes .progNFall s (fun d =>
    d.cfg.load = none ∧ d.cfg.progLow = true ∧ d.cfg.frames = s.dev.cfg.frames ∧ d.cfg.doneAt = none ∧
    d.cfg.fuseKey = s.dev.cfg.fuseKey ∧ d.get CFG_CTRL_LOCK = 0 ∧ d.get TG_CTRL_LOCK = 0 ∧ d.get RM_CONTRACT_CTRL_LOCK = 0 ∧
    d.get XM_CFG_LOCK = 0 ∧ d.get SEC_CTRL_LOCK = 0)) ∧
  (∀ s : State, s.dev.cfg.progLow = true → Completes .progNRise s (fun d =>
    d.cfg.progLow = false ∧ d.cfg.clears = true ∧ d.cfg.shadow = [] ∧ d.cfg.fuseKey = s.dev.cfg.fuseKey)) ∧
  (∀ s : State, s.dev.cfg.progLow = false → Completes .progNRise s (fun d => OnlyChanges [] [] s.dev d)) ∧
  (∀ s : State, s.dev.cfg.clears = true → s.dev.trim.op ≠ 3 → s.dev.get BIST_STATUS_BUSY = 0 → s.dev.get CFG_STATUS_MODE < 5 →
    Completes .clearDone s (fun d =>
      d.get CFG_STATUS_INIT_PIN = 1 ∧ d.get CFG_STATUS_STATE = 1 ∧
      d.cfg = { s.dev.cfg with clears := false, initAt := s.dev.tb } ∧
      OnlyChanges [CFG_STATUS_INIT_PIN, CFG_STATUS_STATE] [.cfg] s.dev d)) ∧
  (∀ s : State, (s.dev.cfg.clears = false ∨ 5 ≤ s.dev.get CFG_STATUS_MODE) →
    Completes .clearDone s (fun d => OnlyChanges [] [] s.dev d)) ∧
  (∀ (s : State) (mode : Fin 8) (casc : Fin 16) (master : Bool) (vio : List (Fin 5)),
    Completes (.coldStart mode casc master vio) s (fun d =>
      d.cfg.load = none ∧ d.cfg.starting = true ∧ d.cfg.clears = true ∧ d.cfg.fuseKey = s.dev.cfg.fuseKey ∧
      d.trim.store = s.dev.trim.store ∧ d.chip.cells = [] ∧ d.pins.cascId = casc.val ∧ d.pins.master = master)) ∧
  (∀ (s : State) (mode : Fin 8) (casc : Fin 16) (master : Bool) (vio : List (Fin 5)), s.dev.trim.torn = true →
    Completes (.coldStart mode casc master vio) s (fun d =>
      d.get CFG_STATUS_MODE = mode.val ∧ d.get MI2C_STATUS_ADDR = 0x40 + casc.val ∧ d.get QM_STATUS_STATE = 2 ∧
      d.get CFG_STATUS_FULL_DONE = 0 ∧ d.get TRIM_STAT_BUSY = 1 ∧ d.get TRIM_SOURCE_STORED = 3 ∧
      d.get TRIM_SOURCE_IN_FORCE = 2 ∧ d.trim.op = 3)) ∧
  (∀ s : State, Completes .brownOut s (fun d =>
    (∀ f : Fld, f.key ∉ [CFG_KEY_STATUS_PROGRAMMED.key, CFG_KEY_STATUS_REQ_ENC_FUSE.key, CFG_KEY_STATUS_KCV.key,
      TRIM_STAT_COMMITS.key, TG_LIFE_HOURS.key, TG_LIFE_HOT_HOT_HOURS.key] → d.get f = f.rst % 2 ^ f.w) ∧
    d.get CFG_KEY_STATUS_PROGRAMMED = s.dev.get CFG_KEY_STATUS_PROGRAMMED ∧
    d.get TG_LIFE_HOURS = s.dev.tg.savedHours % 2 ^ 32 ∧ d.cfg.fuseKey = s.dev.cfg.fuseKey ∧ d.cfg.load = none ∧
    d.trim.store = s.dev.trim.store ∧ d.chip.cells = [] ∧ d.rings = [] ∧ d.engs = [])) ∧
  (∀ s : State, s.dev.bist.run = none → Completes .warmReset s (fun d =>
    d.cfg.load = none ∧ d.cfg.warm = true ∧ d.cfg.replays = (retains s.dev || s.dev.cfg.replays) ∧
    d.cfg.frames = s.dev.cfg.frames ∧ d.cfg.fuseKey = s.dev.cfg.fuseKey ∧ d.trim.store = s.dev.trim.store)) ∧
  (∀ (s : State) (straps : Option (Fin 16 × Bool)), s.dev.cfg.warm = false →
    Completes (.warmResetEnd straps) s (fun d => OnlyChanges [] [] s.dev d)) ∧
  (∀ (s : State) (casc : Fin 16) (master : Bool), s.dev.cfg.warm = true → s.dev.cfg.replays = false →
    Completes (.warmResetEnd (some (casc, master))) s (fun d =>
    d.cfg.warm = false ∧ d.cfg.clears = true ∧ d.pins.cascId = casc.val ∧ d.pins.master = master ∧
    d.get ICL_STATUS_CASC_ID = casc.val ∧ d.get ICL_STATUS_MASTER = b2n master ∧ d.get CFG_STATUS_LAST_WARM = 1 ∧ d.cfg.shadow = [] ∧
    d.get CFG_STATUS_INIT_PIN = 0 ∧ d.get CFG_STATUS_FULL_DONE = 0)) ∧
  (∀ s : State, s.dev.cfg.warm = true → s.dev.cfg.replays = false → Completes .warmResetEnd s (fun d =>
    d.cfg.warm = false ∧ d.cfg.clears = true ∧ d.pins.cascId = s.dev.pins.cascId ∧ d.pins.master = s.dev.pins.master ∧
    d.get CFG_STATUS_LAST_WARM = 1))
end

