-- ==== Sys2Proof/Laws/Store.lean ====
section
/-! SUPPORT. Laws of stores and memories: a read after a write, other keys, and the canonical form that every operation
keeps. -/
namespace Sys2Proof.Machine

variable {α : Type}

/-! ### Reading after a change -/

@[simp] theorem sget_nil (d : α) (k : Nat) : sget d [] k = d := rfl

theorem sget_cons (d : α) (e : Nat × α) (m : Store α) (k : Nat) :
    sget d (e :: m) k = if e.1 = k then e.2 else sget d m k := rfl

theorem sget_sdel_same (d : α) (m : Store α) (k : Nat) : sget d (sdel m k) k = d := by
  induction m with
  | nil => rfl
  | cons e m ih => by_cases h : e.1 = k <;> simp [sdel, sget_cons, h, ih]

theorem sget_sdel_other (d : α) (m : Store α) {k i : Nat} (h : i ≠ k) : sget d (sdel m k) i = sget d m i := by
  induction m with
  | nil => rfl
  | cons e m ih =>
    by_cases hk : e.1 = k
    · simp [sdel, sget_cons, hk, ih, Ne.symm h]
    · simp [sdel, sget_cons, hk, ih]

theorem sget_splace_other (d : α) (m : Store α) {k i : Nat} (v : α) (h : i ≠ k) :
    sget d (splace m k v) i = sget d m i := by
  induction m with
  | nil => simp [splace, sget_cons, Ne.symm h]
  | cons e m ih => by_cases hk : k < e.1 <;> simp [splace, sget_cons, hk, ih, Ne.symm h]

theorem sget_splace_same (d : α) (m : Store α) (k : Nat) (v : α) (h : ∀ e ∈ m, e.1 ≠ k) :
    sget d (splace m k v) k = v := by
  induction m with
  | nil => simp [splace, sget_cons]
  | cons e m ih =>
    have h1 : e.1 ≠ k := h e (by simp)
    by_cases hk : k < e.1
    · simp [splace, sget_cons, hk]
    · simp [splace, sget_cons, hk, h1, ih (fun x hx => h x (by simp [hx]))]

theorem keys_sdel (m : Store α) (k : Nat) : ∀ e ∈ sdel m k, e.1 ≠ k := by
  induction m with
  | nil => simp [sdel]
  | cons e m ih =>
    by_cases h : e.1 = k
    · simpa [sdel, h] using ih
    · simpa [sdel, h] using ih

theorem sget_sput_same (d : α) (m : Store α) (k : Nat) (v : α) : sget d (sput m k v) k = v :=
  sget_splace_same d _ k v (keys_sdel m k)

theorem sget_sput_other (d : α) (m : Store α) {k i : Nat} (v : α) (h : i ≠ k) : sget d (sput m k v) i = sget d m i := by
  simp [sput, sget_splace_other d _ v h, sget_sdel_other d m h]

/-- What is stored under a key is what the key reads as. -/
@[simp] theorem sget_sset_same [DecidableEq α] (d : α) (m : Store α) (k : Nat) (v : α) : sget d (sset d m k v) k = v := by
  by_cases h : v = d
  · simp [sset, h, sget_sdel_same]
  · simp [sset, h, sget_sput_same]

/-- A store under one key leaves every other key as it was, whatever default it is read with. -/
theorem sget_sset_other [DecidableEq α] (d d' : α) (m : Store α) {k i : Nat} (v : α) (h : i ≠ k) :
    sget d' (sset d m k v) i = sget d' m i := by
  by_cases hv : v = d
  · simp [sset, hv, sget_sdel_other d' m h]
  · simp [sset, hv, sget_sput_other d' m v h]

/-- A read after a store, in one equation. -/
theorem sget_sset [DecidableEq α] (d : α) (m : Store α) (k i : Nat) (v : α) :
    sget d (sset d m k v) i = if i = k then v else sget d m i := by
  by_cases h : i = k
  · simp [h]
  · simp [h, sget_sset_other d d m v h]

/-! ### The canonical form -/

theorem sorted_tail {e : Nat × α} {m : Store α} (h : sorted (e :: m) = true) : sorted m = true := by
  cases m with
  | nil => rfl
  | cons f m => exact (by simpa [sorted] using h : _ ∧ _).2

theorem sorted_above {e : Nat × α} {m : Store α} (h : sorted (e :: m) = true) : ∀ f ∈ m, e.1 < f.1 := by
  induction m generalizing e with
  | nil => simp
  | cons g m ih =>
    have h' : e.1 < g.1 ∧ sorted (g :: m) = true := by simpa [sorted] using h
    intro f hf
    rcases List.mem_cons.1 hf with rfl | hf
    · exact h'.1
    · exact Nat.lt_trans h'.1 (ih h'.2 f hf)

theorem sorted_cons {e : Nat × α} {m : Store α} (hm : sorted m = true) (h : ∀ f ∈ m, e.1 < f.1) :
    sorted (e :: m) = true := by
  cases m with
  | nil => rfl
  | cons g m => simpa [sorted] using ⟨h g (by simp), hm⟩

theorem mem_of_mem_sdel {m : Store α} {k : Nat} {e : Nat × α} (h : e ∈ sdel m k) : e ∈ m := by
  induction m with
  | nil => exact h
  | cons f m ih =>
    by_cases hk : f.1 = k
    · exact List.mem_cons_of_mem _ (ih (by simpa [sdel, hk] using h))
    · rcases (by simpa [sdel, hk] using h : e = f ∨ e ∈ sdel m k) with rfl | h
      · simp
      · exact List.mem_cons_of_mem _ (ih h)

theorem mem_splace {m : Store α} {k : Nat} {v : α} {e : Nat × α} (h : e ∈ splace m k v) : e = (k, v) ∨ e ∈ m := by
  induction m with
  | nil => simpa [splace] using h
  | cons f m ih =>
    by_cases hk : k < f.1
    · simpa [splace, hk] using h
    · rcases (by simpa [splace, hk] using h : e = f ∨ e ∈ splace m k v) with rfl | h
      · simp
      · rcases ih h with h | h
        · exact .inl h
        · exact .inr (List.mem_cons_of_mem _ h)

theorem sorted_sdel {m : Store α} (k : Nat) (h : sorted m = true) : sorted (sdel m k) = true := by
  induction m with
  | nil => rfl
  | cons e m ih =>
    by_cases hk : e.1 = k
    · simpa [sdel, hk] using ih (sorted_tail h)
    · simpa [sdel, hk] using sorted_cons (ih (sorted_tail h)) (fun f hf => sorted_above h f (mem_of_mem_sdel hf))

theorem sorted_splace {m : Store α} (k : Nat) (v : α) (h : sorted m = true) (hk : ∀ e ∈ m, e.1 ≠ k) :
    sorted (splace m k v) = true := by
  induction m with
  | nil => rfl
  | cons e m ih =>
    by_cases hlt : k < e.1
    · simp only [splace, hlt, if_true]
      refine sorted_cons h (fun f hf => ?_)
      rcases List.mem_cons.1 hf with rfl | hf
      · exact hlt
      · exact Nat.lt_trans hlt (sorted_above h f hf)
    · have hek : e.1 < k := Nat.lt_of_le_of_ne (Nat.le_of_not_lt hlt) (hk e (by simp))
      simp only [splace, hlt, if_false]
      refine sorted_cons (ih (sorted_tail h) (fun f hf => hk f (by simp [hf]))) (fun f hf => ?_)
      rcases mem_splace hf with rfl | hf
      · exact hek
      · exact sorted_above h f hf

/-- Storing keeps the canonical form. -/
theorem storeWf_sset [DecidableEq α] (d : α) (m : Store α) (k : Nat) (v : α) (h : storeWf d m = true) :
    storeWf d (sset d m k v) = true := by
  have hs : sorted m = true ∧ ∀ e ∈ m, e.2 ≠ d := by simpa [storeWf] using h
  have hd : sorted (sdel m k) = true := sorted_sdel k hs.1
  by_cases hv : v = d
  · simpa [sset, hv, storeWf] using ⟨hd, fun e b he => hs.2 _ (mem_of_mem_sdel he)⟩
  · have : ∀ e ∈ sput m k v, e.2 ≠ d := by
      intro e he
      rcases mem_splace he with rfl | he
      · exact hv
      · exact hs.2 e (mem_of_mem_sdel he)
    simpa [sset, hv, storeWf] using ⟨sorted_splace k v hd (keys_sdel m k), fun e b he => this _ he⟩

/-! ### Memories -/

/-- A byte reads as written. -/
@[simp] theorem rdByte_wrByte_same (m : List Host.Cell) (a : Nat) (v : Byte) : rdByte (wrByte m a v) a = v :=
  sget_sset_same _ _ _ _

/-- A write of one byte leaves every other byte as it was. -/
theorem rdByte_wrByte_other (m : List Host.Cell) {a b : Nat} (v : Byte) (h : b ≠ a) :
    rdByte (wrByte m a v) b = rdByte m b := sget_sset_other _ _ _ _ h

/-- A write of bytes leaves every byte outside them as it was. -/
theorem rdByte_wrBytes_other (m : List Host.Cell) (a : Nat) (bs : List Byte) {x : Nat} (h : x < a ∨ a + bs.length ≤ x) :
    rdByte (wrBytes m a bs) x = rdByte m x := by
  induction bs generalizing m a with
  | nil => rfl
  | cons b bs ih =>
    have h' : x < a ∨ a + (bs.length + 1) ≤ x := by simpa using h
    rw [wrBytes, ih (wrByte m a b) (a + 1) (by omega), rdByte_wrByte_other m b (by omega)]

/-- Bytes read as written. -/
theorem rdBytes_wrBytes (m : List Host.Cell) (a : Nat) (bs : List Byte) : rdBytes (wrBytes m a bs) a bs.length = bs := by
  induction bs generalizing m a with
  | nil => rfl
  | cons b bs ih =>
    simp only [wrBytes, List.length_cons, rdBytes, ih]
    rw [rdByte_wrBytes_other _ _ _ (by omega), rdByte_wrByte_same]

/-- A write of one byte keeps the memory form. -/
theorem memWf_wrByte (m : List Host.Cell) (a : Nat) (v : Byte) (h : memWf m = true) : memWf (wrByte m a v) = true :=
  storeWf_sset _ _ _ _ h

/-- A write of bytes keeps the memory form. -/
theorem memWf_wrBytes (m : List Host.Cell) (a : Nat) (bs : List Byte) (h : memWf m = true) :
    memWf (wrBytes m a bs) = true := by
  induction bs generalizing m a with
  | nil => exact h
  | cons b bs ih => exact ih _ _ (memWf_wrByte m a b h)

/-- A write under byte enables keeps the memory form. -/
theorem memWf_wrEnabled (m : List Host.Cell) (a : Nat) (bs : List (Bool × Byte)) (h : memWf m = true) :
    memWf (wrEnabled m a bs) = true := by
  induction bs generalizing m a with
  | nil => exact h
  | cons b bs ih =>
    obtain ⟨en, v⟩ := b
    cases en
    · exact ih _ _ h
    · exact ih _ _ (memWf_wrByte m a v h)

theorem sorted_filter {m : Store α} (p : Nat × α → Bool) (h : sorted m = true) : sorted (m.filter p) = true := by
  induction m with
  | nil => rfl
  | cons e m ih =>
    by_cases hp : p e = true
    · simp only [List.filter_cons, hp, if_true]
      exact sorted_cons (ih (sorted_tail h)) (fun f hf => sorted_above h f (List.mem_filter.1 hf).1)
    · simpa [List.filter_cons, hp] using ih (sorted_tail h)

/-- Zeroing keeps the memory form. -/
theorem memWf_zeroCells (m : List Host.Cell) (a n : Nat) (h : memWf m = true) : memWf (zeroCells m a n) = true := by
  have hs : sorted m = true ∧ ∀ e ∈ m, e.2 ≠ unlisted := by simpa [memWf, storeWf] using h
  have : ∀ e ∈ zeroCells m a n, e.2 ≠ unlisted := fun e he => hs.2 e (List.mem_filter.1 he).1
  simpa [memWf, storeWf] using ⟨sorted_filter _ hs.1, fun e b he => this _ he⟩

/-- A zeroed byte reads 0; a byte outside the range reads as before. -/
theorem rdByte_zeroCells (m : List Host.Cell) (a n x : Nat) :
    rdByte (zeroCells m a n) x = if a ≤ x ∧ x < a + n then 0 else rdByte m x := by
  induction m with
  | nil => simp [zeroCells, rdByte, unlisted]
  | cons e m ih =>
    have hz : zeroCells (e :: m) a n = if a ≤ e.1 ∧ e.1 < a + n then zeroCells m a n else e :: zeroCells m a n := by
      by_cases h : a ≤ e.1 ∧ e.1 < a + n <;> simp [zeroCells, List.filter_cons, h]
    by_cases h : a ≤ e.1 ∧ e.1 < a + n
    · rw [hz, if_pos h, ih]
      by_cases hx : a ≤ x ∧ x < a + n
      · simp [hx]
      · have : e.1 ≠ x := by omega
        simp [hx, rdByte, sget_cons, this]
    · rw [hz, if_neg h]
      by_cases hx : e.1 = x
      · subst hx; simp [h, rdByte, sget_cons]
      · have := ih
        simp only [rdByte, sget_cons, hx, if_false] at this ⊢
        exact this

end Sys2Proof.Machine
end

