-- ==== Sys2Proof/Laws/State.lean ====
section
/-! SUPPORT. Laws of the state: what each named update leaves of each part and of each register field, and what a field
reads after it. -/
namespace Sys2Proof.Machine

/-! ### Register fields -/

/-- A field reads its value in the store of fields; folded back to `Dev.get`. -/
@[simp] theorem Dev.ctl_get (d : Dev) (f : Fld) : d.ctl.get f = d.get f := rfl

/-- A field reads as written, cut to its width. -/
@[simp] theorem Ctl.get_set_same (c : Ctl) (f : Fld) (v : Nat) : (c.set f v).get f = v % 2 ^ f.w := by
  simp [Ctl.get, Ctl.set]
/-- A write of one field leaves every other field as it was. -/
theorem Ctl.get_set_other (c : Ctl) (f g : Fld) (v : Nat) (h : g.key ≠ f.key) : (c.set f v).get g = c.get g := by
  simp only [Ctl.get, Ctl.set, sget_sset_other _ _ _ _ h]
/-- A field reads as written, cut to its width. -/
@[simp] theorem Dev.get_set_same (d : Dev) (f : Fld) (v : Nat) : (d.set f v).get f = v % 2 ^ f.w := Ctl.get_set_same _ _ _
/-- A write of one field leaves every other field as it was. -/
theorem Dev.get_set_other (d : Dev) (f g : Fld) (v : Nat) (h : g.key ≠ f.key) : (d.set f v).get g = d.get g :=
  Ctl.get_set_other _ _ _ _ h
/-- A field reads as a number of its width. -/
theorem Dev.get_lt (d : Dev) (f : Fld) : d.get f < 2 ^ f.w := Nat.mod_lt _ (Nat.two_pow_pos _)
/-- A one-bit field that was raised is set. -/
@[simp] theorem Dev.get_raise_same (d : Dev) (f : Fld) : (d.raise f).get f = (2 ^ f.w - 1) % 2 ^ f.w := Dev.get_set_same _ _ _
/-- Raising one field leaves every other as it was. -/
theorem Dev.get_raise_other (d : Dev) (f g : Fld) (h : g.key ≠ f.key) : (d.raise f).get g = d.get g :=
  Dev.get_set_other _ _ _ _ h
/-- A cleared field reads 0. -/
@[simp] theorem Dev.get_clear_same (d : Dev) (f : Fld) : (d.clear f).get f = 0 := by simp [Dev.clear]
/-- Clearing one field leaves every other as it was. -/
theorem Dev.get_clear_other (d : Dev) (f g : Fld) (h : g.key ≠ f.key) : (d.clear f).get g = d.get g :=
  Dev.get_set_other _ _ _ _ h

/-! ### What the updates of the control plane leave -/

@[simp] theorem Dev.set_rings (d : Dev) (f : Fld) (v : Nat) : (d.set f v).rings = d.rings := rfl
@[simp] theorem Dev.set_tg (d : Dev) (f : Fld) (v : Nat) : (d.set f v).tg = d.tg := rfl
@[simp] theorem Dev.set_chip (d : Dev) (f : Fld) (v : Nat) : (d.set f v).chip = d.chip := rfl
@[simp] theorem Dev.set_qm (d : Dev) (f : Fld) (v : Nat) : (d.set f v).qm = d.qm := rfl
@[simp] theorem Dev.set_xm (d : Dev) (f : Fld) (v : Nat) : (d.set f v).xm = d.xm := rfl
@[simp] theorem Dev.set_slots (d : Dev) (f : Fld) (v : Nat) : (d.set f v).slots = d.slots := rfl
@[simp] theorem Dev.set_cx (d : Dev) (f : Fld) (v : Nat) : (d.set f v).cx = d.cx := rfl
@[simp] theorem Dev.set_engs (d : Dev) (f : Fld) (v : Nat) : (d.set f v).engs = d.engs := rfl
@[simp] theorem Dev.set_net (d : Dev) (f : Fld) (v : Nat) : (d.set f v).net = d.net := rfl
@[simp] theorem Dev.set_icl (d : Dev) (f : Fld) (v : Nat) : (d.set f v).icl = d.icl := rfl
@[simp] theorem Dev.set_cfg (d : Dev) (f : Fld) (v : Nat) : (d.set f v).cfg = d.cfg := rfl
@[simp] theorem Dev.set_trim (d : Dev) (f : Fld) (v : Nat) : (d.set f v).trim = d.trim := rfl
@[simp] theorem Dev.set_car (d : Dev) (f : Fld) (v : Nat) : (d.set f v).car = d.car := rfl
@[simp] theorem Dev.set_bist (d : Dev) (f : Fld) (v : Nat) : (d.set f v).bist = d.bist := rfl
@[simp] theorem Dev.set_pins (d : Dev) (f : Fld) (v : Nat) : (d.set f v).pins = d.pins := rfl
@[simp] theorem Dev.set_host (d : Dev) (f : Fld) (v : Nat) : (d.set f v).host = d.host := rfl
@[simp] theorem Dev.set_xstop (d : Dev) (f : Fld) (v : Nat) : (d.set f v).xstop = d.xstop := rfl
@[simp] theorem Dev.set_time (d : Dev) (f : Fld) (v : Nat) : (d.set f v).ctl.time = d.ctl.time := rfl
@[simp] theorem Dev.set_bbr (d : Dev) (f : Fld) (v : Nat) : (d.set f v).ctl.bbr = d.ctl.bbr := rfl
@[simp] theorem Dev.set_ans (d : Dev) (f : Fld) (v : Nat) : (d.set f v).ctl.ans = d.ctl.ans := rfl
@[simp] theorem Dev.set_out (d : Dev) (f : Fld) (v : Nat) : (d.set f v).ctl.out = d.ctl.out := rfl
@[simp] theorem Dev.set_fresh (d : Dev) (f : Fld) (v : Nat) : (d.set f v).ctl.fresh = d.ctl.fresh := rfl
@[simp] theorem Dev.raise_rings (d : Dev) (f : Fld) : (d.raise f).rings = d.rings := rfl
@[simp] theorem Dev.raise_tg (d : Dev) (f : Fld) : (d.raise f).tg = d.tg := rfl
@[simp] theorem Dev.raise_chip (d : Dev) (f : Fld) : (d.raise f).chip = d.chip := rfl
@[simp] theorem Dev.raise_qm (d : Dev) (f : Fld) : (d.raise f).qm = d.qm := rfl
@[simp] theorem Dev.raise_xm (d : Dev) (f : Fld) : (d.raise f).xm = d.xm := rfl
@[simp] theorem Dev.raise_slots (d : Dev) (f : Fld) : (d.raise f).slots = d.slots := rfl
@[simp] theorem Dev.raise_cx (d : Dev) (f : Fld) : (d.raise f).cx = d.cx := rfl
@[simp] theorem Dev.raise_engs (d : Dev) (f : Fld) : (d.raise f).engs = d.engs := rfl
@[simp] theorem Dev.raise_net (d : Dev) (f : Fld) : (d.raise f).net = d.net := rfl
@[simp] theorem Dev.raise_icl (d : Dev) (f : Fld) : (d.raise f).icl = d.icl := rfl
@[simp] theorem Dev.raise_cfg (d : Dev) (f : Fld) : (d.raise f).cfg = d.cfg := rfl
@[simp] theorem Dev.raise_trim (d : Dev) (f : Fld) : (d.raise f).trim = d.trim := rfl
@[simp] theorem Dev.raise_car (d : Dev) (f : Fld) : (d.raise f).car = d.car := rfl
@[simp] theorem Dev.raise_bist (d : Dev) (f : Fld) : (d.raise f).bist = d.bist := rfl
@[simp] theorem Dev.raise_pins (d : Dev) (f : Fld) : (d.raise f).pins = d.pins := rfl
@[simp] theorem Dev.raise_host (d : Dev) (f : Fld) : (d.raise f).host = d.host := rfl
@[simp] theorem Dev.raise_xstop (d : Dev) (f : Fld) : (d.raise f).xstop = d.xstop := rfl
@[simp] theorem Dev.raise_time (d : Dev) (f : Fld) : (d.raise f).ctl.time = d.ctl.time := rfl
@[simp] theorem Dev.raise_bbr (d : Dev) (f : Fld) : (d.raise f).ctl.bbr = d.ctl.bbr := rfl
@[simp] theorem Dev.raise_ans (d : Dev) (f : Fld) : (d.raise f).ctl.ans = d.ctl.ans := rfl
@[simp] theorem Dev.raise_out (d : Dev) (f : Fld) : (d.raise f).ctl.out = d.ctl.out := rfl
@[simp] theorem Dev.raise_fresh (d : Dev) (f : Fld) : (d.raise f).ctl.fresh = d.ctl.fresh := rfl
@[simp] theorem Dev.clear_rings (d : Dev) (f : Fld) : (d.clear f).rings = d.rings := rfl
@[simp] theorem Dev.clear_tg (d : Dev) (f : Fld) : (d.clear f).tg = d.tg := rfl
@[simp] theorem Dev.clear_chip (d : Dev) (f : Fld) : (d.clear f).chip = d.chip := rfl
@[simp] theorem Dev.clear_qm (d : Dev) (f : Fld) : (d.clear f).qm = d.qm := rfl
@[simp] theorem Dev.clear_xm (d : Dev) (f : Fld) : (d.clear f).xm = d.xm := rfl
@[simp] theorem Dev.clear_slots (d : Dev) (f : Fld) : (d.clear f).slots = d.slots := rfl
@[simp] theorem Dev.clear_cx (d : Dev) (f : Fld) : (d.clear f).cx = d.cx := rfl
@[simp] theorem Dev.clear_engs (d : Dev) (f : Fld) : (d.clear f).engs = d.engs := rfl
@[simp] theorem Dev.clear_net (d : Dev) (f : Fld) : (d.clear f).net = d.net := rfl
@[simp] theorem Dev.clear_icl (d : Dev) (f : Fld) : (d.clear f).icl = d.icl := rfl
@[simp] theorem Dev.clear_cfg (d : Dev) (f : Fld) : (d.clear f).cfg = d.cfg := rfl
@[simp] theorem Dev.clear_trim (d : Dev) (f : Fld) : (d.clear f).trim = d.trim := rfl
@[simp] theorem Dev.clear_car (d : Dev) (f : Fld) : (d.clear f).car = d.car := rfl
@[simp] theorem Dev.clear_bist (d : Dev) (f : Fld) : (d.clear f).bist = d.bist := rfl
@[simp] theorem Dev.clear_pins (d : Dev) (f : Fld) : (d.clear f).pins = d.pins := rfl
@[simp] theorem Dev.clear_host (d : Dev) (f : Fld) : (d.clear f).host = d.host := rfl
@[simp] theorem Dev.clear_xstop (d : Dev) (f : Fld) : (d.clear f).xstop = d.xstop := rfl
@[simp] theorem Dev.clear_time (d : Dev) (f : Fld) : (d.clear f).ctl.time = d.ctl.time := rfl
@[simp] theorem Dev.clear_bbr (d : Dev) (f : Fld) : (d.clear f).ctl.bbr = d.ctl.bbr := rfl
@[simp] theorem Dev.clear_ans (d : Dev) (f : Fld) : (d.clear f).ctl.ans = d.ctl.ans := rfl
@[simp] theorem Dev.clear_out (d : Dev) (f : Fld) : (d.clear f).ctl.out = d.ctl.out := rfl
@[simp] theorem Dev.clear_fresh (d : Dev) (f : Fld) : (d.clear f).ctl.fresh = d.ctl.fresh := rfl
@[simp] theorem Dev.incSat_rings (d : Dev) (f : Fld) : (d.incSat f).rings = d.rings := rfl
@[simp] theorem Dev.incSat_tg (d : Dev) (f : Fld) : (d.incSat f).tg = d.tg := rfl
@[simp] theorem Dev.incSat_chip (d : Dev) (f : Fld) : (d.incSat f).chip = d.chip := rfl
@[simp] theorem Dev.incSat_qm (d : Dev) (f : Fld) : (d.incSat f).qm = d.qm := rfl
@[simp] theorem Dev.incSat_xm (d : Dev) (f : Fld) : (d.incSat f).xm = d.xm := rfl
@[simp] theorem Dev.incSat_slots (d : Dev) (f : Fld) : (d.incSat f).slots = d.slots := rfl
@[simp] theorem Dev.incSat_cx (d : Dev) (f : Fld) : (d.incSat f).cx = d.cx := rfl
@[simp] theorem Dev.incSat_engs (d : Dev) (f : Fld) : (d.incSat f).engs = d.engs := rfl
@[simp] theorem Dev.incSat_net (d : Dev) (f : Fld) : (d.incSat f).net = d.net := rfl
@[simp] theorem Dev.incSat_icl (d : Dev) (f : Fld) : (d.incSat f).icl = d.icl := rfl
@[simp] theorem Dev.incSat_cfg (d : Dev) (f : Fld) : (d.incSat f).cfg = d.cfg := rfl
@[simp] theorem Dev.incSat_trim (d : Dev) (f : Fld) : (d.incSat f).trim = d.trim := rfl
@[simp] theorem Dev.incSat_car (d : Dev) (f : Fld) : (d.incSat f).car = d.car := rfl
@[simp] theorem Dev.incSat_bist (d : Dev) (f : Fld) : (d.incSat f).bist = d.bist := rfl
@[simp] theorem Dev.incSat_pins (d : Dev) (f : Fld) : (d.incSat f).pins = d.pins := rfl
@[simp] theorem Dev.incSat_host (d : Dev) (f : Fld) : (d.incSat f).host = d.host := rfl
@[simp] theorem Dev.incSat_xstop (d : Dev) (f : Fld) : (d.incSat f).xstop = d.xstop := rfl
@[simp] theorem Dev.incSat_time (d : Dev) (f : Fld) : (d.incSat f).ctl.time = d.ctl.time := rfl
@[simp] theorem Dev.incSat_bbr (d : Dev) (f : Fld) : (d.incSat f).ctl.bbr = d.ctl.bbr := rfl
@[simp] theorem Dev.incSat_ans (d : Dev) (f : Fld) : (d.incSat f).ctl.ans = d.ctl.ans := rfl
@[simp] theorem Dev.incSat_out (d : Dev) (f : Fld) : (d.incSat f).ctl.out = d.ctl.out := rfl
@[simp] theorem Dev.incSat_fresh (d : Dev) (f : Fld) : (d.incSat f).ctl.fresh = d.ctl.fresh := rfl
@[simp] theorem Dev.answer_rings (d : Dev) (c : Resp) (xs : List Nat) : (d.answer c xs).rings = d.rings := rfl
@[simp] theorem Dev.answer_tg (d : Dev) (c : Resp) (xs : List Nat) : (d.answer c xs).tg = d.tg := rfl
@[simp] theorem Dev.answer_chip (d : Dev) (c : Resp) (xs : List Nat) : (d.answer c xs).chip = d.chip := rfl
@[simp] theorem Dev.answer_qm (d : Dev) (c : Resp) (xs : List Nat) : (d.answer c xs).qm = d.qm := rfl
@[simp] theorem Dev.answer_xm (d : Dev) (c : Resp) (xs : List Nat) : (d.answer c xs).xm = d.xm := rfl
@[simp] theorem Dev.answer_slots (d : Dev) (c : Resp) (xs : List Nat) : (d.answer c xs).slots = d.slots := rfl
@[simp] theorem Dev.answer_cx (d : Dev) (c : Resp) (xs : List Nat) : (d.answer c xs).cx = d.cx := rfl
@[simp] theorem Dev.answer_engs (d : Dev) (c : Resp) (xs : List Nat) : (d.answer c xs).engs = d.engs := rfl
@[simp] theorem Dev.answer_net (d : Dev) (c : Resp) (xs : List Nat) : (d.answer c xs).net = d.net := rfl
@[simp] theorem Dev.answer_icl (d : Dev) (c : Resp) (xs : List Nat) : (d.answer c xs).icl = d.icl := rfl
@[simp] theorem Dev.answer_cfg (d : Dev) (c : Resp) (xs : List Nat) : (d.answer c xs).cfg = d.cfg := rfl
@[simp] theorem Dev.answer_trim (d : Dev) (c : Resp) (xs : List Nat) : (d.answer c xs).trim = d.trim := rfl
@[simp] theorem Dev.answer_car (d : Dev) (c : Resp) (xs : List Nat) : (d.answer c xs).car = d.car := rfl
@[simp] theorem Dev.answer_bist (d : Dev) (c : Resp) (xs : List Nat) : (d.answer c xs).bist = d.bist := rfl
@[simp] theorem Dev.answer_pins (d : Dev) (c : Resp) (xs : List Nat) : (d.answer c xs).pins = d.pins := rfl
@[simp] theorem Dev.answer_host (d : Dev) (c : Resp) (xs : List Nat) : (d.answer c xs).host = d.host := rfl
@[simp] theorem Dev.answer_xstop (d : Dev) (c : Resp) (xs : List Nat) : (d.answer c xs).xstop = d.xstop := rfl
@[simp] theorem Dev.answer_time (d : Dev) (c : Resp) (xs : List Nat) : (d.answer c xs).ctl.time = d.ctl.time := rfl
@[simp] theorem Dev.answer_bbr (d : Dev) (c : Resp) (xs : List Nat) : (d.answer c xs).ctl.bbr = d.ctl.bbr := rfl
@[simp] theorem Dev.answer_out (d : Dev) (c : Resp) (xs : List Nat) : (d.answer c xs).ctl.out = d.ctl.out := rfl
@[simp] theorem Dev.answer_fresh (d : Dev) (c : Resp) (xs : List Nat) : (d.answer c xs).ctl.fresh = d.ctl.fresh := rfl
@[simp] theorem Dev.get_answer (d : Dev) (c : Resp) (xs : List Nat) (g : Fld) : (d.answer c xs).get g = d.get g := rfl
@[simp] theorem Dev.emit_rings (d : Dev) (e : OutEvent) : (d.emit e).rings = d.rings := rfl
@[simp] theorem Dev.emit_tg (d : Dev) (e : OutEvent) : (d.emit e).tg = d.tg := rfl
@[simp] theorem Dev.emit_chip (d : Dev) (e : OutEvent) : (d.emit e).chip = d.chip := rfl
@[simp] theorem Dev.emit_qm (d : Dev) (e : OutEvent) : (d.emit e).qm = d.qm := rfl
@[simp] theorem Dev.emit_xm (d : Dev) (e : OutEvent) : (d.emit e).xm = d.xm := rfl
@[simp] theorem Dev.emit_slots (d : Dev) (e : OutEvent) : (d.emit e).slots = d.slots := rfl
@[simp] theorem Dev.emit_cx (d : Dev) (e : OutEvent) : (d.emit e).cx = d.cx := rfl
@[simp] theorem Dev.emit_engs (d : Dev) (e : OutEvent) : (d.emit e).engs = d.engs := rfl
@[simp] theorem Dev.emit_net (d : Dev) (e : OutEvent) : (d.emit e).net = d.net := rfl
@[simp] theorem Dev.emit_icl (d : Dev) (e : OutEvent) : (d.emit e).icl = d.icl := rfl
@[simp] theorem Dev.emit_cfg (d : Dev) (e : OutEvent) : (d.emit e).cfg = d.cfg := rfl
@[simp] theorem Dev.emit_trim (d : Dev) (e : OutEvent) : (d.emit e).trim = d.trim := rfl
@[simp] theorem Dev.emit_car (d : Dev) (e : OutEvent) : (d.emit e).car = d.car := rfl
@[simp] theorem Dev.emit_bist (d : Dev) (e : OutEvent) : (d.emit e).bist = d.bist := rfl
@[simp] theorem Dev.emit_pins (d : Dev) (e : OutEvent) : (d.emit e).pins = d.pins := rfl
@[simp] theorem Dev.emit_host (d : Dev) (e : OutEvent) : (d.emit e).host = d.host := rfl
@[simp] theorem Dev.emit_xstop (d : Dev) (e : OutEvent) : (d.emit e).xstop = d.xstop := rfl
@[simp] theorem Dev.emit_time (d : Dev) (e : OutEvent) : (d.emit e).ctl.time = d.ctl.time := rfl
@[simp] theorem Dev.emit_bbr (d : Dev) (e : OutEvent) : (d.emit e).ctl.bbr = d.ctl.bbr := rfl
@[simp] theorem Dev.emit_ans (d : Dev) (e : OutEvent) : (d.emit e).ctl.ans = d.ctl.ans := rfl
@[simp] theorem Dev.emit_fresh (d : Dev) (e : OutEvent) : (d.emit e).ctl.fresh = d.ctl.fresh := rfl
@[simp] theorem Dev.get_emit (d : Dev) (e : OutEvent) (g : Fld) : (d.emit e).get g = d.get g := rfl
@[simp] theorem Dev.bump_rings (d : Dev) : (d.bump).rings = d.rings := rfl
@[simp] theorem Dev.bump_tg (d : Dev) : (d.bump).tg = d.tg := rfl
@[simp] theorem Dev.bump_chip (d : Dev) : (d.bump).chip = d.chip := rfl
@[simp] theorem Dev.bump_qm (d : Dev) : (d.bump).qm = d.qm := rfl
@[simp] theorem Dev.bump_xm (d : Dev) : (d.bump).xm = d.xm := rfl
@[simp] theorem Dev.bump_slots (d : Dev) : (d.bump).slots = d.slots := rfl
@[simp] theorem Dev.bump_cx (d : Dev) : (d.bump).cx = d.cx := rfl
@[simp] theorem Dev.bump_engs (d : Dev) : (d.bump).engs = d.engs := rfl
@[simp] theorem Dev.bump_net (d : Dev) : (d.bump).net = d.net := rfl
@[simp] theorem Dev.bump_icl (d : Dev) : (d.bump).icl = d.icl := rfl
@[simp] theorem Dev.bump_cfg (d : Dev) : (d.bump).cfg = d.cfg := rfl
@[simp] theorem Dev.bump_trim (d : Dev) : (d.bump).trim = d.trim := rfl
@[simp] theorem Dev.bump_car (d : Dev) : (d.bump).car = d.car := rfl
@[simp] theorem Dev.bump_bist (d : Dev) : (d.bump).bist = d.bist := rfl
@[simp] theorem Dev.bump_pins (d : Dev) : (d.bump).pins = d.pins := rfl
@[simp] theorem Dev.bump_host (d : Dev) : (d.bump).host = d.host := rfl
@[simp] theorem Dev.bump_xstop (d : Dev) : (d.bump).xstop = d.xstop := rfl
@[simp] theorem Dev.bump_time (d : Dev) : (d.bump).ctl.time = d.ctl.time := rfl
@[simp] theorem Dev.bump_bbr (d : Dev) : (d.bump).ctl.bbr = d.ctl.bbr := rfl
@[simp] theorem Dev.bump_ans (d : Dev) : (d.bump).ctl.ans = d.ctl.ans := rfl
@[simp] theorem Dev.bump_out (d : Dev) : (d.bump).ctl.out = d.ctl.out := rfl
@[simp] theorem Dev.get_bump (d : Dev) (g : Fld) : (d.bump).get g = d.get g := rfl
@[simp] theorem Dev.withTime_rings (d : Dev) (t : TimeSt) : (d.withTime t).rings = d.rings := rfl
@[simp] theorem Dev.withTime_tg (d : Dev) (t : TimeSt) : (d.withTime t).tg = d.tg := rfl
@[simp] theorem Dev.withTime_chip (d : Dev) (t : TimeSt) : (d.withTime t).chip = d.chip := rfl
@[simp] theorem Dev.withTime_qm (d : Dev) (t : TimeSt) : (d.withTime t).qm = d.qm := rfl
@[simp] theorem Dev.withTime_xm (d : Dev) (t : TimeSt) : (d.withTime t).xm = d.xm := rfl
@[simp] theorem Dev.withTime_slots (d : Dev) (t : TimeSt) : (d.withTime t).slots = d.slots := rfl
@[simp] theorem Dev.withTime_cx (d : Dev) (t : TimeSt) : (d.withTime t).cx = d.cx := rfl
@[simp] theorem Dev.withTime_engs (d : Dev) (t : TimeSt) : (d.withTime t).engs = d.engs := rfl
@[simp] theorem Dev.withTime_net (d : Dev) (t : TimeSt) : (d.withTime t).net = d.net := rfl
@[simp] theorem Dev.withTime_icl (d : Dev) (t : TimeSt) : (d.withTime t).icl = d.icl := rfl
@[simp] theorem Dev.withTime_cfg (d : Dev) (t : TimeSt) : (d.withTime t).cfg = d.cfg := rfl
@[simp] theorem Dev.withTime_trim (d : Dev) (t : TimeSt) : (d.withTime t).trim = d.trim := rfl
@[simp] theorem Dev.withTime_car (d : Dev) (t : TimeSt) : (d.withTime t).car = d.car := rfl
@[simp] theorem Dev.withTime_bist (d : Dev) (t : TimeSt) : (d.withTime t).bist = d.bist := rfl
@[simp] theorem Dev.withTime_pins (d : Dev) (t : TimeSt) : (d.withTime t).pins = d.pins := rfl
@[simp] theorem Dev.withTime_host (d : Dev) (t : TimeSt) : (d.withTime t).host = d.host := rfl
@[simp] theorem Dev.withTime_xstop (d : Dev) (t : TimeSt) : (d.withTime t).xstop = d.xstop := rfl
@[simp] theorem Dev.withTime_bbr (d : Dev) (t : TimeSt) : (d.withTime t).ctl.bbr = d.ctl.bbr := rfl
@[simp] theorem Dev.withTime_ans (d : Dev) (t : TimeSt) : (d.withTime t).ctl.ans = d.ctl.ans := rfl
@[simp] theorem Dev.withTime_out (d : Dev) (t : TimeSt) : (d.withTime t).ctl.out = d.ctl.out := rfl
@[simp] theorem Dev.withTime_fresh (d : Dev) (t : TimeSt) : (d.withTime t).ctl.fresh = d.ctl.fresh := rfl
@[simp] theorem Dev.get_withTime (d : Dev) (t : TimeSt) (g : Fld) : (d.withTime t).get g = d.get g := rfl
@[simp] theorem Dev.advance_rings (d : Dev) (n : Nat) : (d.advance n).rings = d.rings := rfl
@[simp] theorem Dev.advance_tg (d : Dev) (n : Nat) : (d.advance n).tg = d.tg := rfl
@[simp] theorem Dev.advance_chip (d : Dev) (n : Nat) : (d.advance n).chip = d.chip := rfl
@[simp] theorem Dev.advance_qm (d : Dev) (n : Nat) : (d.advance n).qm = d.qm := rfl
@[simp] theorem Dev.advance_xm (d : Dev) (n : Nat) : (d.advance n).xm = d.xm := rfl
@[simp] theorem Dev.advance_slots (d : Dev) (n : Nat) : (d.advance n).slots = d.slots := rfl
@[simp] theorem Dev.advance_cx (d : Dev) (n : Nat) : (d.advance n).cx = d.cx := rfl
@[simp] theorem Dev.advance_engs (d : Dev) (n : Nat) : (d.advance n).engs = d.engs := rfl
@[simp] theorem Dev.advance_net (d : Dev) (n : Nat) : (d.advance n).net = d.net := rfl
@[simp] theorem Dev.advance_icl (d : Dev) (n : Nat) : (d.advance n).icl = d.icl := rfl
@[simp] theorem Dev.advance_cfg (d : Dev) (n : Nat) : (d.advance n).cfg = d.cfg := rfl
@[simp] theorem Dev.advance_trim (d : Dev) (n : Nat) : (d.advance n).trim = d.trim := rfl
@[simp] theorem Dev.advance_car (d : Dev) (n : Nat) : (d.advance n).car = d.car := rfl
@[simp] theorem Dev.advance_bist (d : Dev) (n : Nat) : (d.advance n).bist = d.bist := rfl
@[simp] theorem Dev.advance_pins (d : Dev) (n : Nat) : (d.advance n).pins = d.pins := rfl
@[simp] theorem Dev.advance_host (d : Dev) (n : Nat) : (d.advance n).host = d.host := rfl
@[simp] theorem Dev.advance_xstop (d : Dev) (n : Nat) : (d.advance n).xstop = d.xstop := rfl
@[simp] theorem Dev.advance_bbr (d : Dev) (n : Nat) : (d.advance n).ctl.bbr = d.ctl.bbr := rfl
@[simp] theorem Dev.advance_ans (d : Dev) (n : Nat) : (d.advance n).ctl.ans = d.ctl.ans := rfl
@[simp] theorem Dev.advance_out (d : Dev) (n : Nat) : (d.advance n).ctl.out = d.ctl.out := rfl
@[simp] theorem Dev.advance_fresh (d : Dev) (n : Nat) : (d.advance n).ctl.fresh = d.ctl.fresh := rfl
@[simp] theorem Dev.get_advance (d : Dev) (n : Nat) (g : Fld) : (d.advance n).get g = d.get g := rfl
@[simp] theorem Dev.withBbr_rings (d : Dev) (b : Bbr) : (d.withBbr b).rings = d.rings := rfl
@[simp] theorem Dev.withBbr_tg (d : Dev) (b : Bbr) : (d.withBbr b).tg = d.tg := rfl
@[simp] theorem Dev.withBbr_chip (d : Dev) (b : Bbr) : (d.withBbr b).chip = d.chip := rfl
@[simp] theorem Dev.withBbr_qm (d : Dev) (b : Bbr) : (d.withBbr b).qm = d.qm := rfl
@[simp] theorem Dev.withBbr_xm (d : Dev) (b : Bbr) : (d.withBbr b).xm = d.xm := rfl
@[simp] theorem Dev.withBbr_slots (d : Dev) (b : Bbr) : (d.withBbr b).slots = d.slots := rfl
@[simp] theorem Dev.withBbr_cx (d : Dev) (b : Bbr) : (d.withBbr b).cx = d.cx := rfl
@[simp] theorem Dev.withBbr_engs (d : Dev) (b : Bbr) : (d.withBbr b).engs = d.engs := rfl
@[simp] theorem Dev.withBbr_net (d : Dev) (b : Bbr) : (d.withBbr b).net = d.net := rfl
@[simp] theorem Dev.withBbr_icl (d : Dev) (b : Bbr) : (d.withBbr b).icl = d.icl := rfl
@[simp] theorem Dev.withBbr_cfg (d : Dev) (b : Bbr) : (d.withBbr b).cfg = d.cfg := rfl
@[simp] theorem Dev.withBbr_trim (d : Dev) (b : Bbr) : (d.withBbr b).trim = d.trim := rfl
@[simp] theorem Dev.withBbr_car (d : Dev) (b : Bbr) : (d.withBbr b).car = d.car := rfl
@[simp] theorem Dev.withBbr_bist (d : Dev) (b : Bbr) : (d.withBbr b).bist = d.bist := rfl
@[simp] theorem Dev.withBbr_pins (d : Dev) (b : Bbr) : (d.withBbr b).pins = d.pins := rfl
@[simp] theorem Dev.withBbr_host (d : Dev) (b : Bbr) : (d.withBbr b).host = d.host := rfl
@[simp] theorem Dev.withBbr_xstop (d : Dev) (b : Bbr) : (d.withBbr b).xstop = d.xstop := rfl
@[simp] theorem Dev.withBbr_time (d : Dev) (b : Bbr) : (d.withBbr b).ctl.time = d.ctl.time := rfl
@[simp] theorem Dev.withBbr_ans (d : Dev) (b : Bbr) : (d.withBbr b).ctl.ans = d.ctl.ans := rfl
@[simp] theorem Dev.withBbr_out (d : Dev) (b : Bbr) : (d.withBbr b).ctl.out = d.ctl.out := rfl
@[simp] theorem Dev.withBbr_fresh (d : Dev) (b : Bbr) : (d.withBbr b).ctl.fresh = d.ctl.fresh := rfl
@[simp] theorem Dev.get_withBbr (d : Dev) (b : Bbr) (g : Fld) : (d.withBbr b).get g = d.get g := rfl
@[simp] theorem Dev.answer_ans (d : Dev) (c : Resp) (xs : List Nat) : (d.answer c xs).ctl.ans = { code := c, data := xs } := rfl
@[simp] theorem Dev.emit_out (d : Dev) (e : OutEvent) : (d.emit e).ctl.out = e :: d.ctl.out := rfl
@[simp] theorem Dev.bump_fresh (d : Dev) : d.bump.ctl.fresh = d.ctl.fresh + 1 := rfl
@[simp] theorem Dev.withTime_time (d : Dev) (t : TimeSt) : (d.withTime t).ctl.time = t := rfl
@[simp] theorem Dev.withBbr_bbr (d : Dev) (b : Bbr) : (d.withBbr b).ctl.bbr = b := rfl
/-- Time never goes back. -/
theorem Dev.advance_tb (d : Dev) (n : Nat) : (d.advance n).tb = Nat.max d.tb n := rfl

/-! ### What a change of one part leaves -/

/-- The register fields belong to the control plane alone. -/
@[simp] theorem Dev.get_mk (c : Ctl) (rs : Store Ring) (tg : TgSt) (ch : ChipMem) (q : QmSt) (x : XmSt) (sl : Store SlotSt)
    (cx : CxSt) (en : Store EngSt) (ne : NetSt) (ic : IclSt) (cf : CfgSt) (tr : TrimSt) (ca : CarSt) (bi : BistSt)
    (pi : PinsSt) (ho : HostSt) (xs : Store Nat) (f : Fld) :
    (Dev.mk c rs tg ch q x sl cx en ne ic cf tr ca bi pi ho xs).get f = c.get f := rfl

@[simp] theorem Dev.get_with_rings (d : Dev) (x) (f : Fld) : ({ d with rings := x } : Dev).get f = d.get f := rfl
@[simp] theorem Dev.get_with_tg (d : Dev) (x) (f : Fld) : ({ d with tg := x } : Dev).get f = d.get f := rfl
@[simp] theorem Dev.get_with_chip (d : Dev) (x) (f : Fld) : ({ d with chip := x } : Dev).get f = d.get f := rfl
@[simp] theorem Dev.get_with_qm (d : Dev) (x) (f : Fld) : ({ d with qm := x } : Dev).get f = d.get f := rfl
@[simp] theorem Dev.get_with_xm (d : Dev) (x) (f : Fld) : ({ d with xm := x } : Dev).get f = d.get f := rfl
@[simp] theorem Dev.get_with_slots (d : Dev) (x) (f : Fld) : ({ d with slots := x } : Dev).get f = d.get f := rfl
@[simp] theorem Dev.get_with_cx (d : Dev) (x) (f : Fld) : ({ d with cx := x } : Dev).get f = d.get f := rfl
@[simp] theorem Dev.get_with_engs (d : Dev) (x) (f : Fld) : ({ d with engs := x } : Dev).get f = d.get f := rfl
@[simp] theorem Dev.get_with_net (d : Dev) (x) (f : Fld) : ({ d with net := x } : Dev).get f = d.get f := rfl
@[simp] theorem Dev.get_with_icl (d : Dev) (x) (f : Fld) : ({ d with icl := x } : Dev).get f = d.get f := rfl
@[simp] theorem Dev.get_with_cfg (d : Dev) (x) (f : Fld) : ({ d with cfg := x } : Dev).get f = d.get f := rfl
@[simp] theorem Dev.get_with_trim (d : Dev) (x) (f : Fld) : ({ d with trim := x } : Dev).get f = d.get f := rfl
@[simp] theorem Dev.get_with_car (d : Dev) (x) (f : Fld) : ({ d with car := x } : Dev).get f = d.get f := rfl
@[simp] theorem Dev.get_with_bist (d : Dev) (x) (f : Fld) : ({ d with bist := x } : Dev).get f = d.get f := rfl
@[simp] theorem Dev.get_with_pins (d : Dev) (x) (f : Fld) : ({ d with pins := x } : Dev).get f = d.get f := rfl
@[simp] theorem Dev.get_with_host (d : Dev) (x) (f : Fld) : ({ d with host := x } : Dev).get f = d.get f := rfl
@[simp] theorem Dev.get_with_xstop (d : Dev) (x) (f : Fld) : ({ d with xstop := x } : Dev).get f = d.get f := rfl
@[simp] theorem Dev.ring_set (d : Dev) (f : Fld) (v r : Nat) : (d.set f v).ring r = d.ring r := rfl
/-- A ring that was replaced. -/
@[simp] theorem Dev.ring_setRing_same (d : Dev) (r : Nat) (x : Ring) : (d.setRing r x).ring r = x := sget_sset_same _ _ _ _
/-- Replacing one ring leaves every other as it was. -/
theorem Dev.ring_setRing_other (d : Dev) {r q : Nat} (x : Ring) (h : q ≠ r) : (d.setRing r x).ring q = d.ring q :=
  sget_sset_other _ _ _ _ h

/-! ### Relations between devices -/

theorem SameFlds.refl (fs : List Fld) (d : Dev) : SameFlds fs d d := fun _ _ => rfl
theorem SameFlds.trans {fs : List Fld} {d e f : Dev} (h : SameFlds fs d e) (h' : SameFlds fs e f) : SameFlds fs d f :=
  fun g hg => (h' g hg).trans (h g hg)
/-- A write of a field among `fs`. -/
theorem SameFlds.set {fs : List Fld} {d e : Dev} {f : Fld} (v : Nat) (h : SameFlds fs d e) (hf : f ∈ fs) :
    SameFlds fs d (e.set f v) :=
  fun g hg => (Dev.get_set_other e f g v (hg f hf)).trans (h g hg)

theorem SameParts.refl (ps : List Part) (d : Dev) : SameParts ps d d := fun p _ => by cases p <;> rfl
theorem SameParts.trans {ps : List Part} {d e f : Dev} (h : SameParts ps d e) (h' : SameParts ps e f) : SameParts ps d f := by
  intro p hp
  have h1 := h p hp
  have h2 := h' p hp
  cases p <;> simp only [Part.same] at h1 h2 ⊢ <;> exact h2.trans h1
/-- A register write changes no part. -/
theorem SameParts.set {ps : List Part} {d e : Dev} (f : Fld) (v : Nat) (h : SameParts ps d e) : SameParts ps d (e.set f v) :=
  h.trans (fun p _ => by cases p <;> rfl)

/-! ### Meanings -/

/-- A meaning completes with its effect on the device. -/
theorem completes_of_run {i : Instr} {s : State} {f : Dev → Dev} {P : Dev → Prop} (h : exec i s = run s f) (hp : P (f s.dev)) :
    Completes i s P := ⟨_, h, rfl, hp⟩

end Sys2Proof.Machine
end

