-- ==== Sys2Proof/Laws/Parts.lean ====
section
/-! SUPPORT. Laws of the named updates of one part each: every other part and every register field stays as it is. -/
namespace Sys2Proof.Machine

@[simp] theorem Dev.withTg_rings (d : Dev) (t : TgSt) : (d.withTg t).rings = d.rings := rfl
@[simp] theorem Dev.withTg_chip (d : Dev) (t : TgSt) : (d.withTg t).chip = d.chip := rfl
@[simp] theorem Dev.withTg_qm (d : Dev) (t : TgSt) : (d.withTg t).qm = d.qm := rfl
@[simp] theorem Dev.withTg_xm (d : Dev) (t : TgSt) : (d.withTg t).xm = d.xm := rfl
@[simp] theorem Dev.withTg_slots (d : Dev) (t : TgSt) : (d.withTg t).slots = d.slots := rfl
@[simp] theorem Dev.withTg_cx (d : Dev) (t : TgSt) : (d.withTg t).cx = d.cx := rfl
@[simp] theorem Dev.withTg_engs (d : Dev) (t : TgSt) : (d.withTg t).engs = d.engs := rfl
@[simp] theorem Dev.withTg_net (d : Dev) (t : TgSt) : (d.withTg t).net = d.net := rfl
@[simp] theorem Dev.withTg_icl (d : Dev) (t : TgSt) : (d.withTg t).icl = d.icl := rfl
@[simp] theorem Dev.withTg_cfg (d : Dev) (t : TgSt) : (d.withTg t).cfg = d.cfg := rfl
@[simp] theorem Dev.withTg_trim (d : Dev) (t : TgSt) : (d.withTg t).trim = d.trim := rfl
@[simp] theorem Dev.withTg_car (d : Dev) (t : TgSt) : (d.withTg t).car = d.car := rfl
@[simp] theorem Dev.withTg_bist (d : Dev) (t : TgSt) : (d.withTg t).bist = d.bist := rfl
@[simp] theorem Dev.withTg_pins (d : Dev) (t : TgSt) : (d.withTg t).pins = d.pins := rfl
@[simp] theorem Dev.withTg_host (d : Dev) (t : TgSt) : (d.withTg t).host = d.host := rfl
@[simp] theorem Dev.withTg_xstop (d : Dev) (t : TgSt) : (d.withTg t).xstop = d.xstop := rfl
@[simp] theorem Dev.withTg_time (d : Dev) (t : TgSt) : (d.withTg t).ctl.time = d.ctl.time := rfl
@[simp] theorem Dev.withTg_bbr (d : Dev) (t : TgSt) : (d.withTg t).ctl.bbr = d.ctl.bbr := rfl
@[simp] theorem Dev.withTg_ans (d : Dev) (t : TgSt) : (d.withTg t).ctl.ans = d.ctl.ans := rfl
@[simp] theorem Dev.withTg_out (d : Dev) (t : TgSt) : (d.withTg t).ctl.out = d.ctl.out := rfl
@[simp] theorem Dev.withTg_fresh (d : Dev) (t : TgSt) : (d.withTg t).ctl.fresh = d.ctl.fresh := rfl
@[simp] theorem Dev.withTg_tg (d : Dev) (t : TgSt) : (d.withTg t).tg = t := rfl
@[simp] theorem Dev.get_withTg (d : Dev) (t : TgSt) (g : Fld) : (d.withTg t).get g = d.get g := rfl
@[simp] theorem Dev.withCx_rings (d : Dev) (c : CxSt) : (d.withCx c).rings = d.rings := rfl
@[simp] theorem Dev.withCx_tg (d : Dev) (c : CxSt) : (d.withCx c).tg = d.tg := rfl
@[simp] theorem Dev.withCx_chip (d : Dev) (c : CxSt) : (d.withCx c).chip = d.chip := rfl
@[simp] theorem Dev.withCx_qm (d : Dev) (c : CxSt) : (d.withCx c).qm = d.qm := rfl
@[simp] theorem Dev.withCx_xm (d : Dev) (c : CxSt) : (d.withCx c).xm = d.xm := rfl
@[simp] theorem Dev.withCx_slots (d : Dev) (c : CxSt) : (d.withCx c).slots = d.slots := rfl
@[simp] theorem Dev.withCx_engs (d : Dev) (c : CxSt) : (d.withCx c).engs = d.engs := rfl
@[simp] theorem Dev.withCx_net (d : Dev) (c : CxSt) : (d.withCx c).net = d.net := rfl
@[simp] theorem Dev.withCx_icl (d : Dev) (c : CxSt) : (d.withCx c).icl = d.icl := rfl
@[simp] theorem Dev.withCx_cfg (d : Dev) (c : CxSt) : (d.withCx c).cfg = d.cfg := rfl
@[simp] theorem Dev.withCx_trim (d : Dev) (c : CxSt) : (d.withCx c).trim = d.trim := rfl
@[simp] theorem Dev.withCx_car (d : Dev) (c : CxSt) : (d.withCx c).car = d.car := rfl
@[simp] theorem Dev.withCx_bist (d : Dev) (c : CxSt) : (d.withCx c).bist = d.bist := rfl
@[simp] theorem Dev.withCx_pins (d : Dev) (c : CxSt) : (d.withCx c).pins = d.pins := rfl
@[simp] theorem Dev.withCx_host (d : Dev) (c : CxSt) : (d.withCx c).host = d.host := rfl
@[simp] theorem Dev.withCx_xstop (d : Dev) (c : CxSt) : (d.withCx c).xstop = d.xstop := rfl
@[simp] theorem Dev.withCx_time (d : Dev) (c : CxSt) : (d.withCx c).ctl.time = d.ctl.time := rfl
@[simp] theorem Dev.withCx_bbr (d : Dev) (c : CxSt) : (d.withCx c).ctl.bbr = d.ctl.bbr := rfl
@[simp] theorem Dev.withCx_ans (d : Dev) (c : CxSt) : (d.withCx c).ctl.ans = d.ctl.ans := rfl
@[simp] theorem Dev.withCx_out (d : Dev) (c : CxSt) : (d.withCx c).ctl.out = d.ctl.out := rfl
@[simp] theorem Dev.withCx_fresh (d : Dev) (c : CxSt) : (d.withCx c).ctl.fresh = d.ctl.fresh := rfl
@[simp] theorem Dev.withCx_cx (d : Dev) (c : CxSt) : (d.withCx c).cx = c := rfl
@[simp] theorem Dev.get_withCx (d : Dev) (c : CxSt) (g : Fld) : (d.withCx c).get g = d.get g := rfl
@[simp] theorem Dev.setRing_tg (d : Dev) (r : Nat) (x : Ring) : (d.setRing r x).tg = d.tg := rfl
@[simp] theorem Dev.setRing_chip (d : Dev) (r : Nat) (x : Ring) : (d.setRing r x).chip = d.chip := rfl
@[simp] theorem Dev.setRing_qm (d : Dev) (r : Nat) (x : Ring) : (d.setRing r x).qm = d.qm := rfl
@[simp] theorem Dev.setRing_xm (d : Dev) (r : Nat) (x : Ring) : (d.setRing r x).xm = d.xm := rfl
@[simp] theorem Dev.setRing_slots (d : Dev) (r : Nat) (x : Ring) : (d.setRing r x).slots = d.slots := rfl
@[simp] theorem Dev.setRing_cx (d : Dev) (r : Nat) (x : Ring) : (d.setRing r x).cx = d.cx := rfl
@[simp] theorem Dev.setRing_engs (d : Dev) (r : Nat) (x : Ring) : (d.setRing r x).engs = d.engs := rfl
@[simp] theorem Dev.setRing_net (d : Dev) (r : Nat) (x : Ring) : (d.setRing r x).net = d.net := rfl
@[simp] theorem Dev.setRing_icl (d : Dev) (r : Nat) (x : Ring) : (d.setRing r x).icl = d.icl := rfl
@[simp] theorem Dev.setRing_cfg (d : Dev) (r : Nat) (x : Ring) : (d.setRing r x).cfg = d.cfg := rfl
@[simp] theorem Dev.setRing_trim (d : Dev) (r : Nat) (x : Ring) : (d.setRing r x).trim = d.trim := rfl
@[simp] theorem Dev.setRing_car (d : Dev) (r : Nat) (x : Ring) : (d.setRing r x).car = d.car := rfl
@[simp] theorem Dev.setRing_bist (d : Dev) (r : Nat) (x : Ring) : (d.setRing r x).bist = d.bist := rfl
@[simp] theorem Dev.setRing_pins (d : Dev) (r : Nat) (x : Ring) : (d.setRing r x).pins = d.pins := rfl
@[simp] theorem Dev.setRing_host (d : Dev) (r : Nat) (x : Ring) : (d.setRing r x).host = d.host := rfl
@[simp] theorem Dev.setRing_xstop (d : Dev) (r : Nat) (x : Ring) : (d.setRing r x).xstop = d.xstop := rfl
@[simp] theorem Dev.setRing_time (d : Dev) (r : Nat) (x : Ring) : (d.setRing r x).ctl.time = d.ctl.time := rfl
@[simp] theorem Dev.setRing_bbr (d : Dev) (r : Nat) (x : Ring) : (d.setRing r x).ctl.bbr = d.ctl.bbr := rfl
@[simp] theorem Dev.setRing_ans (d : Dev) (r : Nat) (x : Ring) : (d.setRing r x).ctl.ans = d.ctl.ans := rfl
@[simp] theorem Dev.setRing_out (d : Dev) (r : Nat) (x : Ring) : (d.setRing r x).ctl.out = d.ctl.out := rfl
@[simp] theorem Dev.setRing_fresh (d : Dev) (r : Nat) (x : Ring) : (d.setRing r x).ctl.fresh = d.ctl.fresh := rfl
@[simp] theorem Dev.setRing_rings (d : Dev) (r : Nat) (x : Ring) : (d.setRing r x).rings = sset {} d.rings r x := rfl
@[simp] theorem Dev.get_setRing (d : Dev) (r : Nat) (x : Ring) (g : Fld) : (d.setRing r x).get g = d.get g := rfl
@[simp] theorem mapRing_tg (d : Dev) (r : Nat) (f : Ring → Ring) : (mapRing r f d).tg = d.tg := rfl
@[simp] theorem mapRing_chip (d : Dev) (r : Nat) (f : Ring → Ring) : (mapRing r f d).chip = d.chip := rfl
@[simp] theorem mapRing_qm (d : Dev) (r : Nat) (f : Ring → Ring) : (mapRing r f d).qm = d.qm := rfl
@[simp] theorem mapRing_xm (d : Dev) (r : Nat) (f : Ring → Ring) : (mapRing r f d).xm = d.xm := rfl
@[simp] theorem mapRing_slots (d : Dev) (r : Nat) (f : Ring → Ring) : (mapRing r f d).slots = d.slots := rfl
@[simp] theorem mapRing_cx (d : Dev) (r : Nat) (f : Ring → Ring) : (mapRing r f d).cx = d.cx := rfl
@[simp] theorem mapRing_engs (d : Dev) (r : Nat) (f : Ring → Ring) : (mapRing r f d).engs = d.engs := rfl
@[simp] theorem mapRing_net (d : Dev) (r : Nat) (f : Ring → Ring) : (mapRing r f d).net = d.net := rfl
@[simp] theorem mapRing_icl (d : Dev) (r : Nat) (f : Ring → Ring) : (mapRing r f d).icl = d.icl := rfl
@[simp] theorem mapRing_cfg (d : Dev) (r : Nat) (f : Ring → Ring) : (mapRing r f d).cfg = d.cfg := rfl
@[simp] theorem mapRing_trim (d : Dev) (r : Nat) (f : Ring → Ring) : (mapRing r f d).trim = d.trim := rfl
@[simp] theorem mapRing_car (d : Dev) (r : Nat) (f : Ring → Ring) : (mapRing r f d).car = d.car := rfl
@[simp] theorem mapRing_bist (d : Dev) (r : Nat) (f : Ring → Ring) : (mapRing r f d).bist = d.bist := rfl
@[simp] theorem mapRing_pins (d : Dev) (r : Nat) (f : Ring → Ring) : (mapRing r f d).pins = d.pins := rfl
@[simp] theorem mapRing_host (d : Dev) (r : Nat) (f : Ring → Ring) : (mapRing r f d).host = d.host := rfl
@[simp] theorem mapRing_xstop (d : Dev) (r : Nat) (f : Ring → Ring) : (mapRing r f d).xstop = d.xstop := rfl
@[simp] theorem mapRing_time (d : Dev) (r : Nat) (f : Ring → Ring) : (mapRing r f d).ctl.time = d.ctl.time := rfl
@[simp] theorem mapRing_bbr (d : Dev) (r : Nat) (f : Ring → Ring) : (mapRing r f d).ctl.bbr = d.ctl.bbr := rfl
@[simp] theorem mapRing_ans (d : Dev) (r : Nat) (f : Ring → Ring) : (mapRing r f d).ctl.ans = d.ctl.ans := rfl
@[simp] theorem mapRing_out (d : Dev) (r : Nat) (f : Ring → Ring) : (mapRing r f d).ctl.out = d.ctl.out := rfl
@[simp] theorem mapRing_fresh (d : Dev) (r : Nat) (f : Ring → Ring) : (mapRing r f d).ctl.fresh = d.ctl.fresh := rfl
@[simp] theorem mapRing_rings (d : Dev) (r : Nat) (f : Ring → Ring) : (mapRing r f d).rings = sset {} d.rings r (f (d.ring r)) := rfl
@[simp] theorem Dev.get_mapRing (d : Dev) (r : Nat) (f : Ring → Ring) (g : Fld) : (mapRing r f d).get g = d.get g := rfl
@[simp] theorem mapTime_rings (d : Dev) (f : TimeSt → TimeSt) : (mapTime f d).rings = d.rings := rfl
@[simp] theorem mapTime_tg (d : Dev) (f : TimeSt → TimeSt) : (mapTime f d).tg = d.tg := rfl
@[simp] theorem mapTime_chip (d : Dev) (f : TimeSt → TimeSt) : (mapTime f d).chip = d.chip := rfl
@[simp] theorem mapTime_qm (d : Dev) (f : TimeSt → TimeSt) : (mapTime f d).qm = d.qm := rfl
@[simp] theorem mapTime_xm (d : Dev) (f : TimeSt → TimeSt) : (mapTime f d).xm = d.xm := rfl
@[simp] theorem mapTime_slots (d : Dev) (f : TimeSt → TimeSt) : (mapTime f d).slots = d.slots := rfl
@[simp] theorem mapTime_cx (d : Dev) (f : TimeSt → TimeSt) : (mapTime f d).cx = d.cx := rfl
@[simp] theorem mapTime_engs (d : Dev) (f : TimeSt → TimeSt) : (mapTime f d).engs = d.engs := rfl
@[simp] theorem mapTime_net (d : Dev) (f : TimeSt → TimeSt) : (mapTime f d).net = d.net := rfl
@[simp] theorem mapTime_icl (d : Dev) (f : TimeSt → TimeSt) : (mapTime f d).icl = d.icl := rfl
@[simp] theorem mapTime_cfg (d : Dev) (f : TimeSt → TimeSt) : (mapTime f d).cfg = d.cfg := rfl
@[simp] theorem mapTime_trim (d : Dev) (f : TimeSt → TimeSt) : (mapTime f d).trim = d.trim := rfl
@[simp] theorem mapTime_car (d : Dev) (f : TimeSt → TimeSt) : (mapTime f d).car = d.car := rfl
@[simp] theorem mapTime_bist (d : Dev) (f : TimeSt → TimeSt) : (mapTime f d).bist = d.bist := rfl
@[simp] theorem mapTime_pins (d : Dev) (f : TimeSt → TimeSt) : (mapTime f d).pins = d.pins := rfl
@[simp] theorem mapTime_host (d : Dev) (f : TimeSt → TimeSt) : (mapTime f d).host = d.host := rfl
@[simp] theorem mapTime_xstop (d : Dev) (f : TimeSt → TimeSt) : (mapTime f d).xstop = d.xstop := rfl
@[simp] theorem mapTime_bbr (d : Dev) (f : TimeSt → TimeSt) : (mapTime f d).ctl.bbr = d.ctl.bbr := rfl
@[simp] theorem mapTime_ans (d : Dev) (f : TimeSt → TimeSt) : (mapTime f d).ctl.ans = d.ctl.ans := rfl
@[simp] theorem mapTime_out (d : Dev) (f : TimeSt → TimeSt) : (mapTime f d).ctl.out = d.ctl.out := rfl
@[simp] theorem mapTime_fresh (d : Dev) (f : TimeSt → TimeSt) : (mapTime f d).ctl.fresh = d.ctl.fresh := rfl
@[simp] theorem mapTime_time (d : Dev) (f : TimeSt → TimeSt) : (mapTime f d).ctl.time = f d.ctl.time := rfl
@[simp] theorem Dev.get_mapTime (d : Dev) (f : TimeSt → TimeSt) (g : Fld) : (mapTime f d).get g = d.get g := rfl
@[simp] theorem mapBbr_rings (d : Dev) (f : Bbr → Bbr) : (mapBbr f d).rings = d.rings := rfl
@[simp] theorem mapBbr_tg (d : Dev) (f : Bbr → Bbr) : (mapBbr f d).tg = d.tg := rfl
@[simp] theorem mapBbr_chip (d : Dev) (f : Bbr → Bbr) : (mapBbr f d).chip = d.chip := rfl
@[simp] theorem mapBbr_qm (d : Dev) (f : Bbr → Bbr) : (mapBbr f d).qm = d.qm := rfl
@[simp] theorem mapBbr_xm (d : Dev) (f : Bbr → Bbr) : (mapBbr f d).xm = d.xm := rfl
@[simp] theorem mapBbr_slots (d : Dev) (f : Bbr → Bbr) : (mapBbr f d).slots = d.slots := rfl
@[simp] theorem mapBbr_cx (d : Dev) (f : Bbr → Bbr) : (mapBbr f d).cx = d.cx := rfl
@[simp] theorem mapBbr_engs (d : Dev) (f : Bbr → Bbr) : (mapBbr f d).engs = d.engs := rfl
@[simp] theorem mapBbr_net (d : Dev) (f : Bbr → Bbr) : (mapBbr f d).net = d.net := rfl
@[simp] theorem mapBbr_icl (d : Dev) (f : Bbr → Bbr) : (mapBbr f d).icl = d.icl := rfl
@[simp] theorem mapBbr_cfg (d : Dev) (f : Bbr → Bbr) : (mapBbr f d).cfg = d.cfg := rfl
@[simp] theorem mapBbr_trim (d : Dev) (f : Bbr → Bbr) : (mapBbr f d).trim = d.trim := rfl
@[simp] theorem mapBbr_car (d : Dev) (f : Bbr → Bbr) : (mapBbr f d).car = d.car := rfl
@[simp] theorem mapBbr_bist (d : Dev) (f : Bbr → Bbr) : (mapBbr f d).bist = d.bist := rfl
@[simp] theorem mapBbr_pins (d : Dev) (f : Bbr → Bbr) : (mapBbr f d).pins = d.pins := rfl
@[simp] theorem mapBbr_host (d : Dev) (f : Bbr → Bbr) : (mapBbr f d).host = d.host := rfl
@[simp] theorem mapBbr_xstop (d : Dev) (f : Bbr → Bbr) : (mapBbr f d).xstop = d.xstop := rfl
@[simp] theorem mapBbr_time (d : Dev) (f : Bbr → Bbr) : (mapBbr f d).ctl.time = d.ctl.time := rfl
@[simp] theorem mapBbr_ans (d : Dev) (f : Bbr → Bbr) : (mapBbr f d).ctl.ans = d.ctl.ans := rfl
@[simp] theorem mapBbr_out (d : Dev) (f : Bbr → Bbr) : (mapBbr f d).ctl.out = d.ctl.out := rfl
@[simp] theorem mapBbr_fresh (d : Dev) (f : Bbr → Bbr) : (mapBbr f d).ctl.fresh = d.ctl.fresh := rfl
@[simp] theorem mapBbr_bbr (d : Dev) (f : Bbr → Bbr) : (mapBbr f d).ctl.bbr = f d.ctl.bbr := rfl
@[simp] theorem Dev.get_mapBbr (d : Dev) (f : Bbr → Bbr) (g : Fld) : (mapBbr f d).get g = d.get g := rfl
@[simp] theorem mapCar_rings (d : Dev) (f : CarSt → CarSt) : (mapCar f d).rings = d.rings := rfl
@[simp] theorem mapCar_tg (d : Dev) (f : CarSt → CarSt) : (mapCar f d).tg = d.tg := rfl
@[simp] theorem mapCar_chip (d : Dev) (f : CarSt → CarSt) : (mapCar f d).chip = d.chip := rfl
@[simp] theorem mapCar_qm (d : Dev) (f : CarSt → CarSt) : (mapCar f d).qm = d.qm := rfl
@[simp] theorem mapCar_xm (d : Dev) (f : CarSt → CarSt) : (mapCar f d).xm = d.xm := rfl
@[simp] theorem mapCar_slots (d : Dev) (f : CarSt → CarSt) : (mapCar f d).slots = d.slots := rfl
@[simp] theorem mapCar_cx (d : Dev) (f : CarSt → CarSt) : (mapCar f d).cx = d.cx := rfl
@[simp] theorem mapCar_engs (d : Dev) (f : CarSt → CarSt) : (mapCar f d).engs = d.engs := rfl
@[simp] theorem mapCar_net (d : Dev) (f : CarSt → CarSt) : (mapCar f d).net = d.net := rfl
@[simp] theorem mapCar_icl (d : Dev) (f : CarSt → CarSt) : (mapCar f d).icl = d.icl := rfl
@[simp] theorem mapCar_cfg (d : Dev) (f : CarSt → CarSt) : (mapCar f d).cfg = d.cfg := rfl
@[simp] theorem mapCar_trim (d : Dev) (f : CarSt → CarSt) : (mapCar f d).trim = d.trim := rfl
@[simp] theorem mapCar_bist (d : Dev) (f : CarSt → CarSt) : (mapCar f d).bist = d.bist := rfl
@[simp] theorem mapCar_pins (d : Dev) (f : CarSt → CarSt) : (mapCar f d).pins = d.pins := rfl
@[simp] theorem mapCar_host (d : Dev) (f : CarSt → CarSt) : (mapCar f d).host = d.host := rfl
@[simp] theorem mapCar_xstop (d : Dev) (f : CarSt → CarSt) : (mapCar f d).xstop = d.xstop := rfl
@[simp] theorem mapCar_time (d : Dev) (f : CarSt → CarSt) : (mapCar f d).ctl.time = d.ctl.time := rfl
@[simp] theorem mapCar_bbr (d : Dev) (f : CarSt → CarSt) : (mapCar f d).ctl.bbr = d.ctl.bbr := rfl
@[simp] theorem mapCar_ans (d : Dev) (f : CarSt → CarSt) : (mapCar f d).ctl.ans = d.ctl.ans := rfl
@[simp] theorem mapCar_out (d : Dev) (f : CarSt → CarSt) : (mapCar f d).ctl.out = d.ctl.out := rfl
@[simp] theorem mapCar_fresh (d : Dev) (f : CarSt → CarSt) : (mapCar f d).ctl.fresh = d.ctl.fresh := rfl
@[simp] theorem mapCar_car (d : Dev) (f : CarSt → CarSt) : (mapCar f d).car = f d.car := rfl
@[simp] theorem Dev.get_mapCar (d : Dev) (f : CarSt → CarSt) (g : Fld) : (mapCar f d).get g = d.get g := rfl
@[simp] theorem mapCfg_rings (d : Dev) (f : CfgSt → CfgSt) : (mapCfg f d).rings = d.rings := rfl
@[simp] theorem mapCfg_tg (d : Dev) (f : CfgSt → CfgSt) : (mapCfg f d).tg = d.tg := rfl
@[simp] theorem mapCfg_chip (d : Dev) (f : CfgSt → CfgSt) : (mapCfg f d).chip = d.chip := rfl
@[simp] theorem mapCfg_qm (d : Dev) (f : CfgSt → CfgSt) : (mapCfg f d).qm = d.qm := rfl
@[simp] theorem mapCfg_xm (d : Dev) (f : CfgSt → CfgSt) : (mapCfg f d).xm = d.xm := rfl
@[simp] theorem mapCfg_slots (d : Dev) (f : CfgSt → CfgSt) : (mapCfg f d).slots = d.slots := rfl
@[simp] theorem mapCfg_cx (d : Dev) (f : CfgSt → CfgSt) : (mapCfg f d).cx = d.cx := rfl
@[simp] theorem mapCfg_engs (d : Dev) (f : CfgSt → CfgSt) : (mapCfg f d).engs = d.engs := rfl
@[simp] theorem mapCfg_net (d : Dev) (f : CfgSt → CfgSt) : (mapCfg f d).net = d.net := rfl
@[simp] theorem mapCfg_icl (d : Dev) (f : CfgSt → CfgSt) : (mapCfg f d).icl = d.icl := rfl
@[simp] theorem mapCfg_trim (d : Dev) (f : CfgSt → CfgSt) : (mapCfg f d).trim = d.trim := rfl
@[simp] theorem mapCfg_car (d : Dev) (f : CfgSt → CfgSt) : (mapCfg f d).car = d.car := rfl
@[simp] theorem mapCfg_bist (d : Dev) (f : CfgSt → CfgSt) : (mapCfg f d).bist = d.bist := rfl
@[simp] theorem mapCfg_pins (d : Dev) (f : CfgSt → CfgSt) : (mapCfg f d).pins = d.pins := rfl
@[simp] theorem mapCfg_host (d : Dev) (f : CfgSt → CfgSt) : (mapCfg f d).host = d.host := rfl
@[simp] theorem mapCfg_xstop (d : Dev) (f : CfgSt → CfgSt) : (mapCfg f d).xstop = d.xstop := rfl
@[simp] theorem mapCfg_time (d : Dev) (f : CfgSt → CfgSt) : (mapCfg f d).ctl.time = d.ctl.time := rfl
@[simp] theorem mapCfg_bbr (d : Dev) (f : CfgSt → CfgSt) : (mapCfg f d).ctl.bbr = d.ctl.bbr := rfl
@[simp] theorem mapCfg_ans (d : Dev) (f : CfgSt → CfgSt) : (mapCfg f d).ctl.ans = d.ctl.ans := rfl
@[simp] theorem mapCfg_out (d : Dev) (f : CfgSt → CfgSt) : (mapCfg f d).ctl.out = d.ctl.out := rfl
@[simp] theorem mapCfg_fresh (d : Dev) (f : CfgSt → CfgSt) : (mapCfg f d).ctl.fresh = d.ctl.fresh := rfl
@[simp] theorem mapCfg_cfg (d : Dev) (f : CfgSt → CfgSt) : (mapCfg f d).cfg = f d.cfg := rfl
@[simp] theorem Dev.get_mapCfg (d : Dev) (f : CfgSt → CfgSt) (g : Fld) : (mapCfg f d).get g = d.get g := rfl
@[simp] theorem mapTrim_rings (d : Dev) (f : TrimSt → TrimSt) : (mapTrim f d).rings = d.rings := rfl
@[simp] theorem mapTrim_tg (d : Dev) (f : TrimSt → TrimSt) : (mapTrim f d).tg = d.tg := rfl
@[simp] theorem mapTrim_chip (d : Dev) (f : TrimSt → TrimSt) : (mapTrim f d).chip = d.chip := rfl
@[simp] theorem mapTrim_qm (d : Dev) (f : TrimSt → TrimSt) : (mapTrim f d).qm = d.qm := rfl
@[simp] theorem mapTrim_xm (d : Dev) (f : TrimSt → TrimSt) : (mapTrim f d).xm = d.xm := rfl
@[simp] theorem mapTrim_slots (d : Dev) (f : TrimSt → TrimSt) : (mapTrim f d).slots = d.slots := rfl
@[simp] theorem mapTrim_cx (d : Dev) (f : TrimSt → TrimSt) : (mapTrim f d).cx = d.cx := rfl
@[simp] theorem mapTrim_engs (d : Dev) (f : TrimSt → TrimSt) : (mapTrim f d).engs = d.engs := rfl
@[simp] theorem mapTrim_net (d : Dev) (f : TrimSt → TrimSt) : (mapTrim f d).net = d.net := rfl
@[simp] theorem mapTrim_icl (d : Dev) (f : TrimSt → TrimSt) : (mapTrim f d).icl = d.icl := rfl
@[simp] theorem mapTrim_cfg (d : Dev) (f : TrimSt → TrimSt) : (mapTrim f d).cfg = d.cfg := rfl
@[simp] theorem mapTrim_car (d : Dev) (f : TrimSt → TrimSt) : (mapTrim f d).car = d.car := rfl
@[simp] theorem mapTrim_bist (d : Dev) (f : TrimSt → TrimSt) : (mapTrim f d).bist = d.bist := rfl
@[simp] theorem mapTrim_pins (d : Dev) (f : TrimSt → TrimSt) : (mapTrim f d).pins = d.pins := rfl
@[simp] theorem mapTrim_host (d : Dev) (f : TrimSt → TrimSt) : (mapTrim f d).host = d.host := rfl
@[simp] theorem mapTrim_xstop (d : Dev) (f : TrimSt → TrimSt) : (mapTrim f d).xstop = d.xstop := rfl
@[simp] theorem mapTrim_time (d : Dev) (f : TrimSt → TrimSt) : (mapTrim f d).ctl.time = d.ctl.time := rfl
@[simp] theorem mapTrim_bbr (d : Dev) (f : TrimSt → TrimSt) : (mapTrim f d).ctl.bbr = d.ctl.bbr := rfl
@[simp] theorem mapTrim_ans (d : Dev) (f : TrimSt → TrimSt) : (mapTrim f d).ctl.ans = d.ctl.ans := rfl
@[simp] theorem mapTrim_out (d : Dev) (f : TrimSt → TrimSt) : (mapTrim f d).ctl.out = d.ctl.out := rfl
@[simp] theorem mapTrim_fresh (d : Dev) (f : TrimSt → TrimSt) : (mapTrim f d).ctl.fresh = d.ctl.fresh := rfl
@[simp] theorem mapTrim_trim (d : Dev) (f : TrimSt → TrimSt) : (mapTrim f d).trim = f d.trim := rfl
@[simp] theorem Dev.get_mapTrim (d : Dev) (f : TrimSt → TrimSt) (g : Fld) : (mapTrim f d).get g = d.get g := rfl
@[simp] theorem mapBist_rings (d : Dev) (f : BistSt → BistSt) : (mapBist f d).rings = d.rings := rfl
@[simp] theorem mapBist_tg (d : Dev) (f : BistSt → BistSt) : (mapBist f d).tg = d.tg := rfl
@[simp] theorem mapBist_chip (d : Dev) (f : BistSt → BistSt) : (mapBist f d).chip = d.chip := rfl
@[simp] theorem mapBist_qm (d : Dev) (f : BistSt → BistSt) : (mapBist f d).qm = d.qm := rfl
@[simp] theorem mapBist_xm (d : Dev) (f : BistSt → BistSt) : (mapBist f d).xm = d.xm := rfl
@[simp] theorem mapBist_slots (d : Dev) (f : BistSt → BistSt) : (mapBist f d).slots = d.slots := rfl
@[simp] theorem mapBist_cx (d : Dev) (f : BistSt → BistSt) : (mapBist f d).cx = d.cx := rfl
@[simp] theorem mapBist_engs (d : Dev) (f : BistSt → BistSt) : (mapBist f d).engs = d.engs := rfl
@[simp] theorem mapBist_net (d : Dev) (f : BistSt → BistSt) : (mapBist f d).net = d.net := rfl
@[simp] theorem mapBist_icl (d : Dev) (f : BistSt → BistSt) : (mapBist f d).icl = d.icl := rfl
@[simp] theorem mapBist_cfg (d : Dev) (f : BistSt → BistSt) : (mapBist f d).cfg = d.cfg := rfl
@[simp] theorem mapBist_trim (d : Dev) (f : BistSt → BistSt) : (mapBist f d).trim = d.trim := rfl
@[simp] theorem mapBist_car (d : Dev) (f : BistSt → BistSt) : (mapBist f d).car = d.car := rfl
@[simp] theorem mapBist_pins (d : Dev) (f : BistSt → BistSt) : (mapBist f d).pins = d.pins := rfl
@[simp] theorem mapBist_host (d : Dev) (f : BistSt → BistSt) : (mapBist f d).host = d.host := rfl
@[simp] theorem mapBist_xstop (d : Dev) (f : BistSt → BistSt) : (mapBist f d).xstop = d.xstop := rfl
@[simp] theorem mapBist_time (d : Dev) (f : BistSt → BistSt) : (mapBist f d).ctl.time = d.ctl.time := rfl
@[simp] theorem mapBist_bbr (d : Dev) (f : BistSt → BistSt) : (mapBist f d).ctl.bbr = d.ctl.bbr := rfl
@[simp] theorem mapBist_ans (d : Dev) (f : BistSt → BistSt) : (mapBist f d).ctl.ans = d.ctl.ans := rfl
@[simp] theorem mapBist_out (d : Dev) (f : BistSt → BistSt) : (mapBist f d).ctl.out = d.ctl.out := rfl
@[simp] theorem mapBist_fresh (d : Dev) (f : BistSt → BistSt) : (mapBist f d).ctl.fresh = d.ctl.fresh := rfl
@[simp] theorem mapBist_bist (d : Dev) (f : BistSt → BistSt) : (mapBist f d).bist = f d.bist := rfl
@[simp] theorem Dev.get_mapBist (d : Dev) (f : BistSt → BistSt) (g : Fld) : (mapBist f d).get g = d.get g := rfl
@[simp] theorem mapHost_rings (d : Dev) (f : HostSt → HostSt) : (mapHost f d).rings = d.rings := rfl
@[simp] theorem mapHost_tg (d : Dev) (f : HostSt → HostSt) : (mapHost f d).tg = d.tg := rfl
@[simp] theorem mapHost_chip (d : Dev) (f : HostSt → HostSt) : (mapHost f d).chip = d.chip := rfl
@[simp] theorem mapHost_qm (d : Dev) (f : HostSt → HostSt) : (mapHost f d).qm = d.qm := rfl
@[simp] theorem mapHost_xm (d : Dev) (f : HostSt → HostSt) : (mapHost f d).xm = d.xm := rfl
@[simp] theorem mapHost_slots (d : Dev) (f : HostSt → HostSt) : (mapHost f d).slots = d.slots := rfl
@[simp] theorem mapHost_cx (d : Dev) (f : HostSt → HostSt) : (mapHost f d).cx = d.cx := rfl
@[simp] theorem mapHost_engs (d : Dev) (f : HostSt → HostSt) : (mapHost f d).engs = d.engs := rfl
@[simp] theorem mapHost_net (d : Dev) (f : HostSt → HostSt) : (mapHost f d).net = d.net := rfl
@[simp] theorem mapHost_icl (d : Dev) (f : HostSt → HostSt) : (mapHost f d).icl = d.icl := rfl
@[simp] theorem mapHost_cfg (d : Dev) (f : HostSt → HostSt) : (mapHost f d).cfg = d.cfg := rfl
@[simp] theorem mapHost_trim (d : Dev) (f : HostSt → HostSt) : (mapHost f d).trim = d.trim := rfl
@[simp] theorem mapHost_car (d : Dev) (f : HostSt → HostSt) : (mapHost f d).car = d.car := rfl
@[simp] theorem mapHost_bist (d : Dev) (f : HostSt → HostSt) : (mapHost f d).bist = d.bist := rfl
@[simp] theorem mapHost_pins (d : Dev) (f : HostSt → HostSt) : (mapHost f d).pins = d.pins := rfl
@[simp] theorem mapHost_xstop (d : Dev) (f : HostSt → HostSt) : (mapHost f d).xstop = d.xstop := rfl
@[simp] theorem mapHost_time (d : Dev) (f : HostSt → HostSt) : (mapHost f d).ctl.time = d.ctl.time := rfl
@[simp] theorem mapHost_bbr (d : Dev) (f : HostSt → HostSt) : (mapHost f d).ctl.bbr = d.ctl.bbr := rfl
@[simp] theorem mapHost_ans (d : Dev) (f : HostSt → HostSt) : (mapHost f d).ctl.ans = d.ctl.ans := rfl
@[simp] theorem mapHost_out (d : Dev) (f : HostSt → HostSt) : (mapHost f d).ctl.out = d.ctl.out := rfl
@[simp] theorem mapHost_fresh (d : Dev) (f : HostSt → HostSt) : (mapHost f d).ctl.fresh = d.ctl.fresh := rfl
@[simp] theorem mapHost_host (d : Dev) (f : HostSt → HostSt) : (mapHost f d).host = f d.host := rfl
@[simp] theorem Dev.get_mapHost (d : Dev) (f : HostSt → HostSt) (g : Fld) : (mapHost f d).get g = d.get g := rfl
@[simp] theorem mapIcl_rings (d : Dev) (f : IclSt → IclSt) : (mapIcl f d).rings = d.rings := rfl
@[simp] theorem mapIcl_tg (d : Dev) (f : IclSt → IclSt) : (mapIcl f d).tg = d.tg := rfl
@[simp] theorem mapIcl_chip (d : Dev) (f : IclSt → IclSt) : (mapIcl f d).chip = d.chip := rfl
@[simp] theorem mapIcl_qm (d : Dev) (f : IclSt → IclSt) : (mapIcl f d).qm = d.qm := rfl
@[simp] theorem mapIcl_xm (d : Dev) (f : IclSt → IclSt) : (mapIcl f d).xm = d.xm := rfl
@[simp] theorem mapIcl_slots (d : Dev) (f : IclSt → IclSt) : (mapIcl f d).slots = d.slots := rfl
@[simp] theorem mapIcl_cx (d : Dev) (f : IclSt → IclSt) : (mapIcl f d).cx = d.cx := rfl
@[simp] theorem mapIcl_engs (d : Dev) (f : IclSt → IclSt) : (mapIcl f d).engs = d.engs := rfl
@[simp] theorem mapIcl_net (d : Dev) (f : IclSt → IclSt) : (mapIcl f d).net = d.net := rfl
@[simp] theorem mapIcl_cfg (d : Dev) (f : IclSt → IclSt) : (mapIcl f d).cfg = d.cfg := rfl
@[simp] theorem mapIcl_trim (d : Dev) (f : IclSt → IclSt) : (mapIcl f d).trim = d.trim := rfl
@[simp] theorem mapIcl_car (d : Dev) (f : IclSt → IclSt) : (mapIcl f d).car = d.car := rfl
@[simp] theorem mapIcl_bist (d : Dev) (f : IclSt → IclSt) : (mapIcl f d).bist = d.bist := rfl
@[simp] theorem mapIcl_pins (d : Dev) (f : IclSt → IclSt) : (mapIcl f d).pins = d.pins := rfl
@[simp] theorem mapIcl_host (d : Dev) (f : IclSt → IclSt) : (mapIcl f d).host = d.host := rfl
@[simp] theorem mapIcl_xstop (d : Dev) (f : IclSt → IclSt) : (mapIcl f d).xstop = d.xstop := rfl
@[simp] theorem mapIcl_time (d : Dev) (f : IclSt → IclSt) : (mapIcl f d).ctl.time = d.ctl.time := rfl
@[simp] theorem mapIcl_bbr (d : Dev) (f : IclSt → IclSt) : (mapIcl f d).ctl.bbr = d.ctl.bbr := rfl
@[simp] theorem mapIcl_ans (d : Dev) (f : IclSt → IclSt) : (mapIcl f d).ctl.ans = d.ctl.ans := rfl
@[simp] theorem mapIcl_out (d : Dev) (f : IclSt → IclSt) : (mapIcl f d).ctl.out = d.ctl.out := rfl
@[simp] theorem mapIcl_fresh (d : Dev) (f : IclSt → IclSt) : (mapIcl f d).ctl.fresh = d.ctl.fresh := rfl
@[simp] theorem mapIcl_icl (d : Dev) (f : IclSt → IclSt) : (mapIcl f d).icl = f d.icl := rfl
@[simp] theorem Dev.get_mapIcl (d : Dev) (f : IclSt → IclSt) (g : Fld) : (mapIcl f d).get g = d.get g := rfl
@[simp] theorem mapIport_rings (d : Dev) (q : Nat) (f : IclPort → IclPort) : (mapIport q f d).rings = d.rings := rfl
@[simp] theorem mapIport_tg (d : Dev) (q : Nat) (f : IclPort → IclPort) : (mapIport q f d).tg = d.tg := rfl
@[simp] theorem mapIport_chip (d : Dev) (q : Nat) (f : IclPort → IclPort) : (mapIport q f d).chip = d.chip := rfl
@[simp] theorem mapIport_qm (d : Dev) (q : Nat) (f : IclPort → IclPort) : (mapIport q f d).qm = d.qm := rfl
@[simp] theorem mapIport_xm (d : Dev) (q : Nat) (f : IclPort → IclPort) : (mapIport q f d).xm = d.xm := rfl
@[simp] theorem mapIport_slots (d : Dev) (q : Nat) (f : IclPort → IclPort) : (mapIport q f d).slots = d.slots := rfl
@[simp] theorem mapIport_cx (d : Dev) (q : Nat) (f : IclPort → IclPort) : (mapIport q f d).cx = d.cx := rfl
@[simp] theorem mapIport_engs (d : Dev) (q : Nat) (f : IclPort → IclPort) : (mapIport q f d).engs = d.engs := rfl
@[simp] theorem mapIport_net (d : Dev) (q : Nat) (f : IclPort → IclPort) : (mapIport q f d).net = d.net := rfl
@[simp] theorem mapIport_cfg (d : Dev) (q : Nat) (f : IclPort → IclPort) : (mapIport q f d).cfg = d.cfg := rfl
@[simp] theorem mapIport_trim (d : Dev) (q : Nat) (f : IclPort → IclPort) : (mapIport q f d).trim = d.trim := rfl
@[simp] theorem mapIport_car (d : Dev) (q : Nat) (f : IclPort → IclPort) : (mapIport q f d).car = d.car := rfl
@[simp] theorem mapIport_bist (d : Dev) (q : Nat) (f : IclPort → IclPort) : (mapIport q f d).bist = d.bist := rfl
@[simp] theorem mapIport_pins (d : Dev) (q : Nat) (f : IclPort → IclPort) : (mapIport q f d).pins = d.pins := rfl
@[simp] theorem mapIport_host (d : Dev) (q : Nat) (f : IclPort → IclPort) : (mapIport q f d).host = d.host := rfl
@[simp] theorem mapIport_xstop (d : Dev) (q : Nat) (f : IclPort → IclPort) : (mapIport q f d).xstop = d.xstop := rfl
@[simp] theorem mapIport_time (d : Dev) (q : Nat) (f : IclPort → IclPort) : (mapIport q f d).ctl.time = d.ctl.time := rfl
@[simp] theorem mapIport_bbr (d : Dev) (q : Nat) (f : IclPort → IclPort) : (mapIport q f d).ctl.bbr = d.ctl.bbr := rfl
@[simp] theorem mapIport_ans (d : Dev) (q : Nat) (f : IclPort → IclPort) : (mapIport q f d).ctl.ans = d.ctl.ans := rfl
@[simp] theorem mapIport_out (d : Dev) (q : Nat) (f : IclPort → IclPort) : (mapIport q f d).ctl.out = d.ctl.out := rfl
@[simp] theorem mapIport_fresh (d : Dev) (q : Nat) (f : IclPort → IclPort) : (mapIport q f d).ctl.fresh = d.ctl.fresh := rfl
@[simp] theorem Dev.get_mapIport (d : Dev) (q : Nat) (f : IclPort → IclPort) (g : Fld) : (mapIport q f d).get g = d.get g := rfl
@[simp] theorem mapPort_rings (d : Dev) (p : Nat) (f : PortSt → PortSt) : (mapPort p f d).rings = d.rings := rfl
@[simp] theorem mapPort_tg (d : Dev) (p : Nat) (f : PortSt → PortSt) : (mapPort p f d).tg = d.tg := rfl
@[simp] theorem mapPort_chip (d : Dev) (p : Nat) (f : PortSt → PortSt) : (mapPort p f d).chip = d.chip := rfl
@[simp] theorem mapPort_qm (d : Dev) (p : Nat) (f : PortSt → PortSt) : (mapPort p f d).qm = d.qm := rfl
@[simp] theorem mapPort_xm (d : Dev) (p : Nat) (f : PortSt → PortSt) : (mapPort p f d).xm = d.xm := rfl
@[simp] theorem mapPort_slots (d : Dev) (p : Nat) (f : PortSt → PortSt) : (mapPort p f d).slots = d.slots := rfl
@[simp] theorem mapPort_cx (d : Dev) (p : Nat) (f : PortSt → PortSt) : (mapPort p f d).cx = d.cx := rfl
@[simp] theorem mapPort_engs (d : Dev) (p : Nat) (f : PortSt → PortSt) : (mapPort p f d).engs = d.engs := rfl
@[simp] theorem mapPort_icl (d : Dev) (p : Nat) (f : PortSt → PortSt) : (mapPort p f d).icl = d.icl := rfl
@[simp] theorem mapPort_cfg (d : Dev) (p : Nat) (f : PortSt → PortSt) : (mapPort p f d).cfg = d.cfg := rfl
@[simp] theorem mapPort_trim (d : Dev) (p : Nat) (f : PortSt → PortSt) : (mapPort p f d).trim = d.trim := rfl
@[simp] theorem mapPort_car (d : Dev) (p : Nat) (f : PortSt → PortSt) : (mapPort p f d).car = d.car := rfl
@[simp] theorem mapPort_bist (d : Dev) (p : Nat) (f : PortSt → PortSt) : (mapPort p f d).bist = d.bist := rfl
@[simp] theorem mapPort_pins (d : Dev) (p : Nat) (f : PortSt → PortSt) : (mapPort p f d).pins = d.pins := rfl
@[simp] theorem mapPort_host (d : Dev) (p : Nat) (f : PortSt → PortSt) : (mapPort p f d).host = d.host := rfl
@[simp] theorem mapPort_xstop (d : Dev) (p : Nat) (f : PortSt → PortSt) : (mapPort p f d).xstop = d.xstop := rfl
@[simp] theorem mapPort_time (d : Dev) (p : Nat) (f : PortSt → PortSt) : (mapPort p f d).ctl.time = d.ctl.time := rfl
@[simp] theorem mapPort_bbr (d : Dev) (p : Nat) (f : PortSt → PortSt) : (mapPort p f d).ctl.bbr = d.ctl.bbr := rfl
@[simp] theorem mapPort_ans (d : Dev) (p : Nat) (f : PortSt → PortSt) : (mapPort p f d).ctl.ans = d.ctl.ans := rfl
@[simp] theorem mapPort_out (d : Dev) (p : Nat) (f : PortSt → PortSt) : (mapPort p f d).ctl.out = d.ctl.out := rfl
@[simp] theorem mapPort_fresh (d : Dev) (p : Nat) (f : PortSt → PortSt) : (mapPort p f d).ctl.fresh = d.ctl.fresh := rfl
@[simp] theorem Dev.get_mapPort (d : Dev) (p : Nat) (f : PortSt → PortSt) (g : Fld) : (mapPort p f d).get g = d.get g := rfl
@[simp] theorem mapBoat_rings (d : Dev) (b : Nat) (f : BoatSt → BoatSt) : (mapBoat b f d).rings = d.rings := rfl
@[simp] theorem mapBoat_tg (d : Dev) (b : Nat) (f : BoatSt → BoatSt) : (mapBoat b f d).tg = d.tg := rfl
@[simp] theorem mapBoat_chip (d : Dev) (b : Nat) (f : BoatSt → BoatSt) : (mapBoat b f d).chip = d.chip := rfl
@[simp] theorem mapBoat_qm (d : Dev) (b : Nat) (f : BoatSt → BoatSt) : (mapBoat b f d).qm = d.qm := rfl
@[simp] theorem mapBoat_xm (d : Dev) (b : Nat) (f : BoatSt → BoatSt) : (mapBoat b f d).xm = d.xm := rfl
@[simp] theorem mapBoat_slots (d : Dev) (b : Nat) (f : BoatSt → BoatSt) : (mapBoat b f d).slots = d.slots := rfl
@[simp] theorem mapBoat_cx (d : Dev) (b : Nat) (f : BoatSt → BoatSt) : (mapBoat b f d).cx = d.cx := rfl
@[simp] theorem mapBoat_engs (d : Dev) (b : Nat) (f : BoatSt → BoatSt) : (mapBoat b f d).engs = d.engs := rfl
@[simp] theorem mapBoat_icl (d : Dev) (b : Nat) (f : BoatSt → BoatSt) : (mapBoat b f d).icl = d.icl := rfl
@[simp] theorem mapBoat_cfg (d : Dev) (b : Nat) (f : BoatSt → BoatSt) : (mapBoat b f d).cfg = d.cfg := rfl
@[simp] theorem mapBoat_trim (d : Dev) (b : Nat) (f : BoatSt → BoatSt) : (mapBoat b f d).trim = d.trim := rfl
@[simp] theorem mapBoat_car (d : Dev) (b : Nat) (f : BoatSt → BoatSt) : (mapBoat b f d).car = d.car := rfl
@[simp] theorem mapBoat_bist (d : Dev) (b : Nat) (f : BoatSt → BoatSt) : (mapBoat b f d).bist = d.bist := rfl
@[simp] theorem mapBoat_pins (d : Dev) (b : Nat) (f : BoatSt → BoatSt) : (mapBoat b f d).pins = d.pins := rfl
@[simp] theorem mapBoat_host (d : Dev) (b : Nat) (f : BoatSt → BoatSt) : (mapBoat b f d).host = d.host := rfl
@[simp] theorem mapBoat_xstop (d : Dev) (b : Nat) (f : BoatSt → BoatSt) : (mapBoat b f d).xstop = d.xstop := rfl
@[simp] theorem mapBoat_time (d : Dev) (b : Nat) (f : BoatSt → BoatSt) : (mapBoat b f d).ctl.time = d.ctl.time := rfl
@[simp] theorem mapBoat_bbr (d : Dev) (b : Nat) (f : BoatSt → BoatSt) : (mapBoat b f d).ctl.bbr = d.ctl.bbr := rfl
@[simp] theorem mapBoat_ans (d : Dev) (b : Nat) (f : BoatSt → BoatSt) : (mapBoat b f d).ctl.ans = d.ctl.ans := rfl
@[simp] theorem mapBoat_out (d : Dev) (b : Nat) (f : BoatSt → BoatSt) : (mapBoat b f d).ctl.out = d.ctl.out := rfl
@[simp] theorem mapBoat_fresh (d : Dev) (b : Nat) (f : BoatSt → BoatSt) : (mapBoat b f d).ctl.fresh = d.ctl.fresh := rfl
@[simp] theorem Dev.get_mapBoat (d : Dev) (b : Nat) (f : BoatSt → BoatSt) (g : Fld) : (mapBoat b f d).get g = d.get g := rfl
@[simp] theorem setEng_rings (d : Dev) (e : Nat) (x : EngSt) : (setEng e x d).rings = d.rings := rfl
@[simp] theorem setEng_tg (d : Dev) (e : Nat) (x : EngSt) : (setEng e x d).tg = d.tg := rfl
@[simp] theorem setEng_chip (d : Dev) (e : Nat) (x : EngSt) : (setEng e x d).chip = d.chip := rfl
@[simp] theorem setEng_qm (d : Dev) (e : Nat) (x : EngSt) : (setEng e x d).qm = d.qm := rfl
@[simp] theorem setEng_xm (d : Dev) (e : Nat) (x : EngSt) : (setEng e x d).xm = d.xm := rfl
@[simp] theorem setEng_slots (d : Dev) (e : Nat) (x : EngSt) : (setEng e x d).slots = d.slots := rfl
@[simp] theorem setEng_cx (d : Dev) (e : Nat) (x : EngSt) : (setEng e x d).cx = d.cx := rfl
@[simp] theorem setEng_net (d : Dev) (e : Nat) (x : EngSt) : (setEng e x d).net = d.net := rfl
@[simp] theorem setEng_icl (d : Dev) (e : Nat) (x : EngSt) : (setEng e x d).icl = d.icl := rfl
@[simp] theorem setEng_cfg (d : Dev) (e : Nat) (x : EngSt) : (setEng e x d).cfg = d.cfg := rfl
@[simp] theorem setEng_trim (d : Dev) (e : Nat) (x : EngSt) : (setEng e x d).trim = d.trim := rfl
@[simp] theorem setEng_car (d : Dev) (e : Nat) (x : EngSt) : (setEng e x d).car = d.car := rfl
@[simp] theorem setEng_bist (d : Dev) (e : Nat) (x : EngSt) : (setEng e x d).bist = d.bist := rfl
@[simp] theorem setEng_pins (d : Dev) (e : Nat) (x : EngSt) : (setEng e x d).pins = d.pins := rfl
@[simp] theorem setEng_host (d : Dev) (e : Nat) (x : EngSt) : (setEng e x d).host = d.host := rfl
@[simp] theorem setEng_xstop (d : Dev) (e : Nat) (x : EngSt) : (setEng e x d).xstop = d.xstop := rfl
@[simp] theorem setEng_time (d : Dev) (e : Nat) (x : EngSt) : (setEng e x d).ctl.time = d.ctl.time := rfl
@[simp] theorem setEng_bbr (d : Dev) (e : Nat) (x : EngSt) : (setEng e x d).ctl.bbr = d.ctl.bbr := rfl
@[simp] theorem setEng_ans (d : Dev) (e : Nat) (x : EngSt) : (setEng e x d).ctl.ans = d.ctl.ans := rfl
@[simp] theorem setEng_out (d : Dev) (e : Nat) (x : EngSt) : (setEng e x d).ctl.out = d.ctl.out := rfl
@[simp] theorem setEng_fresh (d : Dev) (e : Nat) (x : EngSt) : (setEng e x d).ctl.fresh = d.ctl.fresh := rfl
@[simp] theorem setEng_engs (d : Dev) (e : Nat) (x : EngSt) : (setEng e x d).engs = sset {} d.engs e x := rfl
@[simp] theorem Dev.get_setEng (d : Dev) (e : Nat) (x : EngSt) (g : Fld) : (setEng e x d).get g = d.get g := rfl
@[simp] theorem mapEng_rings (d : Dev) (e : Nat) (f : EngSt → EngSt) : (mapEng e f d).rings = d.rings := rfl
@[simp] theorem mapEng_tg (d : Dev) (e : Nat) (f : EngSt → EngSt) : (mapEng e f d).tg = d.tg := rfl
@[simp] theorem mapEng_chip (d : Dev) (e : Nat) (f : EngSt → EngSt) : (mapEng e f d).chip = d.chip := rfl
@[simp] theorem mapEng_qm (d : Dev) (e : Nat) (f : EngSt → EngSt) : (mapEng e f d).qm = d.qm := rfl
@[simp] theorem mapEng_xm (d : Dev) (e : Nat) (f : EngSt → EngSt) : (mapEng e f d).xm = d.xm := rfl
@[simp] theorem mapEng_slots (d : Dev) (e : Nat) (f : EngSt → EngSt) : (mapEng e f d).slots = d.slots := rfl
@[simp] theorem mapEng_cx (d : Dev) (e : Nat) (f : EngSt → EngSt) : (mapEng e f d).cx = d.cx := rfl
@[simp] theorem mapEng_net (d : Dev) (e : Nat) (f : EngSt → EngSt) : (mapEng e f d).net = d.net := rfl
@[simp] theorem mapEng_icl (d : Dev) (e : Nat) (f : EngSt → EngSt) : (mapEng e f d).icl = d.icl := rfl
@[simp] theorem mapEng_cfg (d : Dev) (e : Nat) (f : EngSt → EngSt) : (mapEng e f d).cfg = d.cfg := rfl
@[simp] theorem mapEng_trim (d : Dev) (e : Nat) (f : EngSt → EngSt) : (mapEng e f d).trim = d.trim := rfl
@[simp] theorem mapEng_car (d : Dev) (e : Nat) (f : EngSt → EngSt) : (mapEng e f d).car = d.car := rfl
@[simp] theorem mapEng_bist (d : Dev) (e : Nat) (f : EngSt → EngSt) : (mapEng e f d).bist = d.bist := rfl
@[simp] theorem mapEng_pins (d : Dev) (e : Nat) (f : EngSt → EngSt) : (mapEng e f d).pins = d.pins := rfl
@[simp] theorem mapEng_host (d : Dev) (e : Nat) (f : EngSt → EngSt) : (mapEng e f d).host = d.host := rfl
@[simp] theorem mapEng_xstop (d : Dev) (e : Nat) (f : EngSt → EngSt) : (mapEng e f d).xstop = d.xstop := rfl
@[simp] theorem mapEng_time (d : Dev) (e : Nat) (f : EngSt → EngSt) : (mapEng e f d).ctl.time = d.ctl.time := rfl
@[simp] theorem mapEng_bbr (d : Dev) (e : Nat) (f : EngSt → EngSt) : (mapEng e f d).ctl.bbr = d.ctl.bbr := rfl
@[simp] theorem mapEng_ans (d : Dev) (e : Nat) (f : EngSt → EngSt) : (mapEng e f d).ctl.ans = d.ctl.ans := rfl
@[simp] theorem mapEng_out (d : Dev) (e : Nat) (f : EngSt → EngSt) : (mapEng e f d).ctl.out = d.ctl.out := rfl
@[simp] theorem mapEng_fresh (d : Dev) (e : Nat) (f : EngSt → EngSt) : (mapEng e f d).ctl.fresh = d.ctl.fresh := rfl
@[simp] theorem mapEng_engs (d : Dev) (e : Nat) (f : EngSt → EngSt) : (mapEng e f d).engs = sset {} d.engs e (f (d.eng e)) := rfl
@[simp] theorem Dev.get_mapEng (d : Dev) (e : Nat) (f : EngSt → EngSt) (g : Fld) : (mapEng e f d).get g = d.get g := rfl
@[simp] theorem setSlot_rings (d : Dev) (r t : Nat) (x : SlotSt) : (setSlot r t x d).rings = d.rings := rfl
@[simp] theorem setSlot_tg (d : Dev) (r t : Nat) (x : SlotSt) : (setSlot r t x d).tg = d.tg := rfl
@[simp] theorem setSlot_chip (d : Dev) (r t : Nat) (x : SlotSt) : (setSlot r t x d).chip = d.chip := rfl
@[simp] theorem setSlot_qm (d : Dev) (r t : Nat) (x : SlotSt) : (setSlot r t x d).qm = d.qm := rfl
@[simp] theorem setSlot_xm (d : Dev) (r t : Nat) (x : SlotSt) : (setSlot r t x d).xm = d.xm := rfl
@[simp] theorem setSlot_cx (d : Dev) (r t : Nat) (x : SlotSt) : (setSlot r t x d).cx = d.cx := rfl
@[simp] theorem setSlot_engs (d : Dev) (r t : Nat) (x : SlotSt) : (setSlot r t x d).engs = d.engs := rfl
@[simp] theorem setSlot_net (d : Dev) (r t : Nat) (x : SlotSt) : (setSlot r t x d).net = d.net := rfl
@[simp] theorem setSlot_icl (d : Dev) (r t : Nat) (x : SlotSt) : (setSlot r t x d).icl = d.icl := rfl
@[simp] theorem setSlot_cfg (d : Dev) (r t : Nat) (x : SlotSt) : (setSlot r t x d).cfg = d.cfg := rfl
@[simp] theorem setSlot_trim (d : Dev) (r t : Nat) (x : SlotSt) : (setSlot r t x d).trim = d.trim := rfl
@[simp] theorem setSlot_car (d : Dev) (r t : Nat) (x : SlotSt) : (setSlot r t x d).car = d.car := rfl
@[simp] theorem setSlot_bist (d : Dev) (r t : Nat) (x : SlotSt) : (setSlot r t x d).bist = d.bist := rfl
@[simp] theorem setSlot_pins (d : Dev) (r t : Nat) (x : SlotSt) : (setSlot r t x d).pins = d.pins := rfl
@[simp] theorem setSlot_host (d : Dev) (r t : Nat) (x : SlotSt) : (setSlot r t x d).host = d.host := rfl
@[simp] theorem setSlot_xstop (d : Dev) (r t : Nat) (x : SlotSt) : (setSlot r t x d).xstop = d.xstop := rfl
@[simp] theorem setSlot_time (d : Dev) (r t : Nat) (x : SlotSt) : (setSlot r t x d).ctl.time = d.ctl.time := rfl
@[simp] theorem setSlot_bbr (d : Dev) (r t : Nat) (x : SlotSt) : (setSlot r t x d).ctl.bbr = d.ctl.bbr := rfl
@[simp] theorem setSlot_ans (d : Dev) (r t : Nat) (x : SlotSt) : (setSlot r t x d).ctl.ans = d.ctl.ans := rfl
@[simp] theorem setSlot_out (d : Dev) (r t : Nat) (x : SlotSt) : (setSlot r t x d).ctl.out = d.ctl.out := rfl
@[simp] theorem setSlot_fresh (d : Dev) (r t : Nat) (x : SlotSt) : (setSlot r t x d).ctl.fresh = d.ctl.fresh := rfl
@[simp] theorem setSlot_slots (d : Dev) (r t : Nat) (x : SlotSt) : (setSlot r t x d).slots = sset {} d.slots (32 * r + t) x := rfl
@[simp] theorem Dev.get_setSlot (d : Dev) (r t : Nat) (x : SlotSt) (g : Fld) : (setSlot r t x d).get g = d.get g := rfl
@[simp] theorem mapSlot_rings (d : Dev) (r t : Nat) (f : SlotSt → SlotSt) : (mapSlot r t f d).rings = d.rings := rfl
@[simp] theorem mapSlot_tg (d : Dev) (r t : Nat) (f : SlotSt → SlotSt) : (mapSlot r t f d).tg = d.tg := rfl
@[simp] theorem mapSlot_chip (d : Dev) (r t : Nat) (f : SlotSt → SlotSt) : (mapSlot r t f d).chip = d.chip := rfl
@[simp] theorem mapSlot_qm (d : Dev) (r t : Nat) (f : SlotSt → SlotSt) : (mapSlot r t f d).qm = d.qm := rfl
@[simp] theorem mapSlot_xm (d : Dev) (r t : Nat) (f : SlotSt → SlotSt) : (mapSlot r t f d).xm = d.xm := rfl
@[simp] theorem mapSlot_cx (d : Dev) (r t : Nat) (f : SlotSt → SlotSt) : (mapSlot r t f d).cx = d.cx := rfl
@[simp] theorem mapSlot_engs (d : Dev) (r t : Nat) (f : SlotSt → SlotSt) : (mapSlot r t f d).engs = d.engs := rfl
@[simp] theorem mapSlot_net (d : Dev) (r t : Nat) (f : SlotSt → SlotSt) : (mapSlot r t f d).net = d.net := rfl
@[simp] theorem mapSlot_icl (d : Dev) (r t : Nat) (f : SlotSt → SlotSt) : (mapSlot r t f d).icl = d.icl := rfl
@[simp] theorem mapSlot_cfg (d : Dev) (r t : Nat) (f : SlotSt → SlotSt) : (mapSlot r t f d).cfg = d.cfg := rfl
@[simp] theorem mapSlot_trim (d : Dev) (r t : Nat) (f : SlotSt → SlotSt) : (mapSlot r t f d).trim = d.trim := rfl
@[simp] theorem mapSlot_car (d : Dev) (r t : Nat) (f : SlotSt → SlotSt) : (mapSlot r t f d).car = d.car := rfl
@[simp] theorem mapSlot_bist (d : Dev) (r t : Nat) (f : SlotSt → SlotSt) : (mapSlot r t f d).bist = d.bist := rfl
@[simp] theorem mapSlot_pins (d : Dev) (r t : Nat) (f : SlotSt → SlotSt) : (mapSlot r t f d).pins = d.pins := rfl
@[simp] theorem mapSlot_host (d : Dev) (r t : Nat) (f : SlotSt → SlotSt) : (mapSlot r t f d).host = d.host := rfl
@[simp] theorem mapSlot_xstop (d : Dev) (r t : Nat) (f : SlotSt → SlotSt) : (mapSlot r t f d).xstop = d.xstop := rfl
@[simp] theorem mapSlot_time (d : Dev) (r t : Nat) (f : SlotSt → SlotSt) : (mapSlot r t f d).ctl.time = d.ctl.time := rfl
@[simp] theorem mapSlot_bbr (d : Dev) (r t : Nat) (f : SlotSt → SlotSt) : (mapSlot r t f d).ctl.bbr = d.ctl.bbr := rfl
@[simp] theorem mapSlot_ans (d : Dev) (r t : Nat) (f : SlotSt → SlotSt) : (mapSlot r t f d).ctl.ans = d.ctl.ans := rfl
@[simp] theorem mapSlot_out (d : Dev) (r t : Nat) (f : SlotSt → SlotSt) : (mapSlot r t f d).ctl.out = d.ctl.out := rfl
@[simp] theorem mapSlot_fresh (d : Dev) (r t : Nat) (f : SlotSt → SlotSt) : (mapSlot r t f d).ctl.fresh = d.ctl.fresh := rfl
@[simp] theorem Dev.get_mapSlot (d : Dev) (r t : Nat) (f : SlotSt → SlotSt) (g : Fld) : (mapSlot r t f d).get g = d.get g := rfl
@[simp] theorem mapPin_rings (d : Dev) (n : Nat) (f : PinSt → PinSt) : (mapPin n f d).rings = d.rings := rfl
@[simp] theorem mapPin_tg (d : Dev) (n : Nat) (f : PinSt → PinSt) : (mapPin n f d).tg = d.tg := rfl
@[simp] theorem mapPin_chip (d : Dev) (n : Nat) (f : PinSt → PinSt) : (mapPin n f d).chip = d.chip := rfl
@[simp] theorem mapPin_qm (d : Dev) (n : Nat) (f : PinSt → PinSt) : (mapPin n f d).qm = d.qm := rfl
@[simp] theorem mapPin_xm (d : Dev) (n : Nat) (f : PinSt → PinSt) : (mapPin n f d).xm = d.xm := rfl
@[simp] theorem mapPin_slots (d : Dev) (n : Nat) (f : PinSt → PinSt) : (mapPin n f d).slots = d.slots := rfl
@[simp] theorem mapPin_cx (d : Dev) (n : Nat) (f : PinSt → PinSt) : (mapPin n f d).cx = d.cx := rfl
@[simp] theorem mapPin_engs (d : Dev) (n : Nat) (f : PinSt → PinSt) : (mapPin n f d).engs = d.engs := rfl
@[simp] theorem mapPin_net (d : Dev) (n : Nat) (f : PinSt → PinSt) : (mapPin n f d).net = d.net := rfl
@[simp] theorem mapPin_icl (d : Dev) (n : Nat) (f : PinSt → PinSt) : (mapPin n f d).icl = d.icl := rfl
@[simp] theorem mapPin_cfg (d : Dev) (n : Nat) (f : PinSt → PinSt) : (mapPin n f d).cfg = d.cfg := rfl
@[simp] theorem mapPin_trim (d : Dev) (n : Nat) (f : PinSt → PinSt) : (mapPin n f d).trim = d.trim := rfl
@[simp] theorem mapPin_car (d : Dev) (n : Nat) (f : PinSt → PinSt) : (mapPin n f d).car = d.car := rfl
@[simp] theorem mapPin_bist (d : Dev) (n : Nat) (f : PinSt → PinSt) : (mapPin n f d).bist = d.bist := rfl
@[simp] theorem mapPin_host (d : Dev) (n : Nat) (f : PinSt → PinSt) : (mapPin n f d).host = d.host := rfl
@[simp] theorem mapPin_xstop (d : Dev) (n : Nat) (f : PinSt → PinSt) : (mapPin n f d).xstop = d.xstop := rfl
@[simp] theorem mapPin_time (d : Dev) (n : Nat) (f : PinSt → PinSt) : (mapPin n f d).ctl.time = d.ctl.time := rfl
@[simp] theorem mapPin_bbr (d : Dev) (n : Nat) (f : PinSt → PinSt) : (mapPin n f d).ctl.bbr = d.ctl.bbr := rfl
@[simp] theorem mapPin_ans (d : Dev) (n : Nat) (f : PinSt → PinSt) : (mapPin n f d).ctl.ans = d.ctl.ans := rfl
@[simp] theorem mapPin_out (d : Dev) (n : Nat) (f : PinSt → PinSt) : (mapPin n f d).ctl.out = d.ctl.out := rfl
@[simp] theorem mapPin_fresh (d : Dev) (n : Nat) (f : PinSt → PinSt) : (mapPin n f d).ctl.fresh = d.ctl.fresh := rfl
@[simp] theorem Dev.get_mapPin (d : Dev) (n : Nat) (f : PinSt → PinSt) (g : Fld) : (mapPin n f d).get g = d.get g := rfl
@[simp] theorem Dev.setQueue_rings (d : Dev) (q : Nat) (x : QSt) : (d.setQueue q x).rings = d.rings := rfl
@[simp] theorem Dev.setQueue_tg (d : Dev) (q : Nat) (x : QSt) : (d.setQueue q x).tg = d.tg := rfl
@[simp] theorem Dev.setQueue_chip (d : Dev) (q : Nat) (x : QSt) : (d.setQueue q x).chip = d.chip := rfl
@[simp] theorem Dev.setQueue_xm (d : Dev) (q : Nat) (x : QSt) : (d.setQueue q x).xm = d.xm := rfl
@[simp] theorem Dev.setQueue_slots (d : Dev) (q : Nat) (x : QSt) : (d.setQueue q x).slots = d.slots := rfl
@[simp] theorem Dev.setQueue_cx (d : Dev) (q : Nat) (x : QSt) : (d.setQueue q x).cx = d.cx := rfl
@[simp] theorem Dev.setQueue_engs (d : Dev) (q : Nat) (x : QSt) : (d.setQueue q x).engs = d.engs := rfl
@[simp] theorem Dev.setQueue_net (d : Dev) (q : Nat) (x : QSt) : (d.setQueue q x).net = d.net := rfl
@[simp] theorem Dev.setQueue_icl (d : Dev) (q : Nat) (x : QSt) : (d.setQueue q x).icl = d.icl := rfl
@[simp] theorem Dev.setQueue_cfg (d : Dev) (q : Nat) (x : QSt) : (d.setQueue q x).cfg = d.cfg := rfl
@[simp] theorem Dev.setQueue_trim (d : Dev) (q : Nat) (x : QSt) : (d.setQueue q x).trim = d.trim := rfl
@[simp] theorem Dev.setQueue_car (d : Dev) (q : Nat) (x : QSt) : (d.setQueue q x).car = d.car := rfl
@[simp] theorem Dev.setQueue_bist (d : Dev) (q : Nat) (x : QSt) : (d.setQueue q x).bist = d.bist := rfl
@[simp] theorem Dev.setQueue_pins (d : Dev) (q : Nat) (x : QSt) : (d.setQueue q x).pins = d.pins := rfl
@[simp] theorem Dev.setQueue_host (d : Dev) (q : Nat) (x : QSt) : (d.setQueue q x).host = d.host := rfl
@[simp] theorem Dev.setQueue_xstop (d : Dev) (q : Nat) (x : QSt) : (d.setQueue q x).xstop = d.xstop := rfl
@[simp] theorem Dev.setQueue_time (d : Dev) (q : Nat) (x : QSt) : (d.setQueue q x).ctl.time = d.ctl.time := rfl
@[simp] theorem Dev.setQueue_bbr (d : Dev) (q : Nat) (x : QSt) : (d.setQueue q x).ctl.bbr = d.ctl.bbr := rfl
@[simp] theorem Dev.setQueue_ans (d : Dev) (q : Nat) (x : QSt) : (d.setQueue q x).ctl.ans = d.ctl.ans := rfl
@[simp] theorem Dev.setQueue_out (d : Dev) (q : Nat) (x : QSt) : (d.setQueue q x).ctl.out = d.ctl.out := rfl
@[simp] theorem Dev.setQueue_fresh (d : Dev) (q : Nat) (x : QSt) : (d.setQueue q x).ctl.fresh = d.ctl.fresh := rfl
@[simp] theorem Dev.get_setQueue (d : Dev) (q : Nat) (x : QSt) (g : Fld) : (d.setQueue q x).get g = d.get g := rfl
@[simp] theorem Dev.mapExt_rings (d : Dev) (f : ExtMem → ExtMem) : (d.mapExt f).rings = d.rings := rfl
@[simp] theorem Dev.mapExt_tg (d : Dev) (f : ExtMem → ExtMem) : (d.mapExt f).tg = d.tg := rfl
@[simp] theorem Dev.mapExt_chip (d : Dev) (f : ExtMem → ExtMem) : (d.mapExt f).chip = d.chip := rfl
@[simp] theorem Dev.mapExt_qm (d : Dev) (f : ExtMem → ExtMem) : (d.mapExt f).qm = d.qm := rfl
@[simp] theorem Dev.mapExt_slots (d : Dev) (f : ExtMem → ExtMem) : (d.mapExt f).slots = d.slots := rfl
@[simp] theorem Dev.mapExt_cx (d : Dev) (f : ExtMem → ExtMem) : (d.mapExt f).cx = d.cx := rfl
@[simp] theorem Dev.mapExt_engs (d : Dev) (f : ExtMem → ExtMem) : (d.mapExt f).engs = d.engs := rfl
@[simp] theorem Dev.mapExt_net (d : Dev) (f : ExtMem → ExtMem) : (d.mapExt f).net = d.net := rfl
@[simp] theorem Dev.mapExt_icl (d : Dev) (f : ExtMem → ExtMem) : (d.mapExt f).icl = d.icl := rfl
@[simp] theorem Dev.mapExt_cfg (d : Dev) (f : ExtMem → ExtMem) : (d.mapExt f).cfg = d.cfg := rfl
@[simp] theorem Dev.mapExt_trim (d : Dev) (f : ExtMem → ExtMem) : (d.mapExt f).trim = d.trim := rfl
@[simp] theorem Dev.mapExt_car (d : Dev) (f : ExtMem → ExtMem) : (d.mapExt f).car = d.car := rfl
@[simp] theorem Dev.mapExt_bist (d : Dev) (f : ExtMem → ExtMem) : (d.mapExt f).bist = d.bist := rfl
@[simp] theorem Dev.mapExt_pins (d : Dev) (f : ExtMem → ExtMem) : (d.mapExt f).pins = d.pins := rfl
@[simp] theorem Dev.mapExt_host (d : Dev) (f : ExtMem → ExtMem) : (d.mapExt f).host = d.host := rfl
@[simp] theorem Dev.mapExt_xstop (d : Dev) (f : ExtMem → ExtMem) : (d.mapExt f).xstop = d.xstop := rfl
@[simp] theorem Dev.mapExt_time (d : Dev) (f : ExtMem → ExtMem) : (d.mapExt f).ctl.time = d.ctl.time := rfl
@[simp] theorem Dev.mapExt_bbr (d : Dev) (f : ExtMem → ExtMem) : (d.mapExt f).ctl.bbr = d.ctl.bbr := rfl
@[simp] theorem Dev.mapExt_ans (d : Dev) (f : ExtMem → ExtMem) : (d.mapExt f).ctl.ans = d.ctl.ans := rfl
@[simp] theorem Dev.mapExt_out (d : Dev) (f : ExtMem → ExtMem) : (d.mapExt f).ctl.out = d.ctl.out := rfl
@[simp] theorem Dev.mapExt_fresh (d : Dev) (f : ExtMem → ExtMem) : (d.mapExt f).ctl.fresh = d.ctl.fresh := rfl
@[simp] theorem Dev.get_mapExt (d : Dev) (f : ExtMem → ExtMem) (g : Fld) : (d.mapExt f).get g = d.get g := rfl
@[simp] theorem Dev.chipWrite_rings (d : Dev) (a : Nat) (bs : List Byte) : (d.chipWrite a bs).rings = d.rings := rfl
@[simp] theorem Dev.chipWrite_tg (d : Dev) (a : Nat) (bs : List Byte) : (d.chipWrite a bs).tg = d.tg := rfl
@[simp] theorem Dev.chipWrite_qm (d : Dev) (a : Nat) (bs : List Byte) : (d.chipWrite a bs).qm = d.qm := rfl
@[simp] theorem Dev.chipWrite_xm (d : Dev) (a : Nat) (bs : List Byte) : (d.chipWrite a bs).xm = d.xm := rfl
@[simp] theorem Dev.chipWrite_slots (d : Dev) (a : Nat) (bs : List Byte) : (d.chipWrite a bs).slots = d.slots := rfl
@[simp] theorem Dev.chipWrite_cx (d : Dev) (a : Nat) (bs : List Byte) : (d.chipWrite a bs).cx = d.cx := rfl
@[simp] theorem Dev.chipWrite_engs (d : Dev) (a : Nat) (bs : List Byte) : (d.chipWrite a bs).engs = d.engs := rfl
@[simp] theorem Dev.chipWrite_net (d : Dev) (a : Nat) (bs : List Byte) : (d.chipWrite a bs).net = d.net := rfl
@[simp] theorem Dev.chipWrite_icl (d : Dev) (a : Nat) (bs : List Byte) : (d.chipWrite a bs).icl = d.icl := rfl
@[simp] theorem Dev.chipWrite_cfg (d : Dev) (a : Nat) (bs : List Byte) : (d.chipWrite a bs).cfg = d.cfg := rfl
@[simp] theorem Dev.chipWrite_trim (d : Dev) (a : Nat) (bs : List Byte) : (d.chipWrite a bs).trim = d.trim := rfl
@[simp] theorem Dev.chipWrite_car (d : Dev) (a : Nat) (bs : List Byte) : (d.chipWrite a bs).car = d.car := rfl
@[simp] theorem Dev.chipWrite_bist (d : Dev) (a : Nat) (bs : List Byte) : (d.chipWrite a bs).bist = d.bist := rfl
@[simp] theorem Dev.chipWrite_pins (d : Dev) (a : Nat) (bs : List Byte) : (d.chipWrite a bs).pins = d.pins := rfl
@[simp] theorem Dev.chipWrite_host (d : Dev) (a : Nat) (bs : List Byte) : (d.chipWrite a bs).host = d.host := rfl
@[simp] theorem Dev.chipWrite_xstop (d : Dev) (a : Nat) (bs : List Byte) : (d.chipWrite a bs).xstop = d.xstop := rfl
@[simp] theorem Dev.chipWrite_time (d : Dev) (a : Nat) (bs : List Byte) : (d.chipWrite a bs).ctl.time = d.ctl.time := rfl
@[simp] theorem Dev.chipWrite_bbr (d : Dev) (a : Nat) (bs : List Byte) : (d.chipWrite a bs).ctl.bbr = d.ctl.bbr := rfl
@[simp] theorem Dev.chipWrite_ans (d : Dev) (a : Nat) (bs : List Byte) : (d.chipWrite a bs).ctl.ans = d.ctl.ans := rfl
@[simp] theorem Dev.chipWrite_out (d : Dev) (a : Nat) (bs : List Byte) : (d.chipWrite a bs).ctl.out = d.ctl.out := rfl
@[simp] theorem Dev.chipWrite_fresh (d : Dev) (a : Nat) (bs : List Byte) : (d.chipWrite a bs).ctl.fresh = d.ctl.fresh := rfl
@[simp] theorem Dev.get_chipWrite (d : Dev) (a : Nat) (bs : List Byte) (g : Fld) : (d.chipWrite a bs).get g = d.get g := rfl
@[simp] theorem Dev.setChipFlaw_rings (d : Dev) (a : Nat) (x : Flaw) : (d.setChipFlaw a x).rings = d.rings := rfl
@[simp] theorem Dev.setChipFlaw_tg (d : Dev) (a : Nat) (x : Flaw) : (d.setChipFlaw a x).tg = d.tg := rfl
@[simp] theorem Dev.setChipFlaw_qm (d : Dev) (a : Nat) (x : Flaw) : (d.setChipFlaw a x).qm = d.qm := rfl
@[simp] theorem Dev.setChipFlaw_xm (d : Dev) (a : Nat) (x : Flaw) : (d.setChipFlaw a x).xm = d.xm := rfl
@[simp] theorem Dev.setChipFlaw_slots (d : Dev) (a : Nat) (x : Flaw) : (d.setChipFlaw a x).slots = d.slots := rfl
@[simp] theorem Dev.setChipFlaw_cx (d : Dev) (a : Nat) (x : Flaw) : (d.setChipFlaw a x).cx = d.cx := rfl
@[simp] theorem Dev.setChipFlaw_engs (d : Dev) (a : Nat) (x : Flaw) : (d.setChipFlaw a x).engs = d.engs := rfl
@[simp] theorem Dev.setChipFlaw_net (d : Dev) (a : Nat) (x : Flaw) : (d.setChipFlaw a x).net = d.net := rfl
@[simp] theorem Dev.setChipFlaw_icl (d : Dev) (a : Nat) (x : Flaw) : (d.setChipFlaw a x).icl = d.icl := rfl
@[simp] theorem Dev.setChipFlaw_cfg (d : Dev) (a : Nat) (x : Flaw) : (d.setChipFlaw a x).cfg = d.cfg := rfl
@[simp] theorem Dev.setChipFlaw_trim (d : Dev) (a : Nat) (x : Flaw) : (d.setChipFlaw a x).trim = d.trim := rfl
@[simp] theorem Dev.setChipFlaw_car (d : Dev) (a : Nat) (x : Flaw) : (d.setChipFlaw a x).car = d.car := rfl
@[simp] theorem Dev.setChipFlaw_bist (d : Dev) (a : Nat) (x : Flaw) : (d.setChipFlaw a x).bist = d.bist := rfl
@[simp] theorem Dev.setChipFlaw_pins (d : Dev) (a : Nat) (x : Flaw) : (d.setChipFlaw a x).pins = d.pins := rfl
@[simp] theorem Dev.setChipFlaw_host (d : Dev) (a : Nat) (x : Flaw) : (d.setChipFlaw a x).host = d.host := rfl
@[simp] theorem Dev.setChipFlaw_xstop (d : Dev) (a : Nat) (x : Flaw) : (d.setChipFlaw a x).xstop = d.xstop := rfl
@[simp] theorem Dev.setChipFlaw_time (d : Dev) (a : Nat) (x : Flaw) : (d.setChipFlaw a x).ctl.time = d.ctl.time := rfl
@[simp] theorem Dev.setChipFlaw_bbr (d : Dev) (a : Nat) (x : Flaw) : (d.setChipFlaw a x).ctl.bbr = d.ctl.bbr := rfl
@[simp] theorem Dev.setChipFlaw_ans (d : Dev) (a : Nat) (x : Flaw) : (d.setChipFlaw a x).ctl.ans = d.ctl.ans := rfl
@[simp] theorem Dev.setChipFlaw_out (d : Dev) (a : Nat) (x : Flaw) : (d.setChipFlaw a x).ctl.out = d.ctl.out := rfl
@[simp] theorem Dev.setChipFlaw_fresh (d : Dev) (a : Nat) (x : Flaw) : (d.setChipFlaw a x).ctl.fresh = d.ctl.fresh := rfl
@[simp] theorem Dev.get_setChipFlaw (d : Dev) (a : Nat) (x : Flaw) (g : Fld) : (d.setChipFlaw a x).get g = d.get g := rfl
@[simp] theorem Dev.chipZero_rings (d : Dev) (a n : Nat) : (d.chipZero a n).rings = d.rings := rfl
@[simp] theorem Dev.chipZero_tg (d : Dev) (a n : Nat) : (d.chipZero a n).tg = d.tg := rfl
@[simp] theorem Dev.chipZero_qm (d : Dev) (a n : Nat) : (d.chipZero a n).qm = d.qm := rfl
@[simp] theorem Dev.chipZero_xm (d : Dev) (a n : Nat) : (d.chipZero a n).xm = d.xm := rfl
@[simp] theorem Dev.chipZero_slots (d : Dev) (a n : Nat) : (d.chipZero a n).slots = d.slots := rfl
@[simp] theorem Dev.chipZero_cx (d : Dev) (a n : Nat) : (d.chipZero a n).cx = d.cx := rfl
@[simp] theorem Dev.chipZero_engs (d : Dev) (a n : Nat) : (d.chipZero a n).engs = d.engs := rfl
@[simp] theorem Dev.chipZero_net (d : Dev) (a n : Nat) : (d.chipZero a n).net = d.net := rfl
@[simp] theorem Dev.chipZero_icl (d : Dev) (a n : Nat) : (d.chipZero a n).icl = d.icl := rfl
@[simp] theorem Dev.chipZero_cfg (d : Dev) (a n : Nat) : (d.chipZero a n).cfg = d.cfg := rfl
@[simp] theorem Dev.chipZero_trim (d : Dev) (a n : Nat) : (d.chipZero a n).trim = d.trim := rfl
@[simp] theorem Dev.chipZero_car (d : Dev) (a n : Nat) : (d.chipZero a n).car = d.car := rfl
@[simp] theorem Dev.chipZero_bist (d : Dev) (a n : Nat) : (d.chipZero a n).bist = d.bist := rfl
@[simp] theorem Dev.chipZero_pins (d : Dev) (a n : Nat) : (d.chipZero a n).pins = d.pins := rfl
@[simp] theorem Dev.chipZero_host (d : Dev) (a n : Nat) : (d.chipZero a n).host = d.host := rfl
@[simp] theorem Dev.chipZero_xstop (d : Dev) (a n : Nat) : (d.chipZero a n).xstop = d.xstop := rfl
@[simp] theorem Dev.chipZero_time (d : Dev) (a n : Nat) : (d.chipZero a n).ctl.time = d.ctl.time := rfl
@[simp] theorem Dev.chipZero_bbr (d : Dev) (a n : Nat) : (d.chipZero a n).ctl.bbr = d.ctl.bbr := rfl
@[simp] theorem Dev.chipZero_ans (d : Dev) (a n : Nat) : (d.chipZero a n).ctl.ans = d.ctl.ans := rfl
@[simp] theorem Dev.chipZero_out (d : Dev) (a n : Nat) : (d.chipZero a n).ctl.out = d.ctl.out := rfl
@[simp] theorem Dev.chipZero_fresh (d : Dev) (a n : Nat) : (d.chipZero a n).ctl.fresh = d.ctl.fresh := rfl
@[simp] theorem Dev.get_chipZero (d : Dev) (a n : Nat) (g : Fld) : (d.chipZero a n).get g = d.get g := rfl

/-! ### One element past an update of another part -/

@[simp] theorem Dev.eng_set (d : Dev) (f : Fld) (v : Nat) (i : Nat) : (d.set f v).eng i = d.eng i := rfl
@[simp] theorem Dev.port_set (d : Dev) (f : Fld) (v : Nat) (i : Nat) : (d.set f v).port i = d.port i := rfl
@[simp] theorem Dev.boat_set (d : Dev) (f : Fld) (v : Nat) (i : Nat) : (d.set f v).boat i = d.boat i := rfl
@[simp] theorem Dev.iport_set (d : Dev) (f : Fld) (v : Nat) (i : Nat) : (d.set f v).iport i = d.iport i := rfl
@[simp] theorem Dev.pin_set (d : Dev) (f : Fld) (v : Nat) (i : Nat) : (d.set f v).pin i = d.pin i := rfl
@[simp] theorem Dev.queue_set (d : Dev) (f : Fld) (v : Nat) (i : Nat) : (d.set f v).queue i = d.queue i := rfl
@[simp] theorem Dev.slot_set (d : Dev) (f : Fld) (v : Nat) (i j : Nat) : (d.set f v).slot i j = d.slot i j := rfl
@[simp] theorem Dev.periph_set (d : Dev) (f : Fld) (v : Nat) (i j : Nat) : (d.set f v).periph i j = d.periph i j := rfl
@[simp] theorem Dev.ring_raise (d : Dev) (f : Fld) (i : Nat) : (d.raise f).ring i = d.ring i := rfl
@[simp] theorem Dev.eng_raise (d : Dev) (f : Fld) (i : Nat) : (d.raise f).eng i = d.eng i := rfl
@[simp] theorem Dev.port_raise (d : Dev) (f : Fld) (i : Nat) : (d.raise f).port i = d.port i := rfl
@[simp] theorem Dev.boat_raise (d : Dev) (f : Fld) (i : Nat) : (d.raise f).boat i = d.boat i := rfl
@[simp] theorem Dev.iport_raise (d : Dev) (f : Fld) (i : Nat) : (d.raise f).iport i = d.iport i := rfl
@[simp] theorem Dev.pin_raise (d : Dev) (f : Fld) (i : Nat) : (d.raise f).pin i = d.pin i := rfl
@[simp] theorem Dev.queue_raise (d : Dev) (f : Fld) (i : Nat) : (d.raise f).queue i = d.queue i := rfl
@[simp] theorem Dev.slot_raise (d : Dev) (f : Fld) (i j : Nat) : (d.raise f).slot i j = d.slot i j := rfl
@[simp] theorem Dev.periph_raise (d : Dev) (f : Fld) (i j : Nat) : (d.raise f).periph i j = d.periph i j := rfl
@[simp] theorem Dev.ring_clear (d : Dev) (f : Fld) (i : Nat) : (d.clear f).ring i = d.ring i := rfl
@[simp] theorem Dev.eng_clear (d : Dev) (f : Fld) (i : Nat) : (d.clear f).eng i = d.eng i := rfl
@[simp] theorem Dev.port_clear (d : Dev) (f : Fld) (i : Nat) : (d.clear f).port i = d.port i := rfl
@[simp] theorem Dev.boat_clear (d : Dev) (f : Fld) (i : Nat) : (d.clear f).boat i = d.boat i := rfl
@[simp] theorem Dev.iport_clear (d : Dev) (f : Fld) (i : Nat) : (d.clear f).iport i = d.iport i := rfl
@[simp] theorem Dev.pin_clear (d : Dev) (f : Fld) (i : Nat) : (d.clear f).pin i = d.pin i := rfl
@[simp] theorem Dev.queue_clear (d : Dev) (f : Fld) (i : Nat) : (d.clear f).queue i = d.queue i := rfl
@[simp] theorem Dev.slot_clear (d : Dev) (f : Fld) (i j : Nat) : (d.clear f).slot i j = d.slot i j := rfl
@[simp] theorem Dev.periph_clear (d : Dev) (f : Fld) (i j : Nat) : (d.clear f).periph i j = d.periph i j := rfl
@[simp] theorem Dev.ring_incSat (d : Dev) (f : Fld) (i : Nat) : (d.incSat f).ring i = d.ring i := rfl
@[simp] theorem Dev.eng_incSat (d : Dev) (f : Fld) (i : Nat) : (d.incSat f).eng i = d.eng i := rfl
@[simp] theorem Dev.port_incSat (d : Dev) (f : Fld) (i : Nat) : (d.incSat f).port i = d.port i := rfl
@[simp] theorem Dev.boat_incSat (d : Dev) (f : Fld) (i : Nat) : (d.incSat f).boat i = d.boat i := rfl
@[simp] theorem Dev.iport_incSat (d : Dev) (f : Fld) (i : Nat) : (d.incSat f).iport i = d.iport i := rfl
@[simp] theorem Dev.pin_incSat (d : Dev) (f : Fld) (i : Nat) : (d.incSat f).pin i = d.pin i := rfl
@[simp] theorem Dev.queue_incSat (d : Dev) (f : Fld) (i : Nat) : (d.incSat f).queue i = d.queue i := rfl
@[simp] theorem Dev.slot_incSat (d : Dev) (f : Fld) (i j : Nat) : (d.incSat f).slot i j = d.slot i j := rfl
@[simp] theorem Dev.periph_incSat (d : Dev) (f : Fld) (i j : Nat) : (d.incSat f).periph i j = d.periph i j := rfl
@[simp] theorem Dev.ring_answer (d : Dev) (c : Resp) (xs : List Nat) (i : Nat) : (d.answer c xs).ring i = d.ring i := rfl
@[simp] theorem Dev.eng_answer (d : Dev) (c : Resp) (xs : List Nat) (i : Nat) : (d.answer c xs).eng i = d.eng i := rfl
@[simp] theorem Dev.port_answer (d : Dev) (c : Resp) (xs : List Nat) (i : Nat) : (d.answer c xs).port i = d.port i := rfl
@[simp] theorem Dev.boat_answer (d : Dev) (c : Resp) (xs : List Nat) (i : Nat) : (d.answer c xs).boat i = d.boat i := rfl
@[simp] theorem Dev.iport_answer (d : Dev) (c : Resp) (xs : List Nat) (i : Nat) : (d.answer c xs).iport i = d.iport i := rfl
@[simp] theorem Dev.pin_answer (d : Dev) (c : Resp) (xs : List Nat) (i : Nat) : (d.answer c xs).pin i = d.pin i := rfl
@[simp] theorem Dev.queue_answer (d : Dev) (c : Resp) (xs : List Nat) (i : Nat) : (d.answer c xs).queue i = d.queue i := rfl
@[simp] theorem Dev.slot_answer (d : Dev) (c : Resp) (xs : List Nat) (i j : Nat) : (d.answer c xs).slot i j = d.slot i j := rfl
@[simp] theorem Dev.periph_answer (d : Dev) (c : Resp) (xs : List Nat) (i j : Nat) : (d.answer c xs).periph i j = d.periph i j := rfl
@[simp] theorem Dev.ring_emit (d : Dev) (e : OutEvent) (i : Nat) : (d.emit e).ring i = d.ring i := rfl
@[simp] theorem Dev.eng_emit (d : Dev) (e : OutEvent) (i : Nat) : (d.emit e).eng i = d.eng i := rfl
@[simp] theorem Dev.port_emit (d : Dev) (e : OutEvent) (i : Nat) : (d.emit e).port i = d.port i := rfl
@[simp] theorem Dev.boat_emit (d : Dev) (e : OutEvent) (i : Nat) : (d.emit e).boat i = d.boat i := rfl
@[simp] theorem Dev.iport_emit (d : Dev) (e : OutEvent) (i : Nat) : (d.emit e).iport i = d.iport i := rfl
@[simp] theorem Dev.pin_emit (d : Dev) (e : OutEvent) (i : Nat) : (d.emit e).pin i = d.pin i := rfl
@[simp] theorem Dev.queue_emit (d : Dev) (e : OutEvent) (i : Nat) : (d.emit e).queue i = d.queue i := rfl
@[simp] theorem Dev.slot_emit (d : Dev) (e : OutEvent) (i j : Nat) : (d.emit e).slot i j = d.slot i j := rfl
@[simp] theorem Dev.periph_emit (d : Dev) (e : OutEvent) (i j : Nat) : (d.emit e).periph i j = d.periph i j := rfl
@[simp] theorem Dev.ring_bump (d : Dev) (i : Nat) : (d.bump).ring i = d.ring i := rfl
@[simp] theorem Dev.eng_bump (d : Dev) (i : Nat) : (d.bump).eng i = d.eng i := rfl
@[simp] theorem Dev.port_bump (d : Dev) (i : Nat) : (d.bump).port i = d.port i := rfl
@[simp] theorem Dev.boat_bump (d : Dev) (i : Nat) : (d.bump).boat i = d.boat i := rfl
@[simp] theorem Dev.iport_bump (d : Dev) (i : Nat) : (d.bump).iport i = d.iport i := rfl
@[simp] theorem Dev.pin_bump (d : Dev) (i : Nat) : (d.bump).pin i = d.pin i := rfl
@[simp] theorem Dev.queue_bump (d : Dev) (i : Nat) : (d.bump).queue i = d.queue i := rfl
@[simp] theorem Dev.slot_bump (d : Dev) (i j : Nat) : (d.bump).slot i j = d.slot i j := rfl
@[simp] theorem Dev.periph_bump (d : Dev) (i j : Nat) : (d.bump).periph i j = d.periph i j := rfl
@[simp] theorem Dev.ring_withTime (d : Dev) (t : TimeSt) (i : Nat) : (d.withTime t).ring i = d.ring i := rfl
@[simp] theorem Dev.eng_withTime (d : Dev) (t : TimeSt) (i : Nat) : (d.withTime t).eng i = d.eng i := rfl
@[simp] theorem Dev.port_withTime (d : Dev) (t : TimeSt) (i : Nat) : (d.withTime t).port i = d.port i := rfl
@[simp] theorem Dev.boat_withTime (d : Dev) (t : TimeSt) (i : Nat) : (d.withTime t).boat i = d.boat i := rfl
@[simp] theorem Dev.iport_withTime (d : Dev) (t : TimeSt) (i : Nat) : (d.withTime t).iport i = d.iport i := rfl
@[simp] theorem Dev.pin_withTime (d : Dev) (t : TimeSt) (i : Nat) : (d.withTime t).pin i = d.pin i := rfl
@[simp] theorem Dev.queue_withTime (d : Dev) (t : TimeSt) (i : Nat) : (d.withTime t).queue i = d.queue i := rfl
@[simp] theorem Dev.slot_withTime (d : Dev) (t : TimeSt) (i j : Nat) : (d.withTime t).slot i j = d.slot i j := rfl
@[simp] theorem Dev.periph_withTime (d : Dev) (t : TimeSt) (i j : Nat) : (d.withTime t).periph i j = d.periph i j := rfl
@[simp] theorem Dev.ring_advance (d : Dev) (n : Nat) (i : Nat) : (d.advance n).ring i = d.ring i := rfl
@[simp] theorem Dev.eng_advance (d : Dev) (n : Nat) (i : Nat) : (d.advance n).eng i = d.eng i := rfl
@[simp] theorem Dev.port_advance (d : Dev) (n : Nat) (i : Nat) : (d.advance n).port i = d.port i := rfl
@[simp] theorem Dev.boat_advance (d : Dev) (n : Nat) (i : Nat) : (d.advance n).boat i = d.boat i := rfl
@[simp] theorem Dev.iport_advance (d : Dev) (n : Nat) (i : Nat) : (d.advance n).iport i = d.iport i := rfl
@[simp] theorem Dev.pin_advance (d : Dev) (n : Nat) (i : Nat) : (d.advance n).pin i = d.pin i := rfl
@[simp] theorem Dev.queue_advance (d : Dev) (n : Nat) (i : Nat) : (d.advance n).queue i = d.queue i := rfl
@[simp] theorem Dev.slot_advance (d : Dev) (n : Nat) (i j : Nat) : (d.advance n).slot i j = d.slot i j := rfl
@[simp] theorem Dev.periph_advance (d : Dev) (n : Nat) (i j : Nat) : (d.advance n).periph i j = d.periph i j := rfl
@[simp] theorem Dev.ring_withBbr (d : Dev) (b : Bbr) (i : Nat) : (d.withBbr b).ring i = d.ring i := rfl
@[simp] theorem Dev.eng_withBbr (d : Dev) (b : Bbr) (i : Nat) : (d.withBbr b).eng i = d.eng i := rfl
@[simp] theorem Dev.port_withBbr (d : Dev) (b : Bbr) (i : Nat) : (d.withBbr b).port i = d.port i := rfl
@[simp] theorem Dev.boat_withBbr (d : Dev) (b : Bbr) (i : Nat) : (d.withBbr b).boat i = d.boat i := rfl
@[simp] theorem Dev.iport_withBbr (d : Dev) (b : Bbr) (i : Nat) : (d.withBbr b).iport i = d.iport i := rfl
@[simp] theorem Dev.pin_withBbr (d : Dev) (b : Bbr) (i : Nat) : (d.withBbr b).pin i = d.pin i := rfl
@[simp] theorem Dev.queue_withBbr (d : Dev) (b : Bbr) (i : Nat) : (d.withBbr b).queue i = d.queue i := rfl
@[simp] theorem Dev.slot_withBbr (d : Dev) (b : Bbr) (i j : Nat) : (d.withBbr b).slot i j = d.slot i j := rfl
@[simp] theorem Dev.periph_withBbr (d : Dev) (b : Bbr) (i j : Nat) : (d.withBbr b).periph i j = d.periph i j := rfl
@[simp] theorem Dev.ring_of_withTg (d : Dev) (t : TgSt) (i : Nat) : (d.withTg t).ring i = d.ring i := rfl
@[simp] theorem Dev.eng_of_withTg (d : Dev) (t : TgSt) (i : Nat) : (d.withTg t).eng i = d.eng i := rfl
@[simp] theorem Dev.port_of_withTg (d : Dev) (t : TgSt) (i : Nat) : (d.withTg t).port i = d.port i := rfl
@[simp] theorem Dev.boat_of_withTg (d : Dev) (t : TgSt) (i : Nat) : (d.withTg t).boat i = d.boat i := rfl
@[simp] theorem Dev.iport_of_withTg (d : Dev) (t : TgSt) (i : Nat) : (d.withTg t).iport i = d.iport i := rfl
@[simp] theorem Dev.pin_of_withTg (d : Dev) (t : TgSt) (i : Nat) : (d.withTg t).pin i = d.pin i := rfl
@[simp] theorem Dev.queue_of_withTg (d : Dev) (t : TgSt) (i : Nat) : (d.withTg t).queue i = d.queue i := rfl
@[simp] theorem Dev.slot_of_withTg (d : Dev) (t : TgSt) (i j : Nat) : (d.withTg t).slot i j = d.slot i j := rfl
@[simp] theorem Dev.periph_of_withTg (d : Dev) (t : TgSt) (i j : Nat) : (d.withTg t).periph i j = d.periph i j := rfl
@[simp] theorem Dev.ring_of_withCx (d : Dev) (c : CxSt) (i : Nat) : (d.withCx c).ring i = d.ring i := rfl
@[simp] theorem Dev.eng_of_withCx (d : Dev) (c : CxSt) (i : Nat) : (d.withCx c).eng i = d.eng i := rfl
@[simp] theorem Dev.port_of_withCx (d : Dev) (c : CxSt) (i : Nat) : (d.withCx c).port i = d.port i := rfl
@[simp] theorem Dev.boat_of_withCx (d : Dev) (c : CxSt) (i : Nat) : (d.withCx c).boat i = d.boat i := rfl
@[simp] theorem Dev.iport_of_withCx (d : Dev) (c : CxSt) (i : Nat) : (d.withCx c).iport i = d.iport i := rfl
@[simp] theorem Dev.pin_of_withCx (d : Dev) (c : CxSt) (i : Nat) : (d.withCx c).pin i = d.pin i := rfl
@[simp] theorem Dev.queue_of_withCx (d : Dev) (c : CxSt) (i : Nat) : (d.withCx c).queue i = d.queue i := rfl
@[simp] theorem Dev.slot_of_withCx (d : Dev) (c : CxSt) (i j : Nat) : (d.withCx c).slot i j = d.slot i j := rfl
@[simp] theorem Dev.periph_of_withCx (d : Dev) (c : CxSt) (i j : Nat) : (d.withCx c).periph i j = d.periph i j := rfl
@[simp] theorem Dev.eng_of_setRing (d : Dev) (r : Nat) (x : Ring) (i : Nat) : (d.setRing r x).eng i = d.eng i := rfl
@[simp] theorem Dev.port_of_setRing (d : Dev) (r : Nat) (x : Ring) (i : Nat) : (d.setRing r x).port i = d.port i := rfl
@[simp] theorem Dev.boat_of_setRing (d : Dev) (r : Nat) (x : Ring) (i : Nat) : (d.setRing r x).boat i = d.boat i := rfl
@[simp] theorem Dev.iport_of_setRing (d : Dev) (r : Nat) (x : Ring) (i : Nat) : (d.setRing r x).iport i = d.iport i := rfl
@[simp] theorem Dev.pin_of_setRing (d : Dev) (r : Nat) (x : Ring) (i : Nat) : (d.setRing r x).pin i = d.pin i := rfl
@[simp] theorem Dev.queue_of_setRing (d : Dev) (r : Nat) (x : Ring) (i : Nat) : (d.setRing r x).queue i = d.queue i := rfl
@[simp] theorem Dev.slot_of_setRing (d : Dev) (r : Nat) (x : Ring) (i j : Nat) : (d.setRing r x).slot i j = d.slot i j := rfl
@[simp] theorem Dev.periph_of_setRing (d : Dev) (r : Nat) (x : Ring) (i j : Nat) : (d.setRing r x).periph i j = d.periph i j := rfl
@[simp] theorem Dev.eng_of_mapRing (d : Dev) (r : Nat) (f : Ring → Ring) (i : Nat) : (mapRing r f d).eng i = d.eng i := rfl
@[simp] theorem Dev.port_of_mapRing (d : Dev) (r : Nat) (f : Ring → Ring) (i : Nat) : (mapRing r f d).port i = d.port i := rfl
@[simp] theorem Dev.boat_of_mapRing (d : Dev) (r : Nat) (f : Ring → Ring) (i : Nat) : (mapRing r f d).boat i = d.boat i := rfl
@[simp] theorem Dev.iport_of_mapRing (d : Dev) (r : Nat) (f : Ring → Ring) (i : Nat) : (mapRing r f d).iport i = d.iport i := rfl
@[simp] theorem Dev.pin_of_mapRing (d : Dev) (r : Nat) (f : Ring → Ring) (i : Nat) : (mapRing r f d).pin i = d.pin i := rfl
@[simp] theorem Dev.queue_of_mapRing (d : Dev) (r : Nat) (f : Ring → Ring) (i : Nat) : (mapRing r f d).queue i = d.queue i := rfl
@[simp] theorem Dev.slot_of_mapRing (d : Dev) (r : Nat) (f : Ring → Ring) (i j : Nat) : (mapRing r f d).slot i j = d.slot i j := rfl
@[simp] theorem Dev.periph_of_mapRing (d : Dev) (r : Nat) (f : Ring → Ring) (i j : Nat) : (mapRing r f d).periph i j = d.periph i j := rfl
@[simp] theorem Dev.ring_of_mapTime (d : Dev) (f : TimeSt → TimeSt) (i : Nat) : (mapTime f d).ring i = d.ring i := rfl
@[simp] theorem Dev.eng_of_mapTime (d : Dev) (f : TimeSt → TimeSt) (i : Nat) : (mapTime f d).eng i = d.eng i := rfl
@[simp] theorem Dev.port_of_mapTime (d : Dev) (f : TimeSt → TimeSt) (i : Nat) : (mapTime f d).port i = d.port i := rfl
@[simp] theorem Dev.boat_of_mapTime (d : Dev) (f : TimeSt → TimeSt) (i : Nat) : (mapTime f d).boat i = d.boat i := rfl
@[simp] theorem Dev.iport_of_mapTime (d : Dev) (f : TimeSt → TimeSt) (i : Nat) : (mapTime f d).iport i = d.iport i := rfl
@[simp] theorem Dev.pin_of_mapTime (d : Dev) (f : TimeSt → TimeSt) (i : Nat) : (mapTime f d).pin i = d.pin i := rfl
@[simp] theorem Dev.queue_of_mapTime (d : Dev) (f : TimeSt → TimeSt) (i : Nat) : (mapTime f d).queue i = d.queue i := rfl
@[simp] theorem Dev.slot_of_mapTime (d : Dev) (f : TimeSt → TimeSt) (i j : Nat) : (mapTime f d).slot i j = d.slot i j := rfl
@[simp] theorem Dev.periph_of_mapTime (d : Dev) (f : TimeSt → TimeSt) (i j : Nat) : (mapTime f d).periph i j = d.periph i j := rfl
@[simp] theorem Dev.ring_of_mapBbr (d : Dev) (f : Bbr → Bbr) (i : Nat) : (mapBbr f d).ring i = d.ring i := rfl
@[simp] theorem Dev.eng_of_mapBbr (d : Dev) (f : Bbr → Bbr) (i : Nat) : (mapBbr f d).eng i = d.eng i := rfl
@[simp] theorem Dev.port_of_mapBbr (d : Dev) (f : Bbr → Bbr) (i : Nat) : (mapBbr f d).port i = d.port i := rfl
@[simp] theorem Dev.boat_of_mapBbr (d : Dev) (f : Bbr → Bbr) (i : Nat) : (mapBbr f d).boat i = d.boat i := rfl
@[simp] theorem Dev.iport_of_mapBbr (d : Dev) (f : Bbr → Bbr) (i : Nat) : (mapBbr f d).iport i = d.iport i := rfl
@[simp] theorem Dev.pin_of_mapBbr (d : Dev) (f : Bbr → Bbr) (i : Nat) : (mapBbr f d).pin i = d.pin i := rfl
@[simp] theorem Dev.queue_of_mapBbr (d : Dev) (f : Bbr → Bbr) (i : Nat) : (mapBbr f d).queue i = d.queue i := rfl
@[simp] theorem Dev.slot_of_mapBbr (d : Dev) (f : Bbr → Bbr) (i j : Nat) : (mapBbr f d).slot i j = d.slot i j := rfl
@[simp] theorem Dev.periph_of_mapBbr (d : Dev) (f : Bbr → Bbr) (i j : Nat) : (mapBbr f d).periph i j = d.periph i j := rfl
@[simp] theorem Dev.ring_of_mapCar (d : Dev) (f : CarSt → CarSt) (i : Nat) : (mapCar f d).ring i = d.ring i := rfl
@[simp] theorem Dev.eng_of_mapCar (d : Dev) (f : CarSt → CarSt) (i : Nat) : (mapCar f d).eng i = d.eng i := rfl
@[simp] theorem Dev.port_of_mapCar (d : Dev) (f : CarSt → CarSt) (i : Nat) : (mapCar f d).port i = d.port i := rfl
@[simp] theorem Dev.boat_of_mapCar (d : Dev) (f : CarSt → CarSt) (i : Nat) : (mapCar f d).boat i = d.boat i := rfl
@[simp] theorem Dev.iport_of_mapCar (d : Dev) (f : CarSt → CarSt) (i : Nat) : (mapCar f d).iport i = d.iport i := rfl
@[simp] theorem Dev.pin_of_mapCar (d : Dev) (f : CarSt → CarSt) (i : Nat) : (mapCar f d).pin i = d.pin i := rfl
@[simp] theorem Dev.queue_of_mapCar (d : Dev) (f : CarSt → CarSt) (i : Nat) : (mapCar f d).queue i = d.queue i := rfl
@[simp] theorem Dev.slot_of_mapCar (d : Dev) (f : CarSt → CarSt) (i j : Nat) : (mapCar f d).slot i j = d.slot i j := rfl
@[simp] theorem Dev.periph_of_mapCar (d : Dev) (f : CarSt → CarSt) (i j : Nat) : (mapCar f d).periph i j = d.periph i j := rfl
@[simp] theorem Dev.ring_of_mapCfg (d : Dev) (f : CfgSt → CfgSt) (i : Nat) : (mapCfg f d).ring i = d.ring i := rfl
@[simp] theorem Dev.eng_of_mapCfg (d : Dev) (f : CfgSt → CfgSt) (i : Nat) : (mapCfg f d).eng i = d.eng i := rfl
@[simp] theorem Dev.port_of_mapCfg (d : Dev) (f : CfgSt → CfgSt) (i : Nat) : (mapCfg f d).port i = d.port i := rfl
@[simp] theorem Dev.boat_of_mapCfg (d : Dev) (f : CfgSt → CfgSt) (i : Nat) : (mapCfg f d).boat i = d.boat i := rfl
@[simp] theorem Dev.iport_of_mapCfg (d : Dev) (f : CfgSt → CfgSt) (i : Nat) : (mapCfg f d).iport i = d.iport i := rfl
@[simp] theorem Dev.pin_of_mapCfg (d : Dev) (f : CfgSt → CfgSt) (i : Nat) : (mapCfg f d).pin i = d.pin i := rfl
@[simp] theorem Dev.queue_of_mapCfg (d : Dev) (f : CfgSt → CfgSt) (i : Nat) : (mapCfg f d).queue i = d.queue i := rfl
@[simp] theorem Dev.slot_of_mapCfg (d : Dev) (f : CfgSt → CfgSt) (i j : Nat) : (mapCfg f d).slot i j = d.slot i j := rfl
@[simp] theorem Dev.periph_of_mapCfg (d : Dev) (f : CfgSt → CfgSt) (i j : Nat) : (mapCfg f d).periph i j = d.periph i j := rfl
@[simp] theorem Dev.ring_of_mapTrim (d : Dev) (f : TrimSt → TrimSt) (i : Nat) : (mapTrim f d).ring i = d.ring i := rfl
@[simp] theorem Dev.eng_of_mapTrim (d : Dev) (f : TrimSt → TrimSt) (i : Nat) : (mapTrim f d).eng i = d.eng i := rfl
@[simp] theorem Dev.port_of_mapTrim (d : Dev) (f : TrimSt → TrimSt) (i : Nat) : (mapTrim f d).port i = d.port i := rfl
@[simp] theorem Dev.boat_of_mapTrim (d : Dev) (f : TrimSt → TrimSt) (i : Nat) : (mapTrim f d).boat i = d.boat i := rfl
@[simp] theorem Dev.iport_of_mapTrim (d : Dev) (f : TrimSt → TrimSt) (i : Nat) : (mapTrim f d).iport i = d.iport i := rfl
@[simp] theorem Dev.pin_of_mapTrim (d : Dev) (f : TrimSt → TrimSt) (i : Nat) : (mapTrim f d).pin i = d.pin i := rfl
@[simp] theorem Dev.queue_of_mapTrim (d : Dev) (f : TrimSt → TrimSt) (i : Nat) : (mapTrim f d).queue i = d.queue i := rfl
@[simp] theorem Dev.slot_of_mapTrim (d : Dev) (f : TrimSt → TrimSt) (i j : Nat) : (mapTrim f d).slot i j = d.slot i j := rfl
@[simp] theorem Dev.periph_of_mapTrim (d : Dev) (f : TrimSt → TrimSt) (i j : Nat) : (mapTrim f d).periph i j = d.periph i j := rfl
@[simp] theorem Dev.ring_of_mapBist (d : Dev) (f : BistSt → BistSt) (i : Nat) : (mapBist f d).ring i = d.ring i := rfl
@[simp] theorem Dev.eng_of_mapBist (d : Dev) (f : BistSt → BistSt) (i : Nat) : (mapBist f d).eng i = d.eng i := rfl
@[simp] theorem Dev.port_of_mapBist (d : Dev) (f : BistSt → BistSt) (i : Nat) : (mapBist f d).port i = d.port i := rfl
@[simp] theorem Dev.boat_of_mapBist (d : Dev) (f : BistSt → BistSt) (i : Nat) : (mapBist f d).boat i = d.boat i := rfl
@[simp] theorem Dev.iport_of_mapBist (d : Dev) (f : BistSt → BistSt) (i : Nat) : (mapBist f d).iport i = d.iport i := rfl
@[simp] theorem Dev.pin_of_mapBist (d : Dev) (f : BistSt → BistSt) (i : Nat) : (mapBist f d).pin i = d.pin i := rfl
@[simp] theorem Dev.queue_of_mapBist (d : Dev) (f : BistSt → BistSt) (i : Nat) : (mapBist f d).queue i = d.queue i := rfl
@[simp] theorem Dev.slot_of_mapBist (d : Dev) (f : BistSt → BistSt) (i j : Nat) : (mapBist f d).slot i j = d.slot i j := rfl
@[simp] theorem Dev.periph_of_mapBist (d : Dev) (f : BistSt → BistSt) (i j : Nat) : (mapBist f d).periph i j = d.periph i j := rfl
@[simp] theorem Dev.ring_of_mapHost (d : Dev) (f : HostSt → HostSt) (i : Nat) : (mapHost f d).ring i = d.ring i := rfl
@[simp] theorem Dev.eng_of_mapHost (d : Dev) (f : HostSt → HostSt) (i : Nat) : (mapHost f d).eng i = d.eng i := rfl
@[simp] theorem Dev.port_of_mapHost (d : Dev) (f : HostSt → HostSt) (i : Nat) : (mapHost f d).port i = d.port i := rfl
@[simp] theorem Dev.boat_of_mapHost (d : Dev) (f : HostSt → HostSt) (i : Nat) : (mapHost f d).boat i = d.boat i := rfl
@[simp] theorem Dev.iport_of_mapHost (d : Dev) (f : HostSt → HostSt) (i : Nat) : (mapHost f d).iport i = d.iport i := rfl
@[simp] theorem Dev.pin_of_mapHost (d : Dev) (f : HostSt → HostSt) (i : Nat) : (mapHost f d).pin i = d.pin i := rfl
@[simp] theorem Dev.queue_of_mapHost (d : Dev) (f : HostSt → HostSt) (i : Nat) : (mapHost f d).queue i = d.queue i := rfl
@[simp] theorem Dev.slot_of_mapHost (d : Dev) (f : HostSt → HostSt) (i j : Nat) : (mapHost f d).slot i j = d.slot i j := rfl
@[simp] theorem Dev.periph_of_mapHost (d : Dev) (f : HostSt → HostSt) (i j : Nat) : (mapHost f d).periph i j = d.periph i j := rfl
@[simp] theorem Dev.ring_of_mapIcl (d : Dev) (f : IclSt → IclSt) (i : Nat) : (mapIcl f d).ring i = d.ring i := rfl
@[simp] theorem Dev.eng_of_mapIcl (d : Dev) (f : IclSt → IclSt) (i : Nat) : (mapIcl f d).eng i = d.eng i := rfl
@[simp] theorem Dev.port_of_mapIcl (d : Dev) (f : IclSt → IclSt) (i : Nat) : (mapIcl f d).port i = d.port i := rfl
@[simp] theorem Dev.boat_of_mapIcl (d : Dev) (f : IclSt → IclSt) (i : Nat) : (mapIcl f d).boat i = d.boat i := rfl
@[simp] theorem Dev.pin_of_mapIcl (d : Dev) (f : IclSt → IclSt) (i : Nat) : (mapIcl f d).pin i = d.pin i := rfl
@[simp] theorem Dev.queue_of_mapIcl (d : Dev) (f : IclSt → IclSt) (i : Nat) : (mapIcl f d).queue i = d.queue i := rfl
@[simp] theorem Dev.slot_of_mapIcl (d : Dev) (f : IclSt → IclSt) (i j : Nat) : (mapIcl f d).slot i j = d.slot i j := rfl
@[simp] theorem Dev.periph_of_mapIcl (d : Dev) (f : IclSt → IclSt) (i j : Nat) : (mapIcl f d).periph i j = d.periph i j := rfl
@[simp] theorem Dev.ring_of_mapIport (d : Dev) (q : Nat) (f : IclPort → IclPort) (i : Nat) : (mapIport q f d).ring i = d.ring i := rfl
@[simp] theorem Dev.eng_of_mapIport (d : Dev) (q : Nat) (f : IclPort → IclPort) (i : Nat) : (mapIport q f d).eng i = d.eng i := rfl
@[simp] theorem Dev.port_of_mapIport (d : Dev) (q : Nat) (f : IclPort → IclPort) (i : Nat) : (mapIport q f d).port i = d.port i := rfl
@[simp] theorem Dev.boat_of_mapIport (d : Dev) (q : Nat) (f : IclPort → IclPort) (i : Nat) : (mapIport q f d).boat i = d.boat i := rfl
@[simp] theorem Dev.pin_of_mapIport (d : Dev) (q : Nat) (f : IclPort → IclPort) (i : Nat) : (mapIport q f d).pin i = d.pin i := rfl
@[simp] theorem Dev.queue_of_mapIport (d : Dev) (q : Nat) (f : IclPort → IclPort) (i : Nat) : (mapIport q f d).queue i = d.queue i := rfl
@[simp] theorem Dev.slot_of_mapIport (d : Dev) (q : Nat) (f : IclPort → IclPort) (i j : Nat) : (mapIport q f d).slot i j = d.slot i j := rfl
@[simp] theorem Dev.periph_of_mapIport (d : Dev) (q : Nat) (f : IclPort → IclPort) (i j : Nat) : (mapIport q f d).periph i j = d.periph i j := rfl
@[simp] theorem Dev.ring_of_mapPort (d : Dev) (p : Nat) (f : PortSt → PortSt) (i : Nat) : (mapPort p f d).ring i = d.ring i := rfl
@[simp] theorem Dev.eng_of_mapPort (d : Dev) (p : Nat) (f : PortSt → PortSt) (i : Nat) : (mapPort p f d).eng i = d.eng i := rfl
@[simp] theorem Dev.iport_of_mapPort (d : Dev) (p : Nat) (f : PortSt → PortSt) (i : Nat) : (mapPort p f d).iport i = d.iport i := rfl
@[simp] theorem Dev.pin_of_mapPort (d : Dev) (p : Nat) (f : PortSt → PortSt) (i : Nat) : (mapPort p f d).pin i = d.pin i := rfl
@[simp] theorem Dev.queue_of_mapPort (d : Dev) (p : Nat) (f : PortSt → PortSt) (i : Nat) : (mapPort p f d).queue i = d.queue i := rfl
@[simp] theorem Dev.slot_of_mapPort (d : Dev) (p : Nat) (f : PortSt → PortSt) (i j : Nat) : (mapPort p f d).slot i j = d.slot i j := rfl
@[simp] theorem Dev.periph_of_mapPort (d : Dev) (p : Nat) (f : PortSt → PortSt) (i j : Nat) : (mapPort p f d).periph i j = d.periph i j := rfl
@[simp] theorem Dev.ring_of_mapBoat (d : Dev) (b : Nat) (f : BoatSt → BoatSt) (i : Nat) : (mapBoat b f d).ring i = d.ring i := rfl
@[simp] theorem Dev.eng_of_mapBoat (d : Dev) (b : Nat) (f : BoatSt → BoatSt) (i : Nat) : (mapBoat b f d).eng i = d.eng i := rfl
@[simp] theorem Dev.iport_of_mapBoat (d : Dev) (b : Nat) (f : BoatSt → BoatSt) (i : Nat) : (mapBoat b f d).iport i = d.iport i := rfl
@[simp] theorem Dev.pin_of_mapBoat (d : Dev) (b : Nat) (f : BoatSt → BoatSt) (i : Nat) : (mapBoat b f d).pin i = d.pin i := rfl
@[simp] theorem Dev.queue_of_mapBoat (d : Dev) (b : Nat) (f : BoatSt → BoatSt) (i : Nat) : (mapBoat b f d).queue i = d.queue i := rfl
@[simp] theorem Dev.slot_of_mapBoat (d : Dev) (b : Nat) (f : BoatSt → BoatSt) (i j : Nat) : (mapBoat b f d).slot i j = d.slot i j := rfl
@[simp] theorem Dev.periph_of_mapBoat (d : Dev) (b : Nat) (f : BoatSt → BoatSt) (i j : Nat) : (mapBoat b f d).periph i j = d.periph i j := rfl
@[simp] theorem Dev.ring_of_setEng (d : Dev) (e : Nat) (x : EngSt) (i : Nat) : (setEng e x d).ring i = d.ring i := rfl
@[simp] theorem Dev.port_of_setEng (d : Dev) (e : Nat) (x : EngSt) (i : Nat) : (setEng e x d).port i = d.port i := rfl
@[simp] theorem Dev.boat_of_setEng (d : Dev) (e : Nat) (x : EngSt) (i : Nat) : (setEng e x d).boat i = d.boat i := rfl
@[simp] theorem Dev.iport_of_setEng (d : Dev) (e : Nat) (x : EngSt) (i : Nat) : (setEng e x d).iport i = d.iport i := rfl
@[simp] theorem Dev.pin_of_setEng (d : Dev) (e : Nat) (x : EngSt) (i : Nat) : (setEng e x d).pin i = d.pin i := rfl
@[simp] theorem Dev.queue_of_setEng (d : Dev) (e : Nat) (x : EngSt) (i : Nat) : (setEng e x d).queue i = d.queue i := rfl
@[simp] theorem Dev.slot_of_setEng (d : Dev) (e : Nat) (x : EngSt) (i j : Nat) : (setEng e x d).slot i j = d.slot i j := rfl
@[simp] theorem Dev.periph_of_setEng (d : Dev) (e : Nat) (x : EngSt) (i j : Nat) : (setEng e x d).periph i j = d.periph i j := rfl
@[simp] theorem Dev.ring_of_mapEng (d : Dev) (e : Nat) (f : EngSt → EngSt) (i : Nat) : (mapEng e f d).ring i = d.ring i := rfl
@[simp] theorem Dev.port_of_mapEng (d : Dev) (e : Nat) (f : EngSt → EngSt) (i : Nat) : (mapEng e f d).port i = d.port i := rfl
@[simp] theorem Dev.boat_of_mapEng (d : Dev) (e : Nat) (f : EngSt → EngSt) (i : Nat) : (mapEng e f d).boat i = d.boat i := rfl
@[simp] theorem Dev.iport_of_mapEng (d : Dev) (e : Nat) (f : EngSt → EngSt) (i : Nat) : (mapEng e f d).iport i = d.iport i := rfl
@[simp] theorem Dev.pin_of_mapEng (d : Dev) (e : Nat) (f : EngSt → EngSt) (i : Nat) : (mapEng e f d).pin i = d.pin i := rfl
@[simp] theorem Dev.queue_of_mapEng (d : Dev) (e : Nat) (f : EngSt → EngSt) (i : Nat) : (mapEng e f d).queue i = d.queue i := rfl
@[simp] theorem Dev.slot_of_mapEng (d : Dev) (e : Nat) (f : EngSt → EngSt) (i j : Nat) : (mapEng e f d).slot i j = d.slot i j := rfl
@[simp] theorem Dev.periph_of_mapEng (d : Dev) (e : Nat) (f : EngSt → EngSt) (i j : Nat) : (mapEng e f d).periph i j = d.periph i j := rfl
@[simp] theorem Dev.ring_of_setSlot (d : Dev) (r t : Nat) (x : SlotSt) (i : Nat) : (setSlot r t x d).ring i = d.ring i := rfl
@[simp] theorem Dev.eng_of_setSlot (d : Dev) (r t : Nat) (x : SlotSt) (i : Nat) : (setSlot r t x d).eng i = d.eng i := rfl
@[simp] theorem Dev.port_of_setSlot (d : Dev) (r t : Nat) (x : SlotSt) (i : Nat) : (setSlot r t x d).port i = d.port i := rfl
@[simp] theorem Dev.boat_of_setSlot (d : Dev) (r t : Nat) (x : SlotSt) (i : Nat) : (setSlot r t x d).boat i = d.boat i := rfl
@[simp] theorem Dev.iport_of_setSlot (d : Dev) (r t : Nat) (x : SlotSt) (i : Nat) : (setSlot r t x d).iport i = d.iport i := rfl
@[simp] theorem Dev.pin_of_setSlot (d : Dev) (r t : Nat) (x : SlotSt) (i : Nat) : (setSlot r t x d).pin i = d.pin i := rfl
@[simp] theorem Dev.queue_of_setSlot (d : Dev) (r t : Nat) (x : SlotSt) (i : Nat) : (setSlot r t x d).queue i = d.queue i := rfl
@[simp] theorem Dev.periph_of_setSlot (d : Dev) (r t : Nat) (x : SlotSt) (i j : Nat) : (setSlot r t x d).periph i j = d.periph i j := rfl
@[simp] theorem Dev.ring_of_mapSlot (d : Dev) (r t : Nat) (f : SlotSt → SlotSt) (i : Nat) : (mapSlot r t f d).ring i = d.ring i := rfl
@[simp] theorem Dev.eng_of_mapSlot (d : Dev) (r t : Nat) (f : SlotSt → SlotSt) (i : Nat) : (mapSlot r t f d).eng i = d.eng i := rfl
@[simp] theorem Dev.port_of_mapSlot (d : Dev) (r t : Nat) (f : SlotSt → SlotSt) (i : Nat) : (mapSlot r t f d).port i = d.port i := rfl
@[simp] theorem Dev.boat_of_mapSlot (d : Dev) (r t : Nat) (f : SlotSt → SlotSt) (i : Nat) : (mapSlot r t f d).boat i = d.boat i := rfl
@[simp] theorem Dev.iport_of_mapSlot (d : Dev) (r t : Nat) (f : SlotSt → SlotSt) (i : Nat) : (mapSlot r t f d).iport i = d.iport i := rfl
@[simp] theorem Dev.pin_of_mapSlot (d : Dev) (r t : Nat) (f : SlotSt → SlotSt) (i : Nat) : (mapSlot r t f d).pin i = d.pin i := rfl
@[simp] theorem Dev.queue_of_mapSlot (d : Dev) (r t : Nat) (f : SlotSt → SlotSt) (i : Nat) : (mapSlot r t f d).queue i = d.queue i := rfl
@[simp] theorem Dev.periph_of_mapSlot (d : Dev) (r t : Nat) (f : SlotSt → SlotSt) (i j : Nat) : (mapSlot r t f d).periph i j = d.periph i j := rfl
@[simp] theorem Dev.ring_of_mapPin (d : Dev) (n : Nat) (f : PinSt → PinSt) (i : Nat) : (mapPin n f d).ring i = d.ring i := rfl
@[simp] theorem Dev.eng_of_mapPin (d : Dev) (n : Nat) (f : PinSt → PinSt) (i : Nat) : (mapPin n f d).eng i = d.eng i := rfl
@[simp] theorem Dev.port_of_mapPin (d : Dev) (n : Nat) (f : PinSt → PinSt) (i : Nat) : (mapPin n f d).port i = d.port i := rfl
@[simp] theorem Dev.boat_of_mapPin (d : Dev) (n : Nat) (f : PinSt → PinSt) (i : Nat) : (mapPin n f d).boat i = d.boat i := rfl
@[simp] theorem Dev.iport_of_mapPin (d : Dev) (n : Nat) (f : PinSt → PinSt) (i : Nat) : (mapPin n f d).iport i = d.iport i := rfl
@[simp] theorem Dev.queue_of_mapPin (d : Dev) (n : Nat) (f : PinSt → PinSt) (i : Nat) : (mapPin n f d).queue i = d.queue i := rfl
@[simp] theorem Dev.slot_of_mapPin (d : Dev) (n : Nat) (f : PinSt → PinSt) (i j : Nat) : (mapPin n f d).slot i j = d.slot i j := rfl
@[simp] theorem Dev.ring_of_setQueue (d : Dev) (q : Nat) (x : QSt) (i : Nat) : (d.setQueue q x).ring i = d.ring i := rfl
@[simp] theorem Dev.eng_of_setQueue (d : Dev) (q : Nat) (x : QSt) (i : Nat) : (d.setQueue q x).eng i = d.eng i := rfl
@[simp] theorem Dev.port_of_setQueue (d : Dev) (q : Nat) (x : QSt) (i : Nat) : (d.setQueue q x).port i = d.port i := rfl
@[simp] theorem Dev.boat_of_setQueue (d : Dev) (q : Nat) (x : QSt) (i : Nat) : (d.setQueue q x).boat i = d.boat i := rfl
@[simp] theorem Dev.iport_of_setQueue (d : Dev) (q : Nat) (x : QSt) (i : Nat) : (d.setQueue q x).iport i = d.iport i := rfl
@[simp] theorem Dev.pin_of_setQueue (d : Dev) (q : Nat) (x : QSt) (i : Nat) : (d.setQueue q x).pin i = d.pin i := rfl
@[simp] theorem Dev.slot_of_setQueue (d : Dev) (q : Nat) (x : QSt) (i j : Nat) : (d.setQueue q x).slot i j = d.slot i j := rfl
@[simp] theorem Dev.periph_of_setQueue (d : Dev) (q : Nat) (x : QSt) (i j : Nat) : (d.setQueue q x).periph i j = d.periph i j := rfl
@[simp] theorem Dev.ring_of_mapExt (d : Dev) (f : ExtMem → ExtMem) (i : Nat) : (d.mapExt f).ring i = d.ring i := rfl
@[simp] theorem Dev.eng_of_mapExt (d : Dev) (f : ExtMem → ExtMem) (i : Nat) : (d.mapExt f).eng i = d.eng i := rfl
@[simp] theorem Dev.port_of_mapExt (d : Dev) (f : ExtMem → ExtMem) (i : Nat) : (d.mapExt f).port i = d.port i := rfl
@[simp] theorem Dev.boat_of_mapExt (d : Dev) (f : ExtMem → ExtMem) (i : Nat) : (d.mapExt f).boat i = d.boat i := rfl
@[simp] theorem Dev.iport_of_mapExt (d : Dev) (f : ExtMem → ExtMem) (i : Nat) : (d.mapExt f).iport i = d.iport i := rfl
@[simp] theorem Dev.pin_of_mapExt (d : Dev) (f : ExtMem → ExtMem) (i : Nat) : (d.mapExt f).pin i = d.pin i := rfl
@[simp] theorem Dev.queue_of_mapExt (d : Dev) (f : ExtMem → ExtMem) (i : Nat) : (d.mapExt f).queue i = d.queue i := rfl
@[simp] theorem Dev.slot_of_mapExt (d : Dev) (f : ExtMem → ExtMem) (i j : Nat) : (d.mapExt f).slot i j = d.slot i j := rfl
@[simp] theorem Dev.periph_of_mapExt (d : Dev) (f : ExtMem → ExtMem) (i j : Nat) : (d.mapExt f).periph i j = d.periph i j := rfl
@[simp] theorem Dev.ring_of_chipWrite (d : Dev) (a : Nat) (bs : List Byte) (i : Nat) : (d.chipWrite a bs).ring i = d.ring i := rfl
@[simp] theorem Dev.eng_of_chipWrite (d : Dev) (a : Nat) (bs : List Byte) (i : Nat) : (d.chipWrite a bs).eng i = d.eng i := rfl
@[simp] theorem Dev.port_of_chipWrite (d : Dev) (a : Nat) (bs : List Byte) (i : Nat) : (d.chipWrite a bs).port i = d.port i := rfl
@[simp] theorem Dev.boat_of_chipWrite (d : Dev) (a : Nat) (bs : List Byte) (i : Nat) : (d.chipWrite a bs).boat i = d.boat i := rfl
@[simp] theorem Dev.iport_of_chipWrite (d : Dev) (a : Nat) (bs : List Byte) (i : Nat) : (d.chipWrite a bs).iport i = d.iport i := rfl
@[simp] theorem Dev.pin_of_chipWrite (d : Dev) (a : Nat) (bs : List Byte) (i : Nat) : (d.chipWrite a bs).pin i = d.pin i := rfl
@[simp] theorem Dev.queue_of_chipWrite (d : Dev) (a : Nat) (bs : List Byte) (i : Nat) : (d.chipWrite a bs).queue i = d.queue i := rfl
@[simp] theorem Dev.slot_of_chipWrite (d : Dev) (a : Nat) (bs : List Byte) (i j : Nat) : (d.chipWrite a bs).slot i j = d.slot i j := rfl
@[simp] theorem Dev.periph_of_chipWrite (d : Dev) (a : Nat) (bs : List Byte) (i j : Nat) : (d.chipWrite a bs).periph i j = d.periph i j := rfl
@[simp] theorem Dev.ring_of_setChipFlaw (d : Dev) (a : Nat) (x : Flaw) (i : Nat) : (d.setChipFlaw a x).ring i = d.ring i := rfl
@[simp] theorem Dev.eng_of_setChipFlaw (d : Dev) (a : Nat) (x : Flaw) (i : Nat) : (d.setChipFlaw a x).eng i = d.eng i := rfl
@[simp] theorem Dev.port_of_setChipFlaw (d : Dev) (a : Nat) (x : Flaw) (i : Nat) : (d.setChipFlaw a x).port i = d.port i := rfl
@[simp] theorem Dev.boat_of_setChipFlaw (d : Dev) (a : Nat) (x : Flaw) (i : Nat) : (d.setChipFlaw a x).boat i = d.boat i := rfl
@[simp] theorem Dev.iport_of_setChipFlaw (d : Dev) (a : Nat) (x : Flaw) (i : Nat) : (d.setChipFlaw a x).iport i = d.iport i := rfl
@[simp] theorem Dev.pin_of_setChipFlaw (d : Dev) (a : Nat) (x : Flaw) (i : Nat) : (d.setChipFlaw a x).pin i = d.pin i := rfl
@[simp] theorem Dev.queue_of_setChipFlaw (d : Dev) (a : Nat) (x : Flaw) (i : Nat) : (d.setChipFlaw a x).queue i = d.queue i := rfl
@[simp] theorem Dev.slot_of_setChipFlaw (d : Dev) (a : Nat) (x : Flaw) (i j : Nat) : (d.setChipFlaw a x).slot i j = d.slot i j := rfl
@[simp] theorem Dev.periph_of_setChipFlaw (d : Dev) (a : Nat) (x : Flaw) (i j : Nat) : (d.setChipFlaw a x).periph i j = d.periph i j := rfl
@[simp] theorem Dev.ring_of_chipZero (d : Dev) (a n : Nat) (i : Nat) : (d.chipZero a n).ring i = d.ring i := rfl
@[simp] theorem Dev.eng_of_chipZero (d : Dev) (a n : Nat) (i : Nat) : (d.chipZero a n).eng i = d.eng i := rfl
@[simp] theorem Dev.port_of_chipZero (d : Dev) (a n : Nat) (i : Nat) : (d.chipZero a n).port i = d.port i := rfl
@[simp] theorem Dev.boat_of_chipZero (d : Dev) (a n : Nat) (i : Nat) : (d.chipZero a n).boat i = d.boat i := rfl
@[simp] theorem Dev.iport_of_chipZero (d : Dev) (a n : Nat) (i : Nat) : (d.chipZero a n).iport i = d.iport i := rfl
@[simp] theorem Dev.pin_of_chipZero (d : Dev) (a n : Nat) (i : Nat) : (d.chipZero a n).pin i = d.pin i := rfl
@[simp] theorem Dev.queue_of_chipZero (d : Dev) (a n : Nat) (i : Nat) : (d.chipZero a n).queue i = d.queue i := rfl
@[simp] theorem Dev.slot_of_chipZero (d : Dev) (a n : Nat) (i j : Nat) : (d.chipZero a n).slot i j = d.slot i j := rfl
@[simp] theorem Dev.periph_of_chipZero (d : Dev) (a n : Nat) (i j : Nat) : (d.chipZero a n).periph i j = d.periph i j := rfl

/-! ### One element of a part -/

@[simp] theorem Dev.ring_mapRing_same (d : Dev) (r : Nat) (f : Ring → Ring) : (mapRing r f d).ring r = f (d.ring r) := sget_sset_same _ _ _ _
theorem Dev.ring_mapRing_other (d : Dev) (r : Nat) (f : Ring → Ring) (i : Nat) (h : i ≠ r) : (mapRing r f d).ring i = d.ring i := sget_sset_other _ _ _ _ h
@[simp] theorem Dev.eng_mapEng_same (d : Dev) (r : Nat) (f : EngSt → EngSt) : (mapEng r f d).eng r = f (d.eng r) := sget_sset_same _ _ _ _
theorem Dev.eng_mapEng_other (d : Dev) (r : Nat) (f : EngSt → EngSt) (i : Nat) (h : i ≠ r) : (mapEng r f d).eng i = d.eng i := sget_sset_other _ _ _ _ h
@[simp] theorem Dev.port_mapPort_same (d : Dev) (r : Nat) (f : PortSt → PortSt) : (mapPort r f d).port r = f (d.port r) := sget_sset_same _ _ _ _
theorem Dev.port_mapPort_other (d : Dev) (r : Nat) (f : PortSt → PortSt) (i : Nat) (h : i ≠ r) : (mapPort r f d).port i = d.port i := sget_sset_other _ _ _ _ h
@[simp] theorem Dev.boat_mapBoat_same (d : Dev) (r : Nat) (f : BoatSt → BoatSt) : (mapBoat r f d).boat r = f (d.boat r) := sget_sset_same _ _ _ _
theorem Dev.boat_mapBoat_other (d : Dev) (r : Nat) (f : BoatSt → BoatSt) (i : Nat) (h : i ≠ r) : (mapBoat r f d).boat i = d.boat i := sget_sset_other _ _ _ _ h
@[simp] theorem Dev.iport_mapIport_same (d : Dev) (r : Nat) (f : IclPort → IclPort) : (mapIport r f d).iport r = f (d.iport r) := sget_sset_same _ _ _ _
theorem Dev.iport_mapIport_other (d : Dev) (r : Nat) (f : IclPort → IclPort) (i : Nat) (h : i ≠ r) : (mapIport r f d).iport i = d.iport i := sget_sset_other _ _ _ _ h
@[simp] theorem Dev.pin_mapPin_same (d : Dev) (r : Nat) (f : PinSt → PinSt) : (mapPin r f d).pin r = f (d.pin r) := sget_sset_same _ _ _ _
theorem Dev.pin_mapPin_other (d : Dev) (r : Nat) (f : PinSt → PinSt) (i : Nat) (h : i ≠ r) : (mapPin r f d).pin i = d.pin i := sget_sset_other _ _ _ _ h
@[simp] theorem Dev.slot_mapSlot_same (d : Dev) (r t : Nat) (f : SlotSt → SlotSt) :
    (mapSlot r t f d).slot r t = f (d.slot r t) := sget_sset_same _ _ _ _
theorem Dev.slot_mapSlot_other (d : Dev) (r t r' t' : Nat) (f : SlotSt → SlotSt) (h : 32 * r' + t' ≠ 32 * r + t) :
    (mapSlot r t f d).slot r' t' = d.slot r' t' := sget_sset_other _ _ _ _ h
@[simp] theorem Dev.queue_setQueue_same (d : Dev) (q : Nat) (x : QSt) : (d.setQueue q x).queue q = x := sget_sset_same _ _ _ _
theorem Dev.queue_setQueue_other (d : Dev) (q i : Nat) (x : QSt) (h : i ≠ q) : (d.setQueue q x).queue i = d.queue i :=
  sget_sset_other _ _ _ _ h

end Sys2Proof.Machine
end

