-- ==== Sys2Proof/Laws/Shared.lean ====
section
/-! SUPPORT. Laws of shared operations: what each leaves of every part and of the register fields. -/
namespace Sys2Proof.Machine
open Sys2Proof.Machine.Reg


/-! ### bbr -/

@[simp] theorem Dev.bbr_rings (d : Dev) (a b : Nat) (c : Bool) (x y : Nat) : (d.bbr a b c x y).rings = d.rings := by
  simp only [Dev.bbr]; split <;> rfl
@[simp] theorem Dev.bbr_tg (d : Dev) (a b : Nat) (c : Bool) (x y : Nat) : (d.bbr a b c x y).tg = d.tg := by
  simp only [Dev.bbr]; split <;> rfl
@[simp] theorem Dev.bbr_chip (d : Dev) (a b : Nat) (c : Bool) (x y : Nat) : (d.bbr a b c x y).chip = d.chip := by
  simp only [Dev.bbr]; split <;> rfl
@[simp] theorem Dev.bbr_qm (d : Dev) (a b : Nat) (c : Bool) (x y : Nat) : (d.bbr a b c x y).qm = d.qm := by
  simp only [Dev.bbr]; split <;> rfl
@[simp] theorem Dev.bbr_xm (d : Dev) (a b : Nat) (c : Bool) (x y : Nat) : (d.bbr a b c x y).xm = d.xm := by
  simp only [Dev.bbr]; split <;> rfl
@[simp] theorem Dev.bbr_slots (d : Dev) (a b : Nat) (c : Bool) (x y : Nat) : (d.bbr a b c x y).slots = d.slots := by
  simp only [Dev.bbr]; split <;> rfl
@[simp] theorem Dev.bbr_cx (d : Dev) (a b : Nat) (c : Bool) (x y : Nat) : (d.bbr a b c x y).cx = d.cx := by
  simp only [Dev.bbr]; split <;> rfl
@[simp] theorem Dev.bbr_engs (d : Dev) (a b : Nat) (c : Bool) (x y : Nat) : (d.bbr a b c x y).engs = d.engs := by
  simp only [Dev.bbr]; split <;> rfl
@[simp] theorem Dev.bbr_net (d : Dev) (a b : Nat) (c : Bool) (x y : Nat) : (d.bbr a b c x y).net = d.net := by
  simp only [Dev.bbr]; split <;> rfl
@[simp] theorem Dev.bbr_icl (d : Dev) (a b : Nat) (c : Bool) (x y : Nat) : (d.bbr a b c x y).icl = d.icl := by
  simp only [Dev.bbr]; split <;> rfl
@[simp] theorem Dev.bbr_cfg (d : Dev) (a b : Nat) (c : Bool) (x y : Nat) : (d.bbr a b c x y).cfg = d.cfg := by
  simp only [Dev.bbr]; split <;> rfl
@[simp] theorem Dev.bbr_trim (d : Dev) (a b : Nat) (c : Bool) (x y : Nat) : (d.bbr a b c x y).trim = d.trim := by
  simp only [Dev.bbr]; split <;> rfl
@[simp] theorem Dev.bbr_car (d : Dev) (a b : Nat) (c : Bool) (x y : Nat) : (d.bbr a b c x y).car = d.car := by
  simp only [Dev.bbr]; split <;> rfl
@[simp] theorem Dev.bbr_bist (d : Dev) (a b : Nat) (c : Bool) (x y : Nat) : (d.bbr a b c x y).bist = d.bist := by
  simp only [Dev.bbr]; split <;> rfl
@[simp] theorem Dev.bbr_pins (d : Dev) (a b : Nat) (c : Bool) (x y : Nat) : (d.bbr a b c x y).pins = d.pins := by
  simp only [Dev.bbr]; split <;> rfl
@[simp] theorem Dev.bbr_host (d : Dev) (a b : Nat) (c : Bool) (x y : Nat) : (d.bbr a b c x y).host = d.host := by
  simp only [Dev.bbr]; split <;> rfl
@[simp] theorem Dev.bbr_xstop (d : Dev) (a b : Nat) (c : Bool) (x y : Nat) : (d.bbr a b c x y).xstop = d.xstop := by
  simp only [Dev.bbr]; split <;> rfl
@[simp] theorem Dev.bbr_time (d : Dev) (a b : Nat) (c : Bool) (x y : Nat) : (d.bbr a b c x y).ctl.time = d.ctl.time := by
  simp only [Dev.bbr]; split <;> rfl
@[simp] theorem Dev.bbr_ans (d : Dev) (a b : Nat) (c : Bool) (x y : Nat) : (d.bbr a b c x y).ctl.ans = d.ctl.ans := by
  simp only [Dev.bbr]; split <;> rfl
@[simp] theorem Dev.bbr_out (d : Dev) (a b : Nat) (c : Bool) (x y : Nat) : (d.bbr a b c x y).ctl.out = d.ctl.out := by
  simp only [Dev.bbr]; split <;> rfl
@[simp] theorem Dev.bbr_fresh (d : Dev) (a b : Nat) (c : Bool) (x y : Nat) : (d.bbr a b c x y).ctl.fresh = d.ctl.fresh := by
  simp only [Dev.bbr]; split <;> rfl
theorem Dev.get_bbr (d : Dev) (a b : Nat) (c : Bool) (x y : Nat) (g : Fld) (h0 : g.key ≠ BBR_LOST_QUEUE.key) :
    (d.bbr a b c x y).get g = d.get g := by
  simp only [Dev.bbr]; split
  · rfl
  · exact Dev.get_set_other _ _ _ _ (h0)

/-! ### Repetition -/

/-- What every round leaves, the repetition leaves. -/
theorem forEach_keeps {α β : Type} (p : Dev → β) (f : α → Dev → Dev) (h : ∀ x d, p (f x d) = p d) (xs : List α) (d : Dev) :
    p (forEach xs d f) = p d := by
  induction xs generalizing d with
  | nil => rfl
  | cons x xs ih => exact (ih (f x d)).trans (h x d)


/-! ### noteTicks -/

@[simp] theorem noteTick_tg (r : Nat) (d : Dev) : (noteTick r d).tg = d.tg := rfl
@[simp] theorem noteTick_chip (r : Nat) (d : Dev) : (noteTick r d).chip = d.chip := rfl
@[simp] theorem noteTick_qm (r : Nat) (d : Dev) : (noteTick r d).qm = d.qm := rfl
@[simp] theorem noteTick_xm (r : Nat) (d : Dev) : (noteTick r d).xm = d.xm := rfl
@[simp] theorem noteTick_slots (r : Nat) (d : Dev) : (noteTick r d).slots = d.slots := rfl
@[simp] theorem noteTick_cx (r : Nat) (d : Dev) : (noteTick r d).cx = d.cx := rfl
@[simp] theorem noteTick_engs (r : Nat) (d : Dev) : (noteTick r d).engs = d.engs := rfl
@[simp] theorem noteTick_net (r : Nat) (d : Dev) : (noteTick r d).net = d.net := rfl
@[simp] theorem noteTick_icl (r : Nat) (d : Dev) : (noteTick r d).icl = d.icl := rfl
@[simp] theorem noteTick_cfg (r : Nat) (d : Dev) : (noteTick r d).cfg = d.cfg := rfl
@[simp] theorem noteTick_trim (r : Nat) (d : Dev) : (noteTick r d).trim = d.trim := rfl
@[simp] theorem noteTick_car (r : Nat) (d : Dev) : (noteTick r d).car = d.car := rfl
@[simp] theorem noteTick_bist (r : Nat) (d : Dev) : (noteTick r d).bist = d.bist := rfl
@[simp] theorem noteTick_pins (r : Nat) (d : Dev) : (noteTick r d).pins = d.pins := rfl
@[simp] theorem noteTick_host (r : Nat) (d : Dev) : (noteTick r d).host = d.host := rfl
@[simp] theorem noteTick_xstop (r : Nat) (d : Dev) : (noteTick r d).xstop = d.xstop := rfl
@[simp] theorem noteTick_time (r : Nat) (d : Dev) : (noteTick r d).ctl.time = d.ctl.time := rfl
@[simp] theorem noteTick_bbr (r : Nat) (d : Dev) : (noteTick r d).ctl.bbr = d.ctl.bbr := rfl
@[simp] theorem noteTick_ans (r : Nat) (d : Dev) : (noteTick r d).ctl.ans = d.ctl.ans := rfl
@[simp] theorem noteTick_out (r : Nat) (d : Dev) : (noteTick r d).ctl.out = d.ctl.out := rfl
@[simp] theorem noteTick_fresh (r : Nat) (d : Dev) : (noteTick r d).ctl.fresh = d.ctl.fresh := rfl
@[simp] theorem Dev.get_noteTick (r : Nat) (d : Dev) (g : Fld) : (noteTick r d).get g = d.get g := rfl
@[simp] theorem noteTicks_tg  (d : Dev) : (noteTicks d).tg = d.tg :=
  forEach_keeps (fun d => d.tg) noteTick (fun _ _ => rfl) _ d
@[simp] theorem noteTicks_chip  (d : Dev) : (noteTicks d).chip = d.chip :=
  forEach_keeps (fun d => d.chip) noteTick (fun _ _ => rfl) _ d
@[simp] theorem noteTicks_qm  (d : Dev) : (noteTicks d).qm = d.qm :=
  forEach_keeps (fun d => d.qm) noteTick (fun _ _ => rfl) _ d
@[simp] theorem noteTicks_xm  (d : Dev) : (noteTicks d).xm = d.xm :=
  forEach_keeps (fun d => d.xm) noteTick (fun _ _ => rfl) _ d
@[simp] theorem noteTicks_slots  (d : Dev) : (noteTicks d).slots = d.slots :=
  forEach_keeps (fun d => d.slots) noteTick (fun _ _ => rfl) _ d
@[simp] theorem noteTicks_cx  (d : Dev) : (noteTicks d).cx = d.cx :=
  forEach_keeps (fun d => d.cx) noteTick (fun _ _ => rfl) _ d
@[simp] theorem noteTicks_engs  (d : Dev) : (noteTicks d).engs = d.engs :=
  forEach_keeps (fun d => d.engs) noteTick (fun _ _ => rfl) _ d
@[simp] theorem noteTicks_net  (d : Dev) : (noteTicks d).net = d.net :=
  forEach_keeps (fun d => d.net) noteTick (fun _ _ => rfl) _ d
@[simp] theorem noteTicks_icl  (d : Dev) : (noteTicks d).icl = d.icl :=
  forEach_keeps (fun d => d.icl) noteTick (fun _ _ => rfl) _ d
@[simp] theorem noteTicks_cfg  (d : Dev) : (noteTicks d).cfg = d.cfg :=
  forEach_keeps (fun d => d.cfg) noteTick (fun _ _ => rfl) _ d
@[simp] theorem noteTicks_trim  (d : Dev) : (noteTicks d).trim = d.trim :=
  forEach_keeps (fun d => d.trim) noteTick (fun _ _ => rfl) _ d
@[simp] theorem noteTicks_car  (d : Dev) : (noteTicks d).car = d.car :=
  forEach_keeps (fun d => d.car) noteTick (fun _ _ => rfl) _ d
@[simp] theorem noteTicks_bist  (d : Dev) : (noteTicks d).bist = d.bist :=
  forEach_keeps (fun d => d.bist) noteTick (fun _ _ => rfl) _ d
@[simp] theorem noteTicks_pins  (d : Dev) : (noteTicks d).pins = d.pins :=
  forEach_keeps (fun d => d.pins) noteTick (fun _ _ => rfl) _ d
@[simp] theorem noteTicks_host  (d : Dev) : (noteTicks d).host = d.host :=
  forEach_keeps (fun d => d.host) noteTick (fun _ _ => rfl) _ d
@[simp] theorem noteTicks_xstop  (d : Dev) : (noteTicks d).xstop = d.xstop :=
  forEach_keeps (fun d => d.xstop) noteTick (fun _ _ => rfl) _ d
@[simp] theorem noteTicks_time  (d : Dev) : (noteTicks d).ctl.time = d.ctl.time :=
  forEach_keeps (fun d => d.ctl.time) noteTick (fun _ _ => rfl) _ d
@[simp] theorem noteTicks_bbr  (d : Dev) : (noteTicks d).ctl.bbr = d.ctl.bbr :=
  forEach_keeps (fun d => d.ctl.bbr) noteTick (fun _ _ => rfl) _ d
@[simp] theorem noteTicks_ans  (d : Dev) : (noteTicks d).ctl.ans = d.ctl.ans :=
  forEach_keeps (fun d => d.ctl.ans) noteTick (fun _ _ => rfl) _ d
@[simp] theorem noteTicks_out  (d : Dev) : (noteTicks d).ctl.out = d.ctl.out :=
  forEach_keeps (fun d => d.ctl.out) noteTick (fun _ _ => rfl) _ d
@[simp] theorem noteTicks_fresh  (d : Dev) : (noteTicks d).ctl.fresh = d.ctl.fresh :=
  forEach_keeps (fun d => d.ctl.fresh) noteTick (fun _ _ => rfl) _ d
@[simp] theorem Dev.get_noteTicks  (d : Dev) (g : Fld) : (noteTicks d).get g = d.get g :=
  forEach_keeps (fun d => d.get g) noteTick (fun _ _ => rfl) _ d
/-! ### Commanded voltages -/

@[simp] theorem commandBy_chip (b : Bool) (mv : Nat) (d : Dev) : (commandBy b mv d).chip = d.chip :=
  noteTicks_chip _
@[simp] theorem commandBy_qm (b : Bool) (mv : Nat) (d : Dev) : (commandBy b mv d).qm = d.qm :=
  noteTicks_qm _
@[simp] theorem commandBy_xm (b : Bool) (mv : Nat) (d : Dev) : (commandBy b mv d).xm = d.xm :=
  noteTicks_xm _
@[simp] theorem commandBy_slots (b : Bool) (mv : Nat) (d : Dev) : (commandBy b mv d).slots = d.slots :=
  noteTicks_slots _
@[simp] theorem commandBy_cx (b : Bool) (mv : Nat) (d : Dev) : (commandBy b mv d).cx = d.cx :=
  noteTicks_cx _
@[simp] theorem commandBy_engs (b : Bool) (mv : Nat) (d : Dev) : (commandBy b mv d).engs = d.engs :=
  noteTicks_engs _
@[simp] theorem commandBy_net (b : Bool) (mv : Nat) (d : Dev) : (commandBy b mv d).net = d.net :=
  noteTicks_net _
@[simp] theorem commandBy_icl (b : Bool) (mv : Nat) (d : Dev) : (commandBy b mv d).icl = d.icl :=
  noteTicks_icl _
@[simp] theorem commandBy_cfg (b : Bool) (mv : Nat) (d : Dev) : (commandBy b mv d).cfg = d.cfg :=
  noteTicks_cfg _
@[simp] theorem commandBy_trim (b : Bool) (mv : Nat) (d : Dev) : (commandBy b mv d).trim = d.trim :=
  noteTicks_trim _
@[simp] theorem commandBy_car (b : Bool) (mv : Nat) (d : Dev) : (commandBy b mv d).car = d.car :=
  noteTicks_car _
@[simp] theorem commandBy_bist (b : Bool) (mv : Nat) (d : Dev) : (commandBy b mv d).bist = d.bist :=
  noteTicks_bist _
@[simp] theorem commandBy_pins (b : Bool) (mv : Nat) (d : Dev) : (commandBy b mv d).pins = d.pins :=
  noteTicks_pins _
@[simp] theorem commandBy_host (b : Bool) (mv : Nat) (d : Dev) : (commandBy b mv d).host = d.host :=
  noteTicks_host _
@[simp] theorem commandBy_xstop (b : Bool) (mv : Nat) (d : Dev) : (commandBy b mv d).xstop = d.xstop :=
  noteTicks_xstop _
@[simp] theorem commandBy_time (b : Bool) (mv : Nat) (d : Dev) : (commandBy b mv d).ctl.time = d.ctl.time :=
  noteTicks_time _
@[simp] theorem commandBy_bbr (b : Bool) (mv : Nat) (d : Dev) : (commandBy b mv d).ctl.bbr = d.ctl.bbr :=
  noteTicks_bbr _
@[simp] theorem commandBy_ans (b : Bool) (mv : Nat) (d : Dev) : (commandBy b mv d).ctl.ans = d.ctl.ans :=
  noteTicks_ans _
@[simp] theorem commandBy_out (b : Bool) (mv : Nat) (d : Dev) : (commandBy b mv d).ctl.out = d.ctl.out :=
  noteTicks_out _
@[simp] theorem commandBy_fresh (b : Bool) (mv : Nat) (d : Dev) : (commandBy b mv d).ctl.fresh = d.ctl.fresh :=
  noteTicks_fresh _
@[simp] theorem command_chip (d : Dev) (mv : Nat) : (command mv d).chip = d.chip := commandBy_chip _ _ _
@[simp] theorem command_qm (d : Dev) (mv : Nat) : (command mv d).qm = d.qm := commandBy_qm _ _ _
@[simp] theorem command_xm (d : Dev) (mv : Nat) : (command mv d).xm = d.xm := commandBy_xm _ _ _
@[simp] theorem command_slots (d : Dev) (mv : Nat) : (command mv d).slots = d.slots := commandBy_slots _ _ _
@[simp] theorem command_cx (d : Dev) (mv : Nat) : (command mv d).cx = d.cx := commandBy_cx _ _ _
@[simp] theorem command_engs (d : Dev) (mv : Nat) : (command mv d).engs = d.engs := commandBy_engs _ _ _
@[simp] theorem command_net (d : Dev) (mv : Nat) : (command mv d).net = d.net := commandBy_net _ _ _
@[simp] theorem command_icl (d : Dev) (mv : Nat) : (command mv d).icl = d.icl := commandBy_icl _ _ _
@[simp] theorem command_cfg (d : Dev) (mv : Nat) : (command mv d).cfg = d.cfg := commandBy_cfg _ _ _
@[simp] theorem command_trim (d : Dev) (mv : Nat) : (command mv d).trim = d.trim := commandBy_trim _ _ _
@[simp] theorem command_car (d : Dev) (mv : Nat) : (command mv d).car = d.car := commandBy_car _ _ _
@[simp] theorem command_bist (d : Dev) (mv : Nat) : (command mv d).bist = d.bist := commandBy_bist _ _ _
@[simp] theorem command_pins (d : Dev) (mv : Nat) : (command mv d).pins = d.pins := commandBy_pins _ _ _
@[simp] theorem command_host (d : Dev) (mv : Nat) : (command mv d).host = d.host := commandBy_host _ _ _
@[simp] theorem command_xstop (d : Dev) (mv : Nat) : (command mv d).xstop = d.xstop := commandBy_xstop _ _ _
@[simp] theorem command_time (d : Dev) (mv : Nat) : (command mv d).ctl.time = d.ctl.time := commandBy_time _ _ _
@[simp] theorem command_bbr (d : Dev) (mv : Nat) : (command mv d).ctl.bbr = d.ctl.bbr := commandBy_bbr _ _ _
@[simp] theorem command_ans (d : Dev) (mv : Nat) : (command mv d).ctl.ans = d.ctl.ans := commandBy_ans _ _ _
@[simp] theorem command_out (d : Dev) (mv : Nat) : (command mv d).ctl.out = d.ctl.out := commandBy_out _ _ _
@[simp] theorem command_fresh (d : Dev) (mv : Nat) : (command mv d).ctl.fresh = d.ctl.fresh := commandBy_fresh _ _ _
@[simp] theorem commandNow_chip (d : Dev) (mv : Nat) : (commandNow mv d).chip = d.chip := commandBy_chip _ _ _
@[simp] theorem commandNow_qm (d : Dev) (mv : Nat) : (commandNow mv d).qm = d.qm := commandBy_qm _ _ _
@[simp] theorem commandNow_xm (d : Dev) (mv : Nat) : (commandNow mv d).xm = d.xm := commandBy_xm _ _ _
@[simp] theorem commandNow_slots (d : Dev) (mv : Nat) : (commandNow mv d).slots = d.slots := commandBy_slots _ _ _
@[simp] theorem commandNow_cx (d : Dev) (mv : Nat) : (commandNow mv d).cx = d.cx := commandBy_cx _ _ _
@[simp] theorem commandNow_engs (d : Dev) (mv : Nat) : (commandNow mv d).engs = d.engs := commandBy_engs _ _ _
@[simp] theorem commandNow_net (d : Dev) (mv : Nat) : (commandNow mv d).net = d.net := commandBy_net _ _ _
@[simp] theorem commandNow_icl (d : Dev) (mv : Nat) : (commandNow mv d).icl = d.icl := commandBy_icl _ _ _
@[simp] theorem commandNow_cfg (d : Dev) (mv : Nat) : (commandNow mv d).cfg = d.cfg := commandBy_cfg _ _ _
@[simp] theorem commandNow_trim (d : Dev) (mv : Nat) : (commandNow mv d).trim = d.trim := commandBy_trim _ _ _
@[simp] theorem commandNow_car (d : Dev) (mv : Nat) : (commandNow mv d).car = d.car := commandBy_car _ _ _
@[simp] theorem commandNow_bist (d : Dev) (mv : Nat) : (commandNow mv d).bist = d.bist := commandBy_bist _ _ _
@[simp] theorem commandNow_pins (d : Dev) (mv : Nat) : (commandNow mv d).pins = d.pins := commandBy_pins _ _ _
@[simp] theorem commandNow_host (d : Dev) (mv : Nat) : (commandNow mv d).host = d.host := commandBy_host _ _ _
@[simp] theorem commandNow_xstop (d : Dev) (mv : Nat) : (commandNow mv d).xstop = d.xstop := commandBy_xstop _ _ _
@[simp] theorem commandNow_time (d : Dev) (mv : Nat) : (commandNow mv d).ctl.time = d.ctl.time := commandBy_time _ _ _
@[simp] theorem commandNow_bbr (d : Dev) (mv : Nat) : (commandNow mv d).ctl.bbr = d.ctl.bbr := commandBy_bbr _ _ _
@[simp] theorem commandNow_ans (d : Dev) (mv : Nat) : (commandNow mv d).ctl.ans = d.ctl.ans := commandBy_ans _ _ _
@[simp] theorem commandNow_out (d : Dev) (mv : Nat) : (commandNow mv d).ctl.out = d.ctl.out := commandBy_out _ _ _
@[simp] theorem commandNow_fresh (d : Dev) (mv : Nat) : (commandNow mv d).ctl.fresh = d.ctl.fresh := commandBy_fresh _ _ _
/-- A commanded voltage changes BELOW_FLOOR alone among the register fields. -/
theorem Dev.get_commandBy (b : Bool) (d : Dev) (mv : Nat) (g : Fld) (h0 : g.key ≠ TG_STATUS_BELOW_FLOOR.key) :
    (commandBy b mv d).get g = d.get g := (Dev.get_noteTicks _ g).trans (Dev.get_set_other _ _ _ _ h0)
theorem Dev.get_command (d : Dev) (mv : Nat) (g : Fld) (h0 : g.key ≠ TG_STATUS_BELOW_FLOOR.key) :
    (command mv d).get g = d.get g := Dev.get_commandBy _ _ _ _ h0
theorem Dev.get_commandNow (d : Dev) (mv : Nat) (g : Fld) (h0 : g.key ≠ TG_STATUS_BELOW_FLOOR.key) :
    (commandNow mv d).get g = d.get g := Dev.get_commandBy _ _ _ _ h0

/-! ### recomputeCeil -/

@[simp] theorem recomputeCeil_rings (d : Dev)  : (recomputeCeil d).rings = d.rings := by
  simp only [recomputeCeil]; split <;> rfl
@[simp] theorem recomputeCeil_tg (d : Dev)  : (recomputeCeil d).tg = d.tg := by
  simp only [recomputeCeil]; split <;> rfl
@[simp] theorem recomputeCeil_chip (d : Dev)  : (recomputeCeil d).chip = d.chip := by
  simp only [recomputeCeil]; split <;> rfl
@[simp] theorem recomputeCeil_qm (d : Dev)  : (recomputeCeil d).qm = d.qm := by
  simp only [recomputeCeil]; split <;> rfl
@[simp] theorem recomputeCeil_xm (d : Dev)  : (recomputeCeil d).xm = d.xm := by
  simp only [recomputeCeil]; split <;> rfl
@[simp] theorem recomputeCeil_slots (d : Dev)  : (recomputeCeil d).slots = d.slots := by
  simp only [recomputeCeil]; split <;> rfl
@[simp] theorem recomputeCeil_cx (d : Dev)  : (recomputeCeil d).cx = d.cx := by
  simp only [recomputeCeil]; split <;> rfl
@[simp] theorem recomputeCeil_engs (d : Dev)  : (recomputeCeil d).engs = d.engs := by
  simp only [recomputeCeil]; split <;> rfl
@[simp] theorem recomputeCeil_net (d : Dev)  : (recomputeCeil d).net = d.net := by
  simp only [recomputeCeil]; split <;> rfl
@[simp] theorem recomputeCeil_icl (d : Dev)  : (recomputeCeil d).icl = d.icl := by
  simp only [recomputeCeil]; split <;> rfl
@[simp] theorem recomputeCeil_cfg (d : Dev)  : (recomputeCeil d).cfg = d.cfg := by
  simp only [recomputeCeil]; split <;> rfl
@[simp] theorem recomputeCeil_trim (d : Dev)  : (recomputeCeil d).trim = d.trim := by
  simp only [recomputeCeil]; split <;> rfl
@[simp] theorem recomputeCeil_car (d : Dev)  : (recomputeCeil d).car = d.car := by
  simp only [recomputeCeil]; split <;> rfl
@[simp] theorem recomputeCeil_bist (d : Dev)  : (recomputeCeil d).bist = d.bist := by
  simp only [recomputeCeil]; split <;> rfl
@[simp] theorem recomputeCeil_pins (d : Dev)  : (recomputeCeil d).pins = d.pins := by
  simp only [recomputeCeil]; split <;> rfl
@[simp] theorem recomputeCeil_host (d : Dev)  : (recomputeCeil d).host = d.host := by
  simp only [recomputeCeil]; split <;> rfl
@[simp] theorem recomputeCeil_xstop (d : Dev)  : (recomputeCeil d).xstop = d.xstop := by
  simp only [recomputeCeil]; split <;> rfl
@[simp] theorem recomputeCeil_time (d : Dev)  : (recomputeCeil d).ctl.time = d.ctl.time := by
  simp only [recomputeCeil]; split <;> rfl
@[simp] theorem recomputeCeil_bbr (d : Dev)  : (recomputeCeil d).ctl.bbr = d.ctl.bbr := by
  simp only [recomputeCeil]; split <;> rfl
@[simp] theorem recomputeCeil_ans (d : Dev)  : (recomputeCeil d).ctl.ans = d.ctl.ans := by
  simp only [recomputeCeil]; split <;> rfl
@[simp] theorem recomputeCeil_out (d : Dev)  : (recomputeCeil d).ctl.out = d.ctl.out := by
  simp only [recomputeCeil]; split <;> rfl
@[simp] theorem recomputeCeil_fresh (d : Dev)  : (recomputeCeil d).ctl.fresh = d.ctl.fresh := by
  simp only [recomputeCeil]; split <;> rfl
theorem Dev.get_recomputeCeil (d : Dev) (g : Fld) (h0 : g.key ≠ RM_CONTRACT_CEIL_NONE.key)
    (h1 : g.key ≠ RM_CONTRACT_CEIL_LIMIT_RING.key) (h2 : g.key ≠ RM_CONTRACT_CEIL_CEIL.key)
    (h3 : g.key ≠ RM_CONTRACT_STATUS_VSAFE_LOW.key) : (recomputeCeil d).get g = d.get g := by
  simp only [recomputeCeil]
  split
  · exact (Dev.get_set_other _ _ _ _ h3).trans ((Dev.get_set_other _ _ _ _ h2).trans
      ((Dev.get_set_other _ _ _ _ h1).trans (Dev.get_set_other _ _ _ _ h0)))
  · exact (Dev.get_set_other _ _ _ _ h2).trans ((Dev.get_set_other _ _ _ _ h1).trans (Dev.get_set_other _ _ _ _ h0))

/-! ### recomputeFloor -/

@[simp] theorem recomputeFloor_rings (d : Dev)  : (recomputeFloor d).rings = d.rings := by
  simp only [recomputeFloor]; split <;> rfl
@[simp] theorem recomputeFloor_tg (d : Dev)  : (recomputeFloor d).tg = d.tg := by
  simp only [recomputeFloor]; split <;> rfl
@[simp] theorem recomputeFloor_chip (d : Dev)  : (recomputeFloor d).chip = d.chip := by
  simp only [recomputeFloor]; split <;> rfl
@[simp] theorem recomputeFloor_qm (d : Dev)  : (recomputeFloor d).qm = d.qm := by
  simp only [recomputeFloor]; split <;> rfl
@[simp] theorem recomputeFloor_xm (d : Dev)  : (recomputeFloor d).xm = d.xm := by
  simp only [recomputeFloor]; split <;> rfl
@[simp] theorem recomputeFloor_slots (d : Dev)  : (recomputeFloor d).slots = d.slots := by
  simp only [recomputeFloor]; split <;> rfl
@[simp] theorem recomputeFloor_cx (d : Dev)  : (recomputeFloor d).cx = d.cx := by
  simp only [recomputeFloor]; split <;> rfl
@[simp] theorem recomputeFloor_engs (d : Dev)  : (recomputeFloor d).engs = d.engs := by
  simp only [recomputeFloor]; split <;> rfl
@[simp] theorem recomputeFloor_net (d : Dev)  : (recomputeFloor d).net = d.net := by
  simp only [recomputeFloor]; split <;> rfl
@[simp] theorem recomputeFloor_icl (d : Dev)  : (recomputeFloor d).icl = d.icl := by
  simp only [recomputeFloor]; split <;> rfl
@[simp] theorem recomputeFloor_cfg (d : Dev)  : (recomputeFloor d).cfg = d.cfg := by
  simp only [recomputeFloor]; split <;> rfl
@[simp] theorem recomputeFloor_trim (d : Dev)  : (recomputeFloor d).trim = d.trim := by
  simp only [recomputeFloor]; split <;> rfl
@[simp] theorem recomputeFloor_car (d : Dev)  : (recomputeFloor d).car = d.car := by
  simp only [recomputeFloor]; split <;> rfl
@[simp] theorem recomputeFloor_bist (d : Dev)  : (recomputeFloor d).bist = d.bist := by
  simp only [recomputeFloor]; split <;> rfl
@[simp] theorem recomputeFloor_pins (d : Dev)  : (recomputeFloor d).pins = d.pins := by
  simp only [recomputeFloor]; split <;> rfl
@[simp] theorem recomputeFloor_host (d : Dev)  : (recomputeFloor d).host = d.host := by
  simp only [recomputeFloor]; split <;> rfl
@[simp] theorem recomputeFloor_xstop (d : Dev)  : (recomputeFloor d).xstop = d.xstop := by
  simp only [recomputeFloor]; split <;> rfl
@[simp] theorem recomputeFloor_time (d : Dev)  : (recomputeFloor d).ctl.time = d.ctl.time := by
  simp only [recomputeFloor]; split <;> rfl
@[simp] theorem recomputeFloor_bbr (d : Dev)  : (recomputeFloor d).ctl.bbr = d.ctl.bbr := by
  simp only [recomputeFloor]; split <;> rfl
@[simp] theorem recomputeFloor_ans (d : Dev)  : (recomputeFloor d).ctl.ans = d.ctl.ans := by
  simp only [recomputeFloor]; split <;> rfl
@[simp] theorem recomputeFloor_out (d : Dev)  : (recomputeFloor d).ctl.out = d.ctl.out := by
  simp only [recomputeFloor]; split <;> rfl
@[simp] theorem recomputeFloor_fresh (d : Dev)  : (recomputeFloor d).ctl.fresh = d.ctl.fresh := by
  simp only [recomputeFloor]; split <;> rfl
theorem Dev.get_recomputeFloor (d : Dev)  (g : Fld) (h0 : g.key ≠ RM_CONTRACT_STATUS_FLOOR_MV.key) (h1 : g.key ≠ RM_CONTRACT_STATUS_FLOOR_NONE.key) (h2 : g.key ≠ RM_CONTRACT_STATUS_T_RANGE.key) (h3 : g.key ≠ RM_CONTRACT_STATUS_VSAFE_LOW.key) :
    (recomputeFloor d).get g = d.get g := by
  simp only [recomputeFloor]
  rw [Dev.get_set_other _ _ _ _ h3, Dev.get_set_other _ _ _ _ h2]
  split <;> exact (Dev.get_set_other _ _ _ _ h1).trans (Dev.get_set_other _ _ _ _ h0)

/-! ### tgRefresh -/

@[simp] theorem tgRefresh_chip  (d : Dev) : (tgRefresh d).chip = d.chip := by
  simp only [tgRefresh]; repeat' split
  all_goals simp
@[simp] theorem tgRefresh_qm  (d : Dev) : (tgRefresh d).qm = d.qm := by
  simp only [tgRefresh]; repeat' split
  all_goals simp
@[simp] theorem tgRefresh_xm  (d : Dev) : (tgRefresh d).xm = d.xm := by
  simp only [tgRefresh]; repeat' split
  all_goals simp
@[simp] theorem tgRefresh_slots  (d : Dev) : (tgRefresh d).slots = d.slots := by
  simp only [tgRefresh]; repeat' split
  all_goals simp
@[simp] theorem tgRefresh_cx  (d : Dev) : (tgRefresh d).cx = d.cx := by
  simp only [tgRefresh]; repeat' split
  all_goals simp
@[simp] theorem tgRefresh_engs  (d : Dev) : (tgRefresh d).engs = d.engs := by
  simp only [tgRefresh]; repeat' split
  all_goals simp
@[simp] theorem tgRefresh_net  (d : Dev) : (tgRefresh d).net = d.net := by
  simp only [tgRefresh]; repeat' split
  all_goals simp
@[simp] theorem tgRefresh_icl  (d : Dev) : (tgRefresh d).icl = d.icl := by
  simp only [tgRefresh]; repeat' split
  all_goals simp
@[simp] theorem tgRefresh_cfg  (d : Dev) : (tgRefresh d).cfg = d.cfg := by
  simp only [tgRefresh]; repeat' split
  all_goals simp
@[simp] theorem tgRefresh_trim  (d : Dev) : (tgRefresh d).trim = d.trim := by
  simp only [tgRefresh]; repeat' split
  all_goals simp
@[simp] theorem tgRefresh_car  (d : Dev) : (tgRefresh d).car = d.car := by
  simp only [tgRefresh]; repeat' split
  all_goals simp
@[simp] theorem tgRefresh_bist  (d : Dev) : (tgRefresh d).bist = d.bist := by
  simp only [tgRefresh]; repeat' split
  all_goals simp
@[simp] theorem tgRefresh_pins  (d : Dev) : (tgRefresh d).pins = d.pins := by
  simp only [tgRefresh]; repeat' split
  all_goals simp
@[simp] theorem tgRefresh_host  (d : Dev) : (tgRefresh d).host = d.host := by
  simp only [tgRefresh]; repeat' split
  all_goals simp
@[simp] theorem tgRefresh_xstop  (d : Dev) : (tgRefresh d).xstop = d.xstop := by
  simp only [tgRefresh]; repeat' split
  all_goals simp
@[simp] theorem tgRefresh_time  (d : Dev) : (tgRefresh d).ctl.time = d.ctl.time := by
  simp only [tgRefresh]; repeat' split
  all_goals simp
@[simp] theorem tgRefresh_bbr  (d : Dev) : (tgRefresh d).ctl.bbr = d.ctl.bbr := by
  simp only [tgRefresh]; repeat' split
  all_goals simp
@[simp] theorem tgRefresh_ans  (d : Dev) : (tgRefresh d).ctl.ans = d.ctl.ans := by
  simp only [tgRefresh]; repeat' split
  all_goals simp
@[simp] theorem tgRefresh_out  (d : Dev) : (tgRefresh d).ctl.out = d.ctl.out := by
  simp only [tgRefresh]; repeat' split
  all_goals simp
@[simp] theorem tgRefresh_fresh  (d : Dev) : (tgRefresh d).ctl.fresh = d.ctl.fresh := by
  simp only [tgRefresh]; repeat' split
  all_goals simp
theorem Dev.get_tgRefresh (d : Dev) (g : Fld) (h0 : g.key ≠ TG_EFF_VSAFE_EFF_MV.key)
    (h1 : g.key ≠ TG_STATUS_BELOW_FLOOR.key) : (tgRefresh d).get g = d.get g := by
  unfold tgRefresh
  extract_lets old d1 d2
  have hd1 : d1.get g = d.get g := Dev.get_set_other _ _ _ _ h0
  have hd2 : d2.get g = d.get g := by
    show (match d1.tg.cmd with | none => d1 | some c => d1.set _ _).get g = _
    split
    · exact hd1
    · exact (Dev.get_set_other _ _ _ _ h1).trans hd1
  clear_value d2
  repeat' split
  all_goals first
    | exact hd2
    | exact (Dev.get_commandNow _ _ _ h1).trans hd2
/-- VSAFE_EFF follows its terms (R439). -/
theorem get_tgRefresh_eff (d : Dev) : (tgRefresh d).get TG_EFF_VSAFE_EFF_MV = vsafeEffOf d := by
  have h : vsafeEffOf d % 2 ^ TG_EFF_VSAFE_EFF_MV.w = vsafeEffOf d :=
    Nat.mod_eq_of_lt (Nat.lt_of_le_of_lt (Nat.min_le_right _ _) (by decide))
  have hk : TG_EFF_VSAFE_EFF_MV.key ≠ TG_STATUS_BELOW_FLOOR.key := by decide
  unfold tgRefresh
  extract_lets old d1 d2
  have hd1 : d1.get TG_EFF_VSAFE_EFF_MV = vsafeEffOf d := (Dev.get_set_same _ _ _).trans h
  have hd2 : d2.get TG_EFF_VSAFE_EFF_MV = vsafeEffOf d := by
    show (match d1.tg.cmd with | none => d1 | some c => d1.set _ _).get _ = _
    split
    · exact hd1
    · exact (Dev.get_set_other _ _ _ _ hk).trans hd1
  clear_value d2
  repeat' split
  all_goals first
    | exact hd2
    | exact (Dev.get_commandNow _ _ _ hk).trans hd2

/-! ### setRState -/

@[simp] theorem setRState_rings (l st : Nat) (d : Dev) : (setRState l st d).rings = d.rings :=
  forEach_keeps (fun d => d.rings) (fun m d => d.set (RING_STATUS_STATE m) st) (fun _ _ => rfl) _ d
@[simp] theorem setRState_tg (l st : Nat) (d : Dev) : (setRState l st d).tg = d.tg :=
  forEach_keeps (fun d => d.tg) (fun m d => d.set (RING_STATUS_STATE m) st) (fun _ _ => rfl) _ d
@[simp] theorem setRState_chip (l st : Nat) (d : Dev) : (setRState l st d).chip = d.chip :=
  forEach_keeps (fun d => d.chip) (fun m d => d.set (RING_STATUS_STATE m) st) (fun _ _ => rfl) _ d
@[simp] theorem setRState_qm (l st : Nat) (d : Dev) : (setRState l st d).qm = d.qm :=
  forEach_keeps (fun d => d.qm) (fun m d => d.set (RING_STATUS_STATE m) st) (fun _ _ => rfl) _ d
@[simp] theorem setRState_xm (l st : Nat) (d : Dev) : (setRState l st d).xm = d.xm :=
  forEach_keeps (fun d => d.xm) (fun m d => d.set (RING_STATUS_STATE m) st) (fun _ _ => rfl) _ d
@[simp] theorem setRState_slots (l st : Nat) (d : Dev) : (setRState l st d).slots = d.slots :=
  forEach_keeps (fun d => d.slots) (fun m d => d.set (RING_STATUS_STATE m) st) (fun _ _ => rfl) _ d
@[simp] theorem setRState_cx (l st : Nat) (d : Dev) : (setRState l st d).cx = d.cx :=
  forEach_keeps (fun d => d.cx) (fun m d => d.set (RING_STATUS_STATE m) st) (fun _ _ => rfl) _ d
@[simp] theorem setRState_engs (l st : Nat) (d : Dev) : (setRState l st d).engs = d.engs :=
  forEach_keeps (fun d => d.engs) (fun m d => d.set (RING_STATUS_STATE m) st) (fun _ _ => rfl) _ d
@[simp] theorem setRState_net (l st : Nat) (d : Dev) : (setRState l st d).net = d.net :=
  forEach_keeps (fun d => d.net) (fun m d => d.set (RING_STATUS_STATE m) st) (fun _ _ => rfl) _ d
@[simp] theorem setRState_icl (l st : Nat) (d : Dev) : (setRState l st d).icl = d.icl :=
  forEach_keeps (fun d => d.icl) (fun m d => d.set (RING_STATUS_STATE m) st) (fun _ _ => rfl) _ d
@[simp] theorem setRState_cfg (l st : Nat) (d : Dev) : (setRState l st d).cfg = d.cfg :=
  forEach_keeps (fun d => d.cfg) (fun m d => d.set (RING_STATUS_STATE m) st) (fun _ _ => rfl) _ d
@[simp] theorem setRState_trim (l st : Nat) (d : Dev) : (setRState l st d).trim = d.trim :=
  forEach_keeps (fun d => d.trim) (fun m d => d.set (RING_STATUS_STATE m) st) (fun _ _ => rfl) _ d
@[simp] theorem setRState_car (l st : Nat) (d : Dev) : (setRState l st d).car = d.car :=
  forEach_keeps (fun d => d.car) (fun m d => d.set (RING_STATUS_STATE m) st) (fun _ _ => rfl) _ d
@[simp] theorem setRState_bist (l st : Nat) (d : Dev) : (setRState l st d).bist = d.bist :=
  forEach_keeps (fun d => d.bist) (fun m d => d.set (RING_STATUS_STATE m) st) (fun _ _ => rfl) _ d
@[simp] theorem setRState_pins (l st : Nat) (d : Dev) : (setRState l st d).pins = d.pins :=
  forEach_keeps (fun d => d.pins) (fun m d => d.set (RING_STATUS_STATE m) st) (fun _ _ => rfl) _ d
@[simp] theorem setRState_host (l st : Nat) (d : Dev) : (setRState l st d).host = d.host :=
  forEach_keeps (fun d => d.host) (fun m d => d.set (RING_STATUS_STATE m) st) (fun _ _ => rfl) _ d
@[simp] theorem setRState_xstop (l st : Nat) (d : Dev) : (setRState l st d).xstop = d.xstop :=
  forEach_keeps (fun d => d.xstop) (fun m d => d.set (RING_STATUS_STATE m) st) (fun _ _ => rfl) _ d
@[simp] theorem setRState_time (l st : Nat) (d : Dev) : (setRState l st d).ctl.time = d.ctl.time :=
  forEach_keeps (fun d => d.ctl.time) (fun m d => d.set (RING_STATUS_STATE m) st) (fun _ _ => rfl) _ d
@[simp] theorem setRState_bbr (l st : Nat) (d : Dev) : (setRState l st d).ctl.bbr = d.ctl.bbr :=
  forEach_keeps (fun d => d.ctl.bbr) (fun m d => d.set (RING_STATUS_STATE m) st) (fun _ _ => rfl) _ d
@[simp] theorem setRState_ans (l st : Nat) (d : Dev) : (setRState l st d).ctl.ans = d.ctl.ans :=
  forEach_keeps (fun d => d.ctl.ans) (fun m d => d.set (RING_STATUS_STATE m) st) (fun _ _ => rfl) _ d
@[simp] theorem setRState_out (l st : Nat) (d : Dev) : (setRState l st d).ctl.out = d.ctl.out :=
  forEach_keeps (fun d => d.ctl.out) (fun m d => d.set (RING_STATUS_STATE m) st) (fun _ _ => rfl) _ d
@[simp] theorem setRState_fresh (l st : Nat) (d : Dev) : (setRState l st d).ctl.fresh = d.ctl.fresh :=
  forEach_keeps (fun d => d.ctl.fresh) (fun m d => d.set (RING_STATUS_STATE m) st) (fun _ _ => rfl) _ d
/-- A STATE change leaves every field that is no STATE as it was. -/
theorem Dev.get_setRState (l st : Nat) (d : Dev) (g : Fld) (h : ∀ m, g.key ≠ (RING_STATUS_STATE m).key) :
    (setRState l st d).get g = d.get g :=
  forEach_keeps (fun d => d.get g) (fun m d => d.set (RING_STATUS_STATE m) st) (fun m _ => Dev.get_set_other _ _ _ _ (h m)) _ d

end Sys2Proof.Machine
end

