-- ==== Sys2Proof/Laws/Forms.lean ====
section
/-! SUPPORT. Laws of the forms of Safety.lean: every operation on the device keeps them, each cited by the operations that
use it. An operation that answers more than a device keeps them in the device it answers. -/
namespace Sys2Proof.Machine
open Sys2Proof.Machine.Reg

/-- The forms rest on four parts of the device alone. -/
theorem Dev.Forms.of {d e : Dev} (h : d.Forms) (hc : e.chip.cells = d.chip.cells) (hx : e.xm.mem.cells = d.xm.mem.cells)
    (hb : e.ctl.bbr.queue = d.ctl.bbr.queue) (ht : e.ctl.time.count = d.ctl.time.count) : e.Forms := by
  unfold Dev.Forms; rw [hc, hx, hb, ht]; exact h
theorem ite_forms {c : Prop} [Decidable c] {a b : Dev} (ha : a.Forms) (hb : b.Forms) : (if c then a else b).Forms := by
  split <;> assumption
theorem foldl_forms {α : Type} {f : Dev → α → Dev} {xs : List α} {d : Dev} (h : d.Forms)
    (hf : ∀ (x : α) (e : Dev), e.Forms → (f e x).Forms) : (xs.foldl f d).Forms := by
  induction xs generalizing d with
  | nil => exact h
  | cons x xs ih => exact ih (hf x d h)
theorem forEach_forms {α : Type} {xs : List α} {d : Dev} {f : α → Dev → Dev} (h : d.Forms)
    (hf : ∀ (x : α) (e : Dev), e.Forms → (f x e).Forms) : (forEach xs d f).Forms := foldl_forms h hf
theorem pair_forms {α : Type} {p : α × Dev} {a : α} {e : Dev} (he : p = (a, e)) (h : p.2.Forms) : e.Forms := by
  rw [he] at h; exact h
theorem pair3_forms {α β : Type} {p : α × β × Dev} {a : α} {b : β} {e : Dev} (he : p = (a, b, e)) (h : p.2.2.Forms) : e.Forms := by
  rw [he] at h; exact h
theorem writeFlds_time (c : Ctl) (l : Bool) (v : Nat) (fs : List Fld) : (writeFlds c l v fs).time = c.time := by
  unfold writeFlds
  generalize hc : (fun (x : Ctl) (f : Fld) => x.set f (fieldAfter x l v f)) = g
  have hg : ∀ x f, (g x f).time = x.time := by intro x f; rw [← hc]; rfl
  clear hc
  induction fs generalizing c with
  | nil => rfl
  | cons f fs ih => rw [List.foldl_cons, ih, hg]
theorem writeFlds_bbr (c : Ctl) (l : Bool) (v : Nat) (fs : List Fld) : (writeFlds c l v fs).bbr = c.bbr := by
  unfold writeFlds
  generalize hc : (fun (x : Ctl) (f : Fld) => x.set f (fieldAfter x l v f)) = g
  have hg : ∀ x f, (g x f).bbr = x.bbr := by intro x f; rw [← hc]; rfl
  clear hc
  induction fs generalizing c with
  | nil => rfl
  | cons f fs ih => rw [List.foldl_cons, ih, hg]
/-- A register write keeps the forms. -/
theorem writeFlds_forms (l : Bool) (v : Nat) (fs : List Fld) {d : Dev} (h : d.Forms) :
    ({ d with ctl := writeFlds d.ctl l v fs } : Dev).Forms :=
  Dev.Forms.of h rfl rfl (congrArg Bbr.queue (writeFlds_bbr ..)) (congrArg TimeSt.count (writeFlds_time ..))
theorem pair_ite4 {α β γ : Type} {c : Prop} [Decidable c] {x y : α × β × γ × Dev} (hx : x.2.2.2.Forms) (hy : y.2.2.2.Forms) :
    (if c then x else y).2.2.2.Forms := by
  split <;> assumption
theorem pair_ite3 {α β : Type} {c : Prop} [Decidable c] {x y : α × β × Dev} (hx : x.2.2.Forms) (hy : y.2.2.Forms) :
    (if c then x else y).2.2.Forms := by
  split <;> assumption
theorem pair4_forms {α β γ : Type} {p : α × β × γ × Dev} {a : α} {b : β} {c : γ} {e : Dev} (he : p = (a, b, c, e))
    (h : p.2.2.2.Forms) : e.Forms := by
  rw [he] at h; exact h
theorem nextCount_lt (t : TimeSt) : nextCount t < 2 ^ 64 := by
  unfold nextCount
  repeat' split
  all_goals exact Nat.mod_lt _ (by decide)

theorem mapCar_forms (f : CarSt → CarSt) {d : Dev} (h : d.Forms) : (mapCar f d).Forms := by
  unfold mapCar
  repeat' first
    | with_reducible assumption | with_reducible apply hf | exact Dev.Forms.of h rfl rfl rfl rfl

theorem Dev.set_forms {d : Dev} (f : Fld) (v : Nat) (h : d.Forms) : (Dev.set d f v).Forms := by
  unfold Dev.set
  repeat' first
    | with_reducible assumption | exact Dev.Forms.of h rfl rfl rfl rfl

theorem carStart_forms (st : Nat) {d : Dev} (h : d.Forms) : (carStart st d).Forms := by
  unfold carStart
  repeat' first
    | with_reducible assumption | intro _ | with_reducible apply forEach_forms | with_reducible apply foldl_forms
    | with_reducible apply Dev.set_forms | with_reducible apply mapCar_forms

theorem carFirst_forms {d : Dev} (h : d.Forms) : (carFirst d).Forms := by
  unfold carFirst
  repeat' first
    | with_reducible assumption | intro _ | with_reducible apply forEach_forms | with_reducible apply foldl_forms
    | with_reducible apply ite_forms | with_reducible apply carStart_forms | with_reducible apply mapCar_forms

theorem carGo_forms {d : Dev} (h : d.Forms) : (carGo d).Forms := by
  unfold carGo
  repeat' first
    | with_reducible assumption | intro _ | with_reducible apply forEach_forms | with_reducible apply foldl_forms
    | with_reducible apply ite_forms | with_reducible apply carStart_forms | with_reducible apply mapCar_forms
    | with_reducible apply Dev.set_forms

theorem carStop_forms {d : Dev} (h : d.Forms) : (carStop d).Forms := by
  unfold carStop
  repeat' first
    | with_reducible assumption | intro _ | with_reducible apply forEach_forms | with_reducible apply foldl_forms
    | with_reducible apply ite_forms | with_reducible apply mapCar_forms | with_reducible apply Dev.set_forms

theorem Dev.raise_forms {d : Dev} (f : Fld) (h : d.Forms) : (Dev.raise d f).Forms := by
  unfold Dev.raise
  repeat' first
    | with_reducible assumption | with_reducible apply Dev.set_forms

theorem Dev.addSat_forms {d : Dev} (f : Fld) (n : Nat) (h : d.Forms) : (Dev.addSat d f n).Forms := by
  unfold Dev.addSat
  repeat' first
    | with_reducible assumption | with_reducible apply Dev.set_forms

theorem Dev.incSat_forms {d : Dev} (f : Fld) (h : d.Forms) : (Dev.incSat d f).Forms := by
  unfold Dev.incSat
  repeat' first
    | with_reducible assumption | with_reducible apply Dev.addSat_forms

theorem Dev.withBbr_forms (b : Bbr) {d : Dev} (h : d.Forms)
    (hb : b.queue.length ≤ d.ctl.bbr.queue.length := by exact Nat.le_refl _) :
    (d.withBbr b).Forms := ⟨h.1, h.2.1, Nat.le_trans hb h.2.2.1, h.2.2.2⟩

theorem Dev.bbr_forms {d : Dev} (source : Nat) (event : Nat) (fatal : optParam Bool false) (arg : optParam Nat 0)
    (data : optParam Nat 0) (h : d.Forms) :
    (Dev.bbr d source event fatal arg data).Forms := by
  unfold Dev.bbr
  extract_lets b e d1
  have h1 : d1.Forms := ⟨h.1, h.2.1, Nat.le_trans (List.length_take_le ..) (Nat.le_refl _), h.2.2.2⟩
  split
  · exact h1
  · exact Dev.incSat_forms _ h1

theorem carRestart_forms {d : Dev} (h : d.Forms) : (carRestart d).Forms := by
  unfold carRestart
  repeat' first
    | with_reducible assumption | intro _ | with_reducible apply forEach_forms | with_reducible apply foldl_forms
    | with_reducible apply Dev.set_forms | with_reducible apply Dev.raise_forms
    | with_reducible apply Dev.incSat_forms | with_reducible apply Dev.bbr_forms | with_reducible apply mapCar_forms

theorem carHalt_forms {d : Dev} (h : d.Forms) : (carHalt d).Forms := by
  unfold carHalt
  repeat' first
    | with_reducible assumption | with_reducible apply ite_forms | with_reducible apply Dev.bbr_forms
    | with_reducible apply Dev.raise_forms | with_reducible apply Dev.set_forms

theorem mapCfg_forms (f : CfgSt → CfgSt) {d : Dev} (h : d.Forms) : (mapCfg f d).Forms := by
  unfold mapCfg
  repeat' first
    | with_reducible assumption | with_reducible apply hf | exact Dev.Forms.of h rfl rfl rfl rfl

theorem frameRepair_forms (a : Nat) {d : Dev} (h : d.Forms) : (frameRepair a d).Forms := by
  unfold frameRepair
  repeat' first
    | with_reducible assumption | intro _ | with_reducible apply forEach_forms | with_reducible apply foldl_forms
    | with_reducible apply ite_forms | with_reducible apply mapCfg_forms | split
    | exact Dev.Forms.of h rfl rfl rfl rfl

theorem Dev.setBit_forms {d : Dev} (f : Fld) (i : Nat) (h : d.Forms) : (Dev.setBit d f i).Forms := by
  unfold Dev.setBit
  repeat' first
    | with_reducible assumption | with_reducible apply Dev.set_forms

theorem Dev.setRing_forms {d : Dev} (r : Nat) (x : Ring) (h : d.Forms) : (Dev.setRing d r x).Forms := by
  unfold Dev.setRing
  repeat' first
    | with_reducible assumption | exact Dev.Forms.of h rfl rfl rfl rfl

theorem syncSched_forms (r : Nat) {d : Dev} (h : d.Forms) : (syncSched r d).Forms := by
  unfold syncSched
  repeat' first
    | with_reducible assumption | with_reducible apply Dev.setRing_forms

theorem setRState_forms (l : Nat) (st : Nat) {d : Dev} (h : d.Forms) : (setRState l st d).Forms := by
  unfold setRState
  repeat' first
    | with_reducible assumption | intro _ | with_reducible apply forEach_forms | with_reducible apply foldl_forms
    | with_reducible apply Dev.set_forms

theorem setSlot_forms (r : Nat) (t : Nat) (x : SlotSt) {d : Dev} (h : d.Forms) : (setSlot r t x d).Forms := by
  unfold setSlot
  repeat' first
    | with_reducible assumption | exact Dev.Forms.of h rfl rfl rfl rfl

theorem mapSlot_forms (r : Nat) (t : Nat) (f : SlotSt → SlotSt) {d : Dev} (h : d.Forms) :
    (mapSlot r t f d).Forms := by
  unfold mapSlot
  repeat' first
    | with_reducible assumption | with_reducible apply hf | with_reducible apply setSlot_forms

theorem setLane_forms (r : Nat) (t : Nat) (l : Nat) (x : LaneSt) {d : Dev} (h : d.Forms) :
    (setLane r t l x d).Forms := by
  unfold setLane
  repeat' first
    | with_reducible assumption | intro _ | with_reducible apply forEach_forms | with_reducible apply foldl_forms
    | with_reducible apply mapSlot_forms

theorem slotsDiscard_forms (r : Nat) {d : Dev} (h : d.Forms) : (slotsDiscard r d).Forms := by
  unfold slotsDiscard
  repeat' first
    | with_reducible assumption | intro _ | with_reducible apply forEach_forms | with_reducible apply foldl_forms
    | with_reducible apply ite_forms | with_reducible apply Dev.raise_forms | with_reducible apply Dev.addSat_forms
    | with_reducible apply mapSlot_forms | with_reducible apply setLane_forms

theorem setEng_forms (e : Nat) (x : EngSt) {d : Dev} (h : d.Forms) : (setEng e x d).Forms := by
  unfold setEng
  repeat' first
    | with_reducible assumption | exact Dev.Forms.of h rfl rfl rfl rfl

theorem mapEng_forms (e : Nat) (f : EngSt → EngSt) {d : Dev} (h : d.Forms) : (mapEng e f d).Forms := by
  unfold mapEng
  repeat' first
    | with_reducible assumption | with_reducible apply hf | with_reducible apply setEng_forms

theorem forsake_forms (p : Nat → XWho → Bool) {d : Dev} (h : d.Forms) : (forsake p d).Forms := by
  unfold forsake
  repeat' first
    | with_reducible assumption | with_reducible apply hf | intro _ | with_reducible apply forEach_forms
    | with_reducible apply foldl_forms | with_reducible apply ite_forms | split | exact Dev.Forms.of h rfl rfl rfl rfl

theorem forsakeEng_forms (e : Nat) {d : Dev} (h : d.Forms) : (forsakeEng e d).Forms := by
  unfold forsakeEng
  repeat' first
    | with_reducible assumption | intro _ | with_reducible apply forEach_forms | with_reducible apply foldl_forms
    | with_reducible apply ite_forms | with_reducible apply forsake_forms | with_reducible apply mapSlot_forms

theorem clearExec_forms (e : Nat) {d : Dev} (h : d.Forms) : (clearExec e d).Forms := by
  unfold clearExec
  repeat' first
    | with_reducible assumption | intro _ | with_reducible apply forEach_forms | with_reducible apply foldl_forms
    | with_reducible apply mapEng_forms | with_reducible apply forsakeEng_forms | with_reducible apply Dev.set_forms

theorem engsHalt_forms (r : Nat) {d : Dev} (h : d.Forms) : (engsHalt r d).Forms := by
  unfold engsHalt
  repeat' first
    | with_reducible assumption | intro _ | with_reducible apply forEach_forms | with_reducible apply foldl_forms
    | with_reducible apply clearExec_forms

theorem clearWork_forms (r : Nat) {d : Dev} (h : d.Forms) : (clearWork r d).Forms := by
  unfold clearWork
  repeat' first
    | with_reducible assumption | intro _ | with_reducible apply forEach_forms | with_reducible apply foldl_forms
    | with_reducible apply Dev.setRing_forms

theorem mapRing_forms (r : Nat) (f : Ring → Ring) {d : Dev} (h : d.Forms) : (mapRing r f d).Forms := by
  unfold mapRing
  repeat' first
    | with_reducible assumption | with_reducible apply hf | with_reducible apply Dev.setRing_forms

theorem lapseXSeats_forms (r : Nat) {d : Dev} (h : d.Forms) : (lapseXSeats r d).Forms := by
  unfold lapseXSeats
  repeat' first
    | with_reducible assumption | intro _ | with_reducible apply forEach_forms | with_reducible apply foldl_forms
    | exact Dev.Forms.of h rfl rfl rfl rfl

theorem lapseSeats_forms (r : Nat) {d : Dev} (h : d.Forms) : (lapseSeats r d).Forms := by
  unfold lapseSeats
  repeat' first
    | with_reducible assumption | intro _ | with_reducible apply forEach_forms | with_reducible apply foldl_forms
    | exact Dev.Forms.of h rfl rfl rfl rfl

theorem haltWork_forms (m : Nat) {d : Dev} (h : d.Forms) : (haltWork m d).Forms := by
  unfold haltWork
  repeat' first
    | with_reducible assumption | intro _ | with_reducible apply forEach_forms | with_reducible apply foldl_forms
    | with_reducible apply ite_forms | with_reducible apply slotsDiscard_forms | with_reducible apply engsHalt_forms
    | with_reducible apply clearWork_forms | with_reducible apply forsake_forms | with_reducible apply mapSlot_forms
    | with_reducible apply mapRing_forms | with_reducible apply lapseXSeats_forms
    | with_reducible apply lapseSeats_forms

theorem Dev.withTime_forms (t : TimeSt) {d : Dev} (h : d.Forms) (ht : t.count = d.ctl.time.count := by rfl) :
    (d.withTime t).Forms := ⟨h.1, h.2.1, h.2.2.1, by show t.count < 2 ^ 64; rw [ht]; exact h.2.2.2⟩

theorem haltGroup_forms (r : Nat) (st : Nat) {d : Dev} (h : d.Forms) :
    (haltGroup r st d).Forms := by
  unfold haltGroup
  repeat' first
    | with_reducible assumption | intro _ | with_reducible apply forEach_forms | with_reducible apply foldl_forms
    | with_reducible apply ite_forms | with_reducible apply setRState_forms | with_reducible apply forEach_forms
    | with_reducible apply haltWork_forms
    | with_reducible refine Dev.withTime_forms _ ?_ (by with_unfolding_all rfl)
    | with_reducible refine pair_forms ‹_ = (_, _)› ?_ | with_reducible refine pair3_forms ‹_ = (_, _, _)› ?_
    | extract_lets | split | exact Dev.Forms.of ‹_› rfl rfl rfl rfl

theorem carUe_forms (a : Nat) (kind : Nat) {d : Dev} (h : d.Forms) : (carUe a kind d).Forms := by
  unfold carUe
  repeat' first
    | with_reducible assumption | intro _ | with_reducible apply forEach_forms | with_reducible apply foldl_forms
    | with_reducible apply ite_forms | with_reducible apply Dev.set_forms | with_reducible apply Dev.incSat_forms
    | with_reducible apply Dev.setBit_forms | with_reducible apply mapCar_forms | with_reducible apply Dev.bbr_forms
    | with_reducible apply Dev.raise_forms | with_reducible apply syncSched_forms
    | with_reducible apply haltGroup_forms

theorem checkFrame_forms (a : Nat) {d : Dev} (h : d.Forms) : (checkFrame a d).Forms := by
  unfold checkFrame
  repeat' first
    | with_reducible assumption | intro _ | with_reducible apply forEach_forms | with_reducible apply foldl_forms
    | with_reducible apply ite_forms | with_reducible apply Dev.set_forms | with_reducible apply mapCar_forms
    | with_reducible apply frameRepair_forms | with_reducible apply Dev.raise_forms
    | with_reducible apply Dev.addSat_forms | with_reducible apply carUe_forms | extract_lets | split

theorem Dev.incWrap_forms {d : Dev} (f : Fld) (h : d.Forms) : (Dev.incWrap d f).Forms := by
  unfold Dev.incWrap
  repeat' first
    | with_reducible assumption | with_reducible apply Dev.set_forms

theorem passEnd_forms {d : Dev} (h : d.Forms) : (passEnd d).Forms := by
  unfold passEnd
  repeat' first
    | with_reducible assumption | intro _ | with_reducible apply forEach_forms | with_reducible apply foldl_forms
    | with_reducible apply ite_forms | with_reducible apply Dev.raise_forms | with_reducible apply Dev.set_forms
    | with_reducible apply Dev.incWrap_forms | with_reducible apply mapCar_forms | with_reducible apply carStart_forms

theorem Dev.advance_forms {d : Dev} (tb : Nat) (h : d.Forms) : (Dev.advance d tb).Forms := by
  unfold Dev.advance
  repeat' first
    | with_reducible assumption | with_reducible refine Dev.withTime_forms _ ?_ (by with_unfolding_all rfl)

theorem carouselFrameCheck_forms {d : Dev} (h : d.Forms) : (carouselFrameCheck d).Forms := by
  unfold carouselFrameCheck
  repeat' first
    | with_reducible assumption | intro _ | with_reducible apply forEach_forms | with_reducible apply foldl_forms
    | with_reducible apply ite_forms | with_reducible apply carHalt_forms | with_reducible apply Dev.advance_forms
    | with_reducible apply mapCar_forms | with_reducible apply carRestart_forms
    | with_reducible apply checkFrame_forms | with_reducible apply passEnd_forms | with_reducible apply Dev.set_forms

theorem putWord_forms (fs : List Fld) (v : Nat) {d : Dev} (h : d.Forms) : (putWord fs v d).Forms := by
  unfold putWord
  repeat' first
    | with_reducible assumption | intro _ | with_reducible apply forEach_forms | with_reducible apply foldl_forms
    | with_reducible apply Dev.set_forms

theorem Dev.resetFlds_forms {d : Dev} (fs : List Fld) (h : d.Forms) : (Dev.resetFlds d fs).Forms := by
  unfold Dev.resetFlds
  repeat' first
    | with_reducible assumption | intro _ | with_reducible apply forEach_forms | with_reducible apply foldl_forms
    | with_reducible apply Dev.set_forms

theorem voteOne_forms (e : Nat × Nat × Nat × Nat) {d : Dev} (h : d.Forms) : (voteOne e d).Forms := by
  unfold voteOne
  repeat' first
    | with_reducible assumption | with_reducible apply ite_forms | with_reducible apply Dev.addSat_forms
    | with_reducible apply putWord_forms | with_reducible apply Dev.resetFlds_forms
    | with_reducible apply carRestart_forms | with_reducible apply Dev.set_forms | extract_lets | split

theorem carVote_forms {d : Dev} (h : d.Forms) : (carVote d).Forms := by
  unfold carVote
  repeat' first
    | with_reducible assumption | intro _ | with_reducible apply forEach_forms | with_reducible apply foldl_forms
    | with_reducible apply mapCar_forms | with_reducible apply voteOne_forms

theorem Dev.answer_forms {d : Dev} (code : Resp) (data : optParam (List Nat) []) (h : d.Forms) :
    (Dev.answer d code data).Forms := by
  unfold Dev.answer
  repeat' first
    | with_reducible assumption | exact Dev.Forms.of h rfl rfl rfl rfl

theorem carCtrlWrite_forms (v : Nat) {d : Dev} (h : d.Forms) : (carCtrlWrite v d).Forms := by
  unfold carCtrlWrite
  repeat' first
    | with_reducible assumption | with_reducible apply ite_forms | with_reducible apply Dev.answer_forms
    | with_reducible apply carGo_forms | extract_lets | split | with_reducible apply writeFlds_forms

theorem carAbort_forms {d : Dev} (h : d.Forms) : (carAbort d).Forms := by
  unfold carAbort
  repeat' first
    | with_reducible assumption | intro _ | with_reducible apply forEach_forms | with_reducible apply foldl_forms
    | with_reducible apply ite_forms | with_reducible apply Dev.set_forms | with_reducible apply mapCar_forms

theorem carCmdWrite_forms (clr : Bool) (abort : Bool) (pass : Bool) {d : Dev} (h : d.Forms) :
    (carCmdWrite clr abort pass d).Forms := by
  unfold carCmdWrite
  repeat' first
    | with_reducible assumption | with_reducible apply ite_forms | with_reducible apply Dev.resetFlds_forms
    | with_reducible apply carAbort_forms | with_reducible apply Dev.answer_forms | with_reducible apply carGo_forms

theorem mapIport_forms (q : Nat) (f : IclPort → IclPort) {d : Dev} (h : d.Forms) : (mapIport q f d).Forms := by
  unfold mapIport
  repeat' first
    | with_reducible assumption | with_reducible apply hf | exact Dev.Forms.of h rfl rfl rfl rfl

theorem mapIcl_forms (f : IclSt → IclSt) {d : Dev} (h : d.Forms) : (mapIcl f d).Forms := by
  unfold mapIcl
  repeat' first
    | with_reducible assumption | with_reducible apply hf | exact Dev.Forms.of h rfl rfl rfl rfl

theorem iclHost_forms (f : Dev → Dev) {d : Dev} (hf : ∀ e : Dev, e.Forms → (f e).Forms) (h : d.Forms) :
    (iclHost f d).Forms := by
  unfold iclHost
  repeat' first
    | with_reducible assumption | with_reducible apply hf | with_reducible apply ite_forms
    | with_reducible apply Dev.answer_forms

theorem setCascErr_forms (e : Nat) {d : Dev} (h : d.Forms) : (setCascErr e d).Forms := by
  unfold setCascErr
  repeat' first
    | with_reducible assumption | with_reducible apply ite_forms | with_reducible apply Dev.set_forms
    | with_reducible apply Dev.raise_forms

theorem Dev.emit_forms {d : Dev} (e : OutEvent) (h : d.Forms) : (Dev.emit d e).Forms := by
  unfold Dev.emit
  repeat' first
    | with_reducible assumption | exact Dev.Forms.of h rfl rfl rfl rfl

theorem emitFrame_forms (q : Nat) (f : IclFrame) {d : Dev} (h : d.Forms) : (emitFrame q f d).Forms := by
  unfold emitFrame
  repeat' first
    | with_reducible assumption | with_reducible apply Dev.emit_forms

theorem queueOut_forms (q : Nat) (f : IclFrame) {d : Dev} (h : d.Forms) : (queueOut q f d).Forms := by
  unfold queueOut
  repeat' first
    | with_reducible assumption | intro _ | with_reducible apply forEach_forms | with_reducible apply foldl_forms
    | with_reducible apply mapIport_forms

theorem sendTo_forms (f : IclFrame) {d : Dev} (h : d.Forms) : (sendTo f d).Forms := by
  unfold sendTo
  repeat' first
    | with_reducible assumption | with_reducible apply queueOut_forms | split

theorem sendAll_forms (skip : Option Nat) (f : IclFrame) {d : Dev} (h : d.Forms) : (sendAll skip f d).Forms := by
  unfold sendAll
  repeat' first
    | with_reducible assumption | intro _ | with_reducible apply forEach_forms | with_reducible apply foldl_forms
    | with_reducible apply queueOut_forms

theorem Dev.withCx_forms {d : Dev} (c : CxSt) (h : d.Forms) : (Dev.withCx d c).Forms := by
  unfold Dev.withCx
  repeat' first
    | with_reducible assumption | exact Dev.Forms.of h rfl rfl rfl rfl

theorem retireDone_forms (k : Nat) {d : Dev} (h : d.Forms) : (retireDone k d).Forms := by
  unfold retireDone
  repeat' first
    | with_reducible assumption | with_reducible apply ite_forms | with_reducible apply Dev.raise_forms
    | with_reducible apply Dev.set_forms | with_reducible apply Dev.withCx_forms

theorem setFrameCtr_forms (k : Nat) (v : Nat) {d : Dev} (h : d.Forms) : (setFrameCtr k v d).Forms := by
  unfold setFrameCtr
  repeat' first
    | with_reducible assumption | with_reducible apply Dev.set_forms

theorem zeroSlot_forms (k : Nat) {d : Dev} (h : d.Forms) : (zeroSlot k d).Forms := by
  unfold zeroSlot
  repeat' first
    | with_reducible assumption | with_reducible apply Dev.resetFlds_forms | with_reducible apply setFrameCtr_forms
    | with_reducible apply Dev.set_forms | with_reducible apply Dev.withCx_forms

theorem zeroiseAll_forms {d : Dev} (h : d.Forms) : (zeroiseAll d).Forms := by
  unfold zeroiseAll
  repeat' first
    | with_reducible assumption | intro _ | with_reducible apply forEach_forms | with_reducible apply foldl_forms
    | with_reducible apply ite_forms | with_reducible apply retireDone_forms | with_reducible apply zeroSlot_forms
    | with_reducible apply Dev.resetFlds_forms

theorem secAlarm_forms (bit : Nat) (arg : Nat) (data : Nat) {d : Dev} (h : d.Forms) :
    (secAlarm bit arg data d).Forms := by
  unfold secAlarm
  repeat' first
    | with_reducible assumption | with_reducible apply ite_forms | with_reducible apply Dev.bbr_forms
    | with_reducible apply Dev.setBit_forms | with_reducible apply zeroiseAll_forms

theorem keyUse_forms (k : Nat) {d : Dev} (h : d.Forms) : (keyUse k d).Forms := by
  unfold keyUse
  repeat' first
    | with_reducible assumption | with_reducible apply secAlarm_forms

theorem retireSlot_forms (k : Nat) {d : Dev} (h : d.Forms) : (retireSlot k d).Forms := by
  unfold retireSlot
  repeat' first
    | with_reducible assumption | with_reducible apply ite_forms | with_reducible apply Dev.set_forms

theorem takeFrame_forms (k : Nat) {d : Dev} (h : d.Forms) :
    (takeFrame k d).2.Forms := by
  unfold takeFrame
  repeat' first
    | with_reducible assumption | intro _ | with_reducible apply forEach_forms | with_reducible apply foldl_forms
    | with_reducible apply ite_forms | with_reducible apply retireSlot_forms
    | with_reducible apply Dev.withCx_forms | with_reducible apply setFrameCtr_forms
    | with_reducible apply Dev.set_forms | with_reducible apply Dev.raise_forms
    | with_reducible refine pair_forms ‹_ = (_, _)› ?_ | with_reducible refine pair3_forms ‹_ = (_, _, _)› ?_
    | extract_lets | split | exact Dev.Forms.of ‹_› rfl rfl rfl rfl

theorem transmit_forms (q : Nat) (at' : Int) (f : IclFrame) {d : Dev} (h : d.Forms) :
    (transmit q at' f d).Forms := by
  unfold transmit
  repeat' first
    | with_reducible assumption | intro _ | with_reducible apply forEach_forms | with_reducible apply foldl_forms
    | with_reducible apply ite_forms | with_reducible apply emitFrame_forms | with_reducible apply keyUse_forms
    | with_reducible apply mapIport_forms | with_reducible apply Dev.incSat_forms
    | with_reducible apply takeFrame_forms | with_reducible apply mapIcl_forms
    | with_reducible refine pair_forms ‹_ = (_, _)› ?_ | with_reducible refine pair3_forms ‹_ = (_, _, _)› ?_
    | extract_lets | split | exact Dev.Forms.of ‹_› rfl rfl rfl rfl

theorem frameSend_forms (q : Nat) (at' : Nat) {d : Dev} (h : d.Forms) : (frameSend q at' d).Forms := by
  unfold frameSend
  repeat' first
    | with_reducible assumption | intro _ | with_reducible apply forEach_forms | with_reducible apply foldl_forms
    | with_reducible apply ite_forms | with_reducible apply Dev.advance_forms | with_reducible apply transmit_forms
    | with_reducible apply mapIport_forms | extract_lets | split

theorem setRoute_forms (en : Bool) (act : Fld) (down : Fld) (v : Nat × Nat) {d : Dev} (h : d.Forms) :
    (setRoute en act down v d).Forms := by
  unfold setRoute
  repeat' first
    | with_reducible assumption | with_reducible apply ite_forms | with_reducible apply Dev.set_forms
    | with_reducible apply Dev.raise_forms

theorem reroute_forms {d : Dev} (h : d.Forms) : (reroute d).Forms := by
  unfold reroute
  repeat' first
    | with_reducible assumption | intro _ | with_reducible apply forEach_forms | with_reducible apply foldl_forms
    | with_reducible apply setRoute_forms

theorem mapTime_forms (f : TimeSt → TimeSt) {d : Dev} (h : d.Forms) (hf : ∀ t : TimeSt,
    (f t).count = t.count := by intro _; rfl) :
    (mapTime f d).Forms := Dev.withTime_forms _ h (hf _)

theorem unstretch_forms {d : Dev} (h : d.Forms) : (unstretch d).Forms := by
  unfold unstretch
  repeat' first
    | with_reducible assumption | intro _ | with_reducible apply forEach_forms | with_reducible apply foldl_forms
    | with_reducible apply ite_forms | with_reducible refine mapTime_forms _ ?_ (fun _ => by with_unfolding_all rfl)
    | extract_lets | split

theorem dropForeign_forms {d : Dev} (h : d.Forms) : (dropForeign d).Forms := by
  unfold dropForeign
  repeat' first
    | with_reducible assumption | intro _ | with_reducible apply forEach_forms | with_reducible apply foldl_forms
    | with_reducible refine mapTime_forms _ ?_ (fun _ => by with_unfolding_all rfl)
    | with_reducible apply Dev.set_forms | with_reducible apply unstretch_forms | split

theorem steer_forms (target : Rat) {d : Dev} (h : d.Forms) : (steer target d).Forms := by
  unfold steer
  repeat' first
    | with_reducible assumption | intro _ | with_reducible apply forEach_forms | with_reducible apply foldl_forms
    | with_reducible refine mapTime_forms _ ?_ (fun _ => by with_unfolding_all rfl)

theorem holdCorr_forms {d : Dev} (h : d.Forms) : (holdCorr d).Forms := by
  unfold holdCorr
  repeat' first
    | with_reducible assumption | with_reducible apply steer_forms

theorem setEffect_forms (n : Nat) {d : Dev} (h : d.Forms) : (setEffect n d).Forms := by
  unfold setEffect
  repeat' first
    | with_reducible assumption | with_reducible apply Dev.set_forms

theorem cmdPends_forms (p : RmPending) (n : Nat) {d : Dev} (h : d.Forms) : (cmdPends p n d).Forms := by
  unfold cmdPends
  repeat' first
    | with_reducible assumption | intro _ | with_reducible apply forEach_forms | with_reducible apply foldl_forms
    | with_reducible apply Dev.set_forms | with_reducible apply setEffect_forms
    | with_reducible refine mapTime_forms _ ?_ (fun _ => by with_unfolding_all rfl)

theorem issueAlign_forms {d : Dev} (h : d.Forms) : (issueAlign d).Forms := by
  unfold issueAlign
  repeat' first
    | with_reducible assumption | intro _ | with_reducible apply forEach_forms | with_reducible apply foldl_forms
    | with_reducible apply ite_forms | with_reducible refine mapTime_forms _ ?_ (fun _ => by with_unfolding_all rfl)
    | with_reducible apply cmdPends_forms | extract_lets | split

theorem setDisc_forms (st : Nat) {d : Dev} (h : d.Forms) : (setDisc st d).Forms := by
  unfold setDisc
  repeat' first
    | with_reducible assumption | intro _ | with_reducible apply forEach_forms | with_reducible apply foldl_forms
    | with_reducible apply ite_forms | with_reducible refine mapTime_forms _ ?_ (fun _ => by with_unfolding_all rfl)
    | with_reducible apply Dev.raise_forms | with_reducible apply Dev.set_forms | with_reducible apply holdCorr_forms
    | with_reducible apply issueAlign_forms

theorem stopFollow_forms {d : Dev} (h : d.Forms) : (stopFollow d).Forms := by
  unfold stopFollow
  repeat' first
    | with_reducible assumption | intro _ | with_reducible apply forEach_forms | with_reducible apply foldl_forms
    | with_reducible apply ite_forms | with_reducible refine mapTime_forms _ ?_ (fun _ => by with_unfolding_all rfl)
    | with_reducible apply dropForeign_forms | with_reducible apply setDisc_forms | with_reducible apply Dev.set_forms
    | with_reducible apply mapIcl_forms

theorem toMaster_forms (kind : Nat) (body : List Byte) {d : Dev} (h : d.Forms) : (toMaster kind body d).Forms := by
  unfold toMaster
  repeat' first
    | with_reducible assumption | with_reducible apply sendTo_forms | split

theorem readyCheck_forms {d : Dev} (h : d.Forms) : (readyCheck d).Forms := by
  unfold readyCheck
  repeat' first
    | with_reducible assumption | intro _ | with_reducible apply forEach_forms | with_reducible apply foldl_forms
    | with_reducible apply ite_forms | with_reducible apply toMaster_forms | with_reducible apply Dev.set_forms
    | with_reducible apply mapIcl_forms
    | with_reducible refine mapTime_forms _ ?_ (fun _ => by with_unfolding_all rfl)

theorem beginFollow_forms {d : Dev} (h : d.Forms) : (beginFollow d).Forms := by
  unfold beginFollow
  exact setDisc_forms _ (Dev.Forms.of (Dev.set_forms _ _ h) rfl rfl rfl rfl)

theorem followCheck_forms  {d : Dev} (h : d.Forms) :
    (followCheck d).Forms := by
  unfold followCheck
  repeat' first
    | with_reducible assumption | intro _ | with_reducible apply forEach_forms | with_reducible apply foldl_forms
    | with_reducible apply ite_forms | with_reducible apply stopFollow_forms
    | with_reducible apply beginFollow_forms | with_reducible refine pair_forms ‹_ = (_, _)› ?_
    | with_reducible refine pair3_forms ‹_ = (_, _, _)› ?_ | extract_lets | split
    | exact Dev.Forms.of ‹_› rfl rfl rfl rfl

theorem settleLink_forms {d : Dev} (h : d.Forms) : (settleLink d).Forms := by
  unfold settleLink
  repeat' first
    | with_reducible assumption | with_reducible apply readyCheck_forms | with_reducible apply followCheck_forms
    | with_reducible apply reroute_forms

theorem selectUpstream_forms {d : Dev} (h : d.Forms) : (selectUpstream d).Forms := by
  unfold selectUpstream
  repeat' first
    | with_reducible assumption | intro _ | with_reducible apply forEach_forms | with_reducible apply foldl_forms
    | with_reducible apply ite_forms | with_reducible apply Dev.set_forms | extract_lets | split

theorem ownMap_forms {d : Dev} (h : d.Forms) : (ownMap d).Forms := by
  unfold ownMap
  repeat' first
    | with_reducible assumption | intro _ | with_reducible apply forEach_forms | with_reducible apply foldl_forms
    | with_reducible apply ite_forms | with_reducible apply mapIcl_forms | with_reducible apply Dev.set_forms

theorem recomputeCeil_forms {d : Dev} (h : d.Forms) : (recomputeCeil d).Forms := by
  unfold recomputeCeil
  repeat' first
    | with_reducible assumption | with_reducible apply Dev.set_forms | split

theorem setMembership_forms (st : Nat) {d : Dev} (h : d.Forms) :
    (setMembership st d).Forms := by
  unfold setMembership
  repeat' first
    | with_reducible assumption | intro _ | with_reducible apply forEach_forms | with_reducible apply foldl_forms
    | with_reducible apply ite_forms | with_reducible apply recomputeCeil_forms
    | with_reducible apply Dev.set_forms | with_reducible refine pair_forms ‹_ = (_, _)› ?_
    | with_reducible refine pair3_forms ‹_ = (_, _, _)› ?_ | extract_lets | split
    | exact Dev.Forms.of ‹_› rfl rfl rfl rfl

theorem rediscover_forms {d : Dev} (h : d.Forms) : (rediscover d).Forms := by
  unfold rediscover
  repeat' first
    | with_reducible assumption | intro _ | with_reducible apply forEach_forms | with_reducible apply foldl_forms
    | with_reducible apply setMembership_forms | with_reducible apply setCascErr_forms
    | with_reducible apply mapIcl_forms | with_reducible apply ownMap_forms
    | with_reducible refine mapTime_forms _ ?_ (fun _ => by with_unfolding_all rfl)

theorem Dev.clrBit_forms {d : Dev} (f : Fld) (i : Nat) (h : d.Forms) : (Dev.clrBit d f i).Forms := by
  unfold Dev.clrBit
  repeat' first
    | with_reducible assumption | with_reducible apply ite_forms | with_reducible apply Dev.set_forms

theorem memberLeft_forms (i : Nat) {d : Dev} (h : d.Forms) : (memberLeft i d).Forms := by
  unfold memberLeft
  repeat' first
    | with_reducible assumption | intro _ | with_reducible apply forEach_forms | with_reducible apply foldl_forms
    | with_reducible apply ite_forms | with_reducible apply mapIcl_forms | with_reducible apply reroute_forms
    | with_reducible apply Dev.raise_forms | with_reducible apply Dev.clrBit_forms

theorem removeFollower_forms (i : Nat) {d : Dev} (h : d.Forms) : (removeFollower i d).Forms := by
  unfold removeFollower
  repeat' first
    | with_reducible assumption | with_reducible apply memberLeft_forms | with_reducible apply sendAll_forms

theorem withAttn_forms (q : Nat) (f : Dev → Dev) {d : Dev} (hf : ∀ e : Dev, e.Forms → (f e).Forms) (h : d.Forms) :
    (withAttn q f d).Forms := by
  unfold withAttn
  repeat' first
    | with_reducible assumption | with_reducible apply hf | with_reducible apply ite_forms
    | with_reducible apply Dev.raise_forms

theorem Dev.setQueue_forms {d : Dev} (q : Nat) (x : QSt) (h : d.Forms) : (Dev.setQueue d q x).Forms := by
  unfold Dev.setQueue
  repeat' first
    | with_reducible assumption | exact Dev.Forms.of h rfl rfl rfl rfl

theorem pfcSend_forms (q : Nat) (xoff : Bool) {d : Dev} (h : d.Forms) : (pfcSend q xoff d).Forms := by
  unfold pfcSend
  repeat' first
    | with_reducible assumption | intro _ | with_reducible apply forEach_forms | with_reducible apply foldl_forms
    | with_reducible apply ite_forms | with_reducible apply Dev.emit_forms

theorem queueReset_forms (q : Nat) {d : Dev} (h : d.Forms) : (queueReset q d).Forms := by
  unfold queueReset
  repeat' first
    | with_reducible assumption | with_reducible apply ite_forms | with_reducible apply Dev.setQueue_forms
    | with_reducible apply pfcSend_forms | with_reducible apply Dev.set_forms | extract_lets | split
    | exact Dev.Forms.of h rfl rfl rfl rfl

theorem ptrError_forms (q : Nat) (kind : Nat) (a : Nat) (b : Nat) {d : Dev} (h : d.Forms) :
    (ptrError q kind a b d).Forms := by
  unfold ptrError
  repeat' first
    | with_reducible assumption | intro _ | with_reducible apply forEach_forms | with_reducible apply foldl_forms
    | with_reducible apply ite_forms | with_reducible apply Dev.raise_forms | with_reducible apply withAttn_forms
    | with_reducible apply queueReset_forms | with_reducible apply Dev.set_forms | with_reducible apply Dev.bbr_forms

theorem closeOpen_forms (q : Nat) (w : PushWord) {d : Dev} (h : d.Forms) : (closeOpen q w d).Forms := by
  unfold closeOpen
  repeat' first
    | with_reducible assumption | with_reducible apply ite_forms | with_reducible apply Dev.setQueue_forms

theorem countDrop_forms (q : Nat) {d : Dev} (h : d.Forms) : (countDrop q d).Forms := by
  unfold countDrop
  repeat' first
    | with_reducible assumption | with_reducible apply Dev.incSat_forms

theorem truncate_forms (q : Nat) {d : Dev} (h : d.Forms) : (truncate q d).Forms := by
  unfold truncate
  repeat' first
    | with_reducible assumption | intro _ | with_reducible apply forEach_forms | with_reducible apply foldl_forms
    | with_reducible apply Dev.raise_forms | with_reducible apply Dev.setQueue_forms

theorem poolLow_forms {d : Dev} (h : d.Forms) : (poolLow d).Forms := by
  unfold poolLow
  repeat' first
    | with_reducible assumption | with_reducible apply ite_forms | with_reducible apply Dev.raise_forms | extract_lets
    | split | exact Dev.Forms.of h rfl rfl rfl rfl

theorem freeCells_forms (cs : List Nat) {d : Dev} (h : d.Forms) : (freeCells cs d).Forms := by
  unfold freeCells
  repeat' first
    | with_reducible assumption | intro _ | with_reducible apply forEach_forms | with_reducible apply foldl_forms
    | with_reducible apply poolLow_forms | exact Dev.Forms.of h rfl rfl rfl rfl

theorem discardOpen_forms (q : Nat) {d : Dev} (h : d.Forms) : (discardOpen q d).Forms := by
  unfold discardOpen
  repeat' first
    | with_reducible assumption | with_reducible apply freeCells_forms | with_reducible apply Dev.setQueue_forms

theorem dropWord_forms (src : QSource) (q : Nat) (w : PushWord) {d : Dev} (h : d.Forms) :
    (dropWord src q w d).Forms := by
  unfold dropWord
  repeat' first
    | with_reducible assumption | intro _ | with_reducible apply forEach_forms | with_reducible apply foldl_forms
    | with_reducible apply ite_forms | with_reducible apply withAttn_forms | with_reducible apply Dev.raise_forms
    | with_reducible apply countDrop_forms | with_reducible apply truncate_forms
    | with_reducible apply Dev.setQueue_forms | with_reducible apply discardOpen_forms | extract_lets | split

theorem takeCell_forms (q : Nat) {d : Dev} (h : d.Forms) : (takeCell q d).2.Forms := by
  unfold takeCell
  repeat' first
    | with_reducible assumption | with_reducible apply poolLow_forms | extract_lets
    | exact Dev.Forms.of h rfl rfl rfl rfl

theorem storeWord_forms (q : Nat) (w : PushWord) {d : Dev} (h : d.Forms) : (storeWord q w d).Forms := by
  unfold storeWord
  repeat' first
    | with_reducible assumption | intro _ | with_reducible apply forEach_forms | with_reducible apply foldl_forms
    | with_reducible apply ite_forms | with_reducible apply Dev.setQueue_forms | with_reducible apply takeCell_forms

theorem commitOpen_forms (q : Nat) (discard : Bool) {d : Dev} (h : d.Forms) : (commitOpen q discard d).2.Forms := by
  unfold commitOpen
  repeat' first
    | with_reducible assumption | intro _ | with_reducible apply forEach_forms | with_reducible apply foldl_forms
    | with_reducible apply ite_forms | with_reducible apply discardOpen_forms
    | with_reducible apply Dev.setQueue_forms | extract_lets | split

theorem pushWord_forms (src : QSource) (q : Nat) (w : PushWord) {d : Dev} (h : d.Forms) :
    (pushWord src q w d).2.Forms := by
  unfold pushWord
  repeat' first
    | with_reducible assumption | intro _ | with_reducible apply forEach_forms | with_reducible apply foldl_forms
    | with_reducible apply ite_forms | with_reducible apply closeOpen_forms | with_reducible apply dropWord_forms
    | with_reducible apply storeWord_forms | with_reducible apply countDrop_forms
    | with_reducible apply Dev.setQueue_forms | with_reducible apply discardOpen_forms
    | with_reducible apply commitOpen_forms | with_reducible refine pair_forms ‹_ = (_, _)› ?_
    | with_reducible refine pair3_forms ‹_ = (_, _, _)› ?_ | extract_lets | split

theorem wmEval_forms (q : Nat) {d : Dev} (h : d.Forms) : (wmEval q d).Forms := by
  unfold wmEval
  repeat' first
    | with_reducible assumption | with_reducible apply ite_forms | with_reducible apply Dev.set_forms
    | with_reducible apply pfcSend_forms | with_reducible apply Dev.raise_forms
    | with_reducible apply Dev.incSat_forms

theorem trimCells_forms (q : Nat) {d : Dev} (h : d.Forms) : (trimCells q d).Forms := by
  unfold trimCells
  repeat' first
    | with_reducible assumption | with_reducible apply ite_forms | with_reducible apply freeCells_forms
    | with_reducible apply Dev.setQueue_forms

theorem pushWords_forms (src : QSource) (q : Nat) (ws : List PushWord) {d : Dev} (h : d.Forms) :
    (pushWords src q ws d).2.2.Forms := by
  induction ws generalizing d with
  | nil => exact h
  | cons w ws ih =>
    have hw := pushWord_forms src q w h
    unfold pushWords
    split <;> rename_i d1 e <;> rw [e] at hw
    · exact hw
    · exact ih (withAttn_forms _ _ (fun _ h => wmEval_forms _ h) (trimCells_forms _ hw))
    · exact ih (withAttn_forms _ _ (fun _ h => wmEval_forms _ h) hw)

theorem poolUe_forms  {d : Dev} (h : d.Forms) :
    (poolUe d).Forms := by
  unfold poolUe
  repeat' first
    | with_reducible assumption | intro _ | with_reducible apply forEach_forms | with_reducible apply foldl_forms
    | with_reducible apply ite_forms | with_reducible apply Dev.incSat_forms | with_reducible apply Dev.raise_forms
    | with_reducible refine pair_forms ‹_ = (_, _)› ?_ | with_reducible refine pair3_forms ‹_ = (_, _, _)› ?_
    | extract_lets | split | exact Dev.Forms.of ‹_› rfl rfl rfl rfl

theorem poolCe_forms  {d : Dev} (h : d.Forms) :
    (poolCe d).Forms := by
  unfold poolCe
  repeat' first
    | with_reducible assumption | intro _ | with_reducible apply forEach_forms | with_reducible apply foldl_forms
    | with_reducible apply ite_forms | with_reducible apply Dev.incSat_forms | with_reducible apply Dev.raise_forms
    | with_reducible refine pair_forms ‹_ = (_, _)› ?_ | with_reducible refine pair3_forms ‹_ = (_, _, _)› ?_
    | extract_lets | split | exact Dev.Forms.of ‹_› rfl rfl rfl rfl

theorem cellCes_forms (cs : List Nat) {d : Dev} (h : d.Forms) :
    (cellCes cs d).Forms := by
  unfold cellCes
  repeat' first
    | with_reducible assumption | intro _ | with_reducible apply forEach_forms | with_reducible apply foldl_forms
    | with_reducible apply ite_forms | with_reducible apply forEach_forms | with_reducible apply poolCe_forms
    | with_reducible refine pair_forms ‹_ = (_, _)› ?_ | with_reducible refine pair3_forms ‹_ = (_, _, _)› ?_
    | extract_lets | split | exact Dev.Forms.of ‹_› rfl rfl rfl rfl

theorem ptrCheck_forms (q : Nat) {d : Dev} (h : d.Forms) :
    (ptrCheck q d).2.Forms := by
  unfold ptrCheck
  repeat' first
    | with_reducible assumption | intro _ | with_reducible apply forEach_forms | with_reducible apply foldl_forms
    | with_reducible apply ite_forms | with_reducible apply ptrError_forms | with_reducible apply poolUe_forms
    | with_reducible apply cellCes_forms | with_reducible refine pair_forms ‹_ = (_, _)› ?_
    | with_reducible refine pair3_forms ‹_ = (_, _, _)› ?_ | extract_lets | split
    | exact Dev.Forms.of ‹_› rfl rfl rfl rfl

theorem qPush_forms (src : QSource) (q : Nat) (ws : List PushWord) {d : Dev} (h : d.Forms) :
    (qPush src q ws d).2.2.Forms := by
  unfold qPush
  repeat' first
    | with_reducible assumption | with_reducible apply ite_forms | with_reducible apply ptrCheck_forms
    | with_reducible apply pushWords_forms | with_reducible refine pair_forms ‹_ = (_, _)› ?_
    | with_reducible refine pair3_forms ‹_ = (_, _, _)› ?_ | extract_lets | split

theorem qCommit_forms (src : QSource) (q : Nat) (discard : Bool) {d : Dev} (h : d.Forms) :
    (qCommit src q discard d).2.2.Forms := by
  unfold qCommit
  repeat' first
    | with_reducible assumption | with_reducible apply ite_forms | with_reducible apply ptrCheck_forms
    | with_reducible apply commitOpen_forms | with_reducible apply withAttn_forms | with_reducible apply wmEval_forms
    | with_reducible refine pair_forms ‹_ = (_, _)› ?_ | with_reducible refine pair3_forms ‹_ = (_, _, _)› ?_
    | extract_lets | split

theorem pushSeg_forms (q : Nat) (g : RxSeg) {d : Dev} (h : d.Forms) : (pushSeg q g d).2.Forms := by
  unfold pushSeg
  repeat' first
    | with_reducible assumption | with_reducible apply ite_forms | with_reducible apply qPush_forms
    | with_reducible apply qCommit_forms | with_reducible refine pair_forms ‹_ = (_, _)› ?_
    | with_reducible refine pair3_forms ‹_ = (_, _, _)› ?_ | extract_lets | split

theorem drainSegs_forms (q : Nat) (gs : List RxSeg) (st : List Nat) {d : Dev} (h : d.Forms) :
    (drainSegs q gs st d).2.Forms := by
  induction gs generalizing d st with
  | nil => exact h
  | cons g rest ih =>
    have hw := pushSeg_forms q g h
    unfold drainSegs
    split
    · exact ih _ h
    · revert hw
      cases pushSeg q g d with
      | mk w e =>
        intro hw
        dsimp only
        split
        · exact ih _ hw
        · exact ih _ hw

theorem pushWaiting_forms (q : Nat) {d : Dev} (h : d.Forms) : (pushWaiting q d).Forms := by
  unfold pushWaiting
  repeat' first
    | with_reducible assumption | intro _ | with_reducible apply forEach_forms | with_reducible apply foldl_forms
    | with_reducible apply drainSegs_forms | with_reducible apply mapIport_forms

theorem cutOff_forms (q : Nat) (o : RxOpen) {d : Dev} (h : d.Forms) : (cutOff q o d).Forms := by
  unfold cutOff
  repeat' first
    | with_reducible assumption | intro _ | with_reducible apply forEach_forms | with_reducible apply foldl_forms
    | with_reducible apply mapIport_forms

theorem cutFrame_forms (q : Nat) (f : IclFrame) {d : Dev} (h : d.Forms) : (cutFrame q f d).Forms := by
  unfold cutFrame
  repeat' first
    | with_reducible assumption | with_reducible apply ite_forms | with_reducible apply pushWaiting_forms
    | with_reducible apply cutOff_forms | split

theorem takeSegment_forms (q : Nat) (f : IclFrame) {d : Dev} (h : d.Forms) : (takeSegment q f d).Forms := by
  unfold takeSegment
  repeat' first
    | with_reducible assumption | intro _ | with_reducible apply forEach_forms | with_reducible apply foldl_forms
    | with_reducible apply ite_forms | with_reducible apply cutOff_forms | with_reducible apply mapIport_forms
    | extract_lets | split

theorem portFault_forms (q : Nat) (why : Nat) {d : Dev} (h : d.Forms) : (portFault q why d).Forms := by
  unfold portFault
  repeat' first
    | with_reducible assumption | intro _ | with_reducible apply forEach_forms | with_reducible apply foldl_forms
    | with_reducible apply Dev.raise_forms | with_reducible apply Dev.set_forms | with_reducible apply mapIport_forms
    | with_reducible apply cutOff_forms | with_reducible apply settleLink_forms
    | with_reducible apply selectUpstream_forms | with_reducible apply pushWaiting_forms

theorem portLeave_forms (q : Nat) (st : Nat) {d : Dev} (h : d.Forms) :
    (portLeave q st d).Forms := by
  unfold portLeave
  repeat' first
    | with_reducible assumption | intro _ | with_reducible apply forEach_forms | with_reducible apply foldl_forms
    | with_reducible apply ite_forms | with_reducible apply forEach_forms | with_reducible apply cutOff_forms
    | with_reducible apply mapIport_forms | with_reducible apply pushWaiting_forms
    | with_reducible apply Dev.resetFlds_forms | with_reducible apply settleLink_forms
    | with_reducible apply selectUpstream_forms | with_reducible apply Dev.set_forms
    | with_reducible refine pair_forms ‹_ = (_, _)› ?_ | with_reducible refine pair3_forms ‹_ = (_, _, _)› ?_
    | extract_lets | split | exact Dev.Forms.of ‹_› rfl rfl rfl rfl

theorem portDrop_forms (q : Nat) (st : Nat) {d : Dev} (h : d.Forms) :
    (portDrop q st d).Forms := by
  unfold portDrop
  repeat' first
    | with_reducible assumption | intro _ | with_reducible apply forEach_forms | with_reducible apply foldl_forms
    | with_reducible apply ite_forms | with_reducible apply portLeave_forms
    | with_reducible apply Dev.resetFlds_forms | with_reducible refine pair_forms ‹_ = (_, _)› ?_
    | with_reducible refine pair3_forms ‹_ = (_, _, _)› ?_ | extract_lets | split
    | exact Dev.Forms.of ‹_› rfl rfl rfl rfl

theorem iclPortWrite_forms (q : Nat) (v : Nat) {d : Dev} (h : d.Forms) : (iclPortWrite q v d).Forms := by
  unfold iclPortWrite
  repeat' first
    | with_reducible assumption | intro _ | with_reducible apply forEach_forms | with_reducible apply foldl_forms
    | with_reducible apply ite_forms | with_reducible apply iclHost_forms | with_reducible apply Dev.set_forms
    | with_reducible apply Dev.answer_forms | with_reducible apply portDrop_forms

theorem trainingDone_forms (q : Nat) {d : Dev} (h : d.Forms) : (trainingDone q d).Forms := by
  unfold trainingDone
  repeat' first
    | with_reducible assumption | intro _ | with_reducible apply forEach_forms | with_reducible apply foldl_forms
    | with_reducible apply ite_forms | with_reducible apply mapIport_forms | with_reducible apply Dev.set_forms

theorem barkerSend_forms (q : Nat) {d : Dev} (h : d.Forms) : (barkerSend q d).Forms := by
  unfold barkerSend
  repeat' first
    | with_reducible assumption | with_reducible apply ite_forms | with_reducible apply queueOut_forms

theorem linkLoss_forms (q : Nat) {d : Dev} (h : d.Forms) : (linkLoss q d).Forms := by
  unfold linkLoss
  repeat' first
    | with_reducible assumption | with_reducible apply ite_forms | with_reducible apply portDrop_forms

theorem rxSilence_forms (q : Nat) {d : Dev} (h : d.Forms) : (rxSilence q d).Forms := by
  unfold rxSilence
  repeat' first
    | with_reducible assumption | with_reducible apply ite_forms | with_reducible apply portDrop_forms
    | with_reducible apply Dev.advance_forms

theorem Dev.bump_forms {d : Dev} (h : d.Forms) : (Dev.bump d).Forms := by
  unfold Dev.bump
  repeat' first
    | with_reducible assumption | exact Dev.Forms.of h rfl rfl rfl rfl

theorem measure_forms (q : Nat) (twice : Int) {d : Dev} (h : d.Forms) : (measure q twice d).Forms := by
  unfold measure
  repeat' first
    | with_reducible assumption | intro _ | with_reducible apply forEach_forms | with_reducible apply foldl_forms
    | with_reducible apply ite_forms | with_reducible apply mapIport_forms | with_reducible apply Dev.set_forms
    | with_reducible apply Dev.bump_forms | with_reducible apply portFault_forms

theorem keyProbe_forms (q : Nat) {d : Dev} (h : d.Forms) : (keyProbe q d).Forms := by
  unfold keyProbe
  repeat' first
    | with_reducible assumption | intro _ | with_reducible apply forEach_forms | with_reducible apply foldl_forms
    | with_reducible apply ite_forms | with_reducible apply portFault_forms | with_reducible apply mapIport_forms
    | with_reducible apply queueOut_forms | extract_lets | split

theorem faultRetry_forms (q : Nat) {d : Dev} (h : d.Forms) : (faultRetry q d).Forms := by
  unfold faultRetry
  repeat' first
    | with_reducible assumption | intro _ | with_reducible apply forEach_forms | with_reducible apply foldl_forms
    | with_reducible apply ite_forms | with_reducible apply keyProbe_forms | with_reducible apply mapIport_forms
    | with_reducible apply Dev.set_forms

theorem takeInbox_forms (q : Nat) (is' : IclFrame → Bool) {d : Dev} (h : d.Forms) : (takeInbox q is' d).2.Forms := by
  unfold takeInbox
  repeat' first
    | with_reducible assumption | with_reducible apply hf | intro _ | with_reducible apply forEach_forms
    | with_reducible apply foldl_forms | with_reducible apply mapIport_forms | split

theorem noRoute_forms (q : Nat) {d : Dev} (h : d.Forms) : (noRoute q d).Forms := by
  unfold noRoute
  repeat' first
    | with_reducible assumption | with_reducible apply Dev.incSat_forms

theorem relayFrame_forms (q : Nat) (f : IclFrame) {d : Dev} (h : d.Forms) : (relayFrame q f d).Forms := by
  unfold relayFrame
  repeat' first
    | with_reducible assumption | with_reducible apply ite_forms | with_reducible apply queueOut_forms
    | with_reducible apply Dev.incSat_forms | with_reducible apply noRoute_forms | split

theorem relayControl_forms (q : Nat) (f : IclFrame) {d : Dev} (h : d.Forms) : (relayControl q f d).Forms := by
  unfold relayControl
  repeat' first
    | with_reducible assumption | intro _ | with_reducible apply forEach_forms | with_reducible apply foldl_forms
    | with_reducible apply ite_forms | with_reducible apply mapIcl_forms | with_reducible apply sendAll_forms
    | with_reducible apply noRoute_forms

theorem acceptFrame_forms (q : Nat) (f : IclFrame) {d : Dev} (h : d.Forms) : (acceptFrame q f d).Forms := by
  unfold acceptFrame
  repeat' first
    | with_reducible assumption | intro _ | with_reducible apply forEach_forms | with_reducible apply foldl_forms
    | with_reducible apply ite_forms | with_reducible apply mapIport_forms | with_reducible apply Dev.incSat_forms
    | with_reducible apply cutFrame_forms | with_reducible apply keyUse_forms

theorem iclFrameRx_forms (q : Nat) (bs : List Byte) (at' : Nat) {d : Dev} (h : d.Forms) :
    (iclFrameRx q bs at' d).Forms := by
  unfold iclFrameRx
  repeat' first
    | with_reducible assumption | intro _ | with_reducible apply forEach_forms | with_reducible apply foldl_forms
    | with_reducible apply ite_forms | with_reducible apply Dev.advance_forms | with_reducible apply mapIport_forms
    | with_reducible apply cutFrame_forms | with_reducible apply Dev.incSat_forms | with_reducible apply mapIcl_forms
    | with_reducible apply relayFrame_forms | with_reducible apply acceptFrame_forms
    | with_reducible apply relayControl_forms | extract_lets | split

theorem mapCarried_forms (present : Nat) (masters : Nat) {d : Dev} (h : d.Forms) :
    (mapCarried present masters d).Forms := by
  unfold mapCarried
  repeat' first
    | with_reducible assumption | intro _ | with_reducible apply forEach_forms | with_reducible apply foldl_forms
    | with_reducible apply ite_forms | with_reducible apply mapIcl_forms | with_reducible apply Dev.set_forms

theorem barkerFrom_forms (q : Nat) (at' : Int) (n : Nat) {d : Dev} (h : d.Forms) : (barkerFrom q at' n d).Forms := by
  unfold barkerFrom
  repeat' first
    | with_reducible assumption | intro _ | with_reducible apply forEach_forms | with_reducible apply foldl_forms
    | with_reducible apply ite_forms | with_reducible apply mapIport_forms | with_reducible apply Dev.set_forms
    | with_reducible apply mapCarried_forms | with_reducible apply measure_forms
    | with_reducible apply portFault_forms | with_reducible apply setCascErr_forms
    | with_reducible apply settleLink_forms | with_reducible apply selectUpstream_forms

theorem barkerRx_forms (q : Nat) {d : Dev} (h : d.Forms) : (barkerRx q d).Forms := by
  unfold barkerRx
  repeat' first
    | with_reducible assumption | intro _ | with_reducible apply forEach_forms | with_reducible apply foldl_forms
    | with_reducible apply ite_forms | with_reducible apply takeInbox_forms | with_reducible apply portDrop_forms
    | with_reducible apply barkerFrom_forms | with_reducible refine pair_forms ‹_ = (_, _)› ?_
    | with_reducible refine pair3_forms ‹_ = (_, _, _)› ?_ | extract_lets | split

theorem probeRx_forms (q : Nat) {d : Dev} (h : d.Forms) : (probeRx q d).Forms := by
  unfold probeRx
  repeat' first
    | with_reducible assumption | intro _ | with_reducible apply forEach_forms | with_reducible apply foldl_forms
    | with_reducible apply ite_forms | with_reducible apply takeInbox_forms | with_reducible apply settleLink_forms
    | with_reducible apply selectUpstream_forms | with_reducible apply Dev.set_forms
    | with_reducible apply portFault_forms | with_reducible refine pair_forms ‹_ = (_, _)› ?_
    | with_reducible refine pair3_forms ‹_ = (_, _, _)› ?_ | extract_lets | split

theorem mapAgeOut_forms (i : Nat) (masters : Bool) {d : Dev} (h : d.Forms) : (mapAgeOut i masters d).Forms := by
  unfold mapAgeOut
  repeat' first
    | with_reducible assumption | intro _ | with_reducible apply forEach_forms | with_reducible apply foldl_forms
    | with_reducible apply ite_forms | with_reducible apply Dev.advance_forms | with_reducible apply mapIcl_forms
    | with_reducible apply Dev.clrBit_forms | extract_lets | split

theorem mapSettle_forms {d : Dev} (h : d.Forms) : (mapSettle d).Forms := by
  unfold mapSettle
  repeat' first
    | with_reducible assumption | intro _ | with_reducible apply forEach_forms | with_reducible apply foldl_forms
    | with_reducible apply ite_forms | with_reducible apply Dev.advance_forms | with_reducible apply settleLink_forms
    | with_reducible apply setCascErr_forms | with_reducible apply portFault_forms | with_reducible apply mapIcl_forms
    | extract_lets | split

theorem readySend_forms {d : Dev} (h : d.Forms) : (readySend d).Forms := by
  unfold readySend
  repeat' first
    | with_reducible assumption | with_reducible apply ite_forms | with_reducible apply toMaster_forms
    | with_reducible apply Dev.set_forms | with_reducible apply readyCheck_forms

theorem heardFrom_forms (i : Nat) {d : Dev} (h : d.Forms) : (heardFrom i d).Forms := by
  unfold heardFrom
  repeat' first
    | with_reducible assumption | intro _ | with_reducible apply forEach_forms | with_reducible apply foldl_forms
    | with_reducible apply mapIcl_forms

theorem readyRx_forms (q : Nat) {d : Dev} (h : d.Forms) : (readyRx q d).Forms := by
  unfold readyRx
  repeat' first
    | with_reducible assumption | intro _ | with_reducible apply forEach_forms | with_reducible apply foldl_forms
    | with_reducible apply ite_forms | with_reducible apply takeInbox_forms | with_reducible apply heardFrom_forms
    | with_reducible apply mapIcl_forms | with_reducible refine pair_forms ‹_ = (_, _)› ?_
    | with_reducible refine pair3_forms ‹_ = (_, _, _)› ?_ | split

theorem withdrawRx_forms (q : Nat) {d : Dev} (h : d.Forms) : (withdrawRx q d).Forms := by
  unfold withdrawRx
  repeat' first
    | with_reducible assumption | intro _ | with_reducible apply forEach_forms | with_reducible apply foldl_forms
    | with_reducible apply ite_forms | with_reducible apply takeInbox_forms
    | with_reducible apply removeFollower_forms | with_reducible apply mapIcl_forms
    | with_reducible refine pair_forms ‹_ = (_, _)› ?_ | with_reducible refine pair3_forms ‹_ = (_, _, _)› ?_
    | extract_lets | split

theorem joinSend_forms {d : Dev} (h : d.Forms) : (joinSend d).Forms := by
  unfold joinSend
  repeat' first
    | with_reducible assumption | intro _ | with_reducible apply forEach_forms | with_reducible apply foldl_forms
    | with_reducible apply ite_forms | with_reducible apply Dev.set_forms
    | with_reducible refine mapTime_forms _ ?_ (fun _ => by with_unfolding_all rfl)
    | with_reducible apply mapIcl_forms | with_reducible apply sendAll_forms

theorem joinRx_forms (q : Nat) {d : Dev} (h : d.Forms) : (joinRx q d).Forms := by
  unfold joinRx
  repeat' first
    | with_reducible assumption | intro _ | with_reducible apply forEach_forms | with_reducible apply foldl_forms
    | with_reducible apply ite_forms | with_reducible apply takeInbox_forms
    | with_reducible refine mapTime_forms _ ?_ (fun _ => by with_unfolding_all rfl)
    | with_reducible apply mapIcl_forms | with_reducible apply Dev.set_forms
    | with_reducible refine pair_forms ‹_ = (_, _)› ?_ | with_reducible refine pair3_forms ‹_ = (_, _, _)› ?_
    | extract_lets | split

theorem joinEdge_forms {d : Dev} (h : d.Forms) : (joinEdge d).Forms := by
  unfold joinEdge
  repeat' first
    | with_reducible assumption | intro _ | with_reducible apply forEach_forms | with_reducible apply foldl_forms
    | with_reducible apply ite_forms | with_reducible apply Dev.raise_forms | with_reducible apply setMembership_forms
    | with_reducible apply Dev.set_forms | with_reducible apply mapIcl_forms | with_reducible apply heardFrom_forms
    | with_reducible apply reroute_forms | with_reducible apply removeFollower_forms | extract_lets | split

theorem leaveRx_forms (q : Nat) {d : Dev} (h : d.Forms) : (leaveRx q d).Forms := by
  unfold leaveRx
  repeat' first
    | with_reducible assumption | with_reducible apply ite_forms | with_reducible apply takeInbox_forms
    | with_reducible apply removeFollower_forms | with_reducible apply memberLeft_forms
    | with_reducible refine pair_forms ‹_ = (_, _)› ?_ | with_reducible refine pair3_forms ‹_ = (_, _, _)› ?_
    | extract_lets | split

theorem statusSend_forms {d : Dev} (h : d.Forms) : (statusSend d).Forms := by
  unfold statusSend
  repeat' first
    | with_reducible assumption | with_reducible apply ite_forms | with_reducible apply toMaster_forms

theorem statusRx_forms (q : Nat) {d : Dev} (h : d.Forms) : (statusRx q d).Forms := by
  unfold statusRx
  repeat' first
    | with_reducible assumption | with_reducible apply ite_forms | with_reducible apply takeInbox_forms
    | with_reducible apply mapCarried_forms | with_reducible apply heardFrom_forms
    | with_reducible refine pair_forms ‹_ = (_, _)› ?_ | with_reducible refine pair3_forms ‹_ = (_, _, _)› ?_
    | extract_lets | split

theorem followerTimeout_forms (i : Nat) {d : Dev} (h : d.Forms) : (followerTimeout i d).Forms := by
  unfold followerTimeout
  repeat' first
    | with_reducible assumption | intro _ | with_reducible apply forEach_forms | with_reducible apply foldl_forms
    | with_reducible apply ite_forms | with_reducible apply Dev.advance_forms
    | with_reducible apply removeFollower_forms | with_reducible apply memberLeft_forms | extract_lets | split

theorem masterTimeout_forms {d : Dev} (h : d.Forms) : (masterTimeout d).Forms := by
  unfold masterTimeout
  repeat' first
    | with_reducible assumption | intro _ | with_reducible apply forEach_forms | with_reducible apply foldl_forms
    | with_reducible apply ite_forms | with_reducible apply Dev.raise_forms | with_reducible apply setCascErr_forms
    | with_reducible apply setMembership_forms | with_reducible apply Dev.advance_forms
    | with_reducible apply Dev.clrBit_forms | with_reducible apply holdCorr_forms
    | with_reducible apply dropForeign_forms | with_reducible apply Dev.set_forms
    | with_reducible apply settleLink_forms
    | with_reducible refine mapTime_forms _ ?_ (fun _ => by with_unfolding_all rfl)
    | with_reducible apply mapIcl_forms | extract_lets | split

theorem batchSend_forms (n : Nat) (r : Nat) (t : Nat) {d : Dev} (h : d.Forms) : (batchSend n r t d).Forms := by
  unfold batchSend
  repeat' first
    | with_reducible assumption | intro _ | with_reducible apply forEach_forms | with_reducible apply foldl_forms
    | with_reducible apply ite_forms | with_reducible apply setSlot_forms | with_reducible apply noRoute_forms
    | with_reducible apply queueOut_forms

theorem unwrite_forms (b : Batch) {d : Dev} (h : d.Forms) : (unwrite b d).Forms := by
  unfold unwrite
  repeat' first
    | with_reducible assumption | intro _ | with_reducible apply forEach_forms | with_reducible apply foldl_forms
    | with_reducible apply mapIcl_forms | with_reducible apply mapSlot_forms | extract_lets | split

theorem streamPut_forms (r : Nat) (t : Nat) (ws : List Token) {d : Dev} (h : d.Forms) :
    (streamPut r t ws d).Forms := by
  unfold streamPut
  repeat' first
    | with_reducible assumption | intro _ | with_reducible apply forEach_forms | with_reducible apply foldl_forms
    | with_reducible apply mapSlot_forms

theorem batchWrite_forms (b : Batch) {d : Dev} (h : d.Forms) : (batchWrite b d).Forms := by
  unfold batchWrite
  repeat' first
    | with_reducible assumption | intro _ | with_reducible apply forEach_forms | with_reducible apply foldl_forms
    | with_reducible apply ite_forms | with_reducible apply Dev.incSat_forms | with_reducible apply Dev.bump_forms
    | with_reducible apply mapIcl_forms | with_reducible apply streamPut_forms | extract_lets | split

theorem tokenBatchWrite_forms (ch : Nat) {d : Dev} (h : d.Forms) : (tokenBatchWrite ch d).Forms := by
  unfold tokenBatchWrite
  repeat' first
    | with_reducible assumption | intro _ | with_reducible apply forEach_forms | with_reducible apply foldl_forms
    | with_reducible apply ite_forms | with_reducible apply mapIcl_forms | with_reducible apply Dev.incSat_forms
    | with_reducible apply batchWrite_forms | extract_lets | split

theorem deliveredDev_forms (w : QWord) {d : Dev} (h : d.Forms) :
    (deliveredDev w d).Forms := by
  unfold deliveredDev
  repeat' first
    | with_reducible assumption | intro _ | with_reducible apply forEach_forms | with_reducible apply foldl_forms
    | with_reducible apply ite_forms | with_reducible apply forEach_forms | with_reducible apply Dev.bump_forms
    | with_reducible refine pair_forms ‹_ = (_, _)› ?_ | with_reducible refine pair3_forms ‹_ = (_, _, _)› ?_
    | extract_lets | split | exact Dev.Forms.of ‹_› rfl rfl rfl rfl

theorem popFlaws_forms (w : QWord) {d : Dev} (h : d.Forms) :
    (popFlaws w d).Forms := by
  unfold popFlaws
  repeat' first
    | with_reducible assumption | intro _ | with_reducible apply forEach_forms | with_reducible apply foldl_forms
    | with_reducible apply ite_forms | with_reducible apply forEach_forms | with_reducible apply poolCe_forms
    | with_reducible apply poolUe_forms | with_reducible refine pair_forms ‹_ = (_, _)› ?_
    | with_reducible refine pair3_forms ‹_ = (_, _, _)› ?_ | extract_lets | split
    | exact Dev.Forms.of ‹_› rfl rfl rfl rfl

theorem popWord_forms (q : Nat) (w : QWord) (join : Option (Dev → Dev)) {d : Dev} (h : d.Forms)
    (hj : ∀ f, join = some f → ∀ e : Dev, e.Forms → (f e).Forms) : (popWord q w join d).Forms := by
  unfold popWord
  extract_lets d1 x d2
  have h1 : d1.Forms := by
    show (match join with | none => d | some f => f d).Forms
    split
    · exact h
    · exact hj _ rfl _ h
  clear_value d1
  exact withAttn_forms _ _ (fun _ h => wmEval_forms _ h) (popFlaws_forms _ (deliveredDev_forms _
    (trimCells_forms _ (Dev.setQueue_forms _ _ h1))))

/-- The meeting push of a pop keeps the forms where the push itself does (R229). -/
theorem joinOnly_forms (q : Nat) (join : Option (Dev → Dev)) {d : Dev} (h : d.Forms)
    (hj : ∀ f, join = some f → ∀ e : Dev, e.Forms → (f e).Forms) : (joinOnly q join d).Forms := by
  unfold joinOnly
  split
  · exact h
  · exact withAttn_forms _ _ (fun _ h => wmEval_forms _ h) (hj _ rfl _ h)

theorem popWords_forms (q : Nat) (whole : Bool) (join : Option (Dev → Dev)) (n : Nat) {d : Dev} (h : d.Forms)
    (hj : ∀ f, join = some f → ∀ e : Dev, e.Forms → (f e).Forms) : (popWords q whole join n d).2.2.2.Forms := by
  induction n generalizing d join with
  | zero => exact joinOnly_forms _ _ h hj
  | succ n ih =>
    rw [popWords]
    generalize (d.queue q).visible (qMode d q) = vis
    cases vis with
    | nil => exact joinOnly_forms _ _ h hj
    | cons w _ =>
      dsimp only
      by_cases hw : w.tagFlaw = .double
      · rw [if_pos hw]; dsimp only; exact ptrError_forms _ _ _ _ (poolUe_forms (joinOnly_forms _ _ h hj))
      · rw [if_neg hw]
        by_cases hf : whole = true ∧ w.fin = true
        · rw [if_pos hf]; dsimp only; exact popWord_forms q w join h hj
        · rw [if_neg hf]
          have h2 := ih none (popWord_forms q w join h hj) (fun _ hf => nomatch hf)
          generalize popWords q whole none n (popWord q w join d) = s at h2 ⊢
          exact h2

theorem qPopJoin_forms (src : QSource) (q n : Nat) (whole : Bool) (join : Option (Dev → Dev)) {d : Dev} (h : d.Forms)
    (hj : ∀ f, join = some f → ∀ e : Dev, e.Forms → (f e).Forms) : (qPopJoin src q n whole join d).2.2.Forms := by
  unfold qPopJoin
  split
  · exact h
  · have hp := ptrCheck_forms q h
    generalize ptrCheck q d = s at hp
    obtain ⟨bad, d1⟩ := s
    exact pair_ite3 hp (pair_ite3 (joinOnly_forms _ _ hp hj) (popWords_forms q whole join n hp hj))

theorem qPop_forms (src : QSource) (q n : Nat) (whole : Bool) {d : Dev} (h : d.Forms) :
    (qPop src q n whole d).2.2.Forms := qPopJoin_forms src q n whole none h (fun _ hf => nomatch hf)

theorem queueTransfer_forms (q : Nat) {d : Dev} (h : d.Forms) : (queueTransfer q d).Forms := by
  unfold queueTransfer
  repeat' first
    | with_reducible assumption | intro _ | with_reducible apply forEach_forms | with_reducible apply foldl_forms
    | with_reducible apply ite_forms | with_reducible apply qPop_forms | with_reducible apply keyUse_forms
    | with_reducible apply Dev.incSat_forms | with_reducible apply queueOut_forms
    | with_reducible refine pair_forms ‹_ = (_, _)› ?_ | with_reducible refine pair3_forms ‹_ = (_, _, _)› ?_
    | extract_lets | split

theorem queueSegRx_forms (q : Nat) {d : Dev} (h : d.Forms) : (queueSegRx q d).Forms := by
  unfold queueSegRx
  repeat' first
    | with_reducible assumption | intro _ | with_reducible apply forEach_forms | with_reducible apply foldl_forms
    | with_reducible apply takeInbox_forms | with_reducible apply pushWaiting_forms
    | with_reducible apply takeSegment_forms | with_reducible refine pair_forms ‹_ = (_, _)› ?_
    | with_reducible refine pair3_forms ‹_ = (_, _, _)› ?_ | split

theorem tunnelEnds_forms (c : Resp) {d : Dev} (h : d.Forms) : (tunnelEnds c d).Forms := by
  unfold tunnelEnds
  repeat' first
    | with_reducible assumption | with_reducible apply Dev.set_forms

theorem tunnelCmd_forms (op : Nat) (dest : Nat) {d : Dev} (h : d.Forms) : (tunnelCmd op dest d).Forms := by
  unfold tunnelCmd
  repeat' first
    | with_reducible assumption | intro _ | with_reducible apply forEach_forms | with_reducible apply foldl_forms
    | with_reducible apply ite_forms | with_reducible apply iclHost_forms | with_reducible apply Dev.answer_forms
    | with_reducible apply tunnelEnds_forms | with_reducible apply mapIcl_forms | with_reducible apply queueOut_forms
    | with_reducible apply Dev.set_forms | extract_lets | split

theorem tunRspRx_forms (q : Nat) {d : Dev} (h : d.Forms) : (tunRspRx q d).Forms := by
  unfold tunRspRx
  repeat' first
    | with_reducible assumption | intro _ | with_reducible apply forEach_forms | with_reducible apply foldl_forms
    | with_reducible apply ite_forms | with_reducible apply takeInbox_forms | with_reducible apply tunnelEnds_forms
    | with_reducible apply Dev.set_forms | with_reducible refine pair_forms ‹_ = (_, _)› ?_
    | with_reducible refine pair3_forms ‹_ = (_, _, _)› ?_ | extract_lets | split

theorem tunnelTimeout_forms {d : Dev} (h : d.Forms) : (tunnelTimeout d).Forms := by
  unfold tunnelTimeout
  repeat' first
    | with_reducible assumption | with_reducible apply ite_forms | with_reducible apply tunnelEnds_forms
    | with_reducible apply Dev.advance_forms

theorem markerSend_forms (n : Nat) (t : Nat) {d : Dev} (h : d.Forms) : (markerSend n t d).Forms := by
  unfold markerSend
  repeat' first
    | with_reducible assumption | intro _ | with_reducible apply forEach_forms | with_reducible apply foldl_forms
    | with_reducible apply ite_forms | with_reducible apply sendAll_forms | with_reducible apply mapIcl_forms

theorem takeAnnounced_forms (f : IclFrame) {d : Dev} (h : d.Forms) : (takeAnnounced f d).Forms := by
  unfold takeAnnounced
  repeat' first
    | with_reducible assumption | intro _ | with_reducible apply forEach_forms | with_reducible apply foldl_forms
    | with_reducible apply ite_forms | with_reducible refine mapTime_forms _ ?_ (fun _ => by with_unfolding_all rfl)
    | with_reducible apply Dev.set_forms | with_reducible apply dropForeign_forms | extract_lets | split

theorem cmdEnds_forms (code : Resp) {d : Dev} (h : d.Forms) : (cmdEnds code d).Forms := by
  unfold cmdEnds
  repeat' first
    | with_reducible assumption | intro _ | with_reducible apply forEach_forms | with_reducible apply foldl_forms
    | with_reducible apply Dev.raise_forms | with_reducible apply Dev.set_forms
    | with_reducible refine mapTime_forms _ ?_ (fun _ => by with_unfolding_all rfl)

theorem startTicks_forms {d : Dev} (h : d.Forms) : (startTicks d).Forms := by
  unfold startTicks
  repeat' first
    | with_reducible assumption | intro _ | with_reducible apply forEach_forms | with_reducible apply foldl_forms
    | with_reducible apply Dev.set_forms
    | with_reducible refine mapTime_forms _ ?_ (fun _ => by with_unfolding_all rfl)

theorem followStart_forms (q : Nat) (at' : Int) (f : IclFrame) {d : Dev} (h : d.Forms) :
    (followStart q at' f d).Forms := by
  unfold followStart
  repeat' first
    | with_reducible assumption | intro _ | with_reducible apply forEach_forms | with_reducible apply foldl_forms
    | with_reducible apply ite_forms | with_reducible apply cmdEnds_forms | with_reducible apply unstretch_forms
    | with_reducible apply startTicks_forms | with_reducible apply Dev.set_forms
    | with_reducible refine mapTime_forms _ ?_ (fun _ => by with_unfolding_all rfl)
    | with_reducible apply mapIcl_forms | with_reducible apply setDisc_forms

theorem followServo_forms (e : Int) (arrived : Nat) {d : Dev} (h : d.Forms) : (followServo e arrived d).Forms := by
  unfold followServo
  repeat' first
    | with_reducible assumption | intro _ | with_reducible apply forEach_forms | with_reducible apply foldl_forms
    | with_reducible apply ite_forms | with_reducible apply Dev.bump_forms
    | with_reducible refine mapTime_forms _ ?_ (fun _ => by with_unfolding_all rfl)

theorem followTrack_forms (q : Nat) (at' : Int) (f : IclFrame) {d : Dev} (h : d.Forms) :
    (followTrack q at' f d).Forms := by
  unfold followTrack
  repeat' first
    | with_reducible assumption | intro _ | with_reducible apply forEach_forms | with_reducible apply foldl_forms
    | with_reducible apply ite_forms | with_reducible apply followServo_forms | with_reducible apply Dev.set_forms
    | with_reducible refine mapTime_forms _ ?_ (fun _ => by with_unfolding_all rfl)
    | with_reducible apply Dev.raise_forms | with_reducible apply mapIcl_forms | with_reducible apply readyCheck_forms
    | with_reducible apply takeAnnounced_forms | extract_lets | split

theorem relayMarker_forms (q : Nat) (at' : Int) (f : IclFrame) {d : Dev} (h : d.Forms) :
    (relayMarker q at' f d).Forms := by
  unfold relayMarker
  repeat' first
    | with_reducible assumption | with_reducible apply ite_forms | with_reducible apply sendAll_forms
    | with_reducible apply noRoute_forms

theorem tickMarkRx_forms (q : Nat) {d : Dev} (h : d.Forms) : (tickMarkRx q d).Forms := by
  unfold tickMarkRx
  repeat' first
    | with_reducible assumption | intro _ | with_reducible apply forEach_forms | with_reducible apply foldl_forms
    | with_reducible apply ite_forms | with_reducible apply takeInbox_forms | with_reducible apply relayMarker_forms
    | with_reducible apply Dev.incWrap_forms | with_reducible apply followTrack_forms
    | with_reducible apply followStart_forms | with_reducible refine pair_forms ‹_ = (_, _)› ?_
    | with_reducible refine pair3_forms ‹_ = (_, _, _)› ?_ | extract_lets | split

theorem setFabric_forms (r : Nat) {d : Dev} (h : d.Forms) : (setFabric r d).Forms := by
  unfold setFabric
  repeat' first
    | with_reducible assumption | intro _ | with_reducible apply forEach_forms | with_reducible apply foldl_forms
    | with_reducible apply ite_forms | with_reducible apply mapRing_forms

theorem storeMem_forms (a : Nat) (ws : List Nat) {d : Dev} (h : d.Forms) : (storeMem a ws d).Forms := by
  unfold storeMem
  exact ⟨memWf_wrBytes _ _ _ h.1, h.2⟩

theorem setRef_forms (i : Nat) (crc : Nat) {d : Dev} (h : d.Forms) : (setRef i crc d).Forms := by
  unfold setRef
  repeat' first
    | with_reducible assumption | intro _ | with_reducible apply forEach_forms | with_reducible apply foldl_forms
    | with_reducible apply mapCfg_forms

theorem writeFrame_forms (a : Nat) (ws : List Nat) (crc : Nat) {d : Dev} (h : d.Forms) :
    (writeFrame a ws crc d).Forms := by
  unfold writeFrame
  repeat' first
    | with_reducible assumption | intro _ | with_reducible apply forEach_forms | with_reducible apply foldl_forms
    | with_reducible apply ite_forms | with_reducible apply storeMem_forms | with_reducible apply setRef_forms
    | with_reducible apply mapCfg_forms | with_reducible apply setFabric_forms | extract_lets | split

theorem Dev.chipZero_forms {d : Dev} (a : Nat) (n : Nat) (h : d.Forms) : (Dev.chipZero d a n).Forms := by
  unfold Dev.chipZero
  exact ⟨memWf_zeroCells _ _ _ h.1, h.2⟩

theorem mirrorHeader_forms (e : Nat) {d : Dev} (h : d.Forms) : (mirrorHeader e d).Forms := by
  unfold mirrorHeader
  repeat' first
    | with_reducible assumption | intro _ | with_reducible apply forEach_forms | with_reducible apply foldl_forms
    | with_reducible apply Dev.set_forms

theorem clearFrames_forms (r : Nat) {d : Dev} (h : d.Forms) : (clearFrames r d).Forms := by
  unfold clearFrames
  repeat' first
    | with_reducible assumption | intro _ | with_reducible apply forEach_forms | with_reducible apply foldl_forms
    | with_reducible apply mapCfg_forms | with_reducible apply Dev.chipZero_forms | with_reducible apply Dev.set_forms
    | with_reducible apply setFabric_forms | with_reducible apply mirrorHeader_forms

theorem clearShadow_forms {d : Dev} (h : d.Forms) : (clearShadow d).Forms := by
  unfold clearShadow
  repeat' first
    | with_reducible assumption | intro _ | with_reducible apply forEach_forms | with_reducible apply foldl_forms
    | with_reducible apply mapCfg_forms

theorem portTake_forms (data : List Word) {d : Dev} (h : d.Forms) : (portTake data d).Forms := by
  unfold portTake
  repeat' first
    | with_reducible assumption | intro _ | with_reducible apply forEach_forms | with_reducible apply foldl_forms
    | with_reducible apply ite_forms | with_reducible apply mapCfg_forms

theorem dropWords_forms (window : Bool) (n : Nat) {d : Dev} (h : d.Forms) : (dropWords window n d).Forms := by
  unfold dropWords
  repeat' first
    | with_reducible assumption | intro _ | with_reducible apply forEach_forms | with_reducible apply foldl_forms
    | with_reducible apply ite_forms | with_reducible apply mapCfg_forms

theorem setSync_forms (window : Bool) (on : Bool) {d : Dev} (h : d.Forms) : (setSync window on d).Forms := by
  unfold setSync
  repeat' first
    | with_reducible assumption | intro _ | with_reducible apply forEach_forms | with_reducible apply foldl_forms
    | with_reducible apply ite_forms | with_reducible apply mapCfg_forms

theorem syncWordFind_forms (window : Bool) (data : List Word) {d : Dev} (h : d.Forms) :
    (syncWordFind window data d).Forms := by
  unfold syncWordFind
  repeat' first
    | with_reducible assumption | intro _ | with_reducible apply forEach_forms | with_reducible apply foldl_forms
    | with_reducible apply ite_forms | with_reducible apply portTake_forms | with_reducible apply mapCfg_forms
    | with_reducible apply Dev.advance_forms | with_reducible apply Dev.set_forms | with_reducible apply setSync_forms
    | extract_lets | split

theorem recordErr_forms (code : Nat) (part : Bool) (faddr : Option Nat) (resp : Nat) (rec : Nat) {d : Dev} (h : d.Forms) :
    (recordErr code part faddr resp rec d).Forms := by
  unfold recordErr
  repeat' first
    | with_reducible assumption | with_reducible apply Dev.raise_forms | with_reducible apply Dev.set_forms
    | with_reducible apply Dev.bbr_forms | extract_lets | split

theorem failFull_forms {d : Dev} (h : d.Forms) : (failFull d).Forms := by
  unfold failFull
  repeat' first
    | with_reducible assumption | with_reducible apply Dev.set_forms

theorem headerFail_forms (window : Bool) (part : Bool) (code : Nat) {d : Dev} (h : d.Forms) :
    (headerFail window part code d).Forms := by
  unfold headerFail
  repeat' first
    | with_reducible assumption | with_reducible apply ite_forms | with_reducible apply recordErr_forms
    | with_reducible apply setSync_forms | with_reducible apply failFull_forms

theorem showOut_forms (r : Nat) (t : Nat) (value : Nat) (status : Nat) {d : Dev} (h : d.Forms) :
    (showOut r t value status d).Forms := by
  unfold showOut
  repeat' first
    | with_reducible assumption | with_reducible apply ite_forms | with_reducible apply Dev.set_forms
    | with_reducible apply setSlot_forms | with_reducible apply Dev.emit_forms

theorem showOuts_forms (r : Nat) (status : Nat) {d : Dev} (h : d.Forms) : (showOuts r status d).Forms := by
  unfold showOuts
  repeat' first
    | with_reducible assumption | intro _ | with_reducible apply forEach_forms | with_reducible apply foldl_forms
    | with_reducible apply showOut_forms | with_reducible apply Dev.setRing_forms | extract_lets | split

theorem mapEdge_forms (m : Nat) (e : Nat) (f : EdgeSt → EdgeSt) {d : Dev} (h : d.Forms) :
    (mapEdge m e f d).Forms := by
  unfold mapEdge
  repeat' first
    | with_reducible assumption | with_reducible apply hf | intro _ | with_reducible apply forEach_forms
    | with_reducible apply foldl_forms | with_reducible apply mapRing_forms

theorem driveSafe_forms (m : Nat) {d : Dev} (h : d.Forms) : (driveSafe m d).Forms := by
  unfold driveSafe
  repeat' first
    | with_reducible assumption | intro _ | with_reducible apply forEach_forms | with_reducible apply foldl_forms
    | with_reducible apply ite_forms | with_reducible apply Dev.raise_forms | with_reducible apply mapRing_forms
    | with_reducible apply Dev.set_forms | with_reducible apply showOuts_forms | with_reducible apply mapEdge_forms

theorem closeGroup_forms (r : Nat) {d : Dev} (h : d.Forms) : (closeGroup r d).Forms := by
  unfold closeGroup
  repeat' first
    | with_reducible assumption | intro _ | with_reducible apply forEach_forms | with_reducible apply foldl_forms
    | with_reducible apply ite_forms | with_reducible apply setRState_forms | with_reducible apply driveSafe_forms
    | with_reducible apply Dev.set_forms | with_reducible apply mapRing_forms

theorem askClose_forms (why : CloseWhy) (m : Nat) {d : Dev} (h : d.Forms) : (askClose why m d).Forms := by
  unfold askClose
  repeat' first
    | with_reducible assumption | intro _ | with_reducible apply forEach_forms | with_reducible apply foldl_forms
    | with_reducible apply ite_forms | with_reducible apply Dev.set_forms | with_reducible apply mapRing_forms
    | with_reducible apply haltGroup_forms | with_reducible apply closeGroup_forms

theorem loadFail_forms (code : Nat) (faddr : Option Nat) (resp : Nat) (rec : Nat) {d : Dev} (h : d.Forms) :
    (loadFail code faddr resp rec d).Forms := by
  unfold loadFail
  repeat' first
    | with_reducible assumption | intro _ | with_reducible apply forEach_forms | with_reducible apply foldl_forms
    | with_reducible apply ite_forms | with_reducible apply recordErr_forms | with_reducible apply mapCfg_forms
    | with_reducible apply Dev.set_forms | with_reducible apply askClose_forms | with_reducible apply failFull_forms
    | extract_lets | split

theorem cfgCmdWrite_forms (abort : Bool) {d : Dev} (h : d.Forms) : (cfgCmdWrite abort d).Forms := by
  unfold cfgCmdWrite
  repeat' first
    | with_reducible assumption | with_reducible apply ite_forms | with_reducible apply Dev.answer_forms
    | with_reducible apply loadFail_forms | with_reducible apply Dev.set_forms | split

theorem disarm_forms (r : Nat) {d : Dev} (h : d.Forms) : (disarm r d).Forms := by
  unfold disarm
  repeat' first
    | with_reducible assumption | intro _ | with_reducible apply forEach_forms | with_reducible apply foldl_forms
    | with_reducible apply ite_forms | with_reducible apply Dev.set_forms | with_reducible apply setRState_forms
    | with_reducible apply syncSched_forms | with_reducible apply Dev.setRing_forms
    | with_reducible apply recomputeCeil_forms | extract_lets | split

theorem acceptHeader_forms (window : Bool) (h0 : List Nat) {d : Dev} (h : d.Forms) :
    (acceptHeader window h0 d).Forms := by
  unfold acceptHeader
  repeat' first
    | with_reducible assumption | intro _ | with_reducible apply forEach_forms | with_reducible apply foldl_forms
    | with_reducible apply ite_forms | with_reducible apply setSync_forms | with_reducible apply mapCfg_forms
    | with_reducible apply Dev.set_forms | with_reducible apply disarm_forms | with_reducible apply askClose_forms

theorem headerPacket_forms (window : Bool) (data : List Word) {d : Dev} (h : d.Forms) :
    (headerPacket window data d).Forms := by
  unfold headerPacket
  repeat' first
    | with_reducible assumption | with_reducible apply ite_forms | with_reducible apply portTake_forms
    | with_reducible apply headerFail_forms | with_reducible apply dropWords_forms
    | with_reducible apply acceptHeader_forms | extract_lets | split

theorem mapLoad_forms (f : LoadSt → LoadSt) {d : Dev} (h : d.Forms) : (mapLoad f d).Forms := by
  unfold mapLoad
  repeat' first
    | with_reducible assumption | with_reducible apply hf | intro _ | with_reducible apply forEach_forms
    | with_reducible apply foldl_forms | with_reducible apply mapCfg_forms

theorem oneFrame_forms (l : LoadSt) (ws : List Nat) (crc : Nat) {d e : Dev} (h : d.Forms)
    (he : oneFrame l ws crc d = some e) :
    e.Forms := by
  have hw : ∀ a, ((writeFrame a ws crc d).incWrap CFG_FRAMES_FRAMES).Forms := fun a => Dev.incWrap_forms _ (writeFrame_forms _ _ _ h)
  unfold oneFrame at he
  extract_lets a at he
  split at he
  · injection he with he; subst he; exact loadFail_forms _ _ _ _ h
  split at he
  · injection he with he; subst he; exact loadFail_forms _ _ _ _ h
  split at he
  · injection he with he; subst he; exact loadFail_forms _ _ _ _ h
  split at he
  · cases he
  have h2 : ∀ g, (mapLoad g ((writeFrame a ws crc d).incWrap CFG_FRAMES_FRAMES)).Forms := fun g => mapLoad_forms g (hw _)
  split at he
  · split at he
    · injection he with he; subst he; exact loadFail_forms _ _ _ _ (h2 _)
    · injection he with he; subst he; exact mapLoad_forms _ (h2 _)
  · injection he with he; subst he; exact h2 _

theorem skipNops_forms (l : LoadSt) (n : Nat) {d : Dev} (h : d.Forms) : (skipNops l n d).Forms := by
  induction n generalizing d with
  | zero => exact h
  | succ n ih =>
    unfold skipNops
    split
    · exact ih (dropWords_forms _ _ h)
    · exact h

theorem loadHead_forms (data : List Word) {d e : Dev} {l : LoadSt} {x : Head} (h : d.Forms)
    (he : loadHead data d = some (l, x, e)) :
    e.Forms := by
  unfold loadHead at he
  extract_lets d1 at he
  have h1 : d1.Forms := ite_forms (portTake_forms _ h) h
  split at he
  · cases he
  · split at he
    · injection he with he; injection he with _ he; injection he with _ he; subst he; exact h1
    · injection he with he; injection he with _ he; injection he with _ he; subst he; exact skipNops_forms _ _ h1

theorem takeFrame129_forms {d : Dev} (h : d.Forms) : (takeFrame129 d).Forms := by
  unfold takeFrame129
  split
  · exact h
  · extract_lets ws
    split
    · exact h
    · split
      · rename_i d1 e
        exact oneFrame_forms _ _ _ (dropWords_forms _ _ h) e
      · exact h

theorem cfgFrame_forms (data : List Word) {d : Dev} (h : d.Forms) : (cfgFrame data d).Forms := by
  unfold cfgFrame
  split
  · exact h
  · rename_i e; exact loadFail_forms _ _ _ _ (loadHead_forms _ h e)
  · rename_i e; exact takeFrame129_forms (mapLoad_forms _ (dropWords_forms _ _ (loadHead_forms _ h e)))
  · rename_i e; exact ite_forms (takeFrame129_forms (loadHead_forms _ h e)) (loadHead_forms _ h e)
  · rename_i e; exact loadHead_forms _ h e

theorem runPlain_forms (n : Nat) (ws : List Nat) {d : Dev} (h : d.Forms) : (runPlain n ws d).Forms := by
  induction n generalizing ws d with
  | zero => exact h
  | succ n ih =>
    unfold runPlain
    split
    · exact h
    · rename_i l hl
      split
      · split
        · exact loadFail_forms _ _ _ _ h
        · refine ih _ ?_
          cases ho : oneFrame l (ws.take 128) (ws.getD 128 0) d with
          | none => exact h
          | some e => exact oneFrame_forms _ _ _ h ho
      · split
        · exact h
        · exact ih _ h
        · exact ih _ (mapLoad_forms _ h)
        · exact loadFail_forms _ _ _ _ h

theorem encPacket_forms (data : List Word) {d : Dev} (h : d.Forms) : (encPacket data d).Forms := by
  unfold encPacket
  split
  · rename_i e; exact loadFail_forms _ _ _ _ (loadHead_forms _ h e)
  · rename_i e
    have h1 := loadHead_forms _ h e
    split
    · exact h1
    · extract_lets ws iv cipher tag key d2 d3
      have h3 : d3.Forms := runPlain_forms _ _ (mapLoad_forms _ (dropWords_forms _ _ h1))
      split
      · exact loadFail_forms _ _ _ _ (secAlarm_forms _ _ _ h3)
      · exact h3
  · rename_i e; exact loadHead_forms _ h e
  · exact h

theorem windowWrite_forms (v : Word) {d : Dev} (h : d.Forms) : (windowWrite v d).Forms := by
  unfold windowWrite
  repeat' first
    | with_reducible assumption | intro _ | with_reducible apply forEach_forms | with_reducible apply foldl_forms
    | with_reducible apply ite_forms | with_reducible apply Dev.answer_forms | with_reducible apply mapCfg_forms

theorem fuseCmdWrite_forms (unlock : Nat) (req : Bool) (key : Bool) {d : Dev} (h : d.Forms) :
    (fuseCmdWrite unlock req key d).Forms := by
  unfold fuseCmdWrite
  repeat' first
    | with_reducible assumption | intro _ | with_reducible apply forEach_forms | with_reducible apply foldl_forms
    | with_reducible apply ite_forms | with_reducible apply Dev.answer_forms | with_reducible apply Dev.set_forms
    | with_reducible apply mapCfg_forms

theorem burnDone_forms {d : Dev} (h : d.Forms) : (burnDone d).Forms := by
  unfold burnDone
  repeat' first
    | with_reducible assumption | intro _ | with_reducible apply forEach_forms | with_reducible apply foldl_forms
    | with_reducible apply ite_forms | with_reducible apply Dev.set_forms | with_reducible apply mapCfg_forms
    | extract_lets | split

theorem attachSlot_forms (r : Nat) (t : Nat) (en : Bool) (target : Nat) {d : Dev} (h : d.Forms) :
    (attachSlot r t en target d).Forms := by
  unfold attachSlot
  repeat' first
    | with_reducible assumption | with_reducible apply ite_forms | with_reducible apply Dev.set_forms

theorem mapHost_forms (f : HostSt → HostSt) {d : Dev} (h : d.Forms) : (mapHost f d).Forms := by
  unfold mapHost
  repeat' first
    | with_reducible assumption | with_reducible apply hf | exact Dev.Forms.of h rfl rfl rfl rfl

theorem msixSend_forms (v : Nat) {d : Dev} (h : d.Forms) : (msixSend v d).Forms := by
  unfold msixSend
  repeat' first
    | with_reducible assumption | intro _ | with_reducible apply forEach_forms | with_reducible apply foldl_forms
    | with_reducible apply ite_forms | with_reducible apply mapHost_forms | with_reducible apply Dev.emit_forms
    | with_reducible apply Dev.setBit_forms

theorem msixUnmasked_forms (v : Nat) {d : Dev} (h : d.Forms) : (msixUnmasked v d).Forms := by
  unfold msixUnmasked
  repeat' first
    | with_reducible assumption | intro _ | with_reducible apply forEach_forms | with_reducible apply foldl_forms
    | with_reducible apply ite_forms | with_reducible apply msixSend_forms | with_reducible apply mapHost_forms

theorem msixWrite_forms (i : Nat) (v : Nat) {d : Dev} (h : d.Forms) : (msixWrite i v d).Forms := by
  unfold msixWrite
  repeat' first
    | with_reducible assumption | intro _ | with_reducible apply forEach_forms | with_reducible apply foldl_forms
    | with_reducible apply ite_forms | with_reducible apply msixUnmasked_forms | with_reducible apply mapHost_forms

theorem mapPort_forms (p : Nat) (f : PortSt → PortSt) {d : Dev} (h : d.Forms) : (mapPort p f d).Forms := by
  unfold mapPort
  repeat' first
    | with_reducible assumption | with_reducible apply hf | exact Dev.Forms.of h rfl rfl rfl rfl

theorem netSettle_forms (p : Nat) {d : Dev} (h : d.Forms) : (netSettle p d).Forms := by
  unfold netSettle
  repeat' first
    | with_reducible assumption | intro _ | with_reducible apply forEach_forms | with_reducible apply foldl_forms
    | with_reducible apply ite_forms | with_reducible apply mapPort_forms | with_reducible apply Dev.incSat_forms
    | with_reducible apply Dev.set_forms | extract_lets | split

theorem clearCounter_forms (a : Nat) {d : Dev} (h : d.Forms) : (clearCounter a d).Forms := by
  unfold clearCounter
  repeat' first
    | with_reducible assumption | with_reducible apply ite_forms | with_reducible apply netSettle_forms
    | with_reducible apply Dev.answer_forms | with_reducible apply Dev.resetFlds_forms

theorem girqEoi_forms (v : Nat) {d : Dev} (h : d.Forms) : (girqEoi v d).Forms := by
  unfold girqEoi
  repeat' first
    | with_reducible assumption | with_reducible apply ite_forms | with_reducible apply Dev.answer_forms
    | with_reducible apply msixSend_forms | with_reducible apply Dev.clrBit_forms

theorem dmaCtrlWrite_forms (n : Nat) (en : Bool) {d : Dev} (h : d.Forms) : (dmaCtrlWrite n en d).Forms := by
  unfold dmaCtrlWrite
  repeat' first
    | with_reducible assumption | with_reducible apply ite_forms | with_reducible apply Dev.set_forms
    | with_reducible apply Dev.answer_forms

theorem storeReg_forms (a : Nat) (v : Nat) {d : Dev} (h : d.Forms) : (storeReg a v d).Forms := by
  unfold storeReg
  repeat' first
    | with_reducible assumption | with_reducible apply Dev.answer_forms | with_reducible apply writeFlds_forms

theorem storeUnless_forms (no : Bool) (a : Nat) (v : Nat) {d : Dev} (h : d.Forms) : (storeUnless no a v d).Forms := by
  unfold storeUnless
  repeat' first
    | with_reducible assumption | with_reducible apply ite_forms | with_reducible apply Dev.answer_forms
    | with_reducible apply storeReg_forms

theorem dmaCmdWrite_forms (n : Nat) (resume : Bool) (abort : Bool) {d : Dev} (h : d.Forms) :
    (dmaCmdWrite n resume abort d).Forms := by
  unfold dmaCmdWrite
  repeat' first
    | with_reducible assumption | intro _ | with_reducible apply forEach_forms | with_reducible apply foldl_forms
    | with_reducible apply ite_forms | with_reducible apply Dev.set_forms | with_reducible apply Dev.answer_forms
    | with_reducible apply mapHost_forms

theorem dmaRegWrite_forms (n : Nat) (a : Nat) (v : Nat) {d : Dev} (h : d.Forms) : (dmaRegWrite n a v d).Forms := by
  unfold dmaRegWrite
  repeat' first
    | with_reducible assumption | with_reducible apply dmaCtrlWrite_forms | with_reducible apply storeUnless_forms
    | with_reducible apply dmaCmdWrite_forms | with_reducible apply storeReg_forms | split

theorem globalWrite_forms (a : Nat) (v : Nat) {d : Dev} (h : d.Forms) : (globalWrite a v d).Forms := by
  unfold globalWrite
  repeat' first
    | with_reducible assumption | with_reducible apply ite_forms | with_reducible apply girqEoi_forms
    | with_reducible apply dmaRegWrite_forms | with_reducible apply storeReg_forms

theorem setPeriod_forms (ns : Nat) (frac : Nat) {d : Dev} (h : d.Forms) : (setPeriod ns frac d).Forms := by
  unfold setPeriod
  repeat' first
    | with_reducible assumption | with_reducible apply recomputeCeil_forms | with_reducible apply Dev.set_forms

theorem closeNow_forms (r : Nat) {d : Dev} (h : d.Forms) : (closeNow r d).Forms := by
  unfold closeNow
  repeat' first
    | with_reducible assumption | intro _ | with_reducible apply forEach_forms | with_reducible apply foldl_forms
    | with_reducible apply ite_forms | with_reducible apply closeGroup_forms

theorem stopTicks_forms {d : Dev} (h : d.Forms) : (stopTicks d).Forms := by
  unfold stopTicks
  repeat' first
    | with_reducible assumption | intro _ | with_reducible apply forEach_forms | with_reducible apply foldl_forms
    | with_reducible apply cmdEnds_forms | with_reducible apply setEffect_forms | with_reducible apply setPeriod_forms
    | with_reducible refine mapTime_forms _ ?_ (fun _ => by with_unfolding_all rfl)
    | with_reducible apply Dev.set_forms | with_reducible apply haltGroup_forms | with_reducible apply closeNow_forms
    | extract_lets | split

theorem rmCtrlWrite_forms (v : Nat) {d : Dev} (h : d.Forms) : (rmCtrlWrite v d).Forms := by
  unfold rmCtrlWrite
  repeat' first
    | with_reducible assumption | with_reducible apply ite_forms | with_reducible apply Dev.answer_forms
    | with_reducible apply startTicks_forms | with_reducible apply Dev.set_forms
    | with_reducible apply stopTicks_forms | extract_lets | split | with_reducible apply writeFlds_forms

theorem tickSet_forms (lo : Nat) {d : Dev} (h : d.Forms) : (tickSet lo d).Forms := by
  unfold tickSet
  split
  · exact Dev.answer_forms _ _ h
  · refine Dev.answer_forms _ _ ?_
    have hs := Dev.set_forms RM_TICK_SET_LO_SET_LO lo h
    refine ⟨hs.1, hs.2.1, hs.2.2.1, ?_⟩
    show d.get RM_TICK_SET_HI_SET_HI * 2 ^ 32 + lo % 2 ^ 32 < 2 ^ 64
    have h1 : d.get RM_TICK_SET_HI_SET_HI < 2 ^ 32 := Nat.mod_lt _ (by decide)
    have h2 : lo % 2 ^ 32 < 2 ^ 32 := Nat.mod_lt _ (by decide)
    omega

theorem cancelCmd_forms {d : Dev} (h : d.Forms) : (cancelCmd d).Forms := by
  unfold cancelCmd
  repeat' first
    | with_reducible assumption | with_reducible apply ite_forms | with_reducible apply Dev.answer_forms
    | with_reducible apply cmdEnds_forms | with_reducible apply unstretch_forms | with_reducible apply Dev.set_forms

theorem cmdRefused_forms {d : Dev} (h : d.Forms) : (cmdRefused d).Forms := by
  unfold cmdRefused
  repeat' first
    | with_reducible assumption | intro _ | with_reducible apply forEach_forms | with_reducible apply foldl_forms
    | with_reducible apply Dev.answer_forms
    | with_reducible refine mapTime_forms _ ?_ (fun _ => by with_unfolding_all rfl)
    | with_reducible apply Dev.set_forms

theorem applyPeriod_forms {d : Dev} (h : d.Forms) : (applyPeriod d).Forms := by
  unfold applyPeriod
  repeat' first
    | with_reducible assumption | with_reducible apply ite_forms | with_reducible apply Dev.set_forms
    | with_reducible apply cmdRefused_forms | with_reducible apply Dev.raise_forms
    | with_reducible apply Dev.answer_forms | with_reducible apply cmdEnds_forms
    | with_reducible apply setEffect_forms | with_reducible apply setPeriod_forms
    | with_reducible apply cmdPends_forms

theorem alignCmd_forms {d : Dev} (h : d.Forms) : (alignCmd d).Forms := by
  unfold alignCmd
  repeat' first
    | with_reducible assumption | with_reducible apply ite_forms | with_reducible apply Dev.set_forms
    | with_reducible apply cmdRefused_forms | with_reducible apply Dev.answer_forms
    | with_reducible apply issueAlign_forms

theorem rmCmdWrite_forms (op : Nat) {d : Dev} (h : d.Forms) : (rmCmdWrite op d).Forms := by
  unfold rmCmdWrite
  repeat' first
    | with_reducible assumption | with_reducible apply ite_forms | with_reducible apply cancelCmd_forms
    | with_reducible apply Dev.answer_forms | with_reducible apply applyPeriod_forms
    | with_reducible apply alignCmd_forms

theorem timeSet_forms (v : Nat) {d : Dev} (h : d.Forms) : (timeSet v d).Forms := by
  unfold timeSet
  repeat' first
    | with_reducible assumption | intro _ | with_reducible apply forEach_forms | with_reducible apply foldl_forms
    | with_reducible apply ite_forms | with_reducible apply Dev.answer_forms | with_reducible apply Dev.set_forms
    | with_reducible refine mapTime_forms _ ?_ (fun _ => by with_unfolding_all rfl)

theorem discWrite_forms (v : Nat) {d : Dev} (h : d.Forms) : (discWrite v d).Forms := by
  unfold discWrite
  repeat' first
    | with_reducible assumption | with_reducible apply ite_forms | with_reducible apply Dev.answer_forms
    | with_reducible apply setDisc_forms | with_reducible apply holdCorr_forms | extract_lets | split
    | with_reducible apply writeFlds_forms

theorem servo_forms (e : Rat) {d : Dev} (h : d.Forms) : (servo e d).Forms := by
  unfold servo
  repeat' first
    | with_reducible assumption | intro _ | with_reducible apply forEach_forms | with_reducible apply foldl_forms
    | with_reducible apply ite_forms | with_reducible apply Dev.bump_forms | with_reducible apply steer_forms
    | with_reducible refine mapTime_forms _ ?_ (fun _ => by with_unfolding_all rfl)
    | with_reducible apply Dev.set_forms | with_reducible apply Dev.raise_forms

theorem sample_forms (e : Int) {d : Dev} (h : d.Forms) : (sample e d).Forms := by
  unfold sample
  repeat' first
    | with_reducible assumption | intro _ | with_reducible apply forEach_forms | with_reducible apply foldl_forms
    | with_reducible apply ite_forms | with_reducible apply Dev.set_forms | with_reducible apply servo_forms
    | with_reducible refine mapTime_forms _ ?_ (fun _ => by with_unfolding_all rfl)
    | with_reducible apply setDisc_forms

theorem ofsWrite_forms (v : Nat) {d : Dev} (h : d.Forms) : (ofsWrite v d).Forms := by
  unfold ofsWrite
  repeat' first
    | with_reducible assumption | with_reducible apply ite_forms | with_reducible apply Dev.answer_forms
    | with_reducible apply sample_forms

theorem tjDesignWrite_forms (col : Nat) {d : Dev} (h : d.Forms) : (tjDesignWrite col d).Forms := by
  unfold tjDesignWrite
  repeat' first
    | with_reducible assumption | with_reducible apply ite_forms | with_reducible apply Dev.answer_forms
    | with_reducible apply recomputeCeil_forms | with_reducible apply Dev.set_forms
    | with_reducible apply Dev.raise_forms

theorem contractWrite_forms (v : Nat) {d : Dev} (h : d.Forms) : (contractWrite v d).Forms := by
  unfold contractWrite
  repeat' first
    | with_reducible assumption | with_reducible apply ite_forms | with_reducible apply Dev.answer_forms
    | with_reducible apply tjDesignWrite_forms | with_reducible apply Dev.set_forms

theorem masterWrite_forms (a : Nat) (v : Nat) {d : Dev} (h : d.Forms) : (masterWrite a v d).Forms := by
  unfold masterWrite
  repeat' first
    | with_reducible assumption | with_reducible apply rmCtrlWrite_forms | with_reducible apply tickSet_forms
    | with_reducible apply rmCmdWrite_forms | with_reducible apply storeUnless_forms
    | with_reducible apply timeSet_forms | with_reducible apply discWrite_forms | with_reducible apply ofsWrite_forms
    | with_reducible apply Dev.answer_forms | with_reducible apply Dev.set_forms
    | with_reducible apply contractWrite_forms | with_reducible apply storeReg_forms | split

theorem Dev.withTg_forms {d : Dev} (t : TgSt) (h : d.Forms) : (Dev.withTg d t).Forms := by
  unfold Dev.withTg
  repeat' first
    | with_reducible assumption | exact Dev.Forms.of h rfl rfl rfl rfl

theorem noteTick_forms (r : Nat) {d : Dev} (h : d.Forms) : (noteTick r d).Forms := by
  unfold noteTick
  repeat' first
    | with_reducible assumption | with_reducible apply Dev.setRing_forms

theorem noteTicks_forms {d : Dev} (h : d.Forms) : (noteTicks d).Forms := by
  unfold noteTicks
  repeat' first
    | with_reducible assumption | intro _ | with_reducible apply forEach_forms | with_reducible apply foldl_forms
    | with_reducible apply noteTick_forms

theorem commandBy_forms (now : Bool) (mv : Nat) {d : Dev} (h : d.Forms) :
    (commandBy now mv d).Forms := by
  unfold commandBy
  repeat' first
    | with_reducible assumption | intro _ | with_reducible apply forEach_forms | with_reducible apply foldl_forms
    | with_reducible apply ite_forms | with_reducible apply noteTicks_forms | with_reducible apply Dev.withTg_forms
    | with_reducible apply Dev.set_forms | with_reducible refine pair_forms ‹_ = (_, _)› ?_
    | with_reducible refine pair3_forms ‹_ = (_, _, _)› ?_ | extract_lets | split
    | exact Dev.Forms.of ‹_› rfl rfl rfl rfl

theorem commandNow_forms (mv : Nat) {d : Dev} (h : d.Forms) :
    (commandNow mv d).Forms := by
  unfold commandNow
  repeat' first
    | with_reducible assumption | intro _ | with_reducible apply forEach_forms | with_reducible apply foldl_forms
    | with_reducible apply ite_forms | with_reducible apply commandBy_forms
    | with_reducible refine pair_forms ‹_ = (_, _)› ?_ | with_reducible refine pair3_forms ‹_ = (_, _, _)› ?_
    | extract_lets | split | exact Dev.Forms.of ‹_› rfl rfl rfl rfl

theorem tgRefresh_forms {d : Dev} (h : d.Forms) : (tgRefresh d).Forms := by
  unfold tgRefresh
  extract_lets old d1 d2
  have h1 : d1.Forms := Dev.set_forms _ _ h
  have h2 : d2.Forms := by
    show (match d1.tg.cmd with | none => d1 | some c => d1.set _ _).Forms
    split
    · exact h1
    · exact Dev.set_forms _ _ h1
  clear_value d2
  repeat' split
  all_goals first
    | exact h2
    | exact commandNow_forms _ h2

theorem tgCtrlWrite_forms (v : Nat) {d : Dev} (h : d.Forms) : (tgCtrlWrite v d).Forms := by
  unfold tgCtrlWrite
  repeat' first
    | with_reducible assumption | with_reducible apply ite_forms | with_reducible apply Dev.answer_forms
    | with_reducible apply tgRefresh_forms | with_reducible apply Dev.set_forms | extract_lets | split
    | with_reducible apply writeFlds_forms

theorem vsafeWrite_forms (mv : Nat) {d : Dev} (h : d.Forms) : (vsafeWrite mv d).Forms := by
  unfold vsafeWrite
  repeat' first
    | with_reducible assumption | with_reducible apply ite_forms | with_reducible apply Dev.answer_forms
    | with_reducible apply tgRefresh_forms | with_reducible apply Dev.set_forms | with_reducible apply Dev.raise_forms

theorem tgThermWrite_forms (v : Nat) {d : Dev} (h : d.Forms) : (tgThermWrite v d).Forms := by
  unfold tgThermWrite
  repeat' first
    | with_reducible assumption | with_reducible apply ite_forms | with_reducible apply Dev.answer_forms
    | with_reducible apply Dev.set_forms

theorem tgAvsWrite_forms (rate : Nat) {d : Dev} (h : d.Forms) : (tgAvsWrite rate d).Forms := by
  unfold tgAvsWrite
  repeat' first
    | with_reducible assumption | with_reducible apply Dev.set_forms | with_reducible apply Dev.answer_forms
    | with_reducible apply Dev.withTg_forms

theorem jump_forms (mv : Nat) {d : Dev} (h : d.Forms) :
    (jump mv d).Forms := by
  unfold jump
  repeat' first
    | with_reducible assumption | intro _ | with_reducible apply forEach_forms | with_reducible apply foldl_forms
    | with_reducible apply ite_forms | with_reducible apply commandNow_forms
    | with_reducible apply Dev.withTg_forms | with_reducible refine pair_forms ‹_ = (_, _)› ?_
    | with_reducible refine pair3_forms ‹_ = (_, _, _)› ?_ | extract_lets | split
    | exact Dev.Forms.of ‹_› rfl rfl rfl rfl

theorem enterSafety_forms  {d : Dev} (h : d.Forms) :
    (enterSafety d).Forms := by
  unfold enterSafety
  repeat' first
    | with_reducible assumption | intro _ | with_reducible apply forEach_forms | with_reducible apply foldl_forms
    | with_reducible apply ite_forms | with_reducible apply Dev.set_forms | with_reducible apply Dev.withTg_forms
    | with_reducible apply jump_forms | with_reducible refine pair_forms ‹_ = (_, _)› ?_
    | with_reducible refine pair3_forms ‹_ = (_, _, _)› ?_ | extract_lets | split
    | exact Dev.Forms.of ‹_› rfl rfl rfl rfl

theorem command_forms (mv : Nat) {d : Dev} (h : d.Forms) :
    (command mv d).Forms := by
  unfold command
  repeat' first
    | with_reducible assumption | intro _ | with_reducible apply forEach_forms | with_reducible apply foldl_forms
    | with_reducible apply ite_forms | with_reducible apply commandBy_forms
    | with_reducible refine pair_forms ‹_ = (_, _)› ?_ | with_reducible refine pair3_forms ‹_ = (_, _, _)› ?_
    | extract_lets | split | exact Dev.Forms.of ‹_› rfl rfl rfl rfl

theorem tgCmdWrite_forms (clrFault : Bool) (ageCheck : Bool) {d : Dev} (h : d.Forms) :
    (tgCmdWrite clrFault ageCheck d).Forms := by
  unfold tgCmdWrite
  repeat' first
    | with_reducible assumption | with_reducible apply ite_forms | with_reducible apply Dev.answer_forms
    | with_reducible apply enterSafety_forms | with_reducible apply Dev.withTg_forms
    | with_reducible apply command_forms

theorem enterForced_forms  {d : Dev} (h : d.Forms) :
    (enterForced d).Forms := by
  unfold enterForced
  repeat' first
    | with_reducible assumption | intro _ | with_reducible apply forEach_forms | with_reducible apply foldl_forms
    | with_reducible apply ite_forms | with_reducible apply Dev.set_forms | with_reducible apply command_forms
    | with_reducible apply Dev.withTg_forms | with_reducible refine pair_forms ‹_ = (_, _)› ?_
    | with_reducible refine pair3_forms ‹_ = (_, _, _)› ?_ | extract_lets | split
    | exact Dev.Forms.of ‹_› rfl rfl rfl rfl

theorem tgForceWrite_forms (en : Bool) (mv : Nat) {d : Dev} (h : d.Forms) :
    (tgForceWrite en mv d).Forms := by
  unfold tgForceWrite
  repeat' first
    | with_reducible assumption | intro _ | with_reducible apply forEach_forms | with_reducible apply foldl_forms
    | with_reducible apply ite_forms | with_reducible apply Dev.set_forms | with_reducible apply enterForced_forms
    | with_reducible apply Dev.answer_forms | with_reducible apply enterSafety_forms
    | with_reducible refine pair_forms ‹_ = (_, _)› ?_ | with_reducible refine pair3_forms ‹_ = (_, _, _)› ?_
    | extract_lets | split | exact Dev.Forms.of ‹_› rfl rfl rfl rfl

theorem tightropeWrite_forms (a : Nat) (v : Nat) {d : Dev} (h : d.Forms) : (tightropeWrite a v d).Forms := by
  unfold tightropeWrite
  repeat' first
    | with_reducible assumption | with_reducible apply ite_forms | with_reducible apply tgCtrlWrite_forms
    | with_reducible apply vsafeWrite_forms | with_reducible apply storeReg_forms
    | with_reducible apply tgRefresh_forms | with_reducible apply tgThermWrite_forms
    | with_reducible apply tgForceWrite_forms | with_reducible apply tgAvsWrite_forms
    | with_reducible apply tgCmdWrite_forms

theorem cfgCtrlWrite_forms (v : Nat) {d : Dev} (h : d.Forms) : (cfgCtrlWrite v d).Forms := by
  unfold cfgCtrlWrite
  repeat' first
    | with_reducible assumption | with_reducible apply ite_forms | with_reducible apply Dev.answer_forms
    | extract_lets | split | with_reducible apply writeFlds_forms

theorem configWrite_forms (a : Nat) (v : Nat) {d : Dev} (h : d.Forms) : (configWrite a v d).Forms := by
  unfold configWrite
  repeat' first
    | with_reducible assumption | with_reducible apply cfgCtrlWrite_forms | with_reducible apply cfgCmdWrite_forms
    | with_reducible apply fuseCmdWrite_forms | with_reducible apply carCtrlWrite_forms
    | with_reducible apply carCmdWrite_forms | with_reducible apply storeReg_forms | split

theorem mapBist_forms (f : BistSt → BistSt) {d : Dev} (h : d.Forms) : (mapBist f d).Forms := by
  unfold mapBist
  repeat' first
    | with_reducible assumption | with_reducible apply hf | exact Dev.Forms.of h rfl rfl rfl rfl

theorem bistAbort_forms {d : Dev} (h : d.Forms) : (bistAbort d).Forms := by
  unfold bistAbort
  repeat' first
    | with_reducible assumption | intro _ | with_reducible apply forEach_forms | with_reducible apply foldl_forms
    | with_reducible apply mapBist_forms | with_reducible apply Dev.set_forms | split

theorem measureLimits_forms {d : Dev} (h : d.Forms) : (measureLimits d).Forms := by
  unfold measureLimits
  repeat' first
    | with_reducible assumption | with_reducible apply Dev.set_forms

theorem inspect.closeRings_forms (t : Nat) {d : Dev} (h : d.Forms) : (inspect.closeRings t d).Forms := by
  unfold inspect.closeRings
  exact forEach_forms (disarm_forms _ h) (fun r e he => askClose_forms _ r he)

theorem mapPart_forms (i : Nat) (j : Nat) (f : XPart → XPart) {d : Dev} (h : d.Forms) : (mapPart i j f d).Forms := by
  unfold mapPart
  repeat' first
    | with_reducible assumption | with_reducible apply hf | intro _ | with_reducible apply forEach_forms
    | with_reducible apply foldl_forms | exact Dev.Forms.of h rfl rfl rfl rfl

theorem hostErr_forms (route : Nat) (code : Resp) (channel : Nat) (reqId : Nat) (lo : Nat) (hi : Nat) {d : Dev}
    (h : d.Forms) :
    (hostErr route code channel reqId lo hi d).Forms := by
  unfold hostErr
  repeat' first
    | with_reducible assumption | with_reducible apply ite_forms | with_reducible apply Dev.raise_forms
    | with_reducible apply Dev.incSat_forms | with_reducible apply Dev.set_forms

theorem hostEnd_forms (route : Nat) (reqId : Nat) (addr : Nat) (code : Resp) (data : List Nat) {d : Dev} (h : d.Forms) :
    (hostEnd route reqId addr code data d).Forms := by
  unfold hostEnd
  repeat' first
    | with_reducible assumption | intro _ | with_reducible apply forEach_forms | with_reducible apply foldl_forms
    | with_reducible apply ite_forms | with_reducible apply hostErr_forms | with_reducible apply Dev.answer_forms
    | with_reducible apply Dev.emit_forms

theorem xAnswer_forms (q : XReq) (code : Resp) (units : Nat) (bs : List Byte) {d : Dev} (h : d.Forms) :
    (xAnswer q code units bs d).Forms := by
  unfold xAnswer
  repeat' first
    | with_reducible assumption | with_reducible apply ite_forms | with_reducible apply Dev.answer_forms
    | with_reducible apply hostEnd_forms | extract_lets | split | exact Dev.Forms.of h rfl rfl rfl rfl

theorem finishReq_forms (q : XReq) {d : Dev} (h : d.Forms) : (finishReq q d).Forms := by
  unfold finishReq
  repeat' first
    | with_reducible assumption | intro _ | with_reducible apply forEach_forms | with_reducible apply foldl_forms
    | with_reducible apply xAnswer_forms

theorem finishDone_forms {d : Dev} (h : d.Forms) : (finishDone d).Forms := by
  unfold finishDone
  repeat' first
    | with_reducible assumption | intro _ | with_reducible apply forEach_forms | with_reducible apply foldl_forms
    | with_reducible apply finishReq_forms | extract_lets | exact Dev.Forms.of h rfl rfl rfl rfl

theorem setCs_forms (p : Nat) (e : CsEntry) {d : Dev} (h : d.Forms) : (setCs p e d).Forms := by
  unfold setCs
  repeat' first
    | with_reducible assumption | with_reducible apply Dev.withCx_forms

theorem counterLoss_forms (p : Nat) {d : Dev} (h : d.Forms) : (counterLoss p d).Forms := by
  unfold counterLoss
  repeat' first
    | with_reducible assumption | with_reducible apply secAlarm_forms

theorem poisonPage_forms (p : Nat) {d : Dev} (h : d.Forms) : (poisonPage p d).Forms := by
  unfold poisonPage
  repeat' first
    | with_reducible assumption | with_reducible apply Dev.set_forms | with_reducible apply Dev.incSat_forms
    | with_reducible apply counterLoss_forms | with_reducible apply setCs_forms | with_reducible apply Dev.raise_forms

theorem csRead_forms (p : Nat) {d : Dev} (h : d.Forms) : (csRead p d).2.2.Forms := by
  unfold csRead
  repeat' first
    | with_reducible assumption | intro _ | with_reducible apply forEach_forms | with_reducible apply foldl_forms
    | with_reducible apply ite_forms | with_reducible apply Dev.raise_forms | with_reducible apply setCs_forms
    | with_reducible apply Dev.incSat_forms | with_reducible apply poisonPage_forms | extract_lets | split

theorem raiseOnce_forms (bit : Nat) (arg : Nat) (data : Nat) (raised : List Nat) {d : Dev} (h : d.Forms) :
    (raiseOnce bit arg data raised d).2.Forms := by
  unfold raiseOnce
  repeat' first
    | with_reducible assumption | with_reducible apply ite_forms | with_reducible apply secAlarm_forms | split

theorem partKey_forms (k : Nat) (own : Option Nat) (raised : List Nat) {d : Dev} (h : d.Forms) :
    (partKey k own raised d).2.2.Forms := by
  unfold partKey
  repeat' first
    | with_reducible assumption | with_reducible apply ite_forms | with_reducible apply raiseOnce_forms
    | with_reducible refine pair_forms ‹_ = (_, _)› ?_ | with_reducible refine pair3_forms ‹_ = (_, _, _)› ?_
    | extract_lets | split

theorem setHw_forms (f : Nat) (v : Nat) {d : Dev} (h : d.Forms) : (setHw f v d).Forms := by
  unfold setHw
  repeat' first
    | with_reducible assumption | with_reducible apply Dev.set_forms | with_reducible apply Dev.withCx_forms

theorem bindSlot_forms (k : Nat) (f : Nat) {d : Dev} (h : d.Forms) : (bindSlot k f d).Forms := by
  unfold bindSlot
  repeat' first
    | with_reducible assumption | with_reducible apply Dev.set_forms

theorem migStart_forms (f : Nat) {d : Dev} (h : d.Forms) :
    (migStart f d).Forms := by
  unfold migStart
  repeat' first
    | with_reducible assumption | intro _ | with_reducible apply forEach_forms | with_reducible apply foldl_forms
    | with_reducible apply ite_forms | with_reducible apply bindSlot_forms | with_reducible apply Dev.set_forms
    | with_reducible apply setHw_forms | with_reducible apply Dev.withCx_forms
    | with_reducible refine pair_forms ‹_ = (_, _)› ?_ | with_reducible refine pair3_forms ‹_ = (_, _, _)› ?_
    | extract_lets | split | exact Dev.Forms.of ‹_› rfl rfl rfl rfl

theorem needRekey_forms (f : Nat) {d : Dev} (h : d.Forms) : (needRekey f d).Forms := by
  unfold needRekey
  repeat' first
    | with_reducible assumption | with_reducible apply ite_forms | with_reducible apply migStart_forms
    | with_reducible apply Dev.raise_forms

theorem hwVote_forms (f : Nat) {d : Dev} (h : d.Forms) : (hwVote f d).2.Forms := by
  unfold hwVote
  repeat' first
    | with_reducible assumption | with_reducible apply ite_forms | with_reducible apply setHw_forms
    | with_reducible apply needRekey_forms | with_reducible apply secAlarm_forms | with_reducible apply Dev.set_forms
    | with_reducible refine pair_forms ‹_ = (_, _)› ?_ | with_reducible refine pair3_forms ‹_ = (_, _, _)› ?_
    | extract_lets | split

theorem queueHead_forms (p : Nat) {d : Dev} (h : d.Forms) : (queueHead p d).Forms := by
  unfold queueHead
  repeat' first
    | with_reducible assumption | with_reducible apply ite_forms | with_reducible apply Dev.withCx_forms

theorem Dev.mapExt_forms (f : ExtMem → ExtMem) {d : Dev} (h : d.Forms) (hf : memWf (f d.xm.mem).cells = true) :
    (d.mapExt f).Forms := ⟨h.1, hf, h.2.2⟩

theorem wordWrite_forms (m : Nat) (w : Nat) (bs : List Byte) {d : Dev} (h : d.Forms) :
    (wordWrite m w bs d).Forms := by
  unfold wordWrite
  exact Dev.mapExt_forms _ h (memWf_wrBytes _ _ _ h.2.1)

theorem lineWrite_forms (l : Nat) (tag : Nat) (cipher : List Byte) {d : Dev} (h : d.Forms) :
    (lineWrite l tag cipher d).Forms := by
  unfold lineWrite
  have h1 : (forEach (List.range 8) d (fun i d => wordWrite 2 (8 * l + i) (slice cipher (8 * i) 8) d)).Forms :=
    forEach_forms h (fun i e he => wordWrite_forms _ _ _ he)
  exact Dev.mapExt_forms _ h1 h1.2.1

theorem queuePage_forms (p : Nat) {d : Dev} (h : d.Forms) : (queuePage p d).Forms := by
  unfold queuePage
  repeat' first
    | with_reducible assumption | with_reducible apply ite_forms | with_reducible apply Dev.withCx_forms

theorem wordRead_forms (m : Nat) (w : Nat) {d : Dev} (h : d.Forms) : (wordRead m w d).2.2.Forms := by
  unfold wordRead
  extract_lets u was bs fl d1
  split
  · exact h
  · cases fl
    · exact Dev.bump_forms h
    · exact Dev.bump_forms (Dev.bump_forms h)
    · exact Dev.bump_forms h

theorem lineWords_forms (l : Nat) {d : Dev} (h : d.Forms) : (lineWords l d).2.2.Forms := by
  unfold lineWords
  generalize hs : (([], [], d) : List Flaw × List Byte × Dev) = s
  have h0 : s.2.2.Forms := by rw [← hs]; exact h
  clear hs h
  generalize List.range 8 = xs
  induction xs generalizing s with
  | nil => exact h0
  | cons x xs ih =>
    rw [List.foldl_cons]
    exact ih _ (wordRead_forms _ _ h0)

theorem xmCe_forms (g : Nat) {d : Dev} (h : d.Forms) : (xmCe g d).Forms := by
  unfold xmCe
  repeat' first
    | with_reducible assumption | with_reducible apply Dev.raise_forms | with_reducible apply Dev.incSat_forms

theorem xmUe_forms (g : Nat) (host : Bool) (enc : Bool) {d : Dev} (h : d.Forms) : (xmUe g host enc d).Forms := by
  unfold xmUe
  repeat' first
    | with_reducible assumption | with_reducible apply Dev.set_forms | with_reducible apply Dev.raise_forms
    | with_reducible apply Dev.incSat_forms

theorem xmNote_forms (fl : Flaw) (g : Nat) (host : Bool) (enc : Bool) {d : Dev} (h : d.Forms) :
    (xmNote fl g host enc d).Forms := by
  unfold xmNote
  repeat' first
    | with_reducible assumption | with_reducible apply xmCe_forms | with_reducible apply xmUe_forms | split

theorem lineRead_forms (l : Nat) (host : Bool) {d : Dev} (h : d.Forms) : (lineRead l host d).2.Forms := by
  unfold lineRead
  have hw := lineWords_forms l h
  generalize lineWords l d = p at hw
  obtain ⟨fls, bs, d1⟩ := p
  have h2 : ∀ gs : List Flaw, (forEach (List.range 4) d1 (fun g d => xmNote (gs.getD g .none) (64 * l + 16 * g) host true d)).Forms :=
    fun gs => forEach_forms hw (fun i e he => xmNote_forms _ _ _ _ he)
  dsimp only
  split
  · exact Dev.bump_forms (h2 _)
  · exact h2 _

theorem plainRead_forms (host : Bool) (g : Nat) (n : Nat) {d : Dev} (h : d.Forms) :
    (plainRead host g n d).2.2.Forms := by
  unfold plainRead
  repeat' first
    | with_reducible assumption | with_reducible apply ite_forms | with_reducible apply wordRead_forms
    | with_reducible apply xmNote_forms

theorem plainWrite_forms (host : Bool) (g : Nat) (new : List Byte) {d : Dev} (h : d.Forms) :
    (plainWrite host g new d).2.Forms := by
  unfold plainWrite
  repeat' first
    | with_reducible assumption | with_reducible apply ite_forms | with_reducible apply wordWrite_forms
    | with_reducible apply wordRead_forms | with_reducible apply xmNote_forms
    | with_reducible refine pair_forms ‹_ = (_, _)› ?_ | with_reducible refine pair3_forms ‹_ = (_, _, _)› ?_
    | extract_lets | split

theorem storeLine_forms (f : Nat) (l : Nat) (own : Nat) (epoch : Nat) (e : CsEntry) (plain : List Byte) (raised : List Nat) {d : Dev} (h : d.Forms) :
    (storeLine f l own epoch e plain raised d).2.2.Forms := by
  unfold storeLine
  repeat' first
    | with_reducible assumption | intro _ | with_reducible apply forEach_forms | with_reducible apply foldl_forms
    | with_reducible apply ite_forms | with_reducible apply partKey_forms | with_reducible apply lineWrite_forms
    | with_reducible apply setCs_forms | with_reducible apply queuePage_forms
    | with_reducible refine pair_forms ‹_ = (_, _)› ?_ | with_reducible refine pair3_forms ‹_ = (_, _, _)› ?_
    | extract_lets | split | exact Dev.Forms.of ‹_› rfl rfl rfl rfl

theorem encPart_forms (host : Bool) (x : XPart) (own : Nat) (new : Option (List Byte)) (raised : List Nat) {d : Dev} (h : d.Forms) :
    (encPart host x own new raised d).2.2.2.Forms := by
  unfold encPart
  repeat' first
    | with_reducible assumption | intro _ | with_reducible apply forEach_forms | with_reducible apply foldl_forms
    | with_reducible apply ite_forms | with_reducible apply csRead_forms | with_reducible apply raiseOnce_forms
    | with_reducible apply partKey_forms | with_reducible apply hwVote_forms | with_reducible apply queueHead_forms
    | with_reducible apply storeLine_forms | with_reducible apply lineRead_forms
    | with_reducible refine pair_forms ‹_ = (_, _)› ?_ | with_reducible refine pair3_forms ‹_ = (_, _, _)› ?_
    | extract_lets | split | exact Dev.Forms.of ‹_› rfl rfl rfl rfl

theorem performPart_forms (host : Bool) (x : XPart) (new : Option (List Byte)) (raised : List Nat) {d : Dev}
    (h : d.Forms) : (performPart host x new raised d).2.2.2.Forms := by
  unfold performPart
  split
  · exact encPart_forms _ _ _ _ _ h
  · split
    · exact plainRead_forms host x.addr x.len h
    · exact plainWrite_forms host x.addr _ h

theorem partGo_forms (i : Nat) (j : Nat) {d : Dev} (h : d.Forms) : (partGo i j d).Forms := by
  unfold partGo
  split
  · exact h
  · split
    · exact h
    · rename_i q _ _ x _
      have hp := performPart_forms (q.src == 2048) x (partData q x) q.raised h
      generalize performPart (q.src == 2048) x (partData q x) q.raised d = s at hp
      obtain ⟨c, out, rs, d1⟩ := s
      exact Dev.Forms.of (d := mapPart i j (fun x => { x with code := c, out := out, waits := c.isNone }) d1)
        (mapPart_forms _ _ _ hp) rfl rfl rfl rfl

theorem grantPart_forms (i : Nat) (j : Nat) (seat : Bool) {d : Dev} (h : d.Forms) : (grantPart i j seat d).Forms := by
  unfold grantPart
  repeat' first
    | with_reducible assumption | intro _ | with_reducible apply forEach_forms | with_reducible apply foldl_forms
    | with_reducible apply ite_forms | with_reducible apply mapPart_forms | with_reducible apply finishDone_forms
    | with_reducible apply partGo_forms | extract_lets | split

theorem arbiter_forms (base : Nat) (tickets : List Nat) {d : Dev} (h : d.Forms) :
    (arbiter base tickets d).2.Forms := by
  unfold arbiter
  repeat' first
    | with_reducible assumption | intro _ | with_reducible apply forEach_forms | with_reducible apply foldl_forms
    | with_reducible refine pair_forms ‹_ = (_, _)› ?_ | with_reducible refine pair3_forms ‹_ = (_, _, _)› ?_
    | extract_lets | split | exact Dev.Forms.of h rfl rfl rfl rfl

theorem treePick_forms (n : Nat) (act : List Nat) {d : Dev} (h : d.Forms) : (treePick n act d).2.Forms := by
  unfold treePick
  repeat' first
    | with_reducible assumption | intro _ | with_reducible apply forEach_forms | with_reducible apply foldl_forms
    | with_reducible apply ite_forms | with_reducible apply arbiter_forms
    | with_reducible refine pair_forms ‹_ = (_, _)› ?_ | with_reducible refine pair3_forms ‹_ = (_, _, _)› ?_
    | extract_lets | split

theorem noteWaits_forms (n : Nat) (src : Option Nat) (act : List Nat) {d : Dev} (h : d.Forms) :
    (noteWaits n src act d).Forms := by
  unfold noteWaits
  repeat' first
    | with_reducible assumption | intro _ | with_reducible apply forEach_forms | with_reducible apply foldl_forms
    | with_reducible apply ite_forms | with_reducible apply Dev.set_forms
    | with_reducible refine pair_forms ‹_ = (_, _)› ?_ | with_reducible refine pair3_forms ‹_ = (_, _, _)› ?_
    | extract_lets | split | exact Dev.Forms.of ‹_› rfl rfl rfl rfl

theorem grant_forms (n : Nat) {d : Dev} (h : d.Forms) : (grant n d).Forms := by
  unfold grant
  refine ite_forms h ?_
  extract_lets all cs src act
  split
  · exact grantPart_forms _ _ _ h
  · by_cases hd : sget 0 d.xm.drift n ≠ 0
    · rw [if_pos hd]; exact Dev.Forms.of h rfl rfl rfl rfl
    rw [if_neg hd]
    have ht := treePick_forms n act h
    generalize treePick n act d = s at ht
    obtain ⟨pick, d1⟩ := s
    have hn : ∀ o, (noteWaits n o act d1).Forms := fun o => noteWaits_forms _ _ _ ht
    dsimp only
    split
    · exact ht
    · refine ite_forms (ite_forms ?_ (hn _)) ?_
      · exact noteWaits_forms _ _ _ (Dev.withCx_forms _ ht)
      · split
        · exact hn _
        · exact grantPart_forms _ _ _ (hn _)

theorem drainXmc_forms (n : Nat) {d : Dev} (h : d.Forms) : (drainXmc n d).Forms := by
  unfold drainXmc
  repeat' first
    | with_reducible assumption | intro _ | with_reducible apply forEach_forms | with_reducible apply foldl_forms
    | with_reducible apply ite_forms | with_reducible apply grant_forms | extract_lets | split
    | exact Dev.Forms.of h rfl rfl rfl rfl | exact Dev.Forms.of ‹Dev.Forms _› rfl rfl rfl rfl

theorem qRewind_forms (q : Nat) {d : Dev} (h : d.Forms) : (qRewind q d).Forms := by
  unfold qRewind
  repeat' first
    | with_reducible assumption | with_reducible apply withAttn_forms | with_reducible apply wmEval_forms
    | with_reducible apply Dev.setQueue_forms | extract_lets | split

theorem qRelease_forms (q : Nat) {d : Dev} (h : d.Forms) : (qRelease q d).Forms := by
  unfold qRelease
  repeat' first
    | with_reducible assumption | with_reducible apply withAttn_forms | with_reducible apply wmEval_forms
    | with_reducible apply trimCells_forms | with_reducible apply Dev.setQueue_forms

theorem qMark_forms (q : Nat) {d : Dev} (h : d.Forms) : (qMark q d).Forms := by
  unfold qMark
  repeat' first
    | with_reducible assumption | with_reducible apply withAttn_forms | with_reducible apply wmEval_forms
    | with_reducible apply trimCells_forms | with_reducible apply Dev.setQueue_forms

theorem consumerCmd_forms (src : QSource) (q : Nat) (f : Dev → Dev) {d : Dev} (hf : ∀ e : Dev, e.Forms → (f e).Forms)
    (h : d.Forms) :
    (consumerCmd src q f d).2.Forms := by
  unfold consumerCmd
  repeat' first
    | with_reducible assumption | with_reducible apply hf | with_reducible apply ite_forms
    | with_reducible apply ptrCheck_forms | with_reducible refine pair_forms ‹_ = (_, _)› ?_
    | with_reducible refine pair3_forms ‹_ = (_, _, _)› ?_ | extract_lets | split

theorem serve_forms (r : Nat) (t : Nat) (q : SlotReq) {d : Dev} (h : d.Forms) : (serve r t q d).2.2.2.Forms := by
  unfold serve
  split
  · exact qPush_forms _ _ _ h
  · exact qPop_forms _ _ _ _ h
  · exact qCommit_forms _ _ _ h
  · refine consumerCmd_forms _ _ _ ?_ h
    intro e he
    show (Dev.Forms ((match q.op with | 3 => qMark q.tgt | 4 => qRewind q.tgt | _ => qRelease q.tgt) e))
    generalize q.op = o
    rcases o with _ | _ | _ | _ | _ | o
    · exact qRelease_forms _ he
    · exact qRelease_forms _ he
    · exact qRelease_forms _ he
    · exact qMark_forms _ he
    · exact qRewind_forms _ he
    · exact qRelease_forms _ he

theorem badSegment_forms (r : Nat) (t : Nat) {d : Dev} (h : d.Forms) : (badSegment r t d).Forms := by
  unfold badSegment
  repeat' first
    | with_reducible assumption | intro _ | with_reducible apply forEach_forms | with_reducible apply foldl_forms
    | with_reducible apply mapSlot_forms | with_reducible apply Dev.incSat_forms

theorem serveSegment_forms (r : Nat) (t : Nat) (s : SegSt) {d : Dev} (h : d.Forms) :
    (serveSegment r t s d).Forms := by
  unfold serveSegment
  repeat' first
    | with_reducible assumption | intro _ | with_reducible apply forEach_forms | with_reducible apply foldl_forms
    | with_reducible apply ite_forms | with_reducible apply mapSlot_forms | with_reducible apply qPush_forms
    | with_reducible apply Dev.incSat_forms | with_reducible refine pair_forms ‹_ = (_, _)› ?_
    | with_reducible refine pair3_forms ‹_ = (_, _, _)› ?_ | extract_lets | split

theorem streamOutSegment_forms (r : Nat) (t : Nat) {d : Dev} (h : d.Forms) : (streamOutSegment r t d).Forms := by
  unfold streamOutSegment
  repeat' first
    | with_reducible assumption | intro _ | with_reducible apply forEach_forms | with_reducible apply foldl_forms
    | with_reducible apply ite_forms | with_reducible apply serveSegment_forms | with_reducible apply badSegment_forms
    | with_reducible apply mapSlot_forms | extract_lets | split

theorem respond_forms (r : Nat) (t : Nat) (q : SlotReq) (c : Resp) (n : Nat) (ws : List QWord) {d : Dev} (h : d.Forms) :
    (respond r t q c n ws d).Forms := by
  unfold respond
  repeat' first
    | with_reducible assumption | intro _ | with_reducible apply forEach_forms | with_reducible apply foldl_forms
    | with_reducible apply ite_forms | with_reducible apply Dev.answer_forms | with_reducible apply Dev.bump_forms
    | with_reducible refine pair_forms ‹_ = (_, _)› ?_ | with_reducible refine pair3_forms ‹_ = (_, _, _)› ?_
    | extract_lets | split | exact Dev.Forms.of ‹_› rfl rfl rfl rfl

theorem countSeatless_forms (r : Nat) (push : Bool) {d : Dev} (h : d.Forms) :
    (countSeatless r push d).Forms := by
  unfold countSeatless
  repeat' first
    | with_reducible assumption | intro _ | with_reducible apply forEach_forms | with_reducible apply foldl_forms
    | with_reducible apply ite_forms | with_reducible apply Dev.incSat_forms
    | with_reducible refine pair_forms ‹_ = (_, _)› ?_ | with_reducible refine pair3_forms ‹_ = (_, _, _)› ?_
    | extract_lets | split | exact Dev.Forms.of ‹_› rfl rfl rfl rfl

theorem popSegment_forms (src : QSource) (q n : Nat) {d : Dev} (h : d.Forms) : (popSegment src q n d).2.Forms := by
  induction n generalizing d with
  | zero => exact h
  | succ k ih =>
    have h1 := qPop_forms src q 1 false h
    unfold popSegment
    generalize qPop src q 1 false d = s at h1
    obtain ⟨c, ws, d1⟩ := s
    dsimp only
    split
    · exact h1
    · split
      · exact h1
      · exact ih h1

theorem streamInSegment_forms (r : Nat) (t : Nat) {d : Dev} (h : d.Forms) : (streamInSegment r t d).Forms := by
  unfold streamInSegment
  extract_lets i q mid n
  refine ite_forms h ?_
  have h1 := popSegment_forms (r / 4, 32 * r + t) q n h
  generalize popSegment (r / 4, 32 * r + t) q n d = s at h1
  obtain ⟨ws, d1⟩ := s
  dsimp only
  refine ite_forms h1 ?_
  exact streamPut_forms _ _ _ (Dev.Forms.of h1 rfl rfl rfl rfl)

theorem dynTurn_forms (w : PortReq) {d0 : Dev} (h : d0.Forms) :
    (dynTurn w d0).Forms := by
  unfold dynTurn
  repeat' first
    | with_reducible assumption | intro _ | with_reducible apply forEach_forms | with_reducible apply foldl_forms
    | with_reducible apply ite_forms | with_reducible apply streamOutSegment_forms
    | with_reducible apply streamInSegment_forms | with_reducible apply serve_forms
    | with_reducible apply countSeatless_forms | with_reducible apply respond_forms
    | with_reducible refine pair_forms ‹_ = (_, _)› ?_ | with_reducible refine pair3_forms ‹_ = (_, _, _)› ?_
    | extract_lets | split | exact Dev.Forms.of ‹_› rfl rfl rfl rfl

theorem putWork_forms (w : PortReq) {d : Dev} (h : d.Forms) :
    (putWork w d).Forms := by
  unfold putWork
  repeat' first
    | with_reducible assumption | intro _ | with_reducible apply forEach_forms | with_reducible apply foldl_forms
    | with_reducible apply ite_forms | with_reducible refine pair_forms ‹_ = (_, _)› ?_
    | with_reducible refine pair3_forms ‹_ = (_, _, _)› ?_ | extract_lets | split
    | exact Dev.Forms.of ‹_› rfl rfl rfl rfl

theorem takeSeats_forms (r : Nat) (t : Nat) (n : Nat) (push : Bool) {d : Dev} (h : d.Forms) :
    (takeSeats r t n push d).Forms := by
  unfold takeSeats
  repeat' first
    | with_reducible assumption | intro _ | with_reducible apply forEach_forms | with_reducible apply foldl_forms
    | with_reducible apply ite_forms | with_reducible refine pair_forms ‹_ = (_, _)› ?_
    | with_reducible refine pair3_forms ‹_ = (_, _, _)› ?_ | extract_lets | split
    | exact Dev.Forms.of ‹_› rfl rfl rfl rfl

theorem seatedTurn_forms (w : PortReq) {d : Dev} (h : d.Forms) :
    (seatedTurn w d).Forms := by
  unfold seatedTurn
  repeat' first
    | with_reducible assumption | intro _ | with_reducible apply forEach_forms | with_reducible apply foldl_forms
    | with_reducible apply ite_forms | with_reducible apply takeSeats_forms | with_reducible apply serve_forms
    | with_reducible apply respond_forms | with_reducible apply putWork_forms
    | with_reducible refine pair_forms ‹_ = (_, _)› ?_ | with_reducible refine pair3_forms ‹_ = (_, _, _)› ?_
    | extract_lets | split | exact Dev.Forms.of ‹_› rfl rfl rfl rfl

theorem servePort_forms (p : Nat) {d : Dev} (h : d.Forms) :
    (servePort p d).Forms := by
  unfold servePort
  repeat' first
    | with_reducible assumption | intro _ | with_reducible apply forEach_forms | with_reducible apply foldl_forms
    | with_reducible apply ite_forms | with_reducible apply dynTurn_forms | with_reducible apply seatedTurn_forms
    | with_reducible refine pair_forms ‹_ = (_, _)› ?_ | with_reducible refine pair3_forms ‹_ = (_, _, _)› ?_
    | extract_lets | split | exact Dev.Forms.of ‹_› rfl rfl rfl rfl

theorem drainPort_forms (p : Nat) {d : Dev} (h : d.Forms) :
    (drainPort p d).Forms := by
  unfold drainPort
  repeat' first
    | with_reducible assumption | intro _ | with_reducible apply forEach_forms | with_reducible apply foldl_forms
    | with_reducible apply ite_forms | with_reducible apply forEach_forms | with_reducible apply servePort_forms
    | with_reducible refine pair_forms ‹_ = (_, _)› ?_ | with_reducible refine pair3_forms ‹_ = (_, _, _)› ?_
    | extract_lets | split | exact Dev.Forms.of ‹_› rfl rfl rfl rfl

theorem sendNow_forms (f : IclFrame) {d : Dev} (h : d.Forms) :
    (sendNow f d).Forms := by
  unfold sendNow
  repeat' first
    | with_reducible assumption | intro _ | with_reducible apply forEach_forms | with_reducible apply foldl_forms
    | with_reducible apply ite_forms | with_reducible apply forEach_forms | with_reducible apply transmit_forms
    | with_reducible refine pair_forms ‹_ = (_, _)› ?_ | with_reducible refine pair3_forms ‹_ = (_, _, _)› ?_
    | extract_lets | split | exact Dev.Forms.of ‹_› rfl rfl rfl rfl

theorem endMembership_forms (now : Bool) {d : Dev} (h : d.Forms) :
    (endMembership now d).Forms := by
  unfold endMembership
  repeat' first
    | with_reducible assumption | intro _ | with_reducible apply forEach_forms | with_reducible apply foldl_forms
    | with_reducible apply ite_forms | with_reducible apply sendNow_forms | with_reducible apply sendAll_forms
    | with_reducible apply stopFollow_forms | with_reducible apply settleLink_forms
    | with_reducible apply rediscover_forms | with_reducible apply Dev.set_forms
    | with_reducible refine pair_forms ‹_ = (_, _)› ?_ | with_reducible refine pair3_forms ‹_ = (_, _, _)› ?_
    | extract_lets | split | exact Dev.Forms.of ‹_› rfl rfl rfl rfl

theorem inspect_forms (kind : Nat) (t : Nat) {d : Dev} (h : d.Forms) : (inspect kind t d).Forms := by
  unfold inspect
  split
  · exact inspect.closeRings_forms _ h
  · exact inspect.closeRings_forms _ h
  · exact Dev.set_forms _ _ (forEach_forms h (fun _ _ he => drainPort_forms _ he))
  · exact Dev.set_forms _ _ (drainXmc_forms _ h)
  · exact Dev.withCx_forms _ h
  · extract_lets d1 link d2
    have h1 : d1.Forms := forEach_forms h (fun _ _ he => Dev.set_forms _ _ he)
    clear_value d1
    have h2 : d2.Forms := ite_forms (forEach_forms (forEach_forms (endMembership_forms _ h1)
      (fun _ _ he => portDrop_forms _ _ he)) (fun _ _ he => Dev.set_forms _ _ he)) h1
    clear_value d2
    exact forEach_forms h2 (fun _ _ he => Dev.set_forms _ _ he)

theorem beginRun_forms (kind : Nat) (t : Nat) (auto : Bool) {d : Dev} (h : d.Forms) :
    (beginRun kind t auto d).Forms := by
  unfold beginRun
  repeat' first
    | with_reducible assumption | intro _ | with_reducible apply forEach_forms | with_reducible apply foldl_forms
    | with_reducible apply ite_forms | with_reducible apply Dev.set_forms | with_reducible apply inspect_forms
    | with_reducible apply mapBist_forms

theorem bistStart_forms (kind : Nat) {d : Dev} (h : d.Forms) : (bistStart kind d).Forms := by
  unfold bistStart
  repeat' first
    | with_reducible assumption | with_reducible apply ite_forms | with_reducible apply Dev.set_forms
    | with_reducible apply measureLimits_forms | with_reducible apply beginRun_forms

theorem bistCmdWrite_forms (op : Nat) (kind : Nat) {d : Dev} (h : d.Forms) : (bistCmdWrite op kind d).Forms := by
  unfold bistCmdWrite
  repeat' first
    | with_reducible assumption | with_reducible apply ite_forms | with_reducible apply Dev.answer_forms
    | with_reducible apply bistAbort_forms | with_reducible apply bistStart_forms

theorem mapBbr_forms (f : Bbr → Bbr) {d : Dev} (h : d.Forms)
    (hf : ∀ b : Bbr, (f b).queue.length ≤ b.queue.length := by intro _; exact Nat.le_refl _) :
    (mapBbr f d).Forms := Dev.withBbr_forms _ h (hf _)

theorem bbrClear_forms {d : Dev} (h : d.Forms) : (bbrClear d).Forms := by
  unfold bbrClear
  repeat' first
    | with_reducible assumption | intro _ | with_reducible apply forEach_forms | with_reducible apply foldl_forms
    | with_reducible apply Dev.resetFlds_forms
    | with_reducible refine mapBbr_forms _ ?_ (fun _ => by with_unfolding_all exact Nat.le_refl _)

theorem bbrUnfreeze_forms {d : Dev} (h : d.Forms) : (bbrUnfreeze d).Forms := by
  unfold bbrUnfreeze
  repeat' first
    | with_reducible assumption | intro _ | with_reducible apply forEach_forms | with_reducible apply foldl_forms
    | with_reducible refine mapBbr_forms _ ?_ (fun _ => by with_unfolding_all exact Nat.le_refl _)
    | with_reducible apply Dev.set_forms

theorem bbrFrozen_forms {d : Dev} (h : d.Forms) : (bbrFrozen d).Forms := by
  unfold bbrFrozen
  repeat' first
    | with_reducible assumption | intro _ | with_reducible apply forEach_forms | with_reducible apply foldl_forms
    | with_reducible refine mapBbr_forms _ ?_ (fun _ => by with_unfolding_all exact Nat.le_refl _)
    | with_reducible apply Dev.set_forms

theorem bbrCmdWrite_forms (clear : Bool) (unfreeze : Bool) (mark : Bool) (fatal : Bool) (freeze : Bool) {d : Dev}
    (h : d.Forms) :
    (bbrCmdWrite clear unfreeze mark fatal freeze d).Forms := by
  unfold bbrCmdWrite
  repeat' first
    | with_reducible assumption | intro _ | with_reducible apply forEach_forms | with_reducible apply foldl_forms
    | with_reducible apply ite_forms | with_reducible apply bbrClear_forms | with_reducible apply bbrUnfreeze_forms
    | with_reducible apply Dev.bbr_forms
    | with_reducible refine mapBbr_forms _ ?_ (fun _ => by with_unfolding_all exact Nat.le_refl _)
    | with_reducible apply bbrFrozen_forms | with_reducible apply Dev.answer_forms

theorem mapPin_forms (n : Nat) (f : PinSt → PinSt) {d : Dev} (h : d.Forms) : (mapPin n f d).Forms := by
  unfold mapPin
  repeat' first
    | with_reducible assumption | with_reducible apply hf | exact Dev.Forms.of h rfl rfl rfl rfl

theorem restartFilter_forms (n : Nat) {d : Dev} (h : d.Forms) : (restartFilter n d).Forms := by
  unfold restartFilter
  repeat' first
    | with_reducible assumption | intro _ | with_reducible apply forEach_forms | with_reducible apply foldl_forms
    | with_reducible apply mapPin_forms

theorem pinEvent_forms (n : Nat) (rising : Bool) {d : Dev} (h : d.Forms) : (pinEvent n rising d).Forms := by
  unfold pinEvent
  repeat' first
    | with_reducible assumption | with_reducible apply ite_forms | with_reducible apply Dev.setBit_forms

theorem settlePin_forms (n : Nat) {d : Dev} (h : d.Forms) : (settlePin n d).Forms := by
  unfold settlePin
  repeat' first
    | with_reducible assumption | intro _ | with_reducible apply forEach_forms | with_reducible apply foldl_forms
    | with_reducible apply ite_forms | with_reducible apply restartFilter_forms | with_reducible apply mapPin_forms
    | with_reducible apply pinEvent_forms | extract_lets | split

theorem noteConflicts_forms {d : Dev} (h : d.Forms) : (noteConflicts d).Forms := by
  unfold noteConflicts
  repeat' first
    | with_reducible assumption | intro _ | with_reducible apply forEach_forms | with_reducible apply foldl_forms
    | with_reducible apply ite_forms | with_reducible apply Dev.set_forms | with_reducible apply Dev.raise_forms

theorem startSwitch_forms (n : Nat) {d : Dev} (h : d.Forms) : (startSwitch n d).Forms := by
  unfold startSwitch
  repeat' first
    | with_reducible assumption | intro _ | with_reducible apply forEach_forms | with_reducible apply foldl_forms
    | with_reducible apply mapPin_forms

theorem pinCfgWrite_forms (n : Nat) (v : Nat) {d : Dev} (h : d.Forms) : (pinCfgWrite n v d).Forms := by
  unfold pinCfgWrite
  repeat' first
    | with_reducible assumption | intro _ | with_reducible apply forEach_forms | with_reducible apply foldl_forms
    | with_reducible apply ite_forms | with_reducible apply settlePin_forms | with_reducible apply Dev.answer_forms
    | with_reducible apply noteConflicts_forms | with_reducible apply startSwitch_forms
    | with_reducible apply restartFilter_forms | extract_lets | split | with_reducible apply writeFlds_forms

theorem touchWord_forms (i : Nat) (f : Dev → Dev) {d : Dev} (hf : ∀ e : Dev, e.Forms → (f e).Forms) (h : d.Forms) :
    (touchWord i f d).Forms := by
  unfold touchWord
  repeat' first
    | with_reducible assumption | with_reducible apply hf | intro _ | with_reducible apply forEach_forms
    | with_reducible apply foldl_forms | with_reducible apply settlePin_forms

theorem outWrite_forms (i : Nat) (v : Nat) {d : Dev} (h : d.Forms) : (outWrite i v d).Forms := by
  unfold outWrite
  repeat' first
    | with_reducible assumption | intro _ | with_reducible apply forEach_forms | with_reducible apply foldl_forms
    | with_reducible apply Dev.answer_forms | with_reducible apply touchWord_forms
    | with_reducible apply Dev.set_forms

theorem outSet_forms (i : Nat) (v : Nat) {d : Dev} (h : d.Forms) : (outSet i v d).Forms := by
  unfold outSet
  repeat' first
    | with_reducible assumption | with_reducible apply outWrite_forms

theorem outClr_forms (i : Nat) (v : Nat) {d : Dev} (h : d.Forms) : (outClr i v d).Forms := by
  unfold outClr
  repeat' first
    | with_reducible assumption | with_reducible apply outWrite_forms

theorem oeWrite_forms (i : Nat) (v : Nat) {d : Dev} (h : d.Forms) : (oeWrite i v d).Forms := by
  unfold oeWrite
  repeat' first
    | with_reducible assumption | intro _ | with_reducible apply forEach_forms | with_reducible apply foldl_forms
    | with_reducible apply Dev.answer_forms | with_reducible apply touchWord_forms
    | with_reducible apply Dev.set_forms

theorem filtWrite_forms (v : Nat) {d : Dev} (h : d.Forms) : (filtWrite v d).Forms := by
  unfold filtWrite
  repeat' first
    | with_reducible assumption | intro _ | with_reducible apply forEach_forms | with_reducible apply foldl_forms
    | with_reducible apply settlePin_forms | with_reducible apply Dev.answer_forms | with_reducible apply mapPin_forms
    | extract_lets | with_reducible apply writeFlds_forms

theorem conflictWrite_forms (v : Nat) {d : Dev} (h : d.Forms) : (conflictWrite v d).Forms := by
  unfold conflictWrite
  repeat' first
    | with_reducible assumption | intro _ | with_reducible apply forEach_forms | with_reducible apply foldl_forms
    | with_reducible apply Dev.answer_forms | with_reducible apply Dev.set_forms | extract_lets
    | with_reducible apply writeFlds_forms

theorem gpioWrite_forms (a : Nat) (v : Nat) {d : Dev} (h : d.Forms) : (gpioWrite a v d).Forms := by
  unfold gpioWrite
  extract_lets o
  have ht : (storeReg a v (touchWord (o / 4 % 4) id d)).Forms := storeReg_forms _ _ (touchWord_forms _ _ (fun _ h => h) h)
  exact ite_forms (pinCfgWrite_forms _ _ h) (ite_forms (outWrite_forms _ _ h) (ite_forms (outSet_forms _ _ h)
    (ite_forms (outClr_forms _ _ h) (ite_forms (oeWrite_forms _ _ h) (ite_forms ht (ite_forms (filtWrite_forms _ h)
      (ite_forms (conflictWrite_forms _ h) (storeReg_forms _ _ h))))))))

theorem showPeriph_forms (k : Nat) (b : Nat) {d : Dev} (h : d.Forms) : (showPeriph k b d).Forms := by
  unfold showPeriph
  repeat' first
    | with_reducible assumption | with_reducible apply ite_forms | with_reducible apply Dev.set_forms

theorem mapPeriph_forms (k : Nat) (b : Nat) (f : PeriphSt → PeriphSt) {d : Dev} (h : d.Forms) :
    (mapPeriph k b f d).Forms := by
  unfold mapPeriph
  repeat' first
    | with_reducible assumption | with_reducible apply hf | with_reducible apply showPeriph_forms
    | exact Dev.Forms.of h rfl rfl rfl rfl

theorem startXfer_forms (k : Nat) (b : Nat) (out : List Nat) (n : Nat) (word : Nat) {d : Dev} (h : d.Forms) :
    (startXfer k b out n word d).Forms := by
  unfold startXfer
  repeat' first
    | with_reducible assumption | intro _ | with_reducible apply forEach_forms | with_reducible apply foldl_forms
    | with_reducible apply ite_forms | with_reducible apply Dev.answer_forms | with_reducible apply mapPeriph_forms
    | with_reducible apply Dev.emit_forms

theorem i2cXfer_forms (b : Nat) (v : Nat) {d : Dev} (h : d.Forms) : (i2cXfer b v d).Forms := by
  unfold i2cXfer
  repeat' first
    | with_reducible assumption | with_reducible apply ite_forms | with_reducible apply Dev.answer_forms
    | with_reducible apply startXfer_forms

theorem spiXfer_forms (b : Nat) (v : Nat) {d : Dev} (h : d.Forms) : (spiXfer b v d).Forms := by
  unfold spiXfer
  repeat' first
    | with_reducible assumption | with_reducible apply ite_forms | with_reducible apply Dev.answer_forms
    | with_reducible apply startXfer_forms

theorem mdioXfer_forms (b : Nat) (v : Nat) {d : Dev} (h : d.Forms) : (mdioXfer b v d).Forms := by
  unfold mdioXfer
  repeat' first
    | with_reducible assumption | with_reducible apply ite_forms | with_reducible apply Dev.answer_forms
    | with_reducible apply startXfer_forms

theorem periphErr_forms (k : Nat) (b : Nat) (f : Fld) {d : Dev} (h : d.Forms) : (periphErr k b f d).Forms := by
  unfold periphErr
  repeat' first
    | with_reducible assumption | with_reducible apply Dev.raise_forms

theorem txdPush_forms (k : Nat) (b : Nat) (v : Nat) {d : Dev} (h : d.Forms) : (txdPush k b v d).Forms := by
  unfold txdPush
  repeat' first
    | with_reducible assumption | intro _ | with_reducible apply forEach_forms | with_reducible apply foldl_forms
    | with_reducible apply ite_forms | with_reducible apply Dev.answer_forms | with_reducible apply periphErr_forms
    | with_reducible apply mapPeriph_forms

theorem periphWrite_forms (k : Nat) (b : Nat) (a : Nat) (v : Nat) {d : Dev} (h : d.Forms) :
    (periphWrite k b a v d).Forms := by
  unfold periphWrite
  repeat' first
    | with_reducible assumption | with_reducible apply ite_forms | with_reducible apply i2cXfer_forms
    | with_reducible apply spiXfer_forms | with_reducible apply mdioXfer_forms | with_reducible apply txdPush_forms
    | with_reducible apply storeReg_forms | split

theorem trimNext_forms {d : Dev} (h : d.Forms) : (trimNext d).Forms := by
  unfold trimNext
  repeat' first
    | with_reducible assumption | with_reducible apply Dev.set_forms

theorem mapTrim_forms (f : TrimSt → TrimSt) {d : Dev} (h : d.Forms) : (mapTrim f d).Forms := by
  unfold mapTrim
  repeat' first
    | with_reducible assumption | with_reducible apply hf | exact Dev.Forms.of h rfl rfl rfl rfl

theorem trimWrite_forms (v : Nat) {d : Dev} (h : d.Forms) : (trimWrite v d).Forms := by
  unfold trimWrite
  repeat' first
    | with_reducible assumption | intro _ | with_reducible apply forEach_forms | with_reducible apply foldl_forms
    | with_reducible apply ite_forms | with_reducible apply Dev.answer_forms | with_reducible apply trimNext_forms
    | with_reducible apply mapTrim_forms | with_reducible apply Dev.set_forms

theorem release800_forms {d : Dev} (h : d.Forms) : (release800 d).Forms := by
  unfold release800
  repeat' first
    | with_reducible assumption | with_reducible apply ite_forms | with_reducible apply Dev.withTg_forms
    | with_reducible apply command_forms

theorem trimEnd_forms (res : Nat) {d : Dev} (h : d.Forms) : (trimEnd res d).Forms := by
  unfold trimEnd
  repeat' first
    | with_reducible assumption | intro _ | with_reducible apply forEach_forms | with_reducible apply foldl_forms
    | with_reducible apply Dev.set_forms | with_reducible apply mapTrim_forms

theorem trimAbort_forms {d : Dev} (h : d.Forms) : (trimAbort d).Forms := by
  unfold trimAbort
  repeat' first
    | with_reducible assumption | intro _ | with_reducible apply forEach_forms | with_reducible apply foldl_forms
    | with_reducible apply ite_forms | with_reducible apply mapTrim_forms | with_reducible apply release800_forms
    | with_reducible apply Dev.bump_forms | with_reducible apply Dev.set_forms | with_reducible apply trimEnd_forms

theorem trimStart_forms (op : Nat) {d : Dev} (h : d.Forms) : (trimStart op d).Forms := by
  unfold trimStart
  repeat' first
    | with_reducible assumption | intro _ | with_reducible apply forEach_forms | with_reducible apply foldl_forms
    | with_reducible apply Dev.set_forms | with_reducible apply mapTrim_forms

theorem force800_forms {d : Dev} (h : d.Forms) : (force800 d).Forms := by
  unfold force800
  repeat' first
    | with_reducible assumption | with_reducible apply ite_forms | with_reducible apply Dev.withTg_forms
    | with_reducible apply command_forms

theorem fieldTrim_forms {d : Dev} (h : d.Forms) : (fieldTrim d).Forms := by
  unfold fieldTrim
  repeat' first
    | with_reducible assumption | intro _ | with_reducible apply forEach_forms | with_reducible apply foldl_forms
    | with_reducible apply ite_forms | with_reducible apply Dev.set_forms | with_reducible apply force800_forms
    | with_reducible apply trimStart_forms

theorem autoRun_forms {d : Dev} (h : d.Forms) : (autoRun d).Forms := by
  unfold autoRun
  repeat' first
    | with_reducible assumption | with_reducible apply beginRun_forms | with_reducible apply force800_forms

theorem trimStop_forms  {d : Dev} (h : d.Forms) :
    (trimStop d).Forms := by
  unfold trimStop
  repeat' first
    | with_reducible assumption | intro _ | with_reducible apply forEach_forms | with_reducible apply foldl_forms
    | with_reducible apply ite_forms | with_reducible apply autoRun_forms | with_reducible apply trimAbort_forms
    | with_reducible refine pair_forms ‹_ = (_, _)› ?_ | with_reducible refine pair3_forms ‹_ = (_, _, _)› ?_
    | extract_lets | split | exact Dev.Forms.of ‹_› rfl rfl rfl rfl

theorem trimCmdWrite_forms (op : Nat) (code : Nat) {d : Dev} (h : d.Forms) :
    (trimCmdWrite op code d).Forms := by
  unfold trimCmdWrite
  repeat' first
    | with_reducible assumption | intro _ | with_reducible apply forEach_forms | with_reducible apply foldl_forms
    | with_reducible apply ite_forms | with_reducible apply trimStop_forms | with_reducible apply Dev.answer_forms
    | with_reducible apply trimStart_forms | with_reducible apply fieldTrim_forms
    | with_reducible refine pair_forms ‹_ = (_, _)› ?_ | with_reducible refine pair3_forms ‹_ = (_, _, _)› ?_
    | extract_lets | split | exact Dev.Forms.of ‹_› rfl rfl rfl rfl

theorem serviceWrite_forms (a : Nat) (v : Nat) {d : Dev} (h : d.Forms) : (serviceWrite a v d).Forms := by
  unfold serviceWrite
  repeat' first
    | with_reducible assumption | with_reducible apply ite_forms | with_reducible apply bistCmdWrite_forms
    | with_reducible apply bbrCmdWrite_forms | with_reducible apply gpioWrite_forms
    | with_reducible apply periphWrite_forms | with_reducible apply trimWrite_forms
    | with_reducible apply trimCmdWrite_forms | with_reducible apply storeReg_forms

theorem qmHost_forms (f : Dev → Dev) {d : Dev} (hf : ∀ e : Dev, e.Forms → (f e).Forms) (h : d.Forms) :
    (qmHost f d).Forms := by
  unfold qmHost
  repeat' first
    | with_reducible assumption | with_reducible apply hf | with_reducible apply ite_forms
    | with_reducible apply Dev.answer_forms

theorem poolLowWrite_forms (level : Nat) {d : Dev} (h : d.Forms) : (poolLowWrite level d).Forms := by
  unfold poolLowWrite
  exact qmHost_forms _ (fun e he => Dev.answer_forms _ _ (Dev.Forms.of (Dev.set_forms QM_POOL_LOW_LEVEL level he) rfl rfl rfl rfl)) h

theorem qCmdEnd_forms (c : Resp) {d : Dev} (h : d.Forms) : (qCmdEnd c d).Forms := by
  unfold qCmdEnd
  repeat' first
    | with_reducible assumption | with_reducible apply Dev.answer_forms | with_reducible apply Dev.set_forms

theorem qCmdOpen_forms (f : Dev → Dev) {d : Dev} (hf : ∀ e : Dev, e.Forms → (f e).Forms) (h : d.Forms) :
    (qCmdOpen f d).Forms := by
  unfold qCmdOpen
  repeat' first
    | with_reducible assumption | intro _ | with_reducible apply forEach_forms | with_reducible apply foldl_forms
    | with_reducible apply ite_forms | with_reducible apply hf | with_reducible apply qmHost_forms
    | with_reducible apply Dev.answer_forms | with_reducible refine pair_forms ‹_ = (_, _)› ?_
    | with_reducible refine pair3_forms ‹_ = (_, _, _)› ?_ | extract_lets | split
    | exact Dev.Forms.of ‹_› rfl rfl rfl rfl

theorem qCmd_forms (q : Nat) (f : Dev → Dev) {d : Dev} (hf : ∀ e : Dev, e.Forms → (f e).Forms) (h : d.Forms) :
    (qCmd q f d).Forms := by
  unfold qCmd
  repeat' first
    | with_reducible assumption | intro _ | with_reducible apply forEach_forms | with_reducible apply foldl_forms
    | with_reducible apply ite_forms | with_reducible apply hf | with_reducible apply qCmdOpen_forms
    | with_reducible apply Dev.set_forms | with_reducible apply qCmdEnd_forms | with_reducible apply ptrCheck_forms
    | with_reducible apply Dev.bump_forms | with_reducible refine pair_forms ‹_ = (_, _)› ?_
    | with_reducible refine pair3_forms ‹_ = (_, _, _)› ?_ | extract_lets | split
    | exact Dev.Forms.of ‹_› rfl rfl rfl rfl

theorem qmReset_forms (q : Nat) {d : Dev} (h : d.Forms) : (qmReset q d).Forms := by
  unfold qmReset
  repeat' first
    | with_reducible assumption | intro _ | with_reducible apply forEach_forms | with_reducible apply foldl_forms
    | with_reducible apply ite_forms | with_reducible apply qCmd_forms | with_reducible apply qCmdEnd_forms
    | with_reducible apply queueReset_forms

theorem qmClrStats_forms (q : Nat) {d : Dev} (h : d.Forms) : (qmClrStats q d).Forms := by
  unfold qmClrStats
  repeat' first
    | with_reducible assumption | intro _ | with_reducible apply forEach_forms | with_reducible apply foldl_forms
    | with_reducible apply qCmd_forms | with_reducible apply qCmdEnd_forms | with_reducible apply Dev.set_forms

theorem qdCfgWrite_forms (q : Nat) (v : Nat) {d : Dev} (h : d.Forms) : (qdCfgWrite q v d).Forms := by
  unfold qdCfgWrite
  repeat' first
    | with_reducible assumption | intro _ | with_reducible apply forEach_forms | with_reducible apply foldl_forms
    | with_reducible apply ite_forms | with_reducible apply qmHost_forms | with_reducible apply Dev.answer_forms
    | with_reducible apply withAttn_forms | with_reducible apply queueReset_forms | extract_lets | split
    | with_reducible apply writeFlds_forms

theorem watermarkWrite_forms (q : Nat) (level : Nat) {d : Dev} (h : d.Forms) : (watermarkWrite q level d).Forms := by
  unfold watermarkWrite
  repeat' first
    | with_reducible assumption | intro _ | with_reducible apply forEach_forms | with_reducible apply foldl_forms
    | with_reducible apply ite_forms | with_reducible apply qmHost_forms | with_reducible apply Dev.set_forms
    | with_reducible apply Dev.answer_forms | with_reducible apply pfcSend_forms

theorem cxHost_forms (f : Dev → Dev) {d : Dev} (hf : ∀ e : Dev, e.Forms → (f e).Forms) (h : d.Forms) :
    (cxHost f d).Forms := by
  unfold cxHost
  repeat' first
    | with_reducible assumption | with_reducible apply hf | with_reducible apply ite_forms
    | with_reducible apply Dev.answer_forms

theorem alarmClear_forms (v : Nat) {d : Dev} (h : d.Forms) : (alarmClear v d).Forms := by
  unfold alarmClear
  repeat' first
    | with_reducible assumption | intro _ | with_reducible apply forEach_forms | with_reducible apply foldl_forms
    | with_reducible apply cxHost_forms | with_reducible apply Dev.answer_forms | with_reducible apply Dev.set_forms

theorem secCtrlWrite_forms (v : Nat) {d : Dev} (h : d.Forms) : (secCtrlWrite v d).Forms := by
  unfold secCtrlWrite
  repeat' first
    | with_reducible assumption | intro _ | with_reducible apply forEach_forms | with_reducible apply foldl_forms
    | with_reducible apply ite_forms | with_reducible apply cxHost_forms | with_reducible apply Dev.answer_forms
    | with_reducible apply secAlarm_forms | extract_lets | split | with_reducible apply writeFlds_forms

theorem cxCmd_forms (f : Dev → Dev) {d : Dev} (hf : ∀ e : Dev, e.Forms → (f e).Forms) (h : d.Forms) :
    (cxCmd f d).Forms := by
  unfold cxCmd
  repeat' first
    | with_reducible assumption | with_reducible apply hf | intro _ | with_reducible apply forEach_forms
    | with_reducible apply foldl_forms | with_reducible apply ite_forms | with_reducible apply cxHost_forms
    | with_reducible apply Dev.answer_forms

theorem resetChecks_forms (f : Nat) (p : Nat) {d : Dev} (h : d.Forms) : (resetChecks f p d).2.2.Forms := by
  unfold resetChecks
  repeat' first
    | with_reducible assumption | with_reducible apply ite_forms | with_reducible apply keyUse_forms
    | with_reducible apply hwVote_forms | with_reducible refine pair_forms ‹_ = (_, _)› ?_
    | with_reducible refine pair3_forms ‹_ = (_, _, _)› ?_ | extract_lets | split

theorem cxEnd_forms (c : Resp) {d : Dev} (h : d.Forms) : (cxEnd c d).Forms := by
  unfold cxEnd
  repeat' first
    | with_reducible assumption | with_reducible apply Dev.set_forms

theorem cxDone_forms (c : Resp) {d : Dev} (h : d.Forms) : (cxDone c d).Forms := by
  unfold cxDone
  repeat' first
    | with_reducible assumption | with_reducible apply Dev.raise_forms | with_reducible apply cxEnd_forms

theorem pageReset_forms (f : Nat) (p : Nat) (major : Nat) {d : Dev} (h : d.Forms) :
    (pageReset f p major d).Forms := by
  unfold pageReset
  repeat' first
    | with_reducible assumption | intro _ | with_reducible apply forEach_forms | with_reducible apply foldl_forms
    | with_reducible apply setHw_forms | with_reducible apply lineWrite_forms | with_reducible apply setCs_forms

theorem tryReset_forms {d : Dev} (h : d.Forms) : (tryReset d).Forms := by
  unfold tryReset
  repeat' first
    | with_reducible assumption | with_reducible apply ite_forms | with_reducible apply resetChecks_forms
    | with_reducible apply cxDone_forms | with_reducible apply Dev.withCx_forms | with_reducible apply pageReset_forms
    | with_reducible refine pair_forms ‹_ = (_, _)› ?_ | with_reducible refine pair3_forms ‹_ = (_, _, _)› ?_
    | extract_lets | split

theorem unitFree_forms {d : Dev} (h : d.Forms) : (unitFree d).Forms := by
  unfold unitFree
  repeat' first
    | with_reducible assumption | with_reducible apply Dev.withCx_forms | with_reducible apply tryReset_forms | split

theorem cxPageReset_forms (f : Nat) (p : Nat) {d : Dev} (h : d.Forms) : (cxPageReset f p d).Forms := by
  unfold cxPageReset
  repeat' first
    | with_reducible assumption | intro _ | with_reducible apply forEach_forms | with_reducible apply foldl_forms
    | with_reducible apply ite_forms | with_reducible apply cxCmd_forms | with_reducible apply resetChecks_forms
    | with_reducible apply Dev.set_forms | with_reducible apply Dev.answer_forms | with_reducible apply cxEnd_forms
    | with_reducible apply unitFree_forms | with_reducible apply Dev.withCx_forms

theorem cxRekey_forms (f : Nat) {d : Dev} (h : d.Forms) : (cxRekey f d).Forms := by
  unfold cxRekey
  repeat' first
    | with_reducible assumption | intro _ | with_reducible apply forEach_forms | with_reducible apply foldl_forms
    | with_reducible apply ite_forms | with_reducible apply cxCmd_forms | with_reducible apply Dev.set_forms
    | with_reducible apply Dev.answer_forms | with_reducible apply cxEnd_forms | with_reducible apply cxDone_forms
    | with_reducible apply migStart_forms

theorem opEnd_forms {d : Dev} (h : d.Forms) : (opEnd d).Forms := by
  unfold opEnd
  repeat' first
    | with_reducible assumption | with_reducible apply unitFree_forms | with_reducible apply Dev.withCx_forms

theorem cxResume_forms (f : Nat) {d : Dev} (h : d.Forms) : (cxResume f d).Forms := by
  unfold cxResume
  repeat' first
    | with_reducible assumption | intro _ | with_reducible apply forEach_forms | with_reducible apply foldl_forms
    | with_reducible apply ite_forms | with_reducible apply cxCmd_forms | with_reducible apply Dev.set_forms
    | with_reducible apply Dev.answer_forms | with_reducible apply cxDone_forms | with_reducible apply cxEnd_forms

theorem cxAbort_forms (f : Nat) {d : Dev} (h : d.Forms) :
    (cxAbort f d).Forms := by
  unfold cxAbort
  repeat' first
    | with_reducible assumption | intro _ | with_reducible apply forEach_forms | with_reducible apply foldl_forms
    | with_reducible apply ite_forms | with_reducible apply cxCmd_forms | with_reducible apply Dev.set_forms
    | with_reducible apply cxDone_forms | with_reducible apply opEnd_forms | with_reducible apply Dev.withCx_forms
    | with_reducible apply cxEnd_forms | with_reducible apply Dev.answer_forms
    | with_reducible refine pair_forms ‹_ = (_, _)› ?_ | with_reducible refine pair3_forms ‹_ = (_, _, _)› ?_
    | extract_lets | split | exact Dev.Forms.of ‹_› rfl rfl rfl rfl

theorem cxCmdWrite_forms (v : Nat) {d : Dev} (h : d.Forms) : (cxCmdWrite v d).Forms := by
  unfold cxCmdWrite
  repeat' first
    | with_reducible assumption | intro _ | with_reducible apply forEach_forms | with_reducible apply foldl_forms
    | with_reducible apply cxPageReset_forms | with_reducible apply cxRekey_forms | with_reducible apply cxAbort_forms
    | with_reducible apply cxResume_forms | with_reducible apply cxCmd_forms | with_reducible apply Dev.answer_forms
    | extract_lets | split

theorem ksEnd_forms (k : Nat) (c : Resp) {d : Dev} (h : d.Forms) : (ksEnd k c d).Forms := by
  unfold ksEnd
  repeat' first
    | with_reducible assumption | with_reducible apply Dev.answer_forms | with_reducible apply Dev.set_forms

theorem keyLoad_forms (k : Nat) (use : Nat) {d : Dev} (h : d.Forms) : (keyLoad k use d).Forms := by
  unfold keyLoad
  repeat' first
    | with_reducible assumption | intro _ | with_reducible apply forEach_forms | with_reducible apply foldl_forms
    | with_reducible apply ite_forms | with_reducible apply cxHost_forms | with_reducible apply Dev.answer_forms
    | with_reducible apply ksEnd_forms | with_reducible apply Dev.set_forms | with_reducible apply Dev.withCx_forms
    | split

theorem keyRetire_forms (k : Nat) {d : Dev} (h : d.Forms) : (keyRetire k d).Forms := by
  unfold keyRetire
  repeat' first
    | with_reducible assumption | intro _ | with_reducible apply forEach_forms | with_reducible apply foldl_forms
    | with_reducible apply ite_forms | with_reducible apply cxHost_forms | with_reducible apply Dev.answer_forms
    | with_reducible apply Dev.withCx_forms | with_reducible apply retireSlot_forms | with_reducible apply ksEnd_forms
    | with_reducible apply Dev.set_forms

theorem keyAbort_forms (k : Nat) {d : Dev} (h : d.Forms) : (keyAbort k d).Forms := by
  unfold keyAbort
  repeat' first
    | with_reducible assumption | intro _ | with_reducible apply forEach_forms | with_reducible apply foldl_forms
    | with_reducible apply ite_forms | with_reducible apply cxHost_forms | with_reducible apply Dev.answer_forms
    | with_reducible apply Dev.set_forms | with_reducible apply Dev.withCx_forms | with_reducible apply ksEnd_forms
    | extract_lets | split

theorem ksCmdWrite_forms (v : Nat) {d : Dev} (h : d.Forms) : (ksCmdWrite v d).Forms := by
  unfold ksCmdWrite
  repeat' first
    | with_reducible assumption | with_reducible apply ite_forms | with_reducible apply keyLoad_forms
    | with_reducible apply keyRetire_forms | with_reducible apply keyAbort_forms
    | with_reducible apply Dev.answer_forms | extract_lets | split

theorem cfCtrlWrite_forms (f : Nat) (v : Nat) {d : Dev} (h : d.Forms) : (cfCtrlWrite f v d).Forms := by
  unfold cfCtrlWrite
  repeat' first
    | with_reducible assumption | intro _ | with_reducible apply forEach_forms | with_reducible apply foldl_forms
    | with_reducible apply ite_forms | with_reducible apply cxHost_forms | with_reducible apply Dev.answer_forms
    | with_reducible apply Dev.set_forms

theorem cryptoWrite_forms (a : Nat) (v : Nat) {d : Dev} (h : d.Forms) : (cryptoWrite a v d).Forms := by
  unfold cryptoWrite
  repeat' first
    | with_reducible assumption | with_reducible apply ite_forms | with_reducible apply alarmClear_forms
    | with_reducible apply secCtrlWrite_forms | with_reducible apply cxCmdWrite_forms
    | with_reducible apply ksCmdWrite_forms | with_reducible apply cfCtrlWrite_forms
    | with_reducible apply storeReg_forms

theorem trainStart_forms (n : Nat) {d : Dev} (h : d.Forms) : (trainStart n d).Forms := by
  unfold trainStart
  repeat' first
    | with_reducible assumption | with_reducible apply Dev.set_forms

theorem xmcCtrlWrite_forms (n : Nat) (en : Bool) {d : Dev} (h : d.Forms) : (xmcCtrlWrite n en d).Forms := by
  unfold xmcCtrlWrite
  repeat' first
    | with_reducible assumption | with_reducible apply ite_forms | with_reducible apply Dev.answer_forms
    | with_reducible apply Dev.set_forms | with_reducible apply trainStart_forms

theorem retrain_forms (n : Nat) {d : Dev} (h : d.Forms) : (retrain n d).Forms := by
  unfold retrain
  repeat' first
    | with_reducible assumption | with_reducible apply ite_forms | with_reducible apply Dev.answer_forms
    | with_reducible apply Dev.set_forms

theorem xmcClrStats_forms (n : Nat) {d : Dev} (h : d.Forms) : (xmcClrStats n d).Forms := by
  unfold xmcClrStats
  repeat' first
    | with_reducible assumption | with_reducible apply Dev.answer_forms | with_reducible apply Dev.resetFlds_forms

theorem xmcClrEcc_forms (n : Nat) {d : Dev} (h : d.Forms) : (xmcClrEcc n d).Forms := by
  unfold xmcClrEcc
  repeat' first
    | with_reducible assumption | with_reducible apply Dev.answer_forms | with_reducible apply Dev.resetFlds_forms

theorem xmcCmdWrite_forms (n : Nat) (v : Nat) {d : Dev} (h : d.Forms) : (xmcCmdWrite n v d).Forms := by
  unfold xmcCmdWrite
  repeat' first
    | with_reducible assumption | with_reducible apply ite_forms | with_reducible apply retrain_forms
    | with_reducible apply Dev.answer_forms | with_reducible apply xmcClrStats_forms
    | with_reducible apply xmcClrEcc_forms

theorem xmCfgWrite_forms (v : Nat) {d : Dev} (h : d.Forms) : (xmCfgWrite v d).Forms := by
  unfold xmCfgWrite
  repeat' first
    | with_reducible assumption | intro _ | with_reducible apply forEach_forms | with_reducible apply foldl_forms
    | with_reducible apply ite_forms | with_reducible apply Dev.answer_forms | with_reducible apply Dev.set_forms
    | extract_lets | split | with_reducible apply writeFlds_forms

theorem storeXfCfg_forms (f : Nat) (v : Nat) {d : Dev} (h : d.Forms) : (storeXfCfg f v d).Forms := by
  unfold storeXfCfg
  repeat' first
    | with_reducible assumption | with_reducible apply Dev.set_forms

theorem initStart_forms (f : Nat) {d : Dev} (h : d.Forms) : (initStart f d).Forms := by
  unfold initStart
  repeat' first
    | with_reducible assumption | with_reducible apply unitFree_forms | with_reducible apply Dev.withCx_forms
    | with_reducible apply Dev.set_forms

theorem xfRangeWrite_forms (f : Nat) (fld : Fld) (v : Nat) {d : Dev} (h : d.Forms) :
    (xfRangeWrite f fld v d).Forms := by
  unfold xfRangeWrite
  repeat' first
    | with_reducible assumption | with_reducible apply ite_forms | with_reducible apply Dev.answer_forms
    | with_reducible apply Dev.set_forms

theorem xfCfgWrite_forms (f : Nat) (v : Nat) {d : Dev} (h : d.Forms) :
    (xfCfgWrite f v d).Forms := by
  unfold xfCfgWrite
  repeat' first
    | with_reducible assumption | intro _ | with_reducible apply forEach_forms | with_reducible apply foldl_forms
    | with_reducible apply ite_forms | with_reducible apply Dev.answer_forms
    | with_reducible apply storeXfCfg_forms | with_reducible apply Dev.set_forms
    | with_reducible apply Dev.withCx_forms | with_reducible apply initStart_forms
    | with_reducible apply bindSlot_forms | with_reducible apply Dev.raise_forms
    | with_reducible refine pair_forms ‹_ = (_, _)› ?_ | with_reducible refine pair3_forms ‹_ = (_, _, _)› ?_
    | extract_lets | split | exact Dev.Forms.of ‹_› rfl rfl rfl rfl

theorem fileWrite_forms (f : Nat) (a : Nat) (v : Nat) {d : Dev} (h : d.Forms) : (fileWrite f a v d).Forms := by
  unfold fileWrite
  repeat' first
    | with_reducible assumption | with_reducible apply xfCfgWrite_forms | with_reducible apply xfRangeWrite_forms
    | with_reducible apply storeReg_forms | split

theorem xmSeatWrite_forms (a : Nat) (i : Nat) (v : Nat) {d : Dev} (h : d.Forms) : (xmSeatWrite a i v d).Forms := by
  unfold xmSeatWrite
  repeat' first
    | with_reducible assumption | with_reducible apply ite_forms | with_reducible apply Dev.answer_forms | split
    | with_reducible apply writeFlds_forms

theorem xmWrite_forms (a : Nat) (v : Nat) {d : Dev} (h : d.Forms) : (xmWrite a v d).Forms := by
  unfold xmWrite
  repeat' first
    | with_reducible assumption | with_reducible apply ite_forms | with_reducible apply xmcCtrlWrite_forms
    | with_reducible apply xmcCmdWrite_forms | with_reducible apply storeReg_forms
    | with_reducible apply xmCfgWrite_forms | with_reducible apply fileWrite_forms
    | with_reducible apply xmSeatWrite_forms | extract_lets | split

theorem txBad_forms (s : Nat) (n : Nat) {d : Dev} (h : d.Forms) : (txBad s n d).Forms := by
  unfold txBad
  repeat' first
    | with_reducible assumption | with_reducible apply ite_forms | with_reducible apply Dev.raise_forms
    | with_reducible apply Dev.addSat_forms

theorem setLink_forms (p : Nat) (up : Bool) {d : Dev} (h : d.Forms) : (setLink p up d).Forms := by
  unfold setLink
  repeat' first
    | with_reducible assumption | with_reducible apply ite_forms | with_reducible apply Dev.raise_forms
    | with_reducible apply Dev.set_forms

theorem dropLink_forms (p : Nat) {d : Dev} (h : d.Forms) : (dropLink p d).Forms := by
  unfold dropLink
  repeat' first
    | with_reducible assumption | intro _ | with_reducible apply forEach_forms | with_reducible apply foldl_forms
    | with_reducible apply ite_forms | with_reducible apply netSettle_forms | with_reducible apply Dev.incSat_forms
    | with_reducible apply txBad_forms | with_reducible apply mapPort_forms | with_reducible apply setLink_forms
    | with_reducible apply Dev.set_forms

theorem epCfgWrite_forms (p : Nat) (v : Nat) {d : Dev} (h : d.Forms) : (epCfgWrite p v d).Forms := by
  unfold epCfgWrite
  repeat' first
    | with_reducible assumption | with_reducible apply ite_forms | with_reducible apply Dev.answer_forms
    | with_reducible apply Dev.raise_forms | with_reducible apply Dev.set_forms | with_reducible apply dropLink_forms
    | extract_lets | split | with_reducible apply writeFlds_forms

theorem sbCfgWrite_forms (s : Nat) (v : Nat) {d : Dev} (h : d.Forms) : (sbCfgWrite s v d).Forms := by
  unfold sbCfgWrite
  repeat' first
    | with_reducible assumption | with_reducible apply ite_forms | with_reducible apply Dev.answer_forms
    | with_reducible apply Dev.raise_forms | extract_lets | split | with_reducible apply writeFlds_forms

theorem ethernetWrite_forms (a : Nat) (v : Nat) {d : Dev} (h : d.Forms) : (ethernetWrite a v d).Forms := by
  unfold ethernetWrite
  repeat' first
    | with_reducible assumption | with_reducible apply ite_forms | with_reducible apply epCfgWrite_forms
    | with_reducible apply storeReg_forms | with_reducible apply sbCfgWrite_forms
    | with_reducible apply storeUnless_forms

theorem iclCmdWrite_forms (leave : Bool) (clr : Bool) {d : Dev} (h : d.Forms) :
    (iclCmdWrite leave clr d).Forms := by
  unfold iclCmdWrite
  repeat' first
    | with_reducible assumption | intro _ | with_reducible apply forEach_forms | with_reducible apply foldl_forms
    | with_reducible apply ite_forms | with_reducible apply iclHost_forms
    | with_reducible apply Dev.resetFlds_forms | with_reducible apply endMembership_forms
    | with_reducible apply Dev.answer_forms | with_reducible refine pair_forms ‹_ = (_, _)› ?_
    | with_reducible refine pair3_forms ‹_ = (_, _, _)› ?_ | extract_lets | split
    | exact Dev.Forms.of ‹_› rfl rfl rfl rfl

theorem iclCfgWrite_forms (v : Nat) {d : Dev} (h : d.Forms) :
    (iclCfgWrite v d).Forms := by
  unfold iclCfgWrite
  repeat' first
    | with_reducible assumption | intro _ | with_reducible apply forEach_forms | with_reducible apply foldl_forms
    | with_reducible apply ite_forms | with_reducible apply iclHost_forms | with_reducible apply Dev.answer_forms
    | with_reducible apply Dev.set_forms | with_reducible apply settleLink_forms
    | with_reducible apply selectUpstream_forms | with_reducible apply rediscover_forms
    | with_reducible apply endMembership_forms | with_reducible refine pair_forms ‹_ = (_, _)› ?_
    | with_reducible refine pair3_forms ‹_ = (_, _, _)› ?_ | extract_lets | split
    | exact Dev.Forms.of ‹_› rfl rfl rfl rfl

theorem ifeotteWrite_forms (a : Nat) (v : Nat) {d : Dev} (h : d.Forms) : (ifeotteWrite a v d).Forms := by
  unfold ifeotteWrite
  repeat' first
    | with_reducible assumption | with_reducible apply ite_forms | with_reducible apply iclCfgWrite_forms
    | with_reducible apply iclCmdWrite_forms | with_reducible apply iclPortWrite_forms
    | with_reducible apply reroute_forms | with_reducible apply storeReg_forms | with_reducible apply tunnelCmd_forms

theorem settleSched_forms (r : Nat) {d : Dev} (h : d.Forms) : (settleSched r d).Forms := by
  unfold settleSched
  repeat' first
    | with_reducible assumption | with_reducible apply ite_forms | with_reducible apply syncSched_forms | split

theorem schedWritten_forms (r : Nat) {d : Dev} (h : d.Forms) : (schedWritten r d).Forms := by
  unfold schedWritten
  repeat' first
    | with_reducible assumption | with_reducible apply ite_forms | with_reducible apply Dev.setRing_forms
    | with_reducible apply syncSched_forms

theorem Dev.mapFab_forms {d : Dev} (r : Nat) (f : FabSt → FabSt) (h : d.Forms) : (Dev.mapFab d r f).Forms := by
  unfold Dev.mapFab
  repeat' first
    | with_reducible assumption | with_reducible apply hf | with_reducible apply Dev.setRing_forms

theorem initStates_forms (r : Nat) {d : Dev} (h : d.Forms) : (initStates r d).Forms := by
  unfold initStates
  repeat' first
    | with_reducible assumption | intro _ | with_reducible apply forEach_forms | with_reducible apply foldl_forms
    | with_reducible apply Dev.mapFab_forms

theorem clearFault_forms (e : Nat) {d : Dev} (h : d.Forms) : (clearFault e d).Forms := by
  unfold clearFault
  repeat' first
    | with_reducible assumption | with_reducible apply Dev.resetFlds_forms

theorem engsArm_forms (r : Nat) {d : Dev} (h : d.Forms) : (engsArm r d).Forms := by
  unfold engsArm
  repeat' first
    | with_reducible assumption | intro _ | with_reducible apply forEach_forms | with_reducible apply foldl_forms
    | with_reducible apply clearFault_forms | with_reducible apply clearExec_forms

theorem freshStart_forms (r : Nat) {d : Dev} (h : d.Forms) : (freshStart r d).Forms := by
  unfold freshStart
  repeat' first
    | with_reducible assumption | intro _ | with_reducible apply forEach_forms | with_reducible apply foldl_forms
    | with_reducible apply initStates_forms | with_reducible apply engsArm_forms | with_reducible apply mapRing_forms
    | with_reducible apply Dev.set_forms

theorem budgetErr_forms (r : Nat) {d : Dev} (h : d.Forms) : (budgetErr r d).Forms := by
  unfold budgetErr
  repeat' first
    | with_reducible assumption | with_reducible apply Dev.raise_forms

theorem tryArm_forms (r : Nat) {d : Dev} (h : d.Forms) : (tryArm r d).Forms := by
  unfold tryArm
  repeat' first
    | with_reducible assumption | intro _ | with_reducible apply forEach_forms | with_reducible apply foldl_forms
    | with_reducible apply ite_forms | with_reducible apply Dev.set_forms | with_reducible apply mapRing_forms
    | with_reducible apply setRState_forms | with_reducible apply freshStart_forms
    | with_reducible apply syncSched_forms | with_reducible apply recomputeCeil_forms
    | with_reducible apply budgetErr_forms

theorem schedWrite_forms (r : Nat) (v : Nat) {d : Dev} (h : d.Forms) : (schedWrite r v d).Forms := by
  unfold schedWrite
  repeat' first
    | with_reducible assumption | with_reducible apply ite_forms | with_reducible apply Dev.answer_forms
    | with_reducible apply settleSched_forms | with_reducible apply Dev.set_forms
    | with_reducible apply schedWritten_forms | with_reducible apply tryArm_forms | with_reducible apply disarm_forms
    | extract_lets | split | with_reducible apply writeFlds_forms

theorem seqWrite_forms (r : Nat) (v : Nat) {d : Dev} (h : d.Forms) : (seqWrite r v d).Forms := by
  unfold seqWrite
  repeat' first
    | with_reducible assumption | with_reducible apply ite_forms | with_reducible apply Dev.answer_forms
    | with_reducible apply settleSched_forms | with_reducible apply schedWritten_forms | extract_lets | split
    | with_reducible apply writeFlds_forms

theorem clearFiles_forms (e : Nat) {d : Dev} (h : d.Forms) : (clearFiles e d).Forms := by
  unfold clearFiles
  repeat' first
    | with_reducible assumption | intro _ | with_reducible apply forEach_forms | with_reducible apply foldl_forms
    | with_reducible apply mapEng_forms

theorem engsRestart_forms (r : Nat) {d : Dev} (h : d.Forms) : (engsRestart r d).Forms := by
  unfold engsRestart
  repeat' first
    | with_reducible assumption | intro _ | with_reducible apply forEach_forms | with_reducible apply foldl_forms
    | with_reducible apply clearFault_forms | with_reducible apply clearFiles_forms
    | with_reducible apply clearExec_forms

theorem performRestart_forms (r : Nat) {d : Dev} (h : d.Forms) : (performRestart r d).Forms := by
  unfold performRestart
  repeat' first
    | with_reducible assumption | intro _ | with_reducible apply forEach_forms | with_reducible apply foldl_forms
    | with_reducible apply freshStart_forms | with_reducible apply engsRestart_forms

theorem restartRing_forms (r : Nat) {d : Dev} (h : d.Forms) : (restartRing r d).Forms := by
  unfold restartRing
  repeat' first
    | with_reducible assumption | intro _ | with_reducible apply forEach_forms | with_reducible apply foldl_forms
    | with_reducible apply ite_forms | with_reducible apply setRState_forms | with_reducible apply mapRing_forms
    | with_reducible apply performRestart_forms

theorem ringCmd_forms (r : Nat) (force : Bool) (clr : Bool) (restart : Bool) {d : Dev} (h : d.Forms) :
    (ringCmd r force clr restart d).Forms := by
  unfold ringCmd
  repeat' first
    | with_reducible assumption | intro _ | with_reducible apply forEach_forms | with_reducible apply foldl_forms
    | with_reducible apply ite_forms | with_reducible apply Dev.answer_forms | with_reducible apply mapRing_forms
    | with_reducible apply Dev.set_forms | with_reducible apply restartRing_forms

theorem endTick_forms (m : Nat) {d : Dev} (h : d.Forms) : (endTick m d).Forms := by
  unfold endTick
  repeat' first
    | with_reducible assumption | with_reducible apply Dev.setRing_forms | with_reducible apply clearWork_forms
    | split

theorem ungroup_forms (m : Nat) {d : Dev} (h : d.Forms) : (ungroup m d).Forms := by
  unfold ungroup
  repeat' first
    | with_reducible assumption | with_reducible apply ite_forms | with_reducible apply initStates_forms
    | with_reducible apply Dev.set_forms | with_reducible apply endTick_forms

theorem ringMemZero_forms (r : Nat) {d : Dev} (h : d.Forms) : (ringMemZero r d).Forms := by
  unfold ringMemZero
  repeat' first
    | with_reducible assumption | with_reducible apply ite_forms | with_reducible apply Dev.answer_forms
    | with_reducible apply Dev.set_forms

theorem ringClrEcc_forms (r : Nat) {d : Dev} (h : d.Forms) : (ringClrEcc r d).Forms := by
  unfold ringClrEcc
  repeat' first
    | with_reducible assumption | with_reducible apply ite_forms | with_reducible apply Dev.answer_forms
    | with_reducible apply Dev.set_forms

theorem fabCmdWrite_forms (r : Nat) (v : Nat) {d : Dev} (h : d.Forms) : (fabCmdWrite r v d).Forms := by
  unfold fabCmdWrite
  repeat' first
    | with_reducible assumption | with_reducible apply ite_forms | with_reducible apply ringMemZero_forms
    | with_reducible apply Dev.answer_forms | with_reducible apply ringClrEcc_forms

theorem enterResync_forms (r : Nat) (t : Nat) {d : Dev} (h : d.Forms) : (enterResync r t d).Forms := by
  unfold enterResync
  repeat' first
    | with_reducible assumption | intro _ | with_reducible apply forEach_forms | with_reducible apply foldl_forms
    | with_reducible apply ite_forms | with_reducible apply Dev.set_forms | with_reducible apply mapSlot_forms

theorem flushSlot_forms (r : Nat) (t : Nat) {d : Dev} (h : d.Forms) : (flushSlot r t d).Forms := by
  unfold flushSlot
  repeat' first
    | with_reducible assumption | with_reducible apply ite_forms | with_reducible apply enterResync_forms

theorem tsFlush_forms (r : Nat) (t : Nat) {d : Dev} (h : d.Forms) : (tsFlush r t d).Forms := by
  unfold tsFlush
  repeat' first
    | with_reducible assumption | with_reducible apply ite_forms | with_reducible apply Dev.answer_forms
    | with_reducible apply flushSlot_forms

theorem tsClrStats_forms (r : Nat) (t : Nat) {d : Dev} (h : d.Forms) : (tsClrStats r t d).Forms := by
  unfold tsClrStats
  repeat' first
    | with_reducible assumption | with_reducible apply ite_forms | with_reducible apply Dev.answer_forms
    | with_reducible apply Dev.resetFlds_forms

theorem slotWrite_forms (r : Nat) (t : Nat) (a : Nat) (v : Nat) {d : Dev} (h : d.Forms) :
    (slotWrite r t a v d).Forms := by
  unfold slotWrite
  repeat' first
    | with_reducible assumption | with_reducible apply ite_forms | with_reducible apply storeUnless_forms
    | with_reducible apply tsFlush_forms | with_reducible apply Dev.answer_forms
    | with_reducible apply tsClrStats_forms | with_reducible apply storeReg_forms | extract_lets | split

theorem groupErr_forms (r : Nat) {d : Dev} (h : d.Forms) :
    (groupErr r d).Forms := by
  unfold groupErr
  repeat' first
    | with_reducible assumption | intro _ | with_reducible apply forEach_forms | with_reducible apply foldl_forms
    | with_reducible apply ite_forms | with_reducible apply Dev.set_forms | with_reducible apply Dev.raise_forms
    | with_reducible apply Dev.answer_forms | with_reducible refine pair_forms ‹_ = (_, _)› ?_
    | with_reducible refine pair3_forms ‹_ = (_, _, _)› ?_ | extract_lets | split
    | exact Dev.Forms.of ‹_› rfl rfl rfl rfl

theorem groupDissolve_forms (r : Nat) (w : Nat) (h0 : Nat) {d : Dev} (h : d.Forms) :
    (groupDissolve r w h0 d).Forms := by
  unfold groupDissolve
  repeat' first
    | with_reducible assumption | intro _ | with_reducible apply forEach_forms | with_reducible apply foldl_forms
    | with_reducible apply ite_forms | with_reducible apply Dev.answer_forms | with_reducible apply ungroup_forms
    | with_reducible apply groupErr_forms | with_reducible apply Dev.set_forms

theorem groupForm_forms (r : Nat) (w : Nat) (h0 : Nat) {d : Dev} (h : d.Forms) : (groupForm r w h0 d).Forms := by
  unfold groupForm
  repeat' first
    | with_reducible assumption | intro _ | with_reducible apply forEach_forms | with_reducible apply foldl_forms
    | with_reducible apply ite_forms | with_reducible apply Dev.answer_forms | with_reducible apply groupErr_forms
    | with_reducible apply Dev.set_forms

theorem ringRegWrite_forms (r : Nat) (o : Nat) (a : Nat) (v : Nat) {d : Dev} (h : d.Forms) :
    (ringRegWrite r o a v d).Forms := by
  unfold ringRegWrite
  repeat' first
    | with_reducible assumption | with_reducible apply ite_forms | with_reducible apply schedWrite_forms
    | with_reducible apply seqWrite_forms | with_reducible apply storeUnless_forms
    | with_reducible apply ringCmd_forms | with_reducible apply groupForm_forms
    | with_reducible apply groupDissolve_forms | with_reducible apply fabCmdWrite_forms
    | with_reducible apply slotWrite_forms | with_reducible apply storeReg_forms

theorem engCfgWrite_forms (e : Nat) (fs : List Fld) (v : Nat) {d : Dev} (h : d.Forms) :
    (engCfgWrite e fs v d).Forms := by
  unfold engCfgWrite
  repeat' first
    | with_reducible assumption | with_reducible apply ite_forms | with_reducible apply Dev.answer_forms | split
    | with_reducible apply writeFlds_forms

theorem engCmdWrite_forms (e : Nat) (v : Nat) {d : Dev} (h : d.Forms) : (engCmdWrite e v d).Forms := by
  unfold engCmdWrite
  repeat' first
    | with_reducible assumption | with_reducible apply ite_forms | with_reducible apply Dev.answer_forms
    | with_reducible apply Dev.resetFlds_forms | with_reducible apply clearFiles_forms
    | with_reducible apply Dev.set_forms

theorem dbgNext_forms (e : Nat) {d : Dev} (h : d.Forms) : (dbgNext e d).Forms := by
  unfold dbgNext
  repeat' first
    | with_reducible assumption | with_reducible apply ite_forms | with_reducible apply Dev.incWrap_forms
    | with_reducible apply Dev.set_forms

theorem dbgWrite_forms (e : Nat) (v : Nat) {d : Dev} (h : d.Forms) : (dbgWrite e v d).Forms := by
  unfold dbgWrite
  repeat' first
    | with_reducible assumption | with_reducible apply Dev.answer_forms | with_reducible apply dbgNext_forms
    | with_reducible apply mapEng_forms | split

theorem engRegWrite_forms (e : Nat) (a : Nat) (v : Nat) {d : Dev} (h : d.Forms) : (engRegWrite e a v d).Forms := by
  unfold engRegWrite
  repeat' first
    | with_reducible assumption | with_reducible apply engCfgWrite_forms | with_reducible apply engCmdWrite_forms
    | with_reducible apply dbgWrite_forms | with_reducible apply storeReg_forms | split

theorem hostCmdOpen_forms (f : Dev → Dev) {d : Dev} (hf : ∀ e : Dev, e.Forms → (f e).Forms) (h : d.Forms) :
    (hostCmdOpen f d).Forms := by
  unfold hostCmdOpen
  repeat' first
    | with_reducible assumption | intro _ | with_reducible apply forEach_forms | with_reducible apply foldl_forms
    | with_reducible apply ite_forms | with_reducible apply hf | with_reducible apply qmHost_forms
    | with_reducible apply Dev.answer_forms | with_reducible refine pair_forms ‹_ = (_, _)› ?_
    | with_reducible refine pair3_forms ‹_ = (_, _, _)› ?_ | extract_lets | split
    | exact Dev.Forms.of ‹_› rfl rfl rfl rfl

theorem hostCmd_forms (f : Dev → Dev) {d : Dev} (hf : ∀ e : Dev, e.Forms → (f e).Forms) (h : d.Forms) :
    (hostCmd f d).Forms := by
  unfold hostCmd
  repeat' first
    | with_reducible assumption | intro _ | with_reducible apply forEach_forms | with_reducible apply foldl_forms
    | with_reducible apply ite_forms | with_reducible apply hf | with_reducible apply hostCmdOpen_forms
    | with_reducible apply Dev.bump_forms | with_reducible refine pair_forms ‹_ = (_, _)› ?_
    | with_reducible refine pair3_forms ‹_ = (_, _, _)› ?_ | extract_lets | split
    | exact Dev.Forms.of ‹_› rfl rfl rfl rfl

theorem hostPop_forms (q : Nat) {d : Dev} (h : d.Forms) :
    (hostPop q d).Forms := by
  unfold hostPop
  repeat' first
    | with_reducible assumption | intro _ | with_reducible apply forEach_forms | with_reducible apply foldl_forms
    | with_reducible apply ite_forms | with_reducible apply hostCmd_forms | with_reducible apply qPop_forms
    | with_reducible apply Dev.set_forms | with_reducible apply forEach_forms
    | with_reducible apply Dev.answer_forms | with_reducible refine pair_forms ‹_ = (_, _)› ?_
    | with_reducible refine pair3_forms ‹_ = (_, _, _)› ?_ | extract_lets | split
    | exact Dev.Forms.of ‹_› rfl rfl rfl rfl

theorem qmAbort_forms (q : Nat) {d : Dev} (h : d.Forms) :
    (qmAbort q d).Forms := by
  unfold qmAbort
  repeat' first
    | with_reducible assumption | intro _ | with_reducible apply forEach_forms | with_reducible apply foldl_forms
    | with_reducible apply ite_forms | with_reducible apply qCmd_forms | with_reducible apply qCmdEnd_forms
    | with_reducible apply Dev.set_forms | with_reducible apply Dev.setQueue_forms
    | with_reducible apply truncate_forms | with_reducible refine pair_forms ‹_ = (_, _)› ?_
    | with_reducible refine pair3_forms ‹_ = (_, _, _)› ?_ | extract_lets | split
    | exact Dev.Forms.of ‹_› rfl rfl rfl rfl

theorem qdBindWrite_forms (q : Nat) (v : Nat) {d : Dev} (h : d.Forms) : (qdBindWrite q v d).Forms := by
  unfold qdBindWrite
  repeat' first
    | with_reducible assumption | intro _ | with_reducible apply forEach_forms | with_reducible apply foldl_forms
    | with_reducible apply qmHost_forms | with_reducible apply Dev.answer_forms | with_reducible apply Dev.set_forms

theorem queueWrite_forms (q : Nat) (a : Nat) (v : Nat) {d : Dev} (h : d.Forms) :
    (queueWrite q a v d).Forms := by
  unfold queueWrite
  repeat' first
    | with_reducible assumption | intro _ | with_reducible apply forEach_forms | with_reducible apply foldl_forms
    | with_reducible apply ite_forms | with_reducible apply qdCfgWrite_forms
    | with_reducible apply qdBindWrite_forms | with_reducible apply watermarkWrite_forms
    | with_reducible apply withAttn_forms | with_reducible apply storeReg_forms
    | with_reducible apply Dev.answer_forms | with_reducible refine pair_forms ‹_ = (_, _)› ?_
    | with_reducible refine pair3_forms ‹_ = (_, _, _)› ?_ | extract_lets | split
    | exact Dev.Forms.of ‹_› rfl rfl rfl rfl

theorem hostPush_forms (q : Nat) (eop : Bool) (vb : Nat) {d : Dev} (h : d.Forms) :
    (hostPush q eop vb d).Forms := by
  unfold hostPush
  repeat' first
    | with_reducible assumption | intro _ | with_reducible apply forEach_forms | with_reducible apply foldl_forms
    | with_reducible apply ite_forms | with_reducible apply hostCmd_forms | with_reducible apply qPush_forms
    | with_reducible apply Dev.set_forms | with_reducible apply Dev.answer_forms
    | with_reducible refine pair_forms ‹_ = (_, _)› ?_ | with_reducible refine pair3_forms ‹_ = (_, _, _)› ?_
    | extract_lets | split | exact Dev.Forms.of ‹_› rfl rfl rfl rfl

theorem qmWrite_forms (a : Nat) (v : Nat) {d : Dev} (h : d.Forms) :
    (qmWrite a v d).Forms := by
  unfold qmWrite
  repeat' first
    | with_reducible assumption | intro _ | with_reducible apply forEach_forms | with_reducible apply foldl_forms
    | with_reducible apply ite_forms | with_reducible apply poolLowWrite_forms | with_reducible apply qmReset_forms
    | with_reducible apply qmAbort_forms | with_reducible apply qmClrStats_forms
    | with_reducible apply qCmdOpen_forms | with_reducible apply Dev.answer_forms
    | with_reducible apply hostPush_forms | with_reducible apply hostPop_forms
    | with_reducible apply hostCmdOpen_forms | with_reducible apply storeUnless_forms
    | with_reducible apply queueWrite_forms | with_reducible apply storeReg_forms
    | with_reducible refine pair_forms ‹_ = (_, _)› ?_ | with_reducible refine pair3_forms ‹_ = (_, _, _)› ?_
    | extract_lets | split | exact Dev.Forms.of ‹_› rfl rfl rfl rfl

theorem openWrite_forms (a : Nat) (v : Nat) {d : Dev} (h : d.Forms) : (openWrite a v d).Forms := by
  unfold openWrite
  repeat' first
    | with_reducible assumption | with_reducible apply ite_forms | with_reducible apply clearCounter_forms
    | with_reducible apply globalWrite_forms | with_reducible apply masterWrite_forms
    | with_reducible apply tightropeWrite_forms | with_reducible apply configWrite_forms
    | with_reducible apply serviceWrite_forms | with_reducible apply qmWrite_forms
    | with_reducible apply cryptoWrite_forms | with_reducible apply xmWrite_forms
    | with_reducible apply ethernetWrite_forms | with_reducible apply ifeotteWrite_forms
    | with_reducible apply ringRegWrite_forms | with_reducible apply engRegWrite_forms

theorem regWrite_forms (a : Nat) (v : Nat) {d : Dev} (h : d.Forms) : (regWrite a v d).Forms := by
  unfold regWrite
  repeat' first
    | with_reducible assumption | with_reducible apply ite_forms | with_reducible apply Dev.answer_forms
    | with_reducible apply windowWrite_forms | with_reducible apply msixWrite_forms
    | with_reducible apply openWrite_forms

theorem applyRec_forms (x : CfgRec) {d : Dev} (h : d.Forms) : (applyRec x d).Forms := by
  unfold applyRec
  repeat' first
    | with_reducible assumption | intro _ | with_reducible apply forEach_forms | with_reducible apply foldl_forms
    | with_reducible apply ite_forms | with_reducible apply regWrite_forms | with_reducible apply mapCfg_forms
    | with_reducible apply mapRing_forms | with_reducible apply attachSlot_forms | extract_lets | split

theorem applyRecs_forms (xs : List CfgRec) {d : Dev} (h : d.Forms) : (applyRecs xs d).2.Forms := by
  induction xs generalizing d with
  | nil => exact h
  | cons x xs ih =>
    unfold applyRecs
    extract_lets d1
    have h1 : d1.Forms := applyRec_forms x h
    split
    · exact ih h1
    · exact h1

theorem dropHeld_forms (full : Bool) (rs : List Nat) {d : Dev} (h : d.Forms) : (dropHeld full rs d).Forms := by
  unfold dropHeld
  repeat' first
    | with_reducible assumption | intro _ | with_reducible apply forEach_forms | with_reducible apply foldl_forms
    | with_reducible apply ite_forms | with_reducible apply mapCfg_forms | with_reducible apply mapRing_forms

theorem applyHeld_forms (rs : List Nat) {d : Dev} (h : d.Forms) : (applyHeld rs d).Forms := by
  unfold applyHeld
  repeat' first
    | with_reducible assumption | intro _ | with_reducible apply forEach_forms | with_reducible apply foldl_forms
    | with_reducible apply ite_forms | with_reducible apply mapRing_forms | with_reducible apply schedWrite_forms

theorem ringLoaded_forms (design : Nat) (r : Nat) {d : Dev} (h : d.Forms) : (ringLoaded design r d).Forms := by
  unfold ringLoaded
  repeat' first
    | with_reducible assumption | intro _ | with_reducible apply forEach_forms | with_reducible apply foldl_forms
    | with_reducible apply initStates_forms | with_reducible apply engsRestart_forms
    | with_reducible apply Dev.set_forms | with_reducible apply mirrorHeader_forms

theorem loadEnds_forms {d : Dev} (h : d.Forms) : (loadEnds d).Forms := by
  unfold loadEnds
  repeat' first
    | with_reducible assumption | intro _ | with_reducible apply forEach_forms | with_reducible apply foldl_forms
    | with_reducible apply mapCfg_forms | with_reducible apply Dev.raise_forms | with_reducible apply Dev.set_forms

theorem fullDone_forms (l : LoadSt) {d : Dev} (h : d.Forms) : (fullDone l d).Forms := by
  unfold fullDone
  repeat' first
    | with_reducible assumption | intro _ | with_reducible apply forEach_forms | with_reducible apply foldl_forms
    | with_reducible apply ringLoaded_forms | with_reducible apply Dev.set_forms | with_reducible apply carFirst_forms
    | with_reducible apply loadEnds_forms | with_reducible apply mapCfg_forms

theorem reopen_forms (m : Nat) {d : Dev} (h : d.Forms) : (reopen m d).Forms := by
  unfold reopen
  repeat' first
    | with_reducible assumption | intro _ | with_reducible apply forEach_forms | with_reducible apply foldl_forms
    | with_reducible apply ite_forms | with_reducible apply Dev.set_forms | with_reducible apply mapRing_forms
    | with_reducible apply syncSched_forms

theorem partialDone_forms (l : LoadSt) {d : Dev} (h : d.Forms) : (partialDone l d).Forms := by
  unfold partialDone
  repeat' first
    | with_reducible assumption | intro _ | with_reducible apply forEach_forms | with_reducible apply foldl_forms
    | with_reducible apply flushSlot_forms | with_reducible apply Dev.clrBit_forms
    | with_reducible apply ringLoaded_forms | with_reducible apply mapCfg_forms | with_reducible apply applyHeld_forms
    | with_reducible apply loadEnds_forms | with_reducible apply reopen_forms

theorem applyLoad_forms (l : LoadSt) {d : Dev} (h : d.Forms) : (applyLoad l d).Forms := by
  unfold applyLoad
  repeat' first
    | with_reducible assumption | with_reducible apply ite_forms | with_reducible apply applyRecs_forms
    | with_reducible apply dropHeld_forms | with_reducible apply loadFail_forms
    | with_reducible apply partialDone_forms | with_reducible apply fullDone_forms
    | with_reducible refine pair_forms ‹_ = (_, _)› ?_ | with_reducible refine pair3_forms ‹_ = (_, _, _)› ?_ | split

theorem endPacket_forms (data : List Word) {d : Dev} (h : d.Forms) : (endPacket data d).Forms := by
  unfold endPacket
  split
  · rename_i e; exact loadFail_forms _ _ _ _ (loadHead_forms _ h e)
  · rename_i e
    have h1 := loadHead_forms _ h e
    split
    · exact h1
    · extract_lets ws d2
      have h2 : d2.Forms := dropWords_forms _ _ h1
      exact ite_forms (loadFail_forms _ _ _ _ h2) (ite_forms (loadFail_forms _ _ _ _ h2) (applyLoad_forms _ h2))
  · rename_i e; exact loadHead_forms _ h e
  · exact h

theorem sampleStraps_forms {d0 : Dev} (h : d0.Forms) : (sampleStraps d0).Forms := by
  unfold sampleStraps
  repeat' first
    | with_reducible assumption | intro _ | with_reducible apply forEach_forms | with_reducible apply foldl_forms
    | with_reducible apply mapCfg_forms | with_reducible apply restartFilter_forms
    | with_reducible apply Dev.set_forms | with_reducible apply settleLink_forms
    | with_reducible apply selectUpstream_forms | with_reducible apply ownMap_forms

theorem doneRelease_forms {d : Dev} (h : d.Forms) : (doneRelease d).Forms := by
  unfold doneRelease
  repeat' first
    | with_reducible assumption | intro _ | with_reducible apply forEach_forms | with_reducible apply foldl_forms
    | with_reducible apply ite_forms | with_reducible apply Dev.set_forms | with_reducible apply Dev.advance_forms
    | with_reducible apply rmCtrlWrite_forms | with_reducible apply applyHeld_forms
    | with_reducible apply mapCfg_forms | with_reducible apply Dev.raise_forms
    | with_reducible apply sampleStraps_forms | extract_lets | split

theorem doneLow_forms {d : Dev} (h : d.Forms) : (doneLow d).Forms := by
  unfold doneLow
  repeat' first
    | with_reducible assumption | with_reducible apply ite_forms | with_reducible apply Dev.set_forms
    | with_reducible apply Dev.raise_forms

theorem recomputeFloor_forms {d : Dev} (h : d.Forms) : (recomputeFloor d).Forms := by
  unfold recomputeFloor
  repeat' first
    | with_reducible assumption | with_reducible apply Dev.set_forms | extract_lets | split

theorem csSweep_forms {d : Dev} (h : d.Forms) : (csSweep d).Forms := by
  unfold csSweep
  repeat' first
    | with_reducible assumption | with_reducible apply csRead_forms | with_reducible apply Dev.withCx_forms

theorem fileInitDone_forms (f : Nat) {d : Dev} (h : d.Forms) : (fileInitDone f d).Forms := by
  unfold fileInitDone
  repeat' first
    | with_reducible assumption | intro _ | with_reducible apply forEach_forms | with_reducible apply foldl_forms
    | with_reducible apply ite_forms | with_reducible apply Dev.withCx_forms | with_reducible apply opEnd_forms
    | with_reducible apply Dev.set_forms | with_reducible apply setHw_forms

theorem startReenc_forms (p : Nat) {d : Dev} (h : d.Forms) : (startReenc p d).Forms := by
  unfold startReenc
  repeat' first
    | with_reducible assumption | with_reducible apply ite_forms | with_reducible apply csRead_forms
    | with_reducible apply hwVote_forms | with_reducible apply setCs_forms | with_reducible apply setHw_forms
    | with_reducible apply Dev.withCx_forms | with_reducible apply needRekey_forms
    | with_reducible refine pair_forms ‹_ = (_, _)› ?_ | with_reducible refine pair3_forms ‹_ = (_, _, _)› ?_
    | extract_lets | split

theorem startMigrate_forms (f : Nat) (p : Nat) {d : Dev} (h : d.Forms) : (startMigrate f p d).Forms := by
  unfold startMigrate
  repeat' first
    | with_reducible assumption | with_reducible apply ite_forms | with_reducible apply csRead_forms
    | with_reducible apply Dev.set_forms | with_reducible apply setCs_forms | with_reducible apply Dev.withCx_forms

theorem pageOpStart_forms {d : Dev} (h : d.Forms) : (pageOpStart d).Forms := by
  unfold pageOpStart
  repeat' first
    | with_reducible assumption | with_reducible apply unitFree_forms | with_reducible apply startReenc_forms
    | with_reducible apply Dev.withCx_forms | with_reducible apply startMigrate_forms | extract_lets | split

theorem lineDone_forms (p : Nat) (i : Nat) (e : CsEntry) {d : Dev} (h : d.Forms) : (lineDone p i e d).2.Forms := by
  unfold lineDone
  repeat' first
    | with_reducible assumption | with_reducible apply ite_forms | with_reducible apply setCs_forms | extract_lets
    | split

theorem rewriteLine_forms (f l k tag major : Nat) (e : CsEntry) {d d' : Dev} (h : d.Forms)
    (he : rewriteLine f l k tag major e d = some d') : d'.Forms := by
  unfold rewriteLine at he
  have hl := lineRead_forms l false h
  generalize lineRead l false d = s at hl he
  obtain ⟨x, d1⟩ := s
  dsimp only at he
  split at he
  · injection he with he; subst he; exact secAlarm_forms _ _ _ hl
  · split at he
    · injection he with he
      subst he
      refine forEach_forms (lineWrite_forms _ _ _ hl) (fun g e he => ?_)
      exact Dev.mapExt_forms _ he he.2.1
    · cases he

theorem engCe_forms (e : Nat) {d : Dev} (h : d.Forms) : (engCe e d).Forms := by
  unfold engCe
  repeat' first
    | with_reducible assumption | with_reducible apply Dev.raise_forms | with_reducible apply Dev.incSat_forms

theorem engUe_forms (e : Nat) (a : Nat) (host : Bool) {d : Dev} (h : d.Forms) : (engUe e a host d).Forms := by
  unfold engUe
  repeat' first
    | with_reducible assumption | with_reducible apply Dev.set_forms | with_reducible apply Dev.raise_forms
    | with_reducible apply Dev.incSat_forms

theorem engRead_forms (e : Nat) (a : Nat) (host : Bool) {d : Dev} (h : d.Forms) : (engRead e a host d).2.2.Forms := by
  unfold engRead
  repeat' first
    | with_reducible assumption | with_reducible apply engCe_forms | with_reducible apply Dev.bump_forms
    | with_reducible apply engUe_forms | extract_lets | split

theorem engReads_forms (e a n : Nat) {d : Dev} (h : d.Forms) : (engReads e a n d).2.2.Forms := by
  induction n generalizing a d with
  | zero => exact h
  | succ n ih =>
    have h1 := engRead_forms e a false h
    unfold engReads
    generalize engRead e a false d = s at h1
    obtain ⟨v, ue, d1⟩ := s
    dsimp only
    exact ih (a + 8) h1

theorem Dev.setChipFlaw_forms {d : Dev} (a : Nat) (f : Flaw) (h : d.Forms) : (Dev.setChipFlaw d a f).Forms := by
  unfold Dev.setChipFlaw
  repeat' first
    | with_reducible assumption | exact Dev.Forms.of h rfl rfl rfl rfl

theorem Dev.chipWrite_forms {d : Dev} (a : Nat) (bs : List Byte) (h : d.Forms) : (Dev.chipWrite d a bs).Forms := by
  unfold Dev.chipWrite
  exact ⟨memWf_wrBytes _ _ _ h.1, h.2⟩

theorem engPut_forms (e : Nat) (a : Nat) (v : Nat) {d : Dev} (h : d.Forms) : (engPut e a v d).Forms := by
  unfold engPut
  repeat' first
    | with_reducible assumption | with_reducible apply Dev.setChipFlaw_forms
    | with_reducible apply Dev.chipWrite_forms

theorem engPuts_forms (e a : Nat) (ts : List Token) {d : Dev} (h : d.Forms) : (engPuts e a ts d).Forms := by
  induction ts generalizing a d with
  | nil => exact h
  | cons t ts ih => exact ih _ (engPut_forms _ _ _ h)

theorem engWrite_forms (e : Nat) (a : Nat) (v : Nat) (en : Nat) (host : Bool) {d : Dev} (h : d.Forms) :
    (engWrite e a v en host d).2.Forms := by
  unfold engWrite
  repeat' first
    | with_reducible assumption | with_reducible apply ite_forms | with_reducible apply engPut_forms
    | with_reducible apply engRead_forms | with_reducible refine pair_forms ‹_ = (_, _)› ?_
    | with_reducible refine pair3_forms ‹_ = (_, _, _)› ?_ | extract_lets | split

theorem discardIn_forms (e : Nat) (n : Nat) {d : Dev} (h : d.Forms) : (discardIn e n d).Forms := by
  unfold discardIn
  repeat' first
    | with_reducible assumption | with_reducible apply ite_forms | with_reducible apply Dev.addSat_forms
    | with_reducible apply Dev.raise_forms | with_reducible apply Dev.set_forms

theorem discardFifos_forms (e : Nat) {d : Dev} (h : d.Forms) : (discardFifos e d).Forms := by
  unfold discardFifos
  repeat' first
    | with_reducible assumption | intro _ | with_reducible apply forEach_forms | with_reducible apply foldl_forms
    | with_reducible apply discardIn_forms | with_reducible apply mapEng_forms

theorem writeLast_forms (e : Nat) {d : Dev} (h : d.Forms) : (writeLast e d).Forms := by
  unfold writeLast
  repeat' first
    | with_reducible assumption | with_reducible apply Dev.set_forms

theorem stopAct_forms (e : Nat) (st : Nat) {d : Dev} (h : d.Forms) : (stopAct e st d).Forms := by
  unfold stopAct
  repeat' first
    | with_reducible assumption | intro _ | with_reducible apply forEach_forms | with_reducible apply foldl_forms
    | with_reducible apply discardFifos_forms | with_reducible apply Dev.set_forms | with_reducible apply mapEng_forms

theorem engFault_forms (e : Nat) (code : Nat) (pc : Nat) {d : Dev} (h : d.Forms) : (engFault e code pc d).Forms := by
  unfold engFault
  repeat' first
    | with_reducible assumption | intro _ | with_reducible apply forEach_forms | with_reducible apply foldl_forms
    | with_reducible apply mapEng_forms | with_reducible apply writeLast_forms | with_reducible apply Dev.raise_forms
    | with_reducible apply Dev.set_forms | with_reducible apply stopAct_forms | with_reducible apply Dev.bbr_forms

theorem engStart_forms (a : Nat) (e : Nat) {d : Dev} (h : d.Forms) : (engStart a e d).Forms := by
  unfold engStart
  repeat' first
    | with_reducible assumption | intro _ | with_reducible apply forEach_forms | with_reducible apply foldl_forms
    | with_reducible apply ite_forms | with_reducible apply Dev.set_forms | with_reducible apply mapEng_forms
    | with_reducible apply stopAct_forms | extract_lets | split

theorem actDispatch_forms (e : Nat) {d : Dev} (h : d.Forms) : (actDispatch e d).Forms := by
  unfold actDispatch
  repeat' first
    | with_reducible assumption | intro _ | with_reducible apply forEach_forms | with_reducible apply foldl_forms
    | with_reducible apply ite_forms | with_reducible apply mapEng_forms | with_reducible apply engFault_forms
    | with_reducible apply mirrorHeader_forms | with_reducible apply Dev.set_forms | extract_lets | split

theorem setTag_forms (e : Nat) (t : Nat) (v : Nat) {d : Dev} (h : d.Forms) : (setTag e t v d).Forms := by
  unfold setTag
  repeat' first
    | with_reducible assumption | intro _ | with_reducible apply forEach_forms | with_reducible apply foldl_forms
    | with_reducible apply mapEng_forms

theorem issued_forms (r : Nat) {d : Dev} (h : d.Forms) : (issued r d).Forms := by
  unfold issued
  repeat' first
    | with_reducible assumption | with_reducible apply Dev.setRing_forms

theorem xsIssue_forms (e : Nat) (o : XsOp) (x : EngSt) {d : Dev} (h : d.Forms) : (xsIssue e o x d).Forms := by
  unfold xsIssue
  repeat' first
    | with_reducible assumption | intro _ | with_reducible apply forEach_forms | with_reducible apply foldl_forms
    | with_reducible apply ite_forms | with_reducible apply setTag_forms | with_reducible apply engReads_forms
    | with_reducible apply mapEng_forms | with_reducible apply mapSlot_forms | with_reducible apply issued_forms
    | with_reducible refine pair_forms ‹_ = (_, _)› ?_ | with_reducible refine pair3_forms ‹_ = (_, _, _)› ?_
    | extract_lets | split

theorem answered_forms (r : Nat) {d : Dev} (h : d.Forms) : (answered r d).Forms := by
  unfold answered
  repeat' first
    | with_reducible assumption | with_reducible apply Dev.setRing_forms

theorem sawExternal_forms (r : Nat) {d : Dev} (h : d.Forms) : (sawExternal r d).Forms := by
  unfold sawExternal
  repeat' first
    | with_reducible assumption | with_reducible apply ite_forms | with_reducible apply Dev.setRing_forms

theorem noteAnswer_forms (r : Nat) (c : Resp) {d : Dev} (h : d.Forms) : (noteAnswer r c d).Forms := by
  unfold noteAnswer
  repeat' first
    | with_reducible assumption | with_reducible apply sawExternal_forms | split

theorem mergeAll_forms (e a : Nat) (xs : List (Nat × Nat × Nat)) {d : Dev} (h : d.Forms) :
    (mergeAll e a xs d).2.Forms := by
  induction xs generalizing d with
  | nil => exact h
  | cons x xs ih =>
    obtain ⟨i, v, en⟩ := x
    unfold mergeAll
    split
    · exact ih h
    · have h1 := engRead_forms e (a + 8 * i) false h
      generalize engRead e (a + 8 * i) false d = s at h1
      obtain ⟨old, ue, d1⟩ := s
      exact ih h1

theorem lsRun_forms (e : Nat) (o : LsOp) (x : EngSt) (pls : Bool) (g : Nat) {d : Dev} (h : d.Forms) :
    (lsRun e o x pls g d).2.Forms := by
  unfold lsRun
  repeat' first
    | with_reducible assumption | intro _ | with_reducible apply forEach_forms | with_reducible apply foldl_forms
    | with_reducible apply ite_forms | with_reducible apply engReads_forms | with_reducible apply mergeAll_forms
    | with_reducible apply engPut_forms | with_reducible apply engRead_forms | with_reducible apply engWrite_forms
    | with_reducible apply mapEng_forms | with_reducible refine pair_forms ‹_ = (_, _)› ?_
    | with_reducible refine pair3_forms ‹_ = (_, _, _)› ?_ | extract_lets | split

theorem clamp_forms (e : Nat) (j : Nat) (pc : Nat) {d : Dev} (h : d.Forms) : (clamp e j pc d).Forms := by
  unfold clamp
  repeat' first
    | with_reducible assumption | with_reducible apply Dev.raise_forms | with_reducible apply Dev.set_forms
    | with_reducible apply Dev.incSat_forms

theorem loopEnter_forms (e : Nat) (pc : Nat) (endb : Nat) (j : Nat) (n : Nat) {d : Dev} (h : d.Forms) :
    (loopEnter e pc endb j n d).1.Forms := by
  unfold loopEnter
  repeat' first
    | with_reducible assumption | intro _ | with_reducible apply forEach_forms | with_reducible apply foldl_forms
    | with_reducible apply ite_forms | with_reducible apply clamp_forms | with_reducible apply mapEng_forms
    | extract_lets | split

theorem countBundle_forms (e : Nat) (du : Nat) (conf : Bool) {d : Dev} (h : d.Forms) :
    (countBundle e du conf d).Forms := by
  unfold countBundle
  repeat' first
    | with_reducible assumption | intro _ | with_reducible apply forEach_forms | with_reducible apply foldl_forms
    | with_reducible apply ite_forms | with_reducible apply mapEng_forms

theorem endAct_forms (e : Nat) {d : Dev} (h : d.Forms) : (endAct e d).Forms := by
  unfold endAct
  repeat' first
    | with_reducible assumption | with_reducible apply stopAct_forms | with_reducible apply writeLast_forms
    | with_reducible apply countBundle_forms

theorem continueAt_forms (e : Nat) (n : Nat) {d : Dev} (h : d.Forms) : (continueAt e n d).Forms := by
  unfold continueAt
  repeat' first
    | with_reducible assumption | with_reducible apply ite_forms | with_reducible apply engFault_forms
    | with_reducible apply Dev.set_forms

theorem retire_forms (e : Nat) (pc : Nat) (du : Nat) (pred : Nat) (pinv : Bool) (pls : Bool) (ls : LsOp) (v0 : VaOp)
    (v1 : VaOp) (t : Tail) (meets : Bool) {d : Dev} (h : d.Forms) :
    (retire e pc du pred pinv pls ls v0 v1 t meets d).Forms := by
  unfold retire
  repeat' first
    | with_reducible assumption | intro _ | with_reducible apply forEach_forms | with_reducible apply foldl_forms
    | with_reducible apply xsIssue_forms | with_reducible apply lsRun_forms | with_reducible apply engFault_forms
    | with_reducible apply countBundle_forms | with_reducible apply mapEng_forms
    | with_reducible apply loopEnter_forms | with_reducible apply continueAt_forms
    | with_reducible refine pair_forms ‹_ = (_, _)› ?_ | with_reducible refine pair3_forms ‹_ = (_, _, _)› ?_
    | extract_lets | split

theorem bundleIssue_forms (e : Nat) (meets : Bool) {d : Dev} (h : d.Forms) : (bundleIssue e meets d).Forms := by
  unfold bundleIssue
  repeat' first
    | with_reducible assumption | intro _ | with_reducible apply forEach_forms | with_reducible apply foldl_forms
    | with_reducible apply ite_forms | with_reducible apply engFault_forms | with_reducible apply endAct_forms
    | with_reducible apply Dev.set_forms | with_reducible apply mapEng_forms | with_reducible apply retire_forms
    | extract_lets | split

theorem setWide_forms (r : Nat) (src : WSrc) (ts : List Token) {d : Dev} (h : d.Forms) :
    (setWide r src ts d).Forms := by
  unfold setWide
  repeat' first
    | with_reducible assumption | intro _ | with_reducible apply forEach_forms | with_reducible apply foldl_forms
    | with_reducible apply Dev.mapFab_forms

theorem takeWide_forms (r : Nat) (snk : WSink) {d : Dev} (h : d.Forms) : (takeWide r snk d).Forms := by
  unfold takeWide
  repeat' first
    | with_reducible assumption | with_reducible apply setWide_forms | split

theorem inputTransfer_forms (e : Nat) (p : Nat) {d : Dev} (h : d.Forms) : (inputTransfer e p d).Forms := by
  unfold inputTransfer
  repeat' first
    | with_reducible assumption | intro _ | with_reducible apply forEach_forms | with_reducible apply foldl_forms
    | with_reducible apply ite_forms | with_reducible apply discardIn_forms | with_reducible apply takeWide_forms
    | with_reducible apply mapEng_forms | extract_lets | split

theorem feedPort_forms (r : Nat) (b : Nat) (portB : Bool) {d : Dev} (h : d.Forms) : (feedPort r b portB d).Forms := by
  unfold feedPort
  repeat' first
    | with_reducible assumption | intro _ | with_reducible apply forEach_forms | with_reducible apply foldl_forms
    | with_reducible apply Dev.mapFab_forms | with_reducible apply setWide_forms | split

theorem present_forms (r : Nat) (src : WSrc) (ts : List Token) {d : Dev} (h : d.Forms) :
    (present r src ts d).Forms := by
  unfold present
  repeat' first
    | with_reducible assumption | with_reducible apply feedPort_forms | with_reducible apply setWide_forms | split

theorem outputTransfer_forms (e : Nat) (p : Nat) {d : Dev} (h : d.Forms) : (outputTransfer e p d).Forms := by
  unfold outputTransfer
  repeat' first
    | with_reducible assumption | intro _ | with_reducible apply forEach_forms | with_reducible apply foldl_forms
    | with_reducible apply ite_forms | with_reducible apply present_forms | with_reducible apply mapEng_forms
    | extract_lets | split

theorem engineDone_forms (e : Nat) {d : Dev} (h : d.Forms) : (engineDone e d).Forms := by
  unfold engineDone
  repeat' first
    | with_reducible assumption | with_reducible apply ite_forms | with_reducible apply setEng_forms

theorem dataHostRead_forms (e : Nat) (a : Nat) (n : Nat) {d : Dev} (h : d.Forms) :
    (dataHostRead e a n d).2.2.Forms := by
  unfold dataHostRead
  repeat' first
    | with_reducible assumption | with_reducible apply ite_forms | with_reducible apply engRead_forms
    | with_reducible refine pair_forms ‹_ = (_, _)› ?_ | with_reducible refine pair3_forms ‹_ = (_, _, _)› ?_
    | extract_lets | split

theorem dataHostWrite_forms (e : Nat) (a : Nat) (n : Nat) (v : Nat) {d : Dev} (h : d.Forms) :
    (dataHostWrite e a n v d).2.Forms := by
  unfold dataHostWrite
  repeat' first
    | with_reducible assumption | with_reducible apply ite_forms | with_reducible apply engWrite_forms
    | with_reducible refine pair_forms ‹_ = (_, _)› ?_ | with_reducible refine pair3_forms ‹_ = (_, _, _)› ?_
    | extract_lets | split

theorem dmemHostAccess_forms (e : Nat) (a : Nat) (n : Nat) (data : Option Nat) {d : Dev} (h : d.Forms) :
    (dmemHostAccess e a n data d).Forms := by
  unfold dmemHostAccess
  repeat' first
    | with_reducible assumption | with_reducible apply ite_forms | with_reducible apply dataHostRead_forms
    | with_reducible apply Dev.answer_forms | with_reducible apply dataHostWrite_forms
    | with_reducible refine pair_forms ‹_ = (_, _)› ?_ | with_reducible refine pair3_forms ‹_ = (_, _, _)› ?_
    | extract_lets | split

theorem progHostRead_forms (e : Nat) (a : Nat) (n : Nat) {d : Dev} (h : d.Forms) :
    (progHostRead e a n d).2.2.Forms := by
  unfold progHostRead
  repeat' first
    | with_reducible assumption | with_reducible apply ite_forms | with_reducible apply Dev.bump_forms | extract_lets
    | split

theorem progMemHostRead_forms (e : Nat) (a : Nat) (n : Nat) {d : Dev} (h : d.Forms) :
    (progMemHostRead e a n d).Forms := by
  unfold progMemHostRead
  repeat' first
    | with_reducible assumption | with_reducible apply ite_forms | with_reducible apply progHostRead_forms
    | with_reducible apply Dev.answer_forms

theorem engZeroDone_forms (e : Nat) {d : Dev} (h : d.Forms) : (engZeroDone e d).Forms := by
  unfold engZeroDone
  repeat' first
    | with_reducible assumption | with_reducible apply ite_forms | with_reducible apply Dev.raise_forms
    | with_reducible apply Dev.set_forms | with_reducible apply Dev.chipZero_forms

theorem dbgRead_forms (e : Nat) {d : Dev} (h : d.Forms) : (dbgRead e d).Forms := by
  unfold dbgRead
  repeat' first
    | with_reducible assumption | with_reducible apply Dev.answer_forms | with_reducible apply dbgNext_forms | split

theorem placeDigit_forms (v : Digit) {d : Dev} (p : Nat × DSink) (h : d.Forms) : (placeDigit v d p).Forms := by
  unfold placeDigit
  repeat' first
    | with_reducible assumption | intro _ | with_reducible apply forEach_forms | with_reducible apply foldl_forms
    | with_reducible apply ite_forms | with_reducible apply Dev.mapFab_forms | with_reducible apply Dev.setRing_forms
    | extract_lets | split

theorem drive_forms (r : Nat) (src : DSrc) (v : Digit) {d : Dev} (h : d.Forms) : (drive r src v d).Forms := by
  unfold drive
  repeat' first
    | with_reducible assumption | intro _ | with_reducible apply forEach_forms | with_reducible apply foldl_forms
    | with_reducible apply placeDigit_forms

theorem clearA_forms (r : Nat) (c : Nat) {d : Dev} (h : d.Forms) : (clearA r c d).Forms := by
  unfold clearA
  repeat' first
    | with_reducible assumption | intro _ | with_reducible apply forEach_forms | with_reducible apply foldl_forms
    | with_reducible apply Dev.mapFab_forms

theorem clearB_forms (r : Nat) (c : Nat) {d : Dev} (h : d.Forms) : (clearB r c d).Forms := by
  unfold clearB
  repeat' first
    | with_reducible assumption | intro _ | with_reducible apply forEach_forms | with_reducible apply foldl_forms
    | with_reducible apply Dev.mapFab_forms

theorem fireOut_forms (r : Nat) (src : DSrc) (v : Digit) (taken : Dev → Dev) {d : Dev} (hf : ∀ e : Dev, e.Forms →
    (taken e).Forms) (h : d.Forms) :
    (fireOut r src v taken d).Forms := by
  unfold fireOut
  repeat' first
    | with_reducible assumption | with_reducible apply hf | with_reducible apply ite_forms
    | with_reducible apply drive_forms

theorem hlcFire_forms (r : Nat) (c : Nat) {d : Dev} (h : d.Forms) : (hlcFire r c d).Forms := by
  unfold hlcFire
  repeat' first
    | with_reducible assumption | intro _ | with_reducible apply forEach_forms | with_reducible apply foldl_forms
    | with_reducible apply ite_forms | with_reducible apply fireOut_forms | with_reducible apply clearB_forms
    | with_reducible apply clearA_forms | with_reducible apply Dev.mapFab_forms | split

theorem releaseCells_forms (r : Nat) {d : Dev} (h : d.Forms) : (releaseCells r d).Forms := by
  unfold releaseCells
  repeat' first
    | with_reducible assumption | intro _ | with_reducible apply forEach_forms | with_reducible apply foldl_forms
    | with_reducible apply Dev.mapFab_forms | with_reducible apply drive_forms

theorem packGateway_forms (r : Nat) (g : Nat) {d : Dev} (h : d.Forms) : (packGateway r g d).Forms := by
  unfold packGateway
  repeat' first
    | with_reducible assumption | intro _ | with_reducible apply forEach_forms | with_reducible apply foldl_forms
    | with_reducible apply ite_forms | with_reducible apply Dev.mapFab_forms | with_reducible apply present_forms

theorem unpackGateway_forms (r : Nat) (g : Nat) {d : Dev} (h : d.Forms) : (unpackGateway r g d).Forms := by
  unfold unpackGateway
  repeat' first
    | with_reducible assumption | intro _ | with_reducible apply forEach_forms | with_reducible apply foldl_forms
    | with_reducible apply ite_forms | with_reducible apply takeWide_forms | with_reducible apply drive_forms | split

theorem ringCe_forms (r : Nat) {d : Dev} (h : d.Forms) : (ringCe r d).Forms := by
  unfold ringCe
  repeat' first
    | with_reducible assumption | with_reducible apply Dev.raise_forms | with_reducible apply Dev.incSat_forms

theorem ringUe_forms (r : Nat) (b : Nat) (w : Nat) (host : Bool) (portB : Bool) {d : Dev} (h : d.Forms) :
    (ringUe r b w host portB d).Forms := by
  unfold ringUe
  repeat' first
    | with_reducible assumption | with_reducible apply Dev.set_forms | with_reducible apply Dev.raise_forms
    | with_reducible apply Dev.incSat_forms

theorem ringRead_forms (r : Nat) (b : Nat) (w : Nat) (host : Bool) (portB : Bool) {d : Dev} (h : d.Forms) :
    (ringRead r b w host portB d).2.2.Forms := by
  unfold ringRead
  repeat' first
    | with_reducible assumption | with_reducible apply ringCe_forms | with_reducible apply Dev.bump_forms
    | with_reducible apply ringUe_forms | extract_lets | split

theorem ringWrite_forms (r : Nat) (b : Nat) (w : Nat) (en : Nat) (v : Token) (host : Bool) (portB : Bool) {d : Dev}
    (h : d.Forms) :
    (ringWrite r b w en v host portB d).2.Forms := by
  have hp : ∀ (a : Nat) (bs : List (Bool × Byte)) (e : Dev), e.Forms →
      (({ e with chip := { e.chip with cells := wrEnabled e.chip.cells a bs } } : Dev).setChipFlaw a .none).Forms :=
    fun a bs e he => ⟨memWf_wrEnabled _ _ _ he.1, he.2⟩
  unfold ringWrite
  extract_lets a put
  split
  · exact hp _ _ _ h
  · split
    · exact hp _ _ _ h
    · exact hp _ _ _ (ringCe_forms _ h)
    · exact ringUe_forms _ _ _ _ _ h

theorem portDone_forms (r : Nat) (b : Nat) (portB : Bool) {d : Dev} (h : d.Forms) : (portDone r b portB d).Forms := by
  unfold portDone
  repeat' first
    | with_reducible assumption | intro _ | with_reducible apply forEach_forms | with_reducible apply foldl_forms
    | with_reducible apply feedPort_forms | with_reducible apply Dev.mapFab_forms

theorem ringMemRead_forms (r : Nat) (b : Nat) (portB : Bool) {d : Dev} (h : d.Forms) :
    (ringMemRead r b portB d).Forms := by
  unfold ringMemRead
  repeat' first
    | with_reducible assumption | with_reducible apply ite_forms | with_reducible apply ringRead_forms
    | with_reducible apply portDone_forms | with_reducible apply drive_forms | with_reducible apply present_forms
    | with_reducible refine pair_forms ‹_ = (_, _)› ?_ | with_reducible refine pair3_forms ‹_ = (_, _, _)› ?_
    | extract_lets | split

theorem ringMemWrite_forms (r : Nat) (b : Nat) (portB : Bool) {d : Dev} (h : d.Forms) :
    (ringMemWrite r b portB d).Forms := by
  unfold ringMemWrite
  repeat' first
    | with_reducible assumption | with_reducible apply ite_forms | with_reducible apply ringWrite_forms
    | with_reducible apply takeWide_forms | with_reducible apply portDone_forms | with_reducible apply drive_forms
    | with_reducible refine pair_forms ‹_ = (_, _)› ?_ | with_reducible refine pair3_forms ‹_ = (_, _, _)› ?_
    | extract_lets | split

theorem ringHostRead_forms (r : Nat) (b : Nat) (w : Nat) (o : Nat) (n : Nat) {d : Dev} (h : d.Forms) :
    (ringHostRead r b w o n d).2.2.Forms := by
  unfold ringHostRead
  repeat' first
    | with_reducible assumption | with_reducible apply ite_forms | with_reducible apply ringRead_forms
    | with_reducible refine pair_forms ‹_ = (_, _)› ?_ | with_reducible refine pair3_forms ‹_ = (_, _, _)› ?_
    | extract_lets | split

theorem ringHostWrite_forms (r : Nat) (b : Nat) (w : Nat) (o : Nat) (n : Nat) (v : Nat) {d : Dev} (h : d.Forms) :
    (ringHostWrite r b w o n v d).2.Forms := by
  unfold ringHostWrite
  repeat' first
    | with_reducible assumption | with_reducible apply ite_forms | with_reducible apply ringWrite_forms
    | with_reducible refine pair_forms ‹_ = (_, _)› ?_ | with_reducible refine pair3_forms ‹_ = (_, _, _)› ?_
    | extract_lets | split

theorem ringMemHostAccess_forms (off : Nat) (n : Nat) (data : Option Nat) {d : Dev} (h : d.Forms) :
    (ringMemHostAccess off n data d).Forms := by
  unfold ringMemHostAccess
  repeat' first
    | with_reducible assumption | with_reducible apply ite_forms | with_reducible apply Dev.answer_forms
    | with_reducible apply ringHostRead_forms | with_reducible apply ringHostWrite_forms
    | with_reducible refine pair_forms ‹_ = (_, _)› ?_ | with_reducible refine pair3_forms ‹_ = (_, _, _)› ?_
    | extract_lets | split

theorem ringMemZeroDone_forms (r : Nat) {d : Dev} (h : d.Forms) : (ringMemZeroDone r d).Forms := by
  unfold ringMemZeroDone
  repeat' first
    | with_reducible assumption | with_reducible apply ite_forms | with_reducible apply Dev.raise_forms
    | with_reducible apply Dev.set_forms | with_reducible apply Dev.chipZero_forms

theorem dmaReset_forms {d : Dev} (h : d.Forms) : (dmaReset d).Forms := by
  unfold dmaReset
  repeat' first
    | with_reducible assumption | intro _ | with_reducible apply forEach_forms | with_reducible apply foldl_forms
    | with_reducible apply mapHost_forms | with_reducible apply Dev.resetFlds_forms

theorem perstRelease_forms (ns : Nat) (width : Nat) (speed : Nat) {d : Dev} (h : d.Forms) :
    (perstRelease ns width speed d).Forms := by
  unfold perstRelease
  repeat' first
    | with_reducible assumption | intro _ | with_reducible apply forEach_forms | with_reducible apply foldl_forms
    | with_reducible apply ite_forms | with_reducible apply mapHost_forms | with_reducible apply Dev.set_forms

theorem msixPending_forms {d : Dev} (h : d.Forms) : (msixPending d).Forms := by
  unfold msixPending
  repeat' first
    | with_reducible assumption | intro _ | with_reducible apply forEach_forms | with_reducible apply foldl_forms
    | with_reducible apply msixUnmasked_forms

theorem dmaForsake_forms  {d : Dev} (h : d.Forms) :
    (dmaForsake d).Forms := by
  unfold dmaForsake
  repeat' first
    | with_reducible assumption | intro _ | with_reducible apply forEach_forms | with_reducible apply foldl_forms
    | with_reducible apply ite_forms | with_reducible apply mapHost_forms | with_reducible apply forsake_forms
    | with_reducible refine pair_forms ‹_ = (_, _)› ?_ | with_reducible refine pair3_forms ‹_ = (_, _, _)› ?_
    | extract_lets | split | exact Dev.Forms.of ‹_› rfl rfl rfl rfl

theorem portReset_forms (down : Bool) {d : Dev} (h : d.Forms) : (portReset down d).Forms := by
  unfold portReset
  extract_lets d1 d2 d3 gone
  have h1 : d1.Forms := dmaReset_forms (forEach_forms (dmaForsake_forms h) (fun _ _ he => Dev.set_forms _ _ he))
  clear_value d1
  have h2 : d2.Forms := Dev.set_forms _ _ (Dev.set_forms _ _ h1)
  clear_value d2
  have h3 : d3.Forms := ite_forms (Dev.set_forms _ _ (Dev.set_forms _ _ h2)) h2
  clear_value d3
  exact Dev.Forms.of h3 rfl rfl rfl rfl

theorem cfgActs_forms (i : Nat) (v : Nat) {d : Dev} (h : d.Forms) : (cfgActs i v d).Forms := by
  unfold cfgActs
  repeat' first
    | with_reducible assumption | intro _ | with_reducible apply forEach_forms | with_reducible apply foldl_forms
    | with_reducible apply ite_forms | with_reducible apply Dev.set_forms | with_reducible apply mapHost_forms
    | with_reducible apply msixPending_forms | with_reducible apply portReset_forms | extract_lets | split

theorem configRequest_forms (i : Nat) (be : Nat) (data : Option Word) {d : Dev} (h : d.Forms) :
    (configRequest i be data d).Forms := by
  unfold configRequest
  repeat' first
    | with_reducible assumption | intro _ | with_reducible apply forEach_forms | with_reducible apply foldl_forms
    | with_reducible apply ite_forms | with_reducible apply Dev.emit_forms | with_reducible apply Dev.answer_forms
    | with_reducible apply cfgActs_forms | with_reducible apply mapHost_forms | extract_lets | split

theorem bbrRead.fresh_forms (i : Nat) (w : Nat) {d : Dev} (h : d.Forms) : (bbrRead.fresh i w d).Forms := by
  unfold bbrRead.fresh
  refine ite_forms (Dev.answer_forms _ _ h) (Dev.answer_forms _ _ (ite_forms ?_ h))
  exact mapBbr_forms _ h

theorem bbrRead_forms (i : Nat) (w : Nat) {d : Dev} (h : d.Forms) : (bbrRead i w d).Forms := by
  unfold bbrRead
  repeat' first
    | with_reducible assumption | intro _ | with_reducible apply forEach_forms | with_reducible apply foldl_forms
    | with_reducible apply ite_forms | with_reducible apply Dev.answer_forms
    | with_reducible apply bbrRead.fresh_forms | extract_lets | split

theorem plainWord_forms (a : Nat) {d : Dev} (h : d.Forms) : (plainWord a d).Forms := by
  unfold plainWord
  repeat' first
    | with_reducible assumption | with_reducible apply Dev.answer_forms

theorem masterRead_forms (a : Nat) {d : Dev} (h : d.Forms) : (masterRead a d).Forms := by
  unfold masterRead
  repeat' first
    | with_reducible assumption | with_reducible apply ite_forms | with_reducible apply Dev.answer_forms
    | with_reducible apply Dev.set_forms | with_reducible apply plainWord_forms

theorem rxdPop_forms (k : Nat) (b : Nat) {d : Dev} (h : d.Forms) : (rxdPop k b d).Forms := by
  unfold rxdPop
  repeat' first
    | with_reducible assumption | intro _ | with_reducible apply forEach_forms | with_reducible apply foldl_forms
    | with_reducible apply Dev.answer_forms | with_reducible apply mapPeriph_forms | split

theorem periphRead_forms (a : Nat) {d : Dev} (h : d.Forms) : (periphRead a d).Forms := by
  unfold periphRead
  repeat' first
    | with_reducible assumption | with_reducible apply ite_forms | with_reducible apply rxdPop_forms
    | with_reducible apply plainWord_forms

theorem trimRead_forms {d : Dev} (h : d.Forms) : (trimRead d).Forms := by
  unfold trimRead
  repeat' first
    | with_reducible assumption | with_reducible apply ite_forms | with_reducible apply Dev.bump_forms
    | with_reducible apply Dev.answer_forms | with_reducible apply trimNext_forms

theorem txtsShow_forms (p : Nat) {d : Dev} (h : d.Forms) : (txtsShow p d).Forms := by
  unfold txtsShow
  repeat' first
    | with_reducible assumption | with_reducible apply Dev.set_forms

theorem txtsPop_forms (p : Nat) {d : Dev} (h : d.Forms) : (txtsPop p d).Forms := by
  unfold txtsPop
  repeat' first
    | with_reducible assumption | intro _ | with_reducible apply forEach_forms | with_reducible apply foldl_forms
    | with_reducible apply Dev.answer_forms | with_reducible apply txtsShow_forms | with_reducible apply mapPort_forms

theorem portRead_forms (p : Nat) (a : Nat) {d : Dev} (h : d.Forms) : (portRead p a d).Forms := by
  unfold portRead
  repeat' first
    | with_reducible assumption | with_reducible apply ite_forms | with_reducible apply netSettle_forms
    | with_reducible apply txtsPop_forms | with_reducible apply plainWord_forms

theorem engRegRead_forms (a : Nat) {d : Dev} (h : d.Forms) : (engRegRead a d).Forms := by
  unfold engRegRead
  repeat' first
    | with_reducible assumption | with_reducible apply ite_forms | with_reducible apply dbgRead_forms
    | with_reducible apply plainWord_forms

theorem cryptoRead_forms (a : Nat) {d : Dev} (h : d.Forms) :
    (cryptoRead a d).Forms := by
  unfold cryptoRead
  repeat' first
    | with_reducible assumption | intro _ | with_reducible apply forEach_forms | with_reducible apply foldl_forms
    | with_reducible apply ite_forms | with_reducible apply csRead_forms | with_reducible apply Dev.answer_forms
    | with_reducible apply plainWord_forms | with_reducible apply hwVote_forms
    | with_reducible refine pair_forms ‹_ = (_, _)› ?_ | with_reducible refine pair3_forms ‹_ = (_, _, _)› ?_
    | extract_lets | split | exact Dev.Forms.of ‹_› rfl rfl rfl rfl

theorem regRead_forms (a : Nat) {d : Dev} (h : d.Forms) :
    (regRead a d).Forms := by
  unfold regRead
  repeat' first
    | with_reducible assumption | intro _ | with_reducible apply forEach_forms | with_reducible apply foldl_forms
    | with_reducible apply ite_forms | with_reducible apply Dev.answer_forms | with_reducible apply bbrRead_forms
    | with_reducible apply masterRead_forms | with_reducible apply plainWord_forms
    | with_reducible apply touchWord_forms | with_reducible apply periphRead_forms
    | with_reducible apply trimRead_forms | with_reducible apply cryptoRead_forms
    | with_reducible apply portRead_forms | with_reducible apply engRegRead_forms
    | with_reducible refine pair_forms ‹_ = (_, _)› ?_ | with_reducible refine pair3_forms ‹_ = (_, _, _)› ?_
    | extract_lets | split | exact Dev.Forms.of ‹_› rfl rfl rfl rfl

theorem regsAccess_forms (n a : Nat) (data : Option (List Word)) {d : Dev} (h : d.Forms) :
    (regsAccess n a data d).2.2.Forms := by
  induction n generalizing a data d with
  | zero => exact h
  | succ n ih =>
    cases data with
    | none => exact ih _ _ (regRead_forms a h)
    | some ws => exact ih _ _ (regWrite_forms a _ h)

theorem bar0_forms (a : Nat) (n : Nat) (fbe : Nat) (lbe : Nat) (reqId : Nat) (data : Option (List Word)) {d : Dev}
    (h : d.Forms) :
    (bar0 a n fbe lbe reqId data d).Forms := by
  unfold bar0
  repeat' first
    | with_reducible assumption | with_reducible apply ite_forms | with_reducible apply regsAccess_forms
    | with_reducible apply hostEnd_forms | with_reducible refine pair_forms ‹_ = (_, _)› ?_
    | with_reducible refine pair3_forms ‹_ = (_, _, _)› ?_ | extract_lets | split

theorem bar2Unit_forms (o : Nat) (n : Nat) (v : Option Nat) {d : Dev} (h : d.Forms) :
    (bar2Unit o n v d).2.2.Forms := by
  unfold bar2Unit
  repeat' first
    | with_reducible assumption | with_reducible apply ite_forms | with_reducible apply ringHostRead_forms
    | with_reducible apply ringHostWrite_forms | with_reducible apply dataHostRead_forms
    | with_reducible apply dataHostWrite_forms | with_reducible apply progHostRead_forms
    | with_reducible refine pair_forms ‹_ = (_, _)› ?_ | with_reducible refine pair3_forms ‹_ = (_, _, _)› ?_
    | extract_lets | split

theorem bar2Access_forms (k o n : Nat) (data : Option (List Byte)) {d : Dev} (h : d.Forms) :
    (bar2Access k o n data d).2.2.Forms := by
  induction k generalizing o n data d with
  | zero => exact h
  | succ k ih =>
    unfold bar2Access
    split
    · exact h
    · have hu := bar2Unit_forms o (unitLen o n) (data.map (fun bs => leNat (bs.take (unitLen o n)))) h
      dsimp only
      generalize bar2Unit o (unitLen o n) (data.map (fun bs => leNat (bs.take (unitLen o n)))) d = s at hu
      obtain ⟨c, v, d1⟩ := s
      exact ih _ _ _ hu

theorem bar2_forms (o : Nat) (n : Nat) (fbe : Nat) (lbe : Nat) (reqId : Nat) (data : Option (List Word)) {d : Dev}
    (h : d.Forms) :
    (bar2 o n fbe lbe reqId data d).Forms := by
  unfold bar2
  repeat' first
    | with_reducible assumption | with_reducible apply ite_forms | with_reducible apply bar2Access_forms
    | with_reducible apply hostEnd_forms | with_reducible refine pair_forms ‹_ = (_, _)› ?_
    | with_reducible refine pair3_forms ‹_ = (_, _, _)› ?_ | extract_lets | split

theorem barRequest_forms (len : Nat) (data : Option (List Word)) (f : Nat → Dev → Dev) {d : Dev} (hf : ∀ (x : Nat)
    (e : Dev), e.Forms → (f x e).Forms) (h : d.Forms) :
    (barRequest len data f d).Forms := by
  unfold barRequest
  repeat' first
    | with_reducible assumption | with_reducible apply hf | with_reducible apply ite_forms

theorem barTimeout_forms {d : Dev} (h : d.Forms) : (barTimeout d).Forms := by
  unfold barTimeout
  repeat' first
    | with_reducible assumption | intro _ | with_reducible apply forEach_forms | with_reducible apply foldl_forms
    | with_reducible apply ite_forms | with_reducible apply Dev.advance_forms | with_reducible apply hostEnd_forms
    | extract_lets | split | exact Dev.Forms.of h rfl rfl rfl rfl

theorem setDesc_forms (n : Nat) (x : Option DmaDesc) {d : Dev} (h : d.Forms) : (setDesc n x d).Forms := by
  unfold setDesc
  repeat' first
    | with_reducible assumption | intro _ | with_reducible apply forEach_forms | with_reducible apply foldl_forms
    | with_reducible apply mapHost_forms

theorem hostWrites_forms (k a : Nat) (bs : List Byte) {d : Dev} (h : d.Forms) : (hostWrites k a bs d).Forms := by
  induction k generalizing a bs d with
  | zero => exact h
  | succ k ih =>
    unfold hostWrites
    exact ite_forms h (ih _ _ (Dev.emit_forms _ h))

theorem dmaEnd_forms (n : Nat) (code : Resp) (moved : Nat) (late : Bool) (irq : Bool) (halts : Bool) {d : Dev}
    (h : d.Forms) :
    (dmaEnd n code moved late irq halts d).Forms := by
  unfold dmaEnd
  repeat' first
    | with_reducible assumption | with_reducible apply ite_forms | with_reducible apply hostWrites_forms
    | with_reducible apply Dev.set_forms | with_reducible apply Dev.raise_forms | with_reducible apply setDesc_forms

theorem dmaFail_forms (n : Nat) (code : Resp) (moved : Nat) (irq : Bool) (host : Bool) (addr : Nat) {d : Dev}
    (h : d.Forms) :
    (dmaFail n code moved irq host addr d).Forms := by
  unfold dmaFail
  repeat' first
    | with_reducible assumption | with_reducible apply ite_forms | with_reducible apply dmaEnd_forms
    | with_reducible apply hostErr_forms

theorem dmaDescriptor_forms (n : Nat) (res : Nat) (v : BitVec 256) {d : Dev} (h : d.Forms) :
    (dmaDescriptor n res v d).Forms := by
  unfold dmaDescriptor
  repeat' first
    | with_reducible assumption | with_reducible apply ite_forms | with_reducible apply Dev.set_forms
    | with_reducible apply dmaFail_forms | with_reducible apply setDesc_forms

theorem windowWrites_forms (ws : List Nat) {d : Dev} (h : d.Forms) : (windowWrites ws d).2.Forms := by
  induction ws generalizing d with
  | nil => exact h
  | cons w ws ih =>
    have hw := windowWrite_forms (BitVec.ofNat 32 w) h
    unfold windowWrites
    dsimp only
    generalize windowWrite (BitVec.ofNat 32 w) d = d1 at hw
    split
    · exact ih hw
    · exact hw

theorem dmaNext_forms (n : Nat) (moved : Nat) (x : DmaDesc) {d : Dev} (h : d.Forms) :
    (dmaNext n moved x d).Forms := by
  unfold dmaNext
  repeat' first
    | with_reducible assumption | with_reducible apply ite_forms | with_reducible apply dmaEnd_forms
    | with_reducible apply setDesc_forms

theorem mi2cEnd_forms (off : Nat) {d : Dev} (h : d.Forms) : (mi2cEnd off d).Forms := by
  unfold mi2cEnd
  repeat' first
    | with_reducible assumption | with_reducible apply ite_forms | with_reducible apply hostErr_forms

theorem mi2cWrite_forms (addr : Nat) (off : Nat) (v : Nat) {d : Dev} (h : d.Forms) :
    (mi2cWrite addr off v d).Forms := by
  unfold mi2cWrite
  repeat' first
    | with_reducible assumption | with_reducible apply ite_forms | with_reducible apply mi2cEnd_forms
    | with_reducible apply regWrite_forms | with_reducible apply Dev.answer_forms

theorem mi2cRead_forms (addr : Nat) (off : Nat) {d : Dev} (h : d.Forms) : (mi2cRead addr off d).Forms := by
  unfold mi2cRead
  repeat' first
    | with_reducible assumption | with_reducible apply ite_forms | with_reducible apply regRead_forms
    | with_reducible apply Dev.answer_forms | with_reducible apply Dev.bump_forms | with_reducible apply mi2cEnd_forms

theorem tunAccess_forms (body : List Byte) {d : Dev} (h : d.Forms) : (tunAccess body d).Forms := by
  unfold tunAccess
  repeat' first
    | with_reducible assumption | with_reducible apply ite_forms | with_reducible apply Dev.answer_forms
    | with_reducible apply regWrite_forms | with_reducible apply regRead_forms | extract_lets | split

theorem tunReqRx_forms (q : Nat) {d : Dev} (h : d.Forms) : (tunReqRx q d).Forms := by
  unfold tunReqRx
  repeat' first
    | with_reducible assumption | intro _ | with_reducible apply forEach_forms | with_reducible apply foldl_forms
    | with_reducible apply takeInbox_forms | with_reducible apply tunAccess_forms | with_reducible apply sendTo_forms
    | with_reducible refine pair_forms ‹_ = (_, _)› ?_ | with_reducible refine pair3_forms ‹_ = (_, _, _)› ?_
    | extract_lets | split

theorem vectorUnmask_forms (v : Nat) {d : Dev} (h : d.Forms) : (vectorUnmask v d).Forms := by
  unfold vectorUnmask
  repeat' first
    | with_reducible assumption | with_reducible apply msixWrite_forms

theorem ppsIn_forms (falling : Bool) (at' : Nat) {d : Dev} (h : d.Forms) : (ppsIn falling at' d).Forms := by
  unfold ppsIn
  repeat' first
    | with_reducible assumption | intro _ | with_reducible apply forEach_forms | with_reducible apply foldl_forms
    | with_reducible apply ite_forms | with_reducible apply Dev.advance_forms | with_reducible apply Dev.set_forms
    | with_reducible apply Dev.bump_forms | with_reducible apply Dev.raise_forms
    | with_reducible apply Dev.incSat_forms
    | with_reducible refine mapTime_forms _ ?_ (fun _ => by with_unfolding_all rfl)
    | with_reducible apply Dev.incWrap_forms | with_reducible apply sample_forms

theorem discTimeout_forms {d : Dev} (h : d.Forms) : (discTimeout d).Forms := by
  unfold discTimeout
  repeat' first
    | with_reducible assumption | with_reducible apply ite_forms | with_reducible apply setDisc_forms
    | with_reducible apply Dev.advance_forms

theorem pllLock_forms {d : Dev} (h : d.Forms) : (pllLock d).Forms := by
  unfold pllLock
  repeat' first
    | with_reducible assumption | with_reducible apply ite_forms | with_reducible apply Dev.set_forms

theorem ppsOut_forms {d : Dev} (h : d.Forms) : (ppsOut d).Forms := by
  unfold ppsOut
  repeat' first
    | with_reducible assumption | intro _ | with_reducible apply forEach_forms | with_reducible apply foldl_forms
    | with_reducible apply ite_forms | with_reducible apply Dev.advance_forms
    | with_reducible refine mapTime_forms _ ?_ (fun _ => by with_unfolding_all rfl)
    | with_reducible apply Dev.emit_forms

theorem mapBoat_forms (s : Nat) (f : BoatSt → BoatSt) {d : Dev} (h : d.Forms) : (mapBoat s f d).Forms := by
  unfold mapBoat
  repeat' first
    | with_reducible assumption | with_reducible apply hf | exact Dev.Forms.of h rfl rfl rfl rfl

theorem ethUp_forms (p : Nat) {d : Dev} (h : d.Forms) : (ethUp p d).Forms := by
  unfold ethUp
  repeat' first
    | with_reducible assumption | with_reducible apply ite_forms | with_reducible apply setLink_forms
    | with_reducible apply Dev.set_forms

theorem ethDown_forms (p : Nat) {d : Dev} (h : d.Forms) : (ethDown p d).Forms := by
  unfold ethDown
  repeat' first
    | with_reducible assumption | with_reducible apply ite_forms | with_reducible apply Dev.set_forms
    | with_reducible apply dropLink_forms

theorem rxDrop_forms (p : Nat) {d : Dev} (h : d.Forms) : (rxDrop p d).Forms := by
  unfold rxDrop
  repeat' first
    | with_reducible assumption | with_reducible apply Dev.raise_forms | with_reducible apply Dev.incSat_forms

theorem pushFrame_forms (p : Nat) (f : RxBuf) {d : Dev} (h : d.Forms) : (pushFrame p f d).2.Forms := by
  unfold pushFrame
  repeat' first
    | with_reducible assumption | with_reducible apply ite_forms | with_reducible apply qPush_forms
    | with_reducible apply qCommit_forms | with_reducible apply Dev.incSat_forms | with_reducible apply rxDrop_forms
    | with_reducible refine pair_forms ‹_ = (_, _)› ?_ | with_reducible refine pair3_forms ‹_ = (_, _, _)› ?_
    | extract_lets | split

theorem bufferFrame_forms (p : Nat) (f : RxBuf) {d : Dev} (h : d.Forms) : (bufferFrame p f d).Forms := by
  unfold bufferFrame
  repeat' first
    | with_reducible assumption | intro _ | with_reducible apply forEach_forms | with_reducible apply foldl_forms
    | with_reducible apply ite_forms | with_reducible apply mapPort_forms | with_reducible apply rxDrop_forms

theorem queueFrame_forms (p : Nat) (f : RxBuf) {d : Dev} (h : d.Forms) : (queueFrame p f d).Forms := by
  unfold queueFrame
  repeat' first
    | with_reducible assumption | intro _ | with_reducible apply forEach_forms | with_reducible apply foldl_forms
    | with_reducible apply ite_forms | with_reducible apply bufferFrame_forms | with_reducible apply pushFrame_forms

theorem ingressPush_forms (p : Nat) (i : Nat) {d : Dev} (h : d.Forms) : (ingressPush p i d).Forms := by
  unfold ingressPush
  repeat' first
    | with_reducible assumption | intro _ | with_reducible apply forEach_forms | with_reducible apply foldl_forms
    | with_reducible apply ite_forms | with_reducible apply pushFrame_forms | with_reducible apply mapPort_forms
    | with_reducible refine pair_forms ‹_ = (_, _)› ?_ | with_reducible refine pair3_forms ‹_ = (_, _, _)› ?_
    | extract_lets | split

theorem pauseRx_forms (p : Nat) (bs : List Byte) {d : Dev} (h : d.Forms) : (pauseRx p bs d).Forms := by
  unfold pauseRx
  repeat' first
    | with_reducible assumption | intro _ | with_reducible apply forEach_forms | with_reducible apply foldl_forms
    | with_reducible apply ite_forms | with_reducible apply mapPort_forms | with_reducible apply Dev.set_forms
    | extract_lets | split

theorem rxFrame_forms (p : Nat) (i : Nat) (bs : List Byte) (at' : Nat) {d : Dev} (h : d.Forms) :
    (rxFrame p i bs at' d).Forms := by
  unfold rxFrame
  repeat' first
    | with_reducible assumption | intro _ | with_reducible apply forEach_forms | with_reducible apply foldl_forms
    | with_reducible apply ite_forms | with_reducible apply Dev.raise_forms | with_reducible apply Dev.incSat_forms
    | with_reducible apply pauseRx_forms | with_reducible apply mapBoat_forms | with_reducible apply rxDrop_forms
    | with_reducible apply queueFrame_forms | extract_lets | split

theorem sendFrame_forms (p : Nat) (bs : List Byte) {d : Dev} (h : d.Forms) : (sendFrame p bs d).Forms := by
  unfold sendFrame
  repeat' first
    | with_reducible assumption | intro _ | with_reducible apply forEach_forms | with_reducible apply foldl_forms
    | with_reducible apply mapPort_forms | with_reducible apply Dev.emit_forms

theorem txtsPut_forms (p : Nat) (tag : Nat) (sec : Nat) (q : Nat) {d : Dev} (h : d.Forms) :
    (txtsPut p tag sec q d).Forms := by
  unfold txtsPut
  repeat' first
    | with_reducible assumption | intro _ | with_reducible apply forEach_forms | with_reducible apply foldl_forms
    | with_reducible apply ite_forms | with_reducible apply txtsShow_forms | with_reducible apply Dev.raise_forms
    | with_reducible apply mapPort_forms

theorem sendPacket_forms (p : Nat) (i : Nat) (at' : Nat) (ws : List QWord) {d : Dev} (h : d.Forms) :
    (sendPacket p i at' ws d).Forms := by
  unfold sendPacket
  repeat' first
    | with_reducible assumption | intro _ | with_reducible apply forEach_forms | with_reducible apply foldl_forms
    | with_reducible apply ite_forms | with_reducible apply Dev.incSat_forms | with_reducible apply sendFrame_forms
    | with_reducible apply txtsPut_forms | extract_lets | split

theorem egressFrame_forms (p : Nat) (at' : Nat) {d : Dev} (h : d.Forms) : (egressFrame p at' d).Forms := by
  unfold egressFrame
  repeat' first
    | with_reducible assumption | intro _ | with_reducible apply forEach_forms | with_reducible apply foldl_forms
    | with_reducible apply ite_forms | with_reducible apply netSettle_forms | with_reducible apply Dev.advance_forms
    | with_reducible apply sendFrame_forms | with_reducible apply Dev.incSat_forms
    | with_reducible apply mapPort_forms | with_reducible apply qPop_forms | with_reducible apply sendPacket_forms
    | with_reducible refine pair_forms ‹_ = (_, _)› ?_ | with_reducible refine pair3_forms ‹_ = (_, _, _)› ?_
    | extract_lets | split

theorem pfcRepeat_forms (p : Nat) (i : Nat) {d : Dev} (h : d.Forms) : (pfcRepeat p i d).Forms := by
  unfold pfcRepeat
  repeat' first
    | with_reducible assumption | with_reducible apply ite_forms | with_reducible apply Dev.emit_forms

theorem pauseExpiry_forms (p : Nat) {d : Dev} (h : d.Forms) : (pauseExpiry p d).Forms := by
  unfold pauseExpiry
  repeat' first
    | with_reducible assumption | intro _ | with_reducible apply forEach_forms | with_reducible apply foldl_forms
    | with_reducible apply netSettle_forms | with_reducible apply Dev.advance_forms | split

theorem sendStream_forms (s : Nat) (j : Nat) (tick : Nat) (ts : List Token) {d : Dev} (h : d.Forms) :
    (sendStream s j tick ts d).Forms := by
  unfold sendStream
  repeat' first
    | with_reducible assumption | intro _ | with_reducible apply forEach_forms | with_reducible apply foldl_forms
    | with_reducible apply ite_forms | with_reducible apply txBad_forms | with_reducible apply mapPort_forms
    | with_reducible apply mapBoat_forms | with_reducible apply Dev.incSat_forms
    | with_reducible refine pair_forms ‹_ = (_, _)› ?_ | with_reducible refine pair3_forms ‹_ = (_, _, _)› ?_
    | extract_lets | split | exact Dev.Forms.of ‹_› rfl rfl rfl rfl

theorem sendBatch_forms (fuel s ch tick : Nat) (ts : List Token) {d : Dev} (h : d.Forms) :
    (sendBatch fuel s ch tick ts d).Forms := by
  induction fuel generalizing ts d with
  | zero => exact h
  | succ n ih =>
    cases ts with
    | nil => exact h
    | cons t ts => exact ite_forms (ih _ (sendStream_forms _ _ _ _ h)) (txBad_forms _ _ h)

theorem swingboatBatch_forms (r : Nat) (t : Nat) {d : Dev} (h : d.Forms) : (swingboatBatch r t d).Forms := by
  unfold swingboatBatch
  repeat' first
    | with_reducible assumption | intro _ | with_reducible apply forEach_forms | with_reducible apply foldl_forms
    | with_reducible apply ite_forms | with_reducible apply sendBatch_forms | with_reducible apply setSlot_forms
    | extract_lets | split

theorem boatReject_forms (s : Nat) {d : Dev} (h : d.Forms) : (boatReject s d).Forms := by
  unfold boatReject
  repeat' first
    | with_reducible assumption | with_reducible apply Dev.raise_forms | with_reducible apply Dev.incSat_forms

theorem boatLate_forms (s : Nat) {d : Dev} (h : d.Forms) : (boatLate s d).Forms := by
  unfold boatLate
  repeat' first
    | with_reducible assumption | with_reducible apply Dev.raise_forms | with_reducible apply Dev.incSat_forms

theorem judgeFrame_forms (s : Nat) (bs : List Byte) (good : Bool) {d : Dev} (h : d.Forms) :
    (judgeFrame s bs good d).Forms := by
  unfold judgeFrame
  repeat' first
    | with_reducible assumption | intro _ | with_reducible apply forEach_forms | with_reducible apply foldl_forms
    | with_reducible apply ite_forms | with_reducible apply boatReject_forms | with_reducible apply Dev.incSat_forms
    | with_reducible apply boatLate_forms | with_reducible apply mapBoat_forms | extract_lets | split
    | exact Dev.Forms.of h rfl rfl rfl rfl

theorem swingboatRx_forms (s : Nat) {d : Dev} (h : d.Forms) : (swingboatRx s d).Forms := by
  unfold swingboatRx
  repeat' first
    | with_reducible assumption | intro _ | with_reducible apply forEach_forms | with_reducible apply foldl_forms
    | with_reducible apply ite_forms | with_reducible apply judgeFrame_forms | with_reducible apply mapBoat_forms
    | split

theorem swingboatDecompressed_forms (s : Nat) {d : Dev} (h : d.Forms) : (swingboatDecompressed s d).Forms := by
  unfold swingboatDecompressed
  repeat' first
    | with_reducible assumption | intro _ | with_reducible apply forEach_forms | with_reducible apply foldl_forms
    | with_reducible apply mapBoat_forms | split

theorem writeStream_forms (s : Nat) (ch : Nat) (ts : List Token) {d : Dev} (h : d.Forms) :
    (writeStream s ch ts d).Forms := by
  unfold writeStream
  repeat' first
    | with_reducible assumption | with_reducible apply ite_forms | with_reducible apply Dev.raise_forms
    | with_reducible apply Dev.incSat_forms | with_reducible apply streamPut_forms | extract_lets | split

theorem releaseStream_forms (s : Nat) (j : Nat) (t : Nat) {d : Dev} (h : d.Forms) :
    (releaseStream s j t d).Forms := by
  unfold releaseStream
  repeat' first
    | with_reducible assumption | intro _ | with_reducible apply forEach_forms | with_reducible apply foldl_forms
    | with_reducible apply ite_forms | with_reducible apply mapBoat_forms | with_reducible apply boatLate_forms
    | with_reducible apply writeStream_forms | with_reducible apply Dev.raise_forms
    | with_reducible apply Dev.incSat_forms | extract_lets | split

theorem Dev.clear_forms {d : Dev} (f : Fld) (h : d.Forms) : (Dev.clear d f).Forms := by
  unfold Dev.clear
  repeat' first
    | with_reducible assumption | with_reducible apply Dev.set_forms

theorem touchPin_forms (n : Nat) (f : Dev → Dev) {d : Dev} (hf : ∀ e : Dev, e.Forms → (f e).Forms) (h : d.Forms) :
    (touchPin n f d).Forms := by
  unfold touchPin
  repeat' first
    | with_reducible assumption | with_reducible apply hf | with_reducible apply settlePin_forms

theorem pinEdge_forms (n : Nat) (l : Bool) {d : Dev} (h : d.Forms) : (pinEdge n l d).Forms := by
  unfold pinEdge
  repeat' first
    | with_reducible assumption | intro _ | with_reducible apply forEach_forms | with_reducible apply foldl_forms
    | with_reducible apply touchPin_forms | with_reducible apply mapPin_forms

theorem filterSettle_forms (n : Nat) {d : Dev} (h : d.Forms) : (filterSettle n d).Forms := by
  unfold filterSettle
  repeat' first
    | with_reducible assumption | intro _ | with_reducible apply forEach_forms | with_reducible apply foldl_forms
    | with_reducible apply ite_forms | with_reducible apply Dev.advance_forms | with_reducible apply pinEvent_forms
    | with_reducible apply mapPin_forms | extract_lets | split

theorem setSupply_forms (b : Nat) (vio : Nat) {d : Dev} (h : d.Forms) : (setSupply b vio d).Forms := by
  unfold setSupply
  repeat' first
    | with_reducible assumption | intro _ | with_reducible apply forEach_forms | with_reducible apply foldl_forms
    | with_reducible apply ite_forms | with_reducible apply Dev.set_forms | with_reducible apply noteConflicts_forms
    | with_reducible apply restartFilter_forms

theorem bankChange_forms (b : Nat) (vio : Nat) {d : Dev} (h : d.Forms) : (bankChange b vio d).Forms := by
  have hp : ∀ (e : Dev) (p : PinsSt), e.Forms → ({ e with pins := p } : Dev).Forms := fun e p he => Dev.Forms.of he rfl rfl rfl rfl
  unfold bankChange
  extract_lets d1
  have h1 : d1.Forms := setSupply_forms b vio h
  clear_value d1
  split
  · exact h1
  · exact Dev.raise_forms _ (hp _ _ h1)

theorem bankReturn_forms (b : Nat) (vio : Nat) {d : Dev} (h : d.Forms) : (bankReturn b vio d).Forms := by
  unfold bankReturn
  repeat' first
    | with_reducible assumption | with_reducible apply ite_forms | with_reducible apply setSupply_forms

theorem scanDrive_forms (v : Nat) (en : Nat) {d : Dev} (h : d.Forms) : (scanDrive v en d).Forms := by
  unfold scanDrive
  have h0 : (forEach (List.range 96) d settlePin).Forms := forEach_forms h (fun n e he => settlePin_forms n he)
  generalize forEach (List.range 96) d settlePin = d0 at h0
  exact forEach_forms (Dev.Forms.of h0 rfl rfl rfl rfl) (fun n e he => settlePin_forms n he)

theorem scanRelease_forms {d : Dev} (h : d.Forms) : (scanRelease d).Forms := by
  unfold scanRelease
  repeat' first
    | with_reducible assumption | intro _ | with_reducible apply forEach_forms | with_reducible apply foldl_forms
    | with_reducible apply ite_forms | with_reducible apply startSwitch_forms | split
    | exact Dev.Forms.of h rfl rfl rfl rfl

theorem periphDone_forms (k : Nat) (b : Nat) {d : Dev} (h : d.Forms) : (periphDone k b d).Forms := by
  unfold periphDone
  repeat' first
    | with_reducible assumption | with_reducible apply Dev.raise_forms

theorem receive_forms (k : Nat) (b : Nat) (v : Nat) {d : Dev} (h : d.Forms) : (receive k b v d).Forms := by
  unfold receive
  repeat' first
    | with_reducible assumption | intro _ | with_reducible apply forEach_forms | with_reducible apply foldl_forms
    | with_reducible apply ite_forms | with_reducible apply mapPeriph_forms | with_reducible apply periphErr_forms

theorem endXfer_forms (k : Nat) (b : Nat) {d : Dev} (h : d.Forms) : (endXfer k b d).Forms := by
  unfold endXfer
  repeat' first
    | with_reducible assumption | intro _ | with_reducible apply forEach_forms | with_reducible apply foldl_forms
    | with_reducible apply periphDone_forms | with_reducible apply mapPeriph_forms

theorem xferDone_forms (k : Nat) (b : Nat) (sent : Nat) (rx : List Nat) (nack : Bool) (arb : Bool) {d : Dev}
    (h : d.Forms) :
    (xferDone k b sent rx nack arb d).Forms := by
  unfold xferDone
  repeat' first
    | with_reducible assumption | intro _ | with_reducible apply forEach_forms | with_reducible apply foldl_forms
    | with_reducible apply ite_forms | with_reducible apply mapPeriph_forms | with_reducible apply receive_forms
    | with_reducible apply periphErr_forms | with_reducible apply endXfer_forms | extract_lets | split

theorem stretchTimeout_forms (b : Nat) {d : Dev} (h : d.Forms) : (stretchTimeout b d).Forms := by
  unfold stretchTimeout
  repeat' first
    | with_reducible assumption | with_reducible apply ite_forms | with_reducible apply endXfer_forms
    | with_reducible apply periphErr_forms

theorem uartRx_forms (b : Nat) (v : Nat) (perr : Bool) (ferr : Bool) {d : Dev} (h : d.Forms) :
    (uartRx b v perr ferr d).Forms := by
  unfold uartRx
  repeat' first
    | with_reducible assumption | with_reducible apply ite_forms | with_reducible apply receive_forms
    | with_reducible apply periphDone_forms

theorem uartTx_forms (b : Nat) {d : Dev} (h : d.Forms) : (uartTx b d).Forms := by
  unfold uartTx
  repeat' first
    | with_reducible assumption | intro _ | with_reducible apply forEach_forms | with_reducible apply foldl_forms
    | with_reducible apply ite_forms | with_reducible apply mapPeriph_forms | with_reducible apply Dev.emit_forms
    | split

theorem periphsReset_forms {d : Dev} (h : d.Forms) : (periphsReset d).Forms := by
  unfold periphsReset
  repeat' first
    | with_reducible assumption | intro _ | with_reducible apply forEach_forms | with_reducible apply foldl_forms
    | with_reducible apply showPeriph_forms | exact Dev.Forms.of h rfl rfl rfl rfl

theorem refillSeats_forms (r : Nat) {d : Dev} (h : d.Forms) : (refillSeats r d).Forms := by
  unfold refillSeats
  repeat' first
    | with_reducible assumption | intro _ | with_reducible apply forEach_forms | with_reducible apply foldl_forms
    | extract_lets | exact Dev.Forms.of h rfl rfl rfl rfl

theorem qmInitDone_forms {d : Dev} (h : d.Forms) : (qmInitDone d).Forms := by
  unfold qmInitDone
  repeat' first
    | with_reducible assumption | with_reducible apply ite_forms | with_reducible apply Dev.set_forms | extract_lets
    | split | exact Dev.Forms.of h rfl rfl rfl rfl

theorem bbrPostFreeze_forms {d : Dev} (h : d.Forms) : (bbrPostFreeze d).Forms := by
  unfold bbrPostFreeze
  repeat' first
    | with_reducible assumption | with_reducible apply ite_forms | with_reducible apply bbrFrozen_forms

theorem tapSend_forms (x : Nat) {d : Dev} (h : d.Forms) : (tapSend x d).Forms := by
  unfold tapSend
  repeat' first
    | with_reducible assumption | intro _ | with_reducible apply forEach_forms | with_reducible apply foldl_forms
    | with_reducible apply ite_forms
    | with_reducible refine mapBbr_forms _ ?_ (fun _ => by with_unfolding_all exact Nat.le_refl _)
    | with_reducible apply Dev.emit_forms | with_reducible apply Dev.incSat_forms

theorem putEntry_forms (e : BbrEvent) {d : Dev} (h : d.Forms) : (putEntry e d).Forms := by
  unfold putEntry
  repeat' first
    | with_reducible assumption | intro _ | with_reducible apply forEach_forms | with_reducible apply foldl_forms
    | with_reducible apply ite_forms
    | with_reducible refine mapBbr_forms _ ?_ (fun _ => by with_unfolding_all exact Nat.le_refl _)
    | with_reducible apply tapSend_forms | with_reducible apply Dev.set_forms | with_reducible apply bbrFrozen_forms

theorem bbrWrite_forms {d : Dev} (h : d.Forms) : (bbrWrite d).Forms := by
  unfold bbrWrite
  split
  · exact h
  · rename_i e rest hq
    have hl : rest.length ≤ 16 := by have := h.2.2.1; rw [hq, List.length_cons] at this; omega
    have hm : (mapBbr (fun b => { b with queue := rest }) d).Forms := ⟨h.1, h.2.1, hl, h.2.2.2⟩
    have h1 := bbrPostFreeze_forms hm
    exact ite_forms (Dev.incSat_forms _ h1) (putEntry_forms _ h1)

theorem haltAll_forms {d : Dev} (h : d.Forms) : (haltAll d).Forms := by
  unfold haltAll
  repeat' first
    | with_reducible assumption | intro _ | with_reducible apply forEach_forms | with_reducible apply foldl_forms
    | with_reducible apply Dev.set_forms | with_reducible apply syncSched_forms | with_reducible apply haltGroup_forms
    | with_reducible apply recomputeCeil_forms | with_reducible apply mapRing_forms

theorem resyncDiscard_forms (r : Nat) (t : Nat) {d : Dev} (h : d.Forms) : (resyncDiscard r t d).Forms := by
  unfold resyncDiscard
  repeat' first
    | with_reducible assumption | intro _ | with_reducible apply forEach_forms | with_reducible apply foldl_forms
    | with_reducible apply Dev.addSat_forms | with_reducible apply setSlot_forms

theorem slotAnswer_forms (r : Nat) (t : Nat) (q : SlotReq) (c : Resp) {d : Dev} (h : d.Forms) :
    (slotAnswer r t q c d).Forms := by
  unfold slotAnswer
  repeat' first
    | with_reducible assumption | with_reducible apply ite_forms | extract_lets | split
    | exact Dev.Forms.of h rfl rfl rfl rfl

theorem stopCrossed_forms (r : Nat) (t : Nat) {d : Dev} (h : d.Forms) : (stopCrossed r t d).Forms := by
  unfold stopCrossed
  repeat' first
    | with_reducible assumption | intro _ | with_reducible apply forEach_forms | with_reducible apply foldl_forms
    | with_reducible apply ite_forms | with_reducible apply forsake_forms | with_reducible apply slotAnswer_forms

theorem handshake_forms (r : Nat) (t : Nat) {d : Dev} (h : d.Forms) : (handshake r t d).Forms := by
  unfold handshake
  repeat' first
    | with_reducible assumption | intro _ | with_reducible apply forEach_forms | with_reducible apply foldl_forms
    | with_reducible apply ite_forms | with_reducible apply resyncDiscard_forms
    | with_reducible apply stopCrossed_forms | with_reducible apply Dev.set_forms | with_reducible apply mapSlot_forms
    | with_reducible apply Dev.emit_forms | with_reducible apply Dev.raise_forms

theorem masterReset_forms {d : Dev} (h : d.Forms) : (masterReset d).Forms := by
  unfold masterReset
  repeat' first
    | with_reducible assumption | with_reducible apply Dev.resetFlds_forms

theorem loadStops_forms {d : Dev} (h : d.Forms) : (loadStops d).Forms := by
  unfold loadStops
  repeat' first
    | with_reducible assumption | intro _ | with_reducible apply forEach_forms | with_reducible apply foldl_forms
    | with_reducible apply mapCfg_forms | with_reducible apply Dev.set_forms | with_reducible apply doneLow_forms

theorem clearConfig_forms {d : Dev} (h : d.Forms) : (clearConfig d).Forms := by
  unfold clearConfig
  repeat' first
    | with_reducible assumption | intro _ | with_reducible apply forEach_forms | with_reducible apply foldl_forms
    | with_reducible apply mapCfg_forms | with_reducible apply dropHeld_forms | with_reducible apply clearShadow_forms
    | with_reducible apply Dev.set_forms | with_reducible apply clearFrames_forms

theorem clearBad_forms {d : Dev} (h : d.Forms) : (clearBad d).Forms := by
  unfold clearBad
  repeat' first
    | with_reducible assumption | intro _ | with_reducible apply forEach_forms | with_reducible apply foldl_forms
    | with_reducible apply Dev.set_forms

theorem ringAfter_forms (full : Bool) (m : Nat) {d : Dev} (h : d.Forms) : (ringAfter full m d).Forms := by
  unfold ringAfter
  repeat' first
    | with_reducible assumption | intro _ | with_reducible apply forEach_forms | with_reducible apply foldl_forms
    | with_reducible apply ite_forms | with_reducible apply Dev.chipZero_forms
    | with_reducible apply clearFrames_forms

theorem leaveInspection.ringsBack_forms (b : RunSt) (full : Bool) {d : Dev} (h : d.Forms) :
    (leaveInspection.ringsBack b full d).Forms := by
  unfold leaveInspection.ringsBack
  exact forEach_forms (forEach_forms h (fun r e he => ringAfter_forms _ _ he)) (fun r e he => reopen_forms _ he)

theorem qmInit_forms {d : Dev} (h : d.Forms) : (qmInit d).Forms := by
  unfold qmInit
  extract_lets d1
  have h1 : d1.Forms := forEach_forms h (fun _ _ he => ite_forms (pfcSend_forms _ _ (Dev.set_forms _ _ he)) he)
  clear_value d1
  exact Dev.Forms.of (Dev.set_forms _ _ h1) rfl rfl rfl rfl

theorem leaveInspection_forms (b : RunSt) {d : Dev} (h : d.Forms) : (leaveInspection b d).Forms := by
  unfold leaveInspection
  repeat' first
    | with_reducible assumption | intro _ | with_reducible apply forEach_forms | with_reducible apply foldl_forms
    | with_reducible apply ite_forms | with_reducible apply leaveInspection.ringsBack_forms
    | with_reducible apply qmInit_forms | with_reducible apply trainStart_forms
    | with_reducible apply Dev.withCx_forms | with_reducible apply Dev.set_forms | extract_lets | split

theorem endRun_forms (b : RunSt) (verdict : Nat) (result : Nat) (pats : Nat) (sig : Nat) (done : Bool) {d : Dev}
    (h : d.Forms) :
    (endRun b verdict result pats sig done d).Forms := by
  unfold endRun
  repeat' first
    | with_reducible assumption | intro _ | with_reducible apply forEach_forms | with_reducible apply foldl_forms
    | with_reducible apply ite_forms | with_reducible apply Dev.raise_forms | with_reducible apply Dev.set_forms
    | with_reducible apply Dev.bbr_forms | with_reducible apply mapBist_forms | with_reducible apply release800_forms

theorem bistCut_forms {d : Dev} (h : d.Forms) : (bistCut d).Forms := by
  unfold bistCut
  repeat' first
    | with_reducible assumption | intro _ | with_reducible apply forEach_forms | with_reducible apply foldl_forms
    | with_reducible apply ite_forms | with_reducible apply leaveInspection_forms | with_reducible apply mapRing_forms
    | with_reducible apply endRun_forms | with_reducible apply Dev.bump_forms | extract_lets | split

theorem nearReturn_forms (r : Nat) (t : Nat) {d : Dev} (h : d.Forms) :
    (nearReturn r t d).Forms := by
  unfold nearReturn
  repeat' first
    | with_reducible assumption | intro _ | with_reducible apply forEach_forms | with_reducible apply foldl_forms
    | with_reducible apply ite_forms | with_reducible apply handshake_forms
    | with_reducible refine pair_forms ‹_ = (_, _)› ?_ | with_reducible refine pair3_forms ‹_ = (_, _, _)› ?_
    | extract_lets | split | exact Dev.Forms.of ‹_› rfl rfl rfl rfl

theorem slotsReturn_forms  {d : Dev} (h : d.Forms) :
    (slotsReturn d).Forms := by
  unfold slotsReturn
  repeat' first
    | with_reducible assumption | intro _ | with_reducible apply forEach_forms | with_reducible apply foldl_forms
    | with_reducible apply ite_forms | with_reducible apply forEach_forms | with_reducible apply nearReturn_forms
    | with_reducible refine pair_forms ‹_ = (_, _)› ?_ | with_reducible refine pair3_forms ‹_ = (_, _, _)› ?_
    | extract_lets | split | exact Dev.Forms.of ‹_› rfl rfl rfl rfl

theorem prognRise_forms {d : Dev} (h : d.Forms) : (prognRise d).Forms := by
  unfold prognRise
  repeat' first
    | with_reducible assumption | intro _ | with_reducible apply forEach_forms | with_reducible apply foldl_forms
    | with_reducible apply ite_forms | with_reducible apply clearConfig_forms | with_reducible apply mapCfg_forms
    | with_reducible apply Dev.bbr_forms | with_reducible apply slotsReturn_forms
    | with_reducible apply engsRestart_forms

theorem clearDone_forms {d : Dev} (h : d.Forms) : (clearDone d).Forms := by
  unfold clearDone
  repeat' first
    | with_reducible assumption | intro _ | with_reducible apply forEach_forms | with_reducible apply foldl_forms
    | with_reducible apply ite_forms | with_reducible apply mapCfg_forms | with_reducible apply Dev.set_forms

theorem powerOn_forms {d : Dev} (_ : d.Forms) : (powerOn d).Forms := by
  unfold powerOn
  dsimp only
  refine Dev.set_forms _ _ (Dev.set_forms _ _ (foldl_forms ?_ (fun f e he => Dev.set_forms _ _ he)))
  exact ⟨rfl, rfl, Nat.zero_le _, Nat.pow_pos (Nat.zero_lt_succ 1)⟩

theorem trimLoad_forms {d : Dev} (h : d.Forms) : (trimLoad d).Forms := by
  unfold trimLoad
  repeat' first
    | with_reducible assumption | intro _ | with_reducible apply forEach_forms | with_reducible apply foldl_forms
    | with_reducible apply ite_forms | with_reducible apply mapTrim_forms | with_reducible apply Dev.set_forms
    | with_reducible apply Dev.bbr_forms | with_reducible apply force800_forms | with_reducible apply trimStart_forms

theorem coldStart_forms (mode : Nat) (casc : Nat) (master : Bool) (vio : List Nat) {d : Dev} (h : d.Forms) :
    (coldStart mode casc master vio d).Forms := by
  unfold coldStart
  have h1 : (qmInit ((powerOn d).set CFG_STATUS_MODE mode)).Forms := qmInit_forms (Dev.set_forms _ _ (powerOn_forms h))
  dsimp only
  generalize qmInit ((powerOn d).set CFG_STATUS_MODE mode) = d1 at h1
  have h2 : (((d1.set MI2C_STATUS_ADDR (0x40 + casc)).set ICL_UID_LO_UID_LO (rdLe d1.trim.store 0x1000 4)).set ICL_UID_HI_UID_HI
    (rdLe d1.trim.store 0x1004 4)).Forms := Dev.set_forms _ _ (Dev.set_forms _ _ (Dev.set_forms _ _ h1))
  generalize ((d1.set MI2C_STATUS_ADDR (0x40 + casc)).set ICL_UID_LO_UID_LO (rdLe d1.trim.store 0x1000 4)).set ICL_UID_HI_UID_HI
    (rdLe d1.trim.store 0x1004 4) = d2 at h2
  have h3 : (forEach (List.range 6) { d2 with pins := { d2.pins with cascId := casc, master := master } } (fun b d =>
    setSupply b (vio.getD b 0) { d with pins := { d.pins with vioSeen := sset 0 d.pins.vioSeen b (vio.getD b 0) } })).Forms :=
    forEach_forms (Dev.Forms.of h2 rfl rfl rfl rfl) (fun b e he => setSupply_forms _ _ (Dev.Forms.of he rfl rfl rfl rfl))
  generalize forEach (List.range 6) { d2 with pins := { d2.pins with cascId := casc, master := master } } (fun b d =>
    setSupply b (vio.getD b 0) { d with pins := { d.pins with vioSeen := sset 0 d.pins.vioSeen b (vio.getD b 0) } }) = d3 at h3
  have h4 : (trimLoad (mapCfg (fun c => { c with clears := true, starting := true }) d3)).Forms := trimLoad_forms (mapCfg_forms _ h3)
  generalize trimLoad (mapCfg (fun c => { c with clears := true, starting := true }) d3) = d4 at h4
  have h5 : (if 5 ≤ mode then (d4.set CFG_ERR_VALID 1).set CFG_ERR_CODE 16 else d4).Forms :=
    ite_forms (Dev.set_forms _ _ (Dev.set_forms _ _ h4)) h4
  exact ite_forms h5 (autoRun_forms h5)

theorem fieldTrimDone_forms (vals : List Byte) {d : Dev} (h : d.Forms) : (fieldTrimDone vals d).Forms := by
  unfold fieldTrimDone
  repeat' first
    | with_reducible assumption | intro _ | with_reducible apply forEach_forms | with_reducible apply foldl_forms
    | with_reducible apply ite_forms | with_reducible apply Dev.set_forms | with_reducible apply mapTrim_forms
    | with_reducible apply release800_forms | with_reducible apply trimEnd_forms

theorem trimDone_forms (vals : List Byte) {d : Dev} (h : d.Forms) : (trimDone vals d).Forms := by
  unfold trimDone
  repeat' first
    | with_reducible assumption | with_reducible apply ite_forms | with_reducible apply autoRun_forms
    | with_reducible apply fieldTrimDone_forms

theorem warmRegs_forms {d : Dev} (h : d.Forms) : (warmRegs d).Forms := by
  unfold warmRegs
  repeat' first
    | with_reducible assumption | intro _ | with_reducible apply forEach_forms | with_reducible apply foldl_forms
    | with_reducible apply ite_forms | with_reducible apply Dev.set_forms | extract_lets | split
    | exact Dev.Forms.of h rfl rfl rfl rfl

theorem netReset_forms {d : Dev} (h : d.Forms) : (netReset d).Forms := by
  unfold netReset
  have h1 : (forEach (List.range 48) d dropLink).Forms := forEach_forms h (fun p e he => dropLink_forms _ he)
  generalize forEach (List.range 48) d dropLink = d1 at h1
  exact Dev.Forms.of h1 rfl rfl rfl rfl

theorem memReset_forms {d : Dev} (h : d.Forms) : (memReset d).Forms := by
  unfold memReset
  repeat' first
    | with_reducible assumption | extract_lets | split | exact Dev.Forms.of h rfl rfl rfl rfl

theorem ringsReset_forms {d : Dev} (h : d.Forms) : (ringsReset d).Forms := by
  unfold ringsReset
  repeat' first
    | with_reducible assumption | intro _ | with_reducible apply forEach_forms | with_reducible apply foldl_forms
    | exact Dev.Forms.of h rfl rfl rfl rfl

theorem holdRegions_forms (rs : List Nat) {d : Dev} (h : d.Forms) : (holdRegions rs d).Forms := by
  unfold holdRegions
  repeat' first
    | with_reducible assumption | intro _ | with_reducible apply forEach_forms | with_reducible apply foldl_forms
    | with_reducible apply Dev.set_forms

theorem lifeSave_forms {d : Dev} (h : d.Forms) : (lifeSave d).Forms := by
  unfold lifeSave
  repeat' first
    | with_reducible assumption | with_reducible apply Dev.withTg_forms

theorem dmaStop_forms  {d : Dev} (h : d.Forms) :
    (dmaStop d).Forms := by
  unfold dmaStop
  repeat' first
    | with_reducible assumption | intro _ | with_reducible apply forEach_forms | with_reducible apply foldl_forms
    | with_reducible apply ite_forms | with_reducible apply dmaReset_forms | with_reducible apply dmaForsake_forms
    | with_reducible apply forEach_forms | with_reducible apply dmaEnd_forms
    | with_reducible refine pair_forms ‹_ = (_, _)› ?_ | with_reducible refine pair3_forms ‹_ = (_, _, _)› ?_
    | extract_lets | split | exact Dev.Forms.of ‹_› rfl rfl rfl rfl

theorem linkReset_forms  {d : Dev} (h : d.Forms) :
    (linkReset d).Forms := by
  unfold linkReset
  repeat' first
    | with_reducible assumption | intro _ | with_reducible apply forEach_forms | with_reducible apply foldl_forms
    | with_reducible apply ite_forms | with_reducible apply mapIcl_forms | with_reducible apply forEach_forms
    | with_reducible apply endMembership_forms | with_reducible apply portLeave_forms
    | with_reducible refine pair_forms ‹_ = (_, _)› ?_ | with_reducible refine pair3_forms ‹_ = (_, _, _)› ?_
    | extract_lets | split | exact Dev.Forms.of ‹_› rfl rfl rfl rfl

theorem nearReset_forms (r : Nat) (t : Nat) {d : Dev} (h : d.Forms) :
    (nearReset r t d).Forms := by
  unfold nearReset
  repeat' first
    | with_reducible assumption | intro _ | with_reducible apply forEach_forms | with_reducible apply foldl_forms
    | with_reducible apply ite_forms | with_reducible apply mapSlot_forms | with_reducible apply showOut_forms
    | with_reducible apply enterResync_forms | with_reducible refine pair_forms ‹_ = (_, _)› ?_
    | with_reducible refine pair3_forms ‹_ = (_, _, _)› ?_ | extract_lets | split
    | exact Dev.Forms.of ‹_› rfl rfl rfl rfl

theorem slotsReset_forms  {d : Dev} (h : d.Forms) :
    (slotsReset d).Forms := by
  unfold slotsReset
  repeat' first
    | with_reducible assumption | intro _ | with_reducible apply forEach_forms | with_reducible apply foldl_forms
    | with_reducible apply ite_forms | with_reducible apply forEach_forms | with_reducible apply nearReset_forms
    | with_reducible refine pair_forms ‹_ = (_, _)› ?_ | with_reducible refine pair3_forms ‹_ = (_, _, _)› ?_
    | extract_lets | split | exact Dev.Forms.of ‹_› rfl rfl rfl rfl

theorem warmReset_forms {d : Dev} (h : d.Forms) : (warmReset d).Forms := by
  unfold warmReset
  repeat' first
    | with_reducible assumption | intro _ | with_reducible apply forEach_forms | with_reducible apply foldl_forms
    | with_reducible apply ite_forms | with_reducible apply dmaStop_forms | with_reducible apply bistCut_forms
    | with_reducible apply lifeSave_forms | with_reducible apply slotsReset_forms | with_reducible apply haltAll_forms
    | with_reducible apply loadStops_forms | with_reducible apply clearExec_forms
    | with_reducible apply memReset_forms | with_reducible apply ringsReset_forms
    | with_reducible apply netReset_forms | with_reducible apply linkReset_forms | with_reducible apply carStop_forms
    | with_reducible apply masterReset_forms | with_reducible apply warmRegs_forms
    | with_reducible apply periphsReset_forms | with_reducible apply qmInit_forms
    | with_reducible apply enterSafety_forms | with_reducible apply settleLink_forms
    | with_reducible apply selectUpstream_forms | with_reducible apply rediscover_forms
    | with_reducible apply holdRegions_forms | with_reducible apply mapCfg_forms
    | with_reducible apply recomputeCeil_forms

theorem trainAll_forms {d : Dev} (h : d.Forms) : (trainAll d).Forms := by
  unfold trainAll
  repeat' first
    | with_reducible assumption | intro _ | with_reducible apply forEach_forms | with_reducible apply foldl_forms
    | with_reducible apply ite_forms | with_reducible apply Dev.set_forms | with_reducible apply trainStart_forms

theorem replay_forms {d : Dev} (h : d.Forms) : (replay d).Forms := by
  unfold replay
  repeat' first
    | with_reducible assumption | intro _ | with_reducible apply forEach_forms | with_reducible apply foldl_forms
    | with_reducible apply Dev.set_forms | with_reducible apply mapCfg_forms | with_reducible apply applyRecs_forms
    | with_reducible apply dropHeld_forms | with_reducible apply failFull_forms | with_reducible apply Dev.raise_forms
    | with_reducible apply carFirst_forms | with_reducible refine pair_forms ‹_ = (_, _)› ?_
    | with_reducible refine pair3_forms ‹_ = (_, _, _)› ?_ | extract_lets | split

theorem bistRunEnd_forms (pats : Nat) (sig : Nat) (fails : Nat) (addr : Nat) (map : Nat) {d : Dev} (h : d.Forms) :
    (bistRunEnd pats sig fails addr map d).Forms := by
  unfold bistRunEnd
  repeat' first
    | with_reducible assumption | intro _ | with_reducible apply forEach_forms | with_reducible apply foldl_forms
    | with_reducible apply ite_forms | with_reducible apply Dev.setBit_forms | with_reducible apply Dev.set_forms
    | with_reducible apply leaveInspection_forms | with_reducible apply endRun_forms | extract_lets | split

theorem runEnd_forms (pats : Nat) (sig : Nat) (fails : Nat) (addr : Nat) (map : Nat) {d : Dev} (h : d.Forms) :
    (runEnd pats sig fails addr map d).Forms := by
  unfold runEnd
  repeat' first
    | with_reducible assumption | with_reducible apply ite_forms | with_reducible apply bistRunEnd_forms
    | with_reducible apply replay_forms

theorem refclkLoss_forms (v : Nat) {d : Dev} (h : d.Forms) : (refclkLoss v d).Forms := by
  unfold refclkLoss
  repeat' first
    | with_reducible assumption | intro _ | with_reducible apply forEach_forms | with_reducible apply foldl_forms
    | with_reducible apply ite_forms | with_reducible apply Dev.set_forms
    | with_reducible refine mapTime_forms _ ?_ (fun _ => by with_unfolding_all rfl)

theorem refclkReturn_forms (v : Nat) {d : Dev} (h : d.Forms) : (refclkReturn v d).Forms := by
  unfold refclkReturn
  repeat' first
    | with_reducible assumption | intro _ | with_reducible apply forEach_forms | with_reducible apply foldl_forms
    | with_reducible apply ite_forms | with_reducible apply Dev.set_forms
    | with_reducible refine mapTime_forms _ ?_ (fun _ => by with_unfolding_all rfl)

theorem budgetDisarm_forms {d : Dev} (h : d.Forms) : (budgetDisarm d).Forms := by
  unfold budgetDisarm
  repeat' first
    | with_reducible assumption | intro _ | with_reducible apply forEach_forms | with_reducible apply foldl_forms
    | with_reducible apply budgetErr_forms | with_reducible apply disarm_forms

theorem quiescence_forms (m : Nat) {d : Dev} (h : d.Forms) : (quiescence m d).Forms := by
  unfold quiescence
  repeat' first
    | with_reducible assumption | intro _ | with_reducible apply forEach_forms | with_reducible apply foldl_forms
    | with_reducible apply ite_forms | with_reducible apply mapRing_forms

theorem quiesceCopy_forms (m : Nat) {d : Dev} (h : d.Forms) : (quiesceCopy m d).Forms := by
  unfold quiesceCopy
  repeat' first
    | with_reducible assumption | with_reducible apply Dev.set_forms

theorem recordClose_forms (r : Nat) (done : Nat) (late : Bool) {d : Dev} (h : d.Forms) :
    (recordClose r done late d).Forms := by
  unfold recordClose
  repeat' first
    | with_reducible assumption | with_reducible apply Dev.set_forms

theorem reportSlack_forms (r : Nat) (slack : Nat) (a : Nat) {d : Dev} (h : d.Forms) :
    (reportSlack r slack a d).Forms := by
  unfold reportSlack
  repeat' first
    | with_reducible assumption | with_reducible apply ite_forms | with_reducible apply Dev.withTg_forms
    | extract_lets | split

theorem recordSlack_forms (r : Nat) (done : Nat) {d : Dev} (h : d.Forms) : (recordSlack r done d).Forms := by
  unfold recordSlack
  repeat' first
    | with_reducible assumption | intro _ | with_reducible apply forEach_forms | with_reducible apply foldl_forms
    | with_reducible apply Dev.set_forms | with_reducible apply reportSlack_forms | with_reducible apply mapRing_forms

theorem slipLog_forms (r : Nat) (cause : Nat) {d : Dev} (h : d.Forms) : (slipLog r cause d).Forms := by
  unfold slipLog
  repeat' first
    | with_reducible assumption | with_reducible apply ite_forms | with_reducible apply Dev.set_forms
    | with_reducible refine Dev.withTime_forms _ ?_ (by with_unfolding_all rfl)

theorem tgSlip_forms  {d : Dev} (h : d.Forms) :
    (tgSlip d).Forms := by
  unfold tgSlip
  repeat' first
    | with_reducible assumption | intro _ | with_reducible apply forEach_forms | with_reducible apply foldl_forms
    | with_reducible apply ite_forms | with_reducible apply Dev.incSat_forms
    | with_reducible apply enterSafety_forms | with_reducible apply Dev.set_forms | with_reducible apply jump_forms
    | with_reducible apply Dev.raise_forms | with_reducible apply Dev.withTg_forms
    | with_reducible refine pair_forms ‹_ = (_, _)› ?_ | with_reducible refine pair3_forms ‹_ = (_, _, _)› ?_
    | extract_lets | split | exact Dev.Forms.of ‹_› rfl rfl rfl rfl

theorem slip_forms (r : Nat) {d : Dev} (h : d.Forms) : (slip r d).Forms := by
  unfold slip
  repeat' first
    | with_reducible assumption | intro _ | with_reducible apply forEach_forms | with_reducible apply foldl_forms
    | with_reducible apply noteTick_forms | with_reducible apply Dev.raise_forms
    | with_reducible apply Dev.incSat_forms | with_reducible apply quiesceCopy_forms
    | with_reducible apply slipLog_forms | with_reducible apply Dev.bbr_forms | with_reducible apply tgSlip_forms
    | with_reducible apply mapRing_forms

theorem judge.judgeMissed_forms (r : Nat) (x : Ring) {d : Dev} (h : d.Forms) : (judge.judgeMissed r x d).Forms := by
  unfold judge.judgeMissed
  have h1 := slip_forms r h
  exact ite_forms (syncSched_forms _ (haltGroup_forms _ _ h1)) (ite_forms (mapRing_forms _ _ h1) h1)

theorem judge_forms (r : Nat) {d : Dev} (h : d.Forms) : (judge r d).Forms := by
  unfold judge
  repeat' first
    | with_reducible assumption | intro _ | with_reducible apply forEach_forms | with_reducible apply foldl_forms
    | with_reducible apply ite_forms | with_reducible apply judge.judgeMissed_forms
    | with_reducible apply recordClose_forms | with_reducible apply Dev.set_forms
    | with_reducible apply recordSlack_forms | with_reducible apply mapRing_forms | extract_lets | split

theorem deadline_forms (r : Nat) {d : Dev} (h : d.Forms) : (deadline r d).Forms := by
  unfold deadline
  repeat' first
    | with_reducible assumption | with_reducible apply ite_forms | with_reducible apply judge_forms
    | with_reducible apply Dev.advance_forms

theorem ringFault_forms (r : Nat) {d : Dev} (h : d.Forms) : (ringFault r d).Forms := by
  unfold ringFault
  repeat' first
    | with_reducible assumption | with_reducible apply Dev.bbr_forms | with_reducible apply Dev.raise_forms
    | with_reducible apply syncSched_forms | with_reducible apply haltGroup_forms | extract_lets | split

theorem ringDoneAccept_forms (r : Nat) (ns : Nat) {d : Dev} (h : d.Forms) : (ringDoneAccept r ns d).Forms := by
  unfold ringDoneAccept
  repeat' first
    | with_reducible assumption | intro _ | with_reducible apply forEach_forms | with_reducible apply foldl_forms
    | with_reducible apply ite_forms | with_reducible apply Dev.advance_forms | with_reducible apply judge_forms
    | with_reducible apply recordClose_forms | with_reducible apply Dev.setRing_forms
    | with_reducible apply recordSlack_forms

theorem publish_forms (r : Nat) (t : Nat) {d : Dev} (h : d.Forms) : (publish r t d).Forms := by
  unfold publish
  repeat' first
    | with_reducible assumption | intro _ | with_reducible apply forEach_forms | with_reducible apply foldl_forms
    | with_reducible apply ite_forms | with_reducible apply setSlot_forms | with_reducible apply Dev.emit_forms

theorem pulseLost_forms (r : Nat) (t : Nat) (n : Nat) {d : Dev} (h : d.Forms) : (pulseLost r t n d).Forms := by
  unfold pulseLost
  repeat' first
    | with_reducible assumption | with_reducible apply ite_forms | with_reducible apply Dev.raise_forms
    | with_reducible apply Dev.addSat_forms

theorem sendStaged_forms (r : Nat) (l : Nat) {d : Dev} (h : d.Forms) : (sendStaged r l d).Forms := by
  unfold sendStaged
  repeat' first
    | with_reducible assumption | with_reducible apply ite_forms | with_reducible apply Dev.addSat_forms
    | with_reducible apply setLane_forms | with_reducible apply pulseLost_forms

theorem slotsCapture_forms (r : Nat) {d : Dev} (h : d.Forms) : (slotsCapture r d).Forms := by
  unfold slotsCapture
  repeat' first
    | with_reducible assumption | intro _ | with_reducible apply forEach_forms | with_reducible apply foldl_forms
    | with_reducible apply publish_forms | with_reducible apply sendStaged_forms | with_reducible apply showOuts_forms

theorem captureRing_forms (m : Nat) {d : Dev} (h : d.Forms) : (captureRing m d).Forms := by
  unfold captureRing
  repeat' first
    | with_reducible assumption | intro _ | with_reducible apply forEach_forms | with_reducible apply foldl_forms
    | with_reducible apply mapEdge_forms | with_reducible apply mapRing_forms
    | with_reducible apply slotsCapture_forms

theorem staleRing_forms (m : Nat) {d : Dev} (h : d.Forms) : (staleRing m d).Forms := by
  unfold staleRing
  repeat' first
    | with_reducible assumption | intro _ | with_reducible apply forEach_forms | with_reducible apply foldl_forms
    | with_reducible apply mapEdge_forms | with_reducible apply showOuts_forms | with_reducible apply mapRing_forms

theorem advanceSeq_forms (r : Nat) {d : Dev} (h : d.Forms) : (advanceSeq r d).Forms := by
  unfold advanceSeq
  repeat' first
    | with_reducible assumption | with_reducible apply ite_forms | with_reducible apply Dev.set_forms

theorem syncAt_forms (r : Nat) (now : Nat) {d : Dev} (h : d.Forms) : (syncAt r now d).Forms := by
  unfold syncAt
  repeat' first
    | with_reducible assumption | with_reducible apply ite_forms | with_reducible apply syncSched_forms | split

theorem setStale_forms (r : Nat) (v : Nat) {d : Dev} (h : d.Forms) :
    (setStale r v d).Forms := by
  unfold setStale
  repeat' first
    | with_reducible assumption | intro _ | with_reducible apply forEach_forms | with_reducible apply foldl_forms
    | with_reducible apply ite_forms | with_reducible apply forEach_forms | with_reducible apply Dev.set_forms
    | with_reducible refine pair_forms ‹_ = (_, _)› ?_ | with_reducible refine pair3_forms ‹_ = (_, _, _)› ?_
    | extract_lets | split | exact Dev.Forms.of ‹_› rfl rfl rfl rfl

theorem beginSkip_forms (r : Nat) (n : Nat) (now : Nat) {d : Dev} (h : d.Forms) :
    (beginSkip r n now d).Forms := by
  unfold beginSkip
  repeat' first
    | with_reducible assumption | intro _ | with_reducible apply forEach_forms | with_reducible apply foldl_forms
    | with_reducible apply ite_forms | with_reducible apply syncAt_forms | with_reducible apply setRState_forms
    | with_reducible apply forEach_forms | with_reducible apply staleRing_forms
    | with_reducible apply noteTick_forms | with_reducible apply mapRing_forms
    | with_reducible apply setStale_forms | with_reducible refine pair_forms ‹_ = (_, _)› ?_
    | with_reducible refine pair3_forms ‹_ = (_, _, _)› ?_ | extract_lets | split
    | exact Dev.Forms.of ‹_› rfl rfl rfl rfl

theorem endOnTime_forms (r : Nat) (now : Nat) {d : Dev} (h : d.Forms) :
    (endOnTime r now d).Forms := by
  unfold endOnTime
  repeat' first
    | with_reducible assumption | intro _ | with_reducible apply forEach_forms | with_reducible apply foldl_forms
    | with_reducible apply ite_forms | with_reducible apply advanceSeq_forms | with_reducible apply setStale_forms
    | with_reducible apply forEach_forms | with_reducible apply captureRing_forms
    | with_reducible apply mapRing_forms | with_reducible apply disarm_forms | with_reducible apply setRState_forms
    | with_reducible apply syncSched_forms | with_reducible apply Dev.raise_forms
    | with_reducible apply syncAt_forms | with_reducible refine pair_forms ‹_ = (_, _)› ?_
    | with_reducible refine pair3_forms ‹_ = (_, _, _)› ?_ | extract_lets | split
    | exact Dev.Forms.of ‹_› rfl rfl rfl rfl

theorem endRing_forms (n : Nat) (now : Nat) (r : Nat) {d : Dev} (h : d.Forms) : (endRing n now r d).Forms := by
  unfold endRing
  repeat' first
    | with_reducible assumption | intro _ | with_reducible apply forEach_forms | with_reducible apply foldl_forms
    | with_reducible apply ite_forms | with_reducible apply lapseXSeats_forms | with_reducible apply lapseSeats_forms
    | with_reducible apply beginSkip_forms | with_reducible apply endOnTime_forms

theorem releaseEdges_forms (m : Nat) {d : Dev} (h : d.Forms) : (releaseEdges m d).Forms := by
  unfold releaseEdges
  repeat' first
    | with_reducible assumption | intro _ | with_reducible apply forEach_forms | with_reducible apply foldl_forms
    | with_reducible apply ite_forms | with_reducible apply mapEdge_forms | with_reducible apply drive_forms

theorem refillXSeats_forms (r : Nat) {d : Dev} (h : d.Forms) : (refillXSeats r d).Forms := by
  unfold refillXSeats
  repeat' first
    | with_reducible assumption | intro _ | with_reducible apply forEach_forms | with_reducible apply foldl_forms
    | extract_lets | exact Dev.Forms.of h rfl rfl rfl rfl

theorem releaseIn_forms (r : Nat) (t : Nat) (now : Nat) {d : Dev} (h : d.Forms) : (releaseIn r t now d).Forms := by
  unfold releaseIn
  repeat' first
    | with_reducible assumption | intro _ | with_reducible apply forEach_forms | with_reducible apply foldl_forms
    | with_reducible apply ite_forms | with_reducible apply present_forms | with_reducible apply setSlot_forms

theorem releaseOut_forms (r : Nat) (t : Nat) {d : Dev} (h : d.Forms) : (releaseOut r t d).Forms := by
  unfold releaseOut
  repeat' first
    | with_reducible assumption | with_reducible apply ite_forms | with_reducible apply setSlot_forms
    | with_reducible apply present_forms

theorem releasePulses_forms (r : Nat) (now : Nat) {d : Dev} (h : d.Forms) : (releasePulses r now d).Forms := by
  unfold releasePulses
  repeat' first
    | with_reducible assumption | intro _ | with_reducible apply forEach_forms | with_reducible apply foldl_forms
    | with_reducible apply ite_forms | with_reducible apply setLane_forms | with_reducible apply drive_forms

theorem releaseLevel_forms (r : Nat) {d : Dev} (h : d.Forms) : (releaseLevel r d).Forms := by
  unfold releaseLevel
  repeat' first
    | with_reducible assumption | intro _ | with_reducible apply forEach_forms | with_reducible apply foldl_forms
    | with_reducible apply ite_forms | with_reducible apply drive_forms

theorem releaseWord_forms (r : Nat) (t : Nat) {d : Dev} (h : d.Forms) : (releaseWord r t d).Forms := by
  unfold releaseWord
  repeat' first
    | with_reducible assumption | with_reducible apply present_forms

theorem slotsRelease_forms (r : Nat) (now : Nat) {d : Dev} (h : d.Forms) : (slotsRelease r now d).Forms := by
  unfold slotsRelease
  repeat' first
    | with_reducible assumption | intro _ | with_reducible apply forEach_forms | with_reducible apply foldl_forms
    | with_reducible apply ite_forms | with_reducible apply sawExternal_forms | with_reducible apply releaseIn_forms
    | with_reducible apply releaseOut_forms | with_reducible apply releasePulses_forms
    | with_reducible apply releaseLevel_forms | with_reducible apply releaseWord_forms

theorem keyLoadDone_forms {d : Dev} (h : d.Forms) : (keyLoadDone d).Forms := by
  unfold keyLoadDone
  repeat' first
    | with_reducible assumption | with_reducible apply Dev.withCx_forms | with_reducible apply Dev.resetFlds_forms
    | with_reducible apply Dev.set_forms | with_reducible apply setFrameCtr_forms | extract_lets | split

theorem keyDrainDone_forms (k : Nat) {d : Dev} (h : d.Forms) : (keyDrainDone k d).Forms := by
  unfold keyDrainDone
  repeat' first
    | with_reducible assumption | with_reducible apply ite_forms | with_reducible apply retireDone_forms
    | with_reducible apply zeroSlot_forms

theorem keyCooldownEnd_forms (k : Nat) {d : Dev} (h : d.Forms) : (keyCooldownEnd k d).Forms := by
  unfold keyCooldownEnd
  repeat' first
    | with_reducible assumption | with_reducible apply ite_forms | with_reducible apply Dev.set_forms

theorem limitCheck_forms {d : Dev} (h : d.Forms) : (limitCheck d).Forms := by
  unfold limitCheck
  repeat' first
    | with_reducible assumption | intro _ | with_reducible apply forEach_forms | with_reducible apply foldl_forms
    | with_reducible apply ite_forms | with_reducible apply measureLimits_forms | with_reducible apply mapBist_forms
    | extract_lets | split

theorem Dev.default_forms : Dev.Forms {} := ⟨rfl, rfl, Nat.zero_le _, by decide⟩

theorem renumber_forms (n : Nat) {d : Dev} (h : d.Forms) : (renumber n d).Forms := by
  unfold renumber
  repeat' first
    | with_reducible assumption | intro _ | with_reducible apply forEach_forms | with_reducible apply foldl_forms
    | with_reducible apply ite_forms | with_reducible apply mapRing_forms | with_reducible apply mapIcl_forms
    | with_reducible refine mapTime_forms _ ?_ (fun _ => by with_unfolding_all rfl)

theorem takeCount_forms (n : Nat) {d : Dev} (h : d.Forms) (hn : n < 2 ^ 64) : (takeCount n d).Forms := by
  unfold takeCount
  have h1 := renumber_forms n h
  exact ⟨h1.1, h1.2.1, h1.2.2.1, hn⟩

theorem afterCount_forms (here : Bool) {d : Dev} (h : d.Forms) : (afterCount here d).Forms := by
  unfold afterCount
  repeat' first
    | with_reducible assumption | intro _ | with_reducible apply forEach_forms | with_reducible apply foldl_forms
    | with_reducible apply ite_forms | with_reducible apply Dev.bbr_forms
    | with_reducible refine mapTime_forms _ ?_ (fun _ => by with_unfolding_all rfl)
    | with_reducible apply Dev.raise_forms | with_reducible apply joinEdge_forms | split

theorem pendOver_forms (own : Bool) {d : Dev} (h : d.Forms) : (pendOver own d).Forms := by
  unfold pendOver
  repeat' first
    | with_reducible assumption | intro _ | with_reducible apply forEach_forms | with_reducible apply foldl_forms
    | with_reducible apply ite_forms | with_reducible apply cmdEnds_forms
    | with_reducible refine mapTime_forms _ ?_ (fun _ => by with_unfolding_all rfl)
    | with_reducible apply Dev.set_forms

theorem periodEdge_forms (n : Nat) {d : Dev} (h : d.Forms) : (periodEdge n d).2.2.2.Forms := by
  unfold periodEdge
  repeat' first
    | with_reducible assumption | intro _ | with_reducible apply forEach_forms | with_reducible apply foldl_forms
    | with_reducible apply ite_forms | with_reducible apply setPeriod_forms | with_reducible apply pendOver_forms
    | with_reducible refine mapTime_forms _ ?_ (fun _ => by with_unfolding_all rfl)
    | with_reducible refine pair_forms ‹_ = (_, _)› ?_ | with_reducible refine pair3_forms ‹_ = (_, _, _)› ?_
    | extract_lets | split

theorem placeEdge_forms (n : Nat) (now : Nat) (rst : Bool) (acc : Option Nat) {d : Dev} (h : d.Forms) :
    (placeEdge n now rst acc d).Forms := by
  unfold placeEdge
  repeat' first
    | with_reducible assumption | intro _ | with_reducible apply forEach_forms | with_reducible apply foldl_forms
    | with_reducible apply ite_forms | with_reducible refine mapTime_forms _ ?_ (fun _ => by with_unfolding_all rfl)
    | with_reducible apply Dev.set_forms

theorem takeSample_forms (r : Nat) (t : Nat) (v : Nat) (held : Bool) {d : Dev} (h : d.Forms) :
    (takeSample r t v held d).Forms := by
  unfold takeSample
  repeat' first
    | with_reducible assumption | intro _ | with_reducible apply forEach_forms | with_reducible apply foldl_forms
    | with_reducible apply ite_forms | with_reducible apply mapSlot_forms

theorem endPhase_forms (n : Nat) (now : Nat) {d : Dev} (h : d.Forms) : (endPhase n now d).Forms := by
  unfold endPhase
  repeat' first
    | with_reducible assumption | intro _ | with_reducible apply forEach_forms | with_reducible apply foldl_forms
    | with_reducible apply endRing_forms | with_reducible apply driveSafe_forms | with_reducible apply closeNow_forms

theorem clearRing_forms (m : Nat) {d : Dev} (h : d.Forms) :
    (clearRing m d).Forms := by
  unfold clearRing
  repeat' first
    | with_reducible assumption | intro _ | with_reducible apply forEach_forms | with_reducible apply foldl_forms
    | with_reducible apply ite_forms | with_reducible apply refillXSeats_forms
    | with_reducible apply refillSeats_forms | with_reducible apply clearWork_forms
    | with_reducible refine pair_forms ‹_ = (_, _)› ?_ | with_reducible refine pair3_forms ‹_ = (_, _, _)› ?_
    | extract_lets | split | exact Dev.Forms.of ‹_› rfl rfl rfl rfl

theorem releaseInputs_forms (now : Nat) (m : Nat) {d : Dev} (h : d.Forms) :
    (releaseInputs now m d).Forms := by
  unfold releaseInputs
  repeat' first
    | with_reducible assumption | intro _ | with_reducible apply forEach_forms | with_reducible apply foldl_forms
    | with_reducible apply ite_forms | with_reducible apply slotsRelease_forms
    | with_reducible apply releaseCells_forms | with_reducible apply releaseEdges_forms
    | with_reducible refine pair_forms ‹_ = (_, _)› ?_ | with_reducible refine pair3_forms ‹_ = (_, _, _)› ?_
    | extract_lets | split | exact Dev.Forms.of ‹_› rfl rfl rfl rfl

theorem releaseRing_forms (now : Nat) (a : Nat) (m : Nat) {d : Dev} (h : d.Forms) :
    (releaseRing now a m d).Forms := by
  unfold releaseRing
  repeat' first
    | with_reducible assumption | intro _ | with_reducible apply forEach_forms | with_reducible apply foldl_forms
    | with_reducible apply ite_forms | with_reducible apply forEach_forms
    | with_reducible apply releaseInputs_forms | with_reducible apply engStart_forms
    | with_reducible refine pair_forms ‹_ = (_, _)› ?_ | with_reducible refine pair3_forms ‹_ = (_, _, _)› ?_
    | extract_lets | split | exact Dev.Forms.of ‹_› rfl rfl rfl rfl

theorem startTick_forms (n : Nat) (now : Nat) (r : Nat) {d : Dev} (h : d.Forms) :
    (startTick n now r d).Forms := by
  unfold startTick
  repeat' first
    | with_reducible assumption | intro _ | with_reducible apply forEach_forms | with_reducible apply foldl_forms
    | with_reducible apply ite_forms | with_reducible apply forEach_forms | with_reducible apply Dev.set_forms
    | with_reducible apply mapRing_forms | with_reducible apply noteTick_forms
    | with_reducible apply setRState_forms | with_reducible apply clearRing_forms
    | with_reducible apply releaseRing_forms | with_reducible apply Dev.incWrap_forms
    | with_reducible refine pair_forms ‹_ = (_, _)› ?_ | with_reducible refine pair3_forms ‹_ = (_, _, _)› ?_
    | extract_lets | split | exact Dev.Forms.of ‹_› rfl rfl rfl rfl

theorem idleStart_forms (now : Nat) (r : Nat) {d : Dev} (h : d.Forms) :
    (idleStart now r d).Forms := by
  unfold idleStart
  repeat' first
    | with_reducible assumption | intro _ | with_reducible apply forEach_forms | with_reducible apply foldl_forms
    | with_reducible apply ite_forms | with_reducible apply forEach_forms | with_reducible apply clearWork_forms
    | with_reducible apply releaseInputs_forms | with_reducible refine pair_forms ‹_ = (_, _)› ?_
    | with_reducible refine pair3_forms ‹_ = (_, _, _)› ?_ | extract_lets | split
    | exact Dev.Forms.of ‹_› rfl rfl rfl rfl

theorem startRing_forms (n : Nat) (now : Nat) (r : Nat) {d : Dev} (h : d.Forms) :
    (startRing n now r d).Forms := by
  unfold startRing
  repeat' first
    | with_reducible assumption | intro _ | with_reducible apply forEach_forms | with_reducible apply foldl_forms
    | with_reducible apply ite_forms | with_reducible apply syncAt_forms | with_reducible apply startTick_forms
    | with_reducible apply performRestart_forms | with_reducible apply idleStart_forms
    | with_reducible refine pair_forms ‹_ = (_, _)› ?_ | with_reducible refine pair3_forms ‹_ = (_, _, _)› ?_
    | extract_lets | split | exact Dev.Forms.of ‹_› rfl rfl rfl rfl

theorem startPhase_forms (n : Nat) (now : Nat) {d : Dev} (h : d.Forms) : (startPhase n now d).Forms := by
  unfold startPhase
  repeat' first
    | with_reducible assumption | intro _ | with_reducible apply forEach_forms | with_reducible apply foldl_forms
    | with_reducible apply startRing_forms

theorem tickOuts_forms (n : Nat) {d : Dev} (h : d.Forms) : (tickOuts n d).Forms := by
  unfold tickOuts
  repeat' first
    | with_reducible assumption | intro _ | with_reducible apply forEach_forms | with_reducible apply foldl_forms
    | with_reducible apply Dev.emit_forms

theorem tickIrq_forms (n : Nat) {d : Dev} (h : d.Forms) : (tickIrq n d).Forms := by
  unfold tickIrq
  repeat' first
    | with_reducible assumption | with_reducible apply ite_forms | with_reducible apply Dev.raise_forms

theorem batchesSend_forms (n : Nat) {d : Dev} (h : d.Forms) : (batchesSend n d).Forms := by
  unfold batchesSend
  repeat' first
    | with_reducible assumption | intro _ | with_reducible apply forEach_forms | with_reducible apply foldl_forms
    | with_reducible apply batchSend_forms

theorem holdExpired_forms {d : Dev} (h : d.Forms) : (holdExpired d).Forms := by
  unfold holdExpired
  repeat' first
    | with_reducible assumption | with_reducible apply ite_forms | with_reducible apply Dev.withTg_forms
    | with_reducible apply Dev.set_forms

theorem closedTick_forms {d : Dev} (h : d.Forms) : (closedTick d).Forms := by
  unfold closedTick
  repeat' first
    | with_reducible assumption | with_reducible apply ite_forms | with_reducible apply holdExpired_forms
    | with_reducible apply Dev.set_forms

theorem boatResume_forms (s : Nat) {d : Dev} (h : d.Forms) :
    (boatResume s d).Forms := by
  unfold boatResume
  repeat' first
    | with_reducible assumption | intro _ | with_reducible apply forEach_forms | with_reducible apply foldl_forms
    | with_reducible apply ite_forms | with_reducible apply mapBoat_forms
    | with_reducible refine pair_forms ‹_ = (_, _)› ?_ | with_reducible refine pair3_forms ‹_ = (_, _, _)› ?_
    | extract_lets | split | exact Dev.Forms.of ‹_› rfl rfl rfl rfl

theorem boatRelease_forms (c : Nat) (s : Nat) {d : Dev} (h : d.Forms) :
    (boatRelease c s d).Forms := by
  unfold boatRelease
  repeat' first
    | with_reducible assumption | intro _ | with_reducible apply forEach_forms | with_reducible apply foldl_forms
    | with_reducible apply ite_forms | with_reducible apply boatResume_forms | with_reducible apply forEach_forms
    | with_reducible apply releaseStream_forms | with_reducible refine pair_forms ‹_ = (_, _)› ?_
    | with_reducible refine pair3_forms ‹_ = (_, _, _)› ?_ | extract_lets | split
    | exact Dev.Forms.of ‹_› rfl rfl rfl rfl

theorem lateDisarm_forms (r : Nat) {d : Dev} (h : d.Forms) :
    (lateDisarm r d).Forms := by
  unfold lateDisarm
  repeat' first
    | with_reducible assumption | intro _ | with_reducible apply forEach_forms | with_reducible apply foldl_forms
    | with_reducible apply ite_forms | with_reducible apply disarm_forms | with_reducible apply syncSched_forms
    | with_reducible apply haltGroup_forms | with_reducible refine pair_forms ‹_ = (_, _)› ?_
    | with_reducible refine pair3_forms ‹_ = (_, _, _)› ?_ | extract_lets | split
    | exact Dev.Forms.of ‹_› rfl rfl rfl rfl

theorem beforeEdge_forms  {d : Dev} (h : d.Forms) :
    (beforeEdge d).Forms := by
  unfold beforeEdge
  repeat' first
    | with_reducible assumption | intro _ | with_reducible apply forEach_forms | with_reducible apply foldl_forms
    | with_reducible apply ite_forms | with_reducible apply forEach_forms | with_reducible apply ringFault_forms
    | with_reducible apply deadline_forms | with_reducible apply lateDisarm_forms
    | with_reducible refine pair_forms ‹_ = (_, _)› ?_ | with_reducible refine pair3_forms ‹_ = (_, _, _)› ?_
    | extract_lets | split | exact Dev.Forms.of ‹_› rfl rfl rfl rfl

theorem tickEdge_forms (ins : List (Nat × Nat × Nat × Bool)) {d : Dev} (h : d.Forms) : (tickEdge ins d).Forms := by
  unfold tickEdge
  repeat' first
    | with_reducible assumption | intro _ | with_reducible apply forEach_forms | with_reducible apply foldl_forms
    | with_reducible apply ite_forms | with_reducible apply beforeEdge_forms | with_reducible apply takeCount_forms
    | with_reducible apply Dev.advance_forms | with_reducible apply periodEdge_forms
    | with_reducible apply afterCount_forms | with_reducible apply placeEdge_forms
    | with_reducible apply takeSample_forms | with_reducible apply endPhase_forms
    | with_reducible apply closedTick_forms | with_reducible apply budgetDisarm_forms
    | with_reducible apply recomputeCeil_forms | with_reducible apply startPhase_forms
    | with_reducible refine mapTime_forms _ ?_ (fun _ => by with_unfolding_all rfl)
    | with_reducible apply tickOuts_forms | with_reducible apply tickIrq_forms | with_reducible apply mapIcl_forms
    | with_reducible apply batchesSend_forms | with_reducible apply markerSend_forms
    | with_reducible apply boatRelease_forms | with_reducible refine pair_forms ‹_ = (_, _)› ?_
    | with_reducible refine pair3_forms ‹_ = (_, _, _)› ?_ | extract_lets | split | exact nextCount_lt _

theorem tgBbr_forms (event : Nat) (fatal : Bool) {d : Dev} (h : d.Forms) : (tgBbr event fatal d).Forms := by
  unfold tgBbr
  repeat' first
    | with_reducible assumption | with_reducible apply Dev.bbr_forms

theorem eolEnter_forms (mv : Nat) {d : Dev} (h : d.Forms) : (eolEnter mv d).Forms := by
  unfold eolEnter
  repeat' first
    | with_reducible assumption | with_reducible apply tgBbr_forms | with_reducible apply Dev.raise_forms
    | with_reducible apply Dev.withTg_forms | with_reducible apply Dev.set_forms

theorem shed_forms (rs : List Nat) {d : Dev} (h : d.Forms) : (shed rs d).Forms := by
  unfold shed
  repeat' first
    | with_reducible assumption | intro _ | with_reducible apply forEach_forms | with_reducible apply foldl_forms
    | with_reducible apply disarm_forms

theorem thermal_forms {d : Dev} (h : d.Forms) : (thermal d).Forms := by
  unfold thermal
  repeat' first
    | with_reducible assumption | intro _ | with_reducible apply forEach_forms | with_reducible apply foldl_forms
    | with_reducible apply ite_forms | with_reducible apply Dev.withTg_forms | with_reducible apply Dev.raise_forms
    | with_reducible apply shed_forms | with_reducible apply tgBbr_forms | with_reducible apply command_forms
    | with_reducible apply Dev.set_forms

theorem ratios_forms {d : Dev} (h : d.Forms) : (ratios d).Forms := by
  unfold ratios
  repeat' first
    | with_reducible assumption | with_reducible apply ite_forms | with_reducible apply Dev.set_forms | extract_lets
    | split

theorem sensorRead_forms (vcore : Nat) (temps : List (Option Int)) (mons : List (Option Nat)) {d : Dev} (h : d.Forms) :
    (sensorRead vcore temps mons d).Forms := by
  unfold sensorRead
  repeat' first
    | with_reducible assumption | intro _ | with_reducible apply forEach_forms | with_reducible apply foldl_forms
    | with_reducible apply ite_forms | with_reducible apply Dev.raise_forms | with_reducible apply Dev.set_forms
    | with_reducible apply Dev.withTg_forms | with_reducible apply noteTicks_forms | with_reducible apply ratios_forms
    | with_reducible apply eolEnter_forms | with_reducible apply thermal_forms | extract_lets | split

theorem lowerTo_forms (mv : Nat) (c : Nat) {d : Dev} (h : d.Forms) :
    (lowerTo mv c d).Forms := by
  unfold lowerTo
  repeat' first
    | with_reducible assumption | intro _ | with_reducible apply forEach_forms | with_reducible apply foldl_forms
    | with_reducible apply ite_forms | with_reducible apply command_forms
    | with_reducible refine pair_forms ‹_ = (_, _)› ?_ | with_reducible refine pair3_forms ‹_ = (_, _, _)› ?_
    | extract_lets | split | exact Dev.Forms.of ‹_› rfl rfl rfl rfl

theorem stepDown_forms (c : Nat) {d : Dev} (h : d.Forms) :
    (stepDown c d).Forms := by
  unfold stepDown
  repeat' first
    | with_reducible assumption | intro _ | with_reducible apply forEach_forms | with_reducible apply foldl_forms
    | with_reducible apply ite_forms | with_reducible apply lowerTo_forms
    | with_reducible refine pair_forms ‹_ = (_, _)› ?_ | with_reducible refine pair3_forms ‹_ = (_, _, _)› ?_
    | extract_lets | split | exact Dev.Forms.of ‹_› rfl rfl rfl rfl

theorem trackStep_forms (c : Nat) {d : Dev} (h : d.Forms) : (trackStep c d).Forms := by
  unfold trackStep
  repeat' first
    | with_reducible assumption | with_reducible apply ite_forms | with_reducible apply Dev.set_forms
    | with_reducible apply command_forms | with_reducible apply stepDown_forms | extract_lets | split

theorem nextFrame_forms {d : Dev} (h : d.Forms) : (nextFrame d).Forms := by
  unfold nextFrame
  repeat' first
    | with_reducible assumption | with_reducible apply Dev.withTg_forms

theorem frameOk_forms {d : Dev} (h : d.Forms) : (frameOk d).Forms := by
  unfold frameOk
  repeat' first
    | with_reducible assumption | with_reducible apply Dev.withTg_forms | with_reducible apply Dev.clear_forms

theorem commitDone_forms {d : Dev} (h : d.Forms) : (commitDone d).Forms := by
  unfold commitDone
  repeat' first
    | with_reducible assumption | intro _ | with_reducible apply forEach_forms | with_reducible apply foldl_forms
    | with_reducible apply ite_forms | with_reducible apply trimEnd_forms | with_reducible apply Dev.incSat_forms
    | with_reducible apply Dev.set_forms | with_reducible apply mapTrim_forms

theorem streamStage_forms (r : Nat) (t : Nat) {d : Dev} (h : d.Forms) : (streamStage r t d).Forms := by
  unfold streamStage
  repeat' first
    | with_reducible assumption | with_reducible apply ite_forms | with_reducible apply takeWide_forms
    | with_reducible apply setSlot_forms | with_reducible apply Dev.raise_forms
    | with_reducible apply Dev.incSat_forms | extract_lets | split

theorem streamWrite_forms (r : Nat) (t : Nat) (w : Token) {d : Dev} (h : d.Forms) : (streamWrite r t w d).Forms := by
  unfold streamWrite
  repeat' first
    | with_reducible assumption | with_reducible apply ite_forms | with_reducible apply Dev.answer_forms
    | with_reducible apply streamPut_forms

theorem pulseToken_forms (r : Nat) (l : Nat) {d : Dev} (h : d.Forms) : (pulseToken r l d).Forms := by
  unfold pulseToken
  repeat' first
    | with_reducible assumption | intro _ | with_reducible apply forEach_forms | with_reducible apply foldl_forms
    | with_reducible apply ite_forms | with_reducible apply Dev.mapFab_forms | with_reducible apply setLane_forms
    | with_reducible apply pulseLost_forms | extract_lets | split

theorem pulseSend_forms (r : Nat) (l : Nat) {d : Dev} (h : d.Forms) : (pulseSend r l d).Forms := by
  unfold pulseSend
  repeat' first
    | with_reducible assumption | with_reducible apply ite_forms | with_reducible apply Dev.incSat_forms
    | with_reducible apply setLane_forms | with_reducible apply pulseLost_forms

theorem pulseDeliver_forms (r : Nat) (t : Nat) (l : Nat) {d : Dev} (h : d.Forms) : (pulseDeliver r t l d).Forms := by
  unfold pulseDeliver
  repeat' first
    | with_reducible assumption | with_reducible apply ite_forms | with_reducible apply Dev.emit_forms
    | with_reducible apply setLane_forms | with_reducible apply pulseLost_forms

theorem pulseAck_forms (r : Nat) (t : Nat) (l : Nat) (pulse : Bool) {d : Dev} (h : d.Forms) :
    (pulseAck r t l pulse d).Forms := by
  unfold pulseAck
  repeat' first
    | with_reducible assumption | with_reducible apply ite_forms | with_reducible apply setLane_forms

theorem seatPart_forms (src : Nat) (x : XPart) {d : Dev} (h : d.Forms) : (seatPart src x d).2.Forms := by
  unfold seatPart
  repeat' first
    | with_reducible assumption | with_reducible apply Dev.addSat_forms | extract_lets
    | exact Dev.Forms.of h rfl rfl rfl rfl

theorem seatParts_forms (src : Nat) (xs : List XPart) {d : Dev} (h : d.Forms) : (seatParts src xs d).2.Forms := by
  induction xs generalizing d with
  | nil => exact h
  | cons x xs ih =>
    have h1 := seatPart_forms src x h
    unfold seatParts
    generalize seatPart src x d = s at h1
    obtain ⟨y, d1⟩ := s
    exact ih h1

theorem stopWaiting_forms (r : Nat) (t : Nat) {d : Dev} (h : d.Forms) : (stopWaiting r t d).Forms := by
  unfold stopWaiting
  repeat' first
    | with_reducible assumption | intro _ | with_reducible apply forEach_forms | with_reducible apply foldl_forms
    | with_reducible apply mapSlot_forms | with_reducible apply slotAnswer_forms

theorem sideReset_forms (r : Nat) (t : Nat) {d : Dev} (h : d.Forms) : (sideReset r t d).Forms := by
  unfold sideReset
  repeat' first
    | with_reducible assumption | with_reducible apply ite_forms | with_reducible apply Dev.set_forms
    | with_reducible apply enterResync_forms

theorem slotStop_forms (r : Nat) (t : Nat) {d : Dev} (h : d.Forms) : (slotStop r t d).Forms := by
  unfold slotStop
  repeat' first
    | with_reducible assumption | intro _ | with_reducible apply forEach_forms | with_reducible apply foldl_forms
    | with_reducible apply ite_forms | with_reducible apply Dev.raise_forms | with_reducible apply Dev.set_forms
    | with_reducible apply Dev.bbr_forms | with_reducible apply mapSlot_forms | with_reducible apply sawExternal_forms
    | with_reducible apply stopWaiting_forms | with_reducible apply stopCrossed_forms

theorem innerResume_forms (x : Nat) {d : Dev} (h : d.Forms) : (innerResume x d).Forms := by
  unfold innerResume
  repeat' first
    | with_reducible assumption | exact Dev.Forms.of h rfl rfl rfl rfl

theorem writeResume_forms {d : Dev} (h : d.Forms) : (writeResume d).Forms := by
  unfold writeResume
  repeat' first
    | with_reducible assumption | intro _ | with_reducible apply forEach_forms | with_reducible apply foldl_forms
    | with_reducible apply ite_forms | with_reducible apply partGo_forms | with_reducible apply Dev.raise_forms
    | with_reducible apply finishDone_forms | extract_lets | split

theorem clearCredits_forms (n : Nat) {d : Dev} (h : d.Forms) : (clearCredits n d).Forms := by
  unfold clearCredits
  repeat' first
    | with_reducible assumption | intro _ | with_reducible apply forEach_forms | with_reducible apply foldl_forms
    | exact Dev.Forms.of h rfl rfl rfl rfl

theorem xmcHost_forms (n : Nat) (f : Dev → Dev) {d : Dev} (hf : ∀ e : Dev, e.Forms → (f e).Forms) (h : d.Forms) :
    (xmcHost n f d).Forms := by
  unfold xmcHost
  repeat' first
    | with_reducible assumption | with_reducible apply hf | with_reducible apply ite_forms
    | with_reducible apply Dev.answer_forms

theorem storeDelays_forms (n : Nat) (dly : List (BitVec 8 × BitVec 8)) {d : Dev} (h : d.Forms) :
    (storeDelays n dly d).Forms := by
  unfold storeDelays
  repeat' first
    | with_reducible assumption | intro _ | with_reducible apply forEach_forms | with_reducible apply foldl_forms
    | with_reducible apply Dev.set_forms

theorem enterQueue_length (e : BbrEvent) (xs : List BbrEvent) : (enterQueue e xs).length = xs.length + 1 := by
  induction xs with
  | nil => rfl
  | cons x xs ih => unfold enterQueue; split <;> simp [ih]

theorem tokenBatchRx_forms (q : Nat) (fb : Bool) {d : Dev} (h : d.Forms) :
    (tokenBatchRx q fb d).Forms := by
  unfold tokenBatchRx
  repeat' first
    | with_reducible assumption | intro _ | with_reducible apply forEach_forms | with_reducible apply foldl_forms
    | with_reducible apply ite_forms | with_reducible apply takeInbox_forms | with_reducible apply Dev.incSat_forms
    | with_reducible apply mapIcl_forms | with_reducible apply batchWrite_forms
    | with_reducible apply unwrite_forms | with_reducible refine pair_forms ‹_ = (_, _)› ?_
    | with_reducible refine pair3_forms ‹_ = (_, _, _)› ?_ | extract_lets | split
    | exact Dev.Forms.of ‹_› rfl rfl rfl rfl

theorem migComplete_forms (f : Nat) {d : Dev} (h : d.Forms) :
    (migComplete f d).Forms := by
  unfold migComplete
  repeat' first
    | with_reducible assumption | intro _ | with_reducible apply forEach_forms | with_reducible apply foldl_forms
    | with_reducible apply ite_forms | with_reducible apply Dev.set_forms | with_reducible apply retireSlot_forms
    | with_reducible apply Dev.withCx_forms | with_reducible apply Dev.raise_forms
    | with_reducible refine pair_forms ‹_ = (_, _)› ?_ | with_reducible refine pair3_forms ‹_ = (_, _, _)› ?_
    | extract_lets | split | exact Dev.Forms.of ‹_› rfl rfl rfl rfl

theorem pageLine_forms {d : Dev} (h : d.Forms) : (pageLine d).Forms := by
  unfold pageLine
  extract_lets src d'
  have h' : d'.Forms := Dev.withCx_forms _ h
  clear_value d'
  refine ite_forms h ?_
  split
  · rename_i p _
    have hc := csRead_forms p h'
    generalize csRead p d' = s at hc
    obtain ⟨lost, e, d1⟩ := s
    dsimp only
    split
    · exact opEnd_forms hc
    · rename_i f _
      refine ite_forms (opEnd_forms hc) (ite_forms hc ?_)
      generalize writeKey d1 f _ _ _ = kt
      obtain ⟨k, tag⟩ := kt
      dsimp only
      split
      · exact hc
      · rename_i d2 hr
        have hd := lineDone_forms p e.linePtr e (rewriteLine_forms _ _ _ _ _ _ hc hr)
        generalize lineDone p e.linePtr e d2 = s at hd
        obtain ⟨last, d3⟩ := s
        exact ite_forms (opEnd_forms hd) hd
  · rename_i f p _
    have hc := csRead_forms p h'
    generalize csRead p d' = s at hc
    obtain ⟨lost, e0, d0⟩ := s
    dsimp only
    have hx : (if lost = true then
        (({ poison := true, reenc := true, migr := true } : CsEntry),
          (setCs p { poison := true, reenc := true, migr := true } d0).set (CF_MIG_POINTER f) (64 * pageIndex d' f p))
        else (e0, d0)).2.Forms := by
      split
      · exact Dev.set_forms _ _ (setCs_forms _ _ hc)
      · exact hc
    generalize (if lost = true then
        (({ poison := true, reenc := true, migr := true } : CsEntry),
          (setCs p { poison := true, reenc := true, migr := true } d0).set (CF_MIG_POINTER f) (64 * pageIndex d' f p))
        else (e0, d0)) = s at hx
    obtain ⟨e, d1⟩ := s
    dsimp only
    refine ite_forms hx ?_
    split
    · exact hx
    · rename_i d2 hr
      have h2 : d2.Forms := by
        split at hr
        · split at hr
          · injection hr with hr; subst hr; exact lineWrite_forms _ _ _ hx
          · cases hr
        · exact rewriteLine_forms _ _ _ _ _ _ hx hr
      have hd := lineDone_forms p e.linePtr e h2
      generalize lineDone p e.linePtr e d2 = s at hd
      obtain ⟨last, d3⟩ := s
      exact ite_forms (opEnd_forms (migComplete_forms _ (Dev.set_forms _ _ hd))) (Dev.set_forms _ _ hd)
  · exact h'

theorem settlePorts_forms (r : Nat) (t : Nat) {d : Dev} (h : d.Forms) :
    (settlePorts r t d).Forms := by
  unfold settlePorts
  repeat' first
    | with_reducible assumption | intro _ | with_reducible apply forEach_forms | with_reducible apply foldl_forms
    | with_reducible apply ite_forms | with_reducible apply drainPort_forms
    | with_reducible refine pair_forms ‹_ = (_, _)› ?_ | with_reducible refine pair3_forms ‹_ = (_, _, _)› ?_
    | extract_lets | split | exact Dev.Forms.of ‹_› rfl rfl rfl rfl

theorem xsResponse_forms (e : Nat) {d : Dev} (h : d.Forms) : (xsResponse e d).Forms := by
  unfold xsResponse
  extract_lets r d'
  have h' : d'.Forms := settlePorts_forms _ _ h
  clear_value d'
  split
  · exact h'
  · extract_lets d1
    have h1 : d1.Forms := Dev.Forms.of h' rfl rfl rfl rfl
    clear_value d1
    split
    · exact setTag_forms _ _ _ (mapEng_forms _ _ (answered_forms _ (noteAnswer_forms _ _
        (ite_forms (engPuts_forms _ _ _ h1) h1))))
    · exact h1

theorem lookupStop_forms (c : Resp) (f : Nat) (g : Nat) (n : Nat) (raised : List Nat) {d : Dev} (h : d.Forms) :
    (lookupStop c f g n raised d).2.2.Forms := by
  unfold lookupStop
  repeat' first
    | with_reducible assumption | intro _ | with_reducible apply forEach_forms | with_reducible apply foldl_forms
    | with_reducible apply ite_forms | with_reducible apply raiseOnce_forms
    | with_reducible refine pair_forms ‹_ = (_, _)› ?_ | with_reducible refine pair3_forms ‹_ = (_, _, _)› ?_
    | extract_lets | split | exact Dev.Forms.of ‹_› rfl rfl rfl rfl

theorem hostPart_forms (write : Bool) (g : Nat) (n : Nat) (raised : List Nat) {d : Dev} (h : d.Forms) :
    (hostPart write g n raised d).2.2.Forms := by
  unfold hostPart
  repeat' first
    | with_reducible assumption | intro _ | with_reducible apply forEach_forms | with_reducible apply foldl_forms
    | with_reducible apply ite_forms | with_reducible apply lookupStop_forms
    | with_reducible refine pair_forms ‹_ = (_, _)› ?_ | with_reducible refine pair3_forms ‹_ = (_, _, _)› ?_
    | extract_lets | split | exact Dev.Forms.of ‹_› rfl rfl rfl rfl

theorem hostParts_forms (write : Bool) (k g n : Nat) (raised : List Nat) {d : Dev} (h : d.Forms) :
    (hostParts write k g n raised d).2.2.Forms := by
  induction k generalizing g n raised d with
  | zero => exact h
  | succ k ih =>
    unfold hostParts
    split
    · exact h
    · have hp := hostPart_forms write g (hostUnit d g n) raised h
      dsimp only
      generalize hostUnit d g n = len at hp
      generalize hostPart write g len raised d = s at hp
      obtain ⟨x, rs, d1⟩ := s
      exact ih _ _ _ hp

theorem xHost_forms (who : XWho) (g : Nat) (n : Nat) (data : Option (List Byte)) {d : Dev} (h : d.Forms) :
    (xHost who g n data d).Forms := by
  unfold xHost
  have hp := hostParts_forms data.isSome n g n [] h
  generalize hostParts data.isSome n g n [] d = s at hp
  obtain ⟨parts, rs, d1⟩ := s
  exact finishDone_forms (Dev.Forms.of hp rfl rfl rfl rfl)

theorem bar4_forms (g : Nat) (n : Nat) (fbe : Nat) (lbe : Nat) (reqId : Nat) (data : Option (List Word)) {d : Dev} (h : d.Forms) :
    (bar4 g n fbe lbe reqId data d).Forms := by
  unfold bar4
  repeat' first
    | with_reducible assumption | intro _ | with_reducible apply forEach_forms | with_reducible apply foldl_forms
    | with_reducible apply ite_forms | with_reducible apply xHost_forms | with_reducible apply hostEnd_forms
    | with_reducible refine pair_forms ‹_ = (_, _)› ?_ | with_reducible refine pair3_forms ‹_ = (_, _, _)› ?_
    | extract_lets | split | exact Dev.Forms.of ‹_› rfl rfl rfl rfl

theorem dmaDevice_forms (space : Nat) (a : Nat) (n : Nat) (data : Option (List Byte)) {d : Dev} (h : d.Forms) :
    (dmaDevice space a n data d).2.Forms := by
  unfold dmaDevice
  repeat' first
    | with_reducible assumption | intro _ | with_reducible apply forEach_forms | with_reducible apply foldl_forms
    | with_reducible apply ite_forms | with_reducible apply bar2Access_forms | with_reducible apply xHost_forms
    | with_reducible apply mapHost_forms | with_reducible apply windowWrites_forms
    | with_reducible refine pair_forms ‹_ = (_, _)› ?_ | with_reducible refine pair3_forms ‹_ = (_, _, _)› ?_
    | extract_lets | split | exact Dev.Forms.of ‹_› rfl rfl rfl rfl

theorem dmaMoved_forms (n : Nat) (x : DmaDesc) (c : Resp) (bs : List Byte) {d : Dev} (h : d.Forms) :
    (dmaMoved n x c bs d).Forms := by
  unfold dmaMoved
  repeat' first
    | with_reducible assumption | intro _ | with_reducible apply forEach_forms | with_reducible apply foldl_forms
    | with_reducible apply ite_forms | with_reducible apply dmaFail_forms | with_reducible apply dmaNext_forms
    | with_reducible apply hostWrites_forms | with_reducible refine pair_forms ‹_ = (_, _)› ?_
    | with_reducible refine pair3_forms ‹_ = (_, _, _)› ?_ | extract_lets | split
    | exact Dev.Forms.of ‹_› rfl rfl rfl rfl

theorem dmaSend_forms (n : Nat) (x : DmaDesc) (data : Option (List Byte)) {d : Dev} (h : d.Forms) :
    (dmaSend n x data d).Forms := by
  unfold dmaSend
  repeat' first
    | with_reducible assumption | intro _ | with_reducible apply forEach_forms | with_reducible apply foldl_forms
    | with_reducible apply ite_forms | with_reducible apply dmaDevice_forms | with_reducible apply dmaMoved_forms
    | with_reducible apply mapHost_forms | with_reducible refine pair_forms ‹_ = (_, _)› ?_
    | with_reducible refine pair3_forms ‹_ = (_, _, _)› ?_ | extract_lets | split
    | exact Dev.Forms.of ‹_› rfl rfl rfl rfl

theorem dmaPiece_forms (n : Nat) (res : Nat) (data : List Byte) {d : Dev} (h : d.Forms) :
    (dmaPiece n res data d).Forms := by
  unfold dmaPiece
  repeat' first
    | with_reducible assumption | intro _ | with_reducible apply forEach_forms | with_reducible apply foldl_forms
    | with_reducible apply ite_forms | with_reducible apply dmaMoved_forms | with_reducible apply mapHost_forms
    | with_reducible apply dmaSend_forms | with_reducible apply dmaFail_forms
    | with_reducible refine pair_forms ‹_ = (_, _)› ?_ | with_reducible refine pair3_forms ‹_ = (_, _, _)› ?_
    | extract_lets | split | exact Dev.Forms.of ‹_› rfl rfl rfl rfl

theorem poolSweep_forms {d : Dev} (h : d.Forms) : (poolSweep d).Forms := by
  unfold poolSweep
  extract_lets pos a d1 b us d2 c
  have h1 : d1.Forms := by
    show (match sget none d.qm.pool pos with | some c => _ | none => d : Dev).Forms
    split
    · extract_lets d0
      have h0 : d0.Forms := by
        simp only [d0]
        split
        · exact h
        · exact poolCe_forms (Dev.Forms.of h rfl rfl rfl rfl)
        · exact poolUe_forms h
      clear_value d0
      exact ite_forms (Dev.incSat_forms _ (freeCells_forms _ h0)) h0
    · exact h
  clear_value d1 us
  have h2 : d2.Forms := Dev.set_forms _ _ (Dev.incWrap_forms _ h1)
  clear_value d2
  exact ite_forms (Dev.Forms.of h1 rfl rfl rfl rfl) (Dev.Forms.of h2 rfl rfl rfl rfl)

theorem prognFall_forms  {d : Dev} (h : d.Forms) :
    (prognFall d).Forms := by
  unfold prognFall
  repeat' first
    | with_reducible assumption | intro _ | with_reducible apply forEach_forms | with_reducible apply foldl_forms
    | with_reducible apply ite_forms | with_reducible apply loadStops_forms | with_reducible apply bistCut_forms
    | with_reducible apply clearBad_forms | with_reducible apply carStop_forms
    | with_reducible apply slotsReset_forms | with_reducible apply haltAll_forms
    | with_reducible apply endMembership_forms | with_reducible apply masterReset_forms
    | with_reducible apply mapCfg_forms | with_reducible apply forEach_forms | with_reducible apply Dev.set_forms
    | with_reducible refine pair_forms ‹_ = (_, _)› ?_ | with_reducible refine pair3_forms ‹_ = (_, _, _)› ?_
    | extract_lets | split | exact Dev.Forms.of ‹_› rfl rfl rfl rfl

theorem warmEnd_forms (casc : Nat) (master : Bool) {d : Dev} (h : d.Forms) :
    (warmEnd casc master d).Forms := by
  unfold warmEnd
  repeat' first
    | with_reducible assumption | intro _ | with_reducible apply forEach_forms | with_reducible apply foldl_forms
    | with_reducible apply ite_forms | with_reducible apply slotsReturn_forms | with_reducible apply mapCfg_forms
    | with_reducible apply sampleStraps_forms | with_reducible apply setDisc_forms
    | with_reducible apply Dev.set_forms | with_reducible apply autoRun_forms | with_reducible apply trainAll_forms
    | with_reducible apply clearConfig_forms | with_reducible apply replay_forms
    | with_reducible apply Dev.bbr_forms | with_reducible refine pair_forms ‹_ = (_, _)› ?_
    | with_reducible refine pair3_forms ‹_ = (_, _, _)› ?_ | extract_lets | split
    | exact Dev.Forms.of ‹_› rfl rfl rfl rfl

theorem eolStep_forms (c : Nat) {d : Dev} (h : d.Forms) :
    (eolStep c d).Forms := by
  unfold eolStep
  repeat' first
    | with_reducible assumption | intro _ | with_reducible apply forEach_forms | with_reducible apply foldl_forms
    | with_reducible apply ite_forms | with_reducible apply Dev.raise_forms | with_reducible apply trackStep_forms
    | with_reducible apply Dev.withTg_forms | with_reducible apply command_forms
    | with_reducible refine pair_forms ‹_ = (_, _)› ?_ | with_reducible refine pair3_forms ‹_ = (_, _, _)› ?_
    | extract_lets | split | exact Dev.Forms.of ‹_› rfl rfl rfl rfl

theorem showSlack_forms  {d : Dev} (h : d.Forms) :
    (showSlack d).Forms := by
  unfold showSlack
  repeat' first
    | with_reducible assumption | intro _ | with_reducible apply forEach_forms | with_reducible apply foldl_forms
    | with_reducible apply ite_forms | with_reducible apply Dev.set_forms
    | with_reducible refine pair_forms ‹_ = (_, _)› ?_ | with_reducible refine pair3_forms ‹_ = (_, _, _)› ?_
    | extract_lets | split | exact Dev.Forms.of ‹_› rfl rfl rfl rfl

theorem decision_forms  {d : Dev} (h : d.Forms) :
    (decision d).Forms := by
  unfold decision
  repeat' first
    | with_reducible assumption | intro _ | with_reducible apply forEach_forms | with_reducible apply foldl_forms
    | with_reducible apply ite_forms | with_reducible apply trackStep_forms | with_reducible apply showSlack_forms
    | with_reducible apply eolStep_forms | with_reducible apply Dev.withTg_forms
    | with_reducible refine pair_forms ‹_ = (_, _)› ?_ | with_reducible refine pair3_forms ‹_ = (_, _, _)› ?_
    | extract_lets | split | exact Dev.Forms.of ‹_› rfl rfl rfl rfl

theorem avsFault_forms  {d : Dev} (h : d.Forms) :
    (avsFault d).Forms := by
  unfold avsFault
  repeat' first
    | with_reducible assumption | intro _ | with_reducible apply forEach_forms | with_reducible apply foldl_forms
    | with_reducible apply ite_forms | with_reducible apply tgBbr_forms | with_reducible apply Dev.raise_forms
    | with_reducible refine pair_forms ‹_ = (_, _)› ?_ | with_reducible refine pair3_forms ‹_ = (_, _, _)› ?_
    | extract_lets | split | exact Dev.Forms.of ‹_› rfl rfl rfl rfl

theorem regFault_forms  {d : Dev} (h : d.Forms) :
    (regFault d).Forms := by
  unfold regFault
  repeat' first
    | with_reducible assumption | intro _ | with_reducible apply forEach_forms | with_reducible apply foldl_forms
    | with_reducible apply ite_forms | with_reducible apply avsFault_forms | with_reducible apply nextFrame_forms
    | with_reducible apply Dev.withTg_forms | with_reducible refine pair_forms ‹_ = (_, _)› ?_
    | with_reducible refine pair3_forms ‹_ = (_, _, _)› ?_ | extract_lets | split
    | exact Dev.Forms.of ‹_› rfl rfl rfl rfl

theorem leaveOff_forms  {d : Dev} (h : d.Forms) :
    (leaveOff d).Forms := by
  unfold leaveOff
  repeat' first
    | with_reducible assumption | intro _ | with_reducible apply forEach_forms | with_reducible apply foldl_forms
    | with_reducible apply ite_forms | with_reducible apply Dev.set_forms | with_reducible apply command_forms
    | with_reducible apply enterForced_forms | with_reducible refine pair_forms ‹_ = (_, _)› ?_
    | with_reducible refine pair3_forms ‹_ = (_, _, _)› ?_ | extract_lets | split
    | exact Dev.Forms.of ‹_› rfl rfl rfl rfl

theorem frameFail_forms (n : Nat) (again : TgSt → TgSt) {d : Dev} (h : d.Forms) :
    (frameFail n again d).Forms := by
  unfold frameFail
  repeat' first
    | with_reducible assumption | intro _ | with_reducible apply forEach_forms | with_reducible apply foldl_forms
    | with_reducible apply ite_forms | with_reducible apply Dev.incSat_forms | with_reducible apply regFault_forms
    | with_reducible apply nextFrame_forms | with_reducible apply Dev.withTg_forms
    | with_reducible refine pair_forms ‹_ = (_, _)› ?_ | with_reducible refine pair3_forms ‹_ = (_, _, _)› ?_
    | extract_lets | split | exact Dev.Forms.of ‹_› rfl rfl rfl rfl

theorem avsFrameDone_forms (crcOk : Bool) (errFlag : Bool) (value : Nat) {d : Dev} (h : d.Forms) :
    (avsFrameDone crcOk errFlag value d).Forms := by
  unfold avsFrameDone
  repeat' first
    | with_reducible assumption | intro _ | with_reducible apply forEach_forms | with_reducible apply foldl_forms
    | with_reducible apply ite_forms | with_reducible apply Dev.emit_forms | with_reducible apply frameFail_forms
    | with_reducible apply nextFrame_forms | with_reducible apply frameOk_forms
    | with_reducible apply Dev.set_forms | with_reducible apply leaveOff_forms
    | with_reducible apply Dev.withTg_forms | with_reducible refine pair_forms ‹_ = (_, _)› ?_
    | with_reducible refine pair3_forms ‹_ = (_, _, _)› ?_ | extract_lets | split
    | exact Dev.Forms.of ‹_› rfl rfl rfl rfl

theorem avsLinkStart_forms (ends : List (Bool × Bool)) {d : Dev} (h : d.Forms) :
    (avsLinkStart ends d).Forms := by
  unfold avsLinkStart
  repeat' first
    | with_reducible assumption | intro _ | with_reducible apply forEach_forms | with_reducible apply foldl_forms
    | with_reducible apply ite_forms | with_reducible apply Dev.withTg_forms | with_reducible apply forEach_forms
    | with_reducible apply avsFrameDone_forms | with_reducible refine pair_forms ‹_ = (_, _)› ?_
    | with_reducible refine pair3_forms ‹_ = (_, _, _)› ?_ | extract_lets | split
    | exact Dev.Forms.of ‹_› rfl rfl rfl rfl

theorem ageTest_forms  {d : Dev} (h : d.Forms) :
    (ageTest d).Forms := by
  unfold ageTest
  repeat' first
    | with_reducible assumption | intro _ | with_reducible apply forEach_forms | with_reducible apply foldl_forms
    | with_reducible apply ite_forms | with_reducible apply Dev.advance_forms | with_reducible apply eolEnter_forms
    | with_reducible apply Dev.set_forms | with_reducible apply lowerTo_forms
    | with_reducible apply Dev.withTg_forms | with_reducible refine pair_forms ‹_ = (_, _)› ?_
    | with_reducible refine pair3_forms ‹_ = (_, _, _)› ?_ | extract_lets | split
    | exact Dev.Forms.of ‹_› rfl rfl rfl rfl

theorem xEnter_forms (who : XWho) (r : Nat) (t : Nat) (f : Nat) (off : Nat) (words : Nat) (seat : Bool) (data : Option
    (List Byte)) {d : Dev} (h : d.Forms) :
    (xEnter who r t f off words seat data d).Forms := by
  unfold xEnter
  extract_lets g n q zeros perm addr c c2 parts
  refine ite_forms (xAnswer_forms _ _ _ _ (ite_forms (Dev.incSat_forms _ h) h)) (ite_forms ?_ (ite_forms
    (xAnswer_forms _ _ _ _ h) ?_))
  · exact xAnswer_forms _ _ _ _ (lookupStop_forms _ _ _ _ _ h)
  · have hs : (if seat = true then seatParts q.src parts d else (parts, d)).2.Forms := by
      split
      · exact seatParts_forms _ _ h
      · exact h
    clear_value q parts
    generalize (if seat = true then seatParts q.src parts d else (parts, d)) = s at hs ⊢
    obtain ⟨ps, d1⟩ := s
    exact Dev.Forms.of hs rfl rfl rfl rfl

theorem arrive_forms (r : Nat) (t : Nat) (q : SlotReq) {d : Dev} (h : d.Forms) :
    (arrive r t q d).Forms := by
  unfold arrive
  repeat' first
    | with_reducible assumption | intro _ | with_reducible apply forEach_forms | with_reducible apply foldl_forms
    | with_reducible apply ite_forms | with_reducible apply respond_forms | with_reducible apply putWork_forms
    | with_reducible refine pair_forms ‹_ = (_, _)› ?_ | with_reducible refine pair3_forms ‹_ = (_, _, _)› ?_
    | extract_lets | split | exact Dev.Forms.of ‹_› rfl rfl rfl rfl

theorem carryOut_forms (r : Nat) (t : Nat) (busy : Bool) (q : SlotReq) {d : Dev} (h : d.Forms) :
    (carryOut r t busy q d).Forms := by
  unfold carryOut
  repeat' first
    | with_reducible assumption | intro _ | with_reducible apply forEach_forms | with_reducible apply foldl_forms
    | with_reducible apply ite_forms | with_reducible apply xEnter_forms | with_reducible apply arrive_forms
    | with_reducible apply drainPort_forms | with_reducible refine pair_forms ‹_ = (_, _)› ?_
    | with_reducible refine pair3_forms ‹_ = (_, _, _)› ?_ | extract_lets | split
    | exact Dev.Forms.of ‹_› rfl rfl rfl rfl

theorem slotRequest_forms (r : Nat) (t : Nat) (busy : Bool) (q : SlotReq) {d : Dev} (h : d.Forms) :
    (slotRequest r t busy q d).Forms := by
  unfold slotRequest
  repeat' first
    | with_reducible assumption | intro _ | with_reducible apply forEach_forms | with_reducible apply foldl_forms
    | with_reducible apply ite_forms | with_reducible apply slotAnswer_forms
    | with_reducible apply sawExternal_forms | with_reducible apply carryOut_forms
    | with_reducible refine pair_forms ‹_ = (_, _)› ?_ | with_reducible refine pair3_forms ‹_ = (_, _, _)› ?_
    | extract_lets | split | exact Dev.Forms.of ‹_› rfl rfl rfl rfl

theorem requestAccept_forms (r : Nat) (t : Nat) (busy : Bool) {d : Dev} (h : d.Forms) :
    (requestAccept r t busy d).Forms := by
  unfold requestAccept
  repeat' first
    | with_reducible assumption | intro _ | with_reducible apply forEach_forms | with_reducible apply foldl_forms
    | with_reducible apply ite_forms | with_reducible apply slotRequest_forms | with_reducible apply mapSlot_forms
    | with_reducible apply forEach_forms | with_reducible apply takeWide_forms | with_reducible apply issued_forms
    | with_reducible apply slotAnswer_forms | with_reducible refine pair_forms ‹_ = (_, _)› ?_
    | with_reducible refine pair3_forms ‹_ = (_, _, _)› ?_ | extract_lets | split
    | exact Dev.Forms.of ‹_› rfl rfl rfl rfl

theorem responseDeliver_forms (r : Nat) (t : Nat) {d : Dev} (h : d.Forms) : (responseDeliver r t d).Forms := by
  unfold responseDeliver
  extract_lets d'
  have h' : d'.Forms := settlePorts_forms _ _ h
  clear_value d'
  split
  · exact h'
  · extract_lets d1
    have h1 : d1.Forms := Dev.Forms.of h' rfl rfl rfl rfl
    clear_value d1
    exact ite_forms (present_forms _ _ _ (answered_forms _ (noteAnswer_forms _ _ h1))) h1

theorem resync_forms (r : Nat) (t : Nat) {d : Dev} (h : d.Forms) :
    (resync r t d).Forms := by
  unfold resync
  repeat' first
    | with_reducible assumption | intro _ | with_reducible apply forEach_forms | with_reducible apply foldl_forms
    | with_reducible apply ite_forms | with_reducible apply Dev.set_forms | with_reducible apply handshake_forms
    | with_reducible refine pair_forms ‹_ = (_, _)› ?_ | with_reducible refine pair3_forms ‹_ = (_, _, _)› ?_
    | extract_lets | split | exact Dev.Forms.of ‹_› rfl rfl rfl rfl

theorem slotResume_forms (r : Nat) (t : Nat) {d : Dev} (h : d.Forms) :
    (slotResume r t d).Forms := by
  unfold slotResume
  repeat' first
    | with_reducible assumption | intro _ | with_reducible apply forEach_forms | with_reducible apply foldl_forms
    | with_reducible apply ite_forms | with_reducible apply Dev.set_forms | with_reducible apply handshake_forms
    | with_reducible refine pair_forms ‹_ = (_, _)› ?_ | with_reducible refine pair3_forms ‹_ = (_, _, _)› ?_
    | extract_lets | split | exact Dev.Forms.of ‹_› rfl rfl rfl rfl

theorem setXState_forms (x : Nat) (st : Nat) {d : Dev} (h : d.Forms) :
    (setXState x st d).Forms := by
  unfold setXState
  repeat' first
    | with_reducible assumption | intro _ | with_reducible apply forEach_forms | with_reducible apply foldl_forms
    | with_reducible apply ite_forms | with_reducible refine pair_forms ‹_ = (_, _)› ?_
    | with_reducible refine pair3_forms ‹_ = (_, _, _)› ?_ | extract_lets | split
    | exact Dev.Forms.of ‹_› rfl rfl rfl rfl

theorem innerStop_forms (x : Nat) {d : Dev} (h : d.Forms) :
    (innerStop x d).Forms := by
  unfold innerStop
  repeat' first
    | with_reducible assumption | intro _ | with_reducible apply forEach_forms | with_reducible apply foldl_forms
    | with_reducible apply ite_forms | with_reducible apply setXState_forms | with_reducible apply Dev.bbr_forms
    | with_reducible apply Dev.bump_forms | with_reducible refine pair_forms ‹_ = (_, _)› ?_
    | with_reducible refine pair3_forms ‹_ = (_, _, _)› ?_ | extract_lets | split
    | exact Dev.Forms.of ‹_› rfl rfl rfl rfl

theorem useDelays_forms (n : Nat) {d : Dev} (h : d.Forms) :
    (useDelays n d).Forms := by
  unfold useDelays
  repeat' first
    | with_reducible assumption | intro _ | with_reducible apply forEach_forms | with_reducible apply foldl_forms
    | with_reducible apply ite_forms | with_reducible refine pair_forms ‹_ = (_, _)› ?_
    | with_reducible refine pair3_forms ‹_ = (_, _, _)› ?_ | extract_lets | split
    | exact Dev.Forms.of ‹_› rfl rfl rfl rfl

theorem trainDone_forms (n : Nat) (ok : Bool) (retrained : Bool) (step : Nat) (rdLat : Nat) (eye : Nat) (dly : List (BitVec 8 × BitVec 8)) {d : Dev} (h : d.Forms) :
    (trainDone n ok retrained step rdLat eye dly d).Forms := by
  unfold trainDone
  repeat' first
    | with_reducible assumption | intro _ | with_reducible apply forEach_forms | with_reducible apply foldl_forms
    | with_reducible apply ite_forms | with_reducible apply Dev.set_forms | with_reducible apply storeDelays_forms
    | with_reducible apply useDelays_forms | with_reducible apply clearCredits_forms
    | with_reducible apply Dev.raise_forms | with_reducible apply Dev.bbr_forms
    | with_reducible refine pair_forms ‹_ = (_, _)› ?_ | with_reducible refine pair3_forms ‹_ = (_, _, _)› ?_
    | extract_lets | split | exact Dev.Forms.of ‹_› rfl rfl rfl rfl

theorem driftRun_forms (n : Nat) (down : Nat) (up : Nat) (margin : Nat) {d : Dev} (h : d.Forms) :
    (driftRun n down up margin d).Forms := by
  unfold driftRun
  repeat' first
    | with_reducible assumption | intro _ | with_reducible apply forEach_forms | with_reducible apply foldl_forms
    | with_reducible apply ite_forms | with_reducible apply Dev.set_forms | with_reducible apply Dev.raise_forms
    | with_reducible refine pair_forms ‹_ = (_, _)› ?_ | with_reducible refine pair3_forms ‹_ = (_, _, _)› ?_
    | extract_lets | split | exact Dev.Forms.of ‹_› rfl rfl rfl rfl

theorem portRequest_forms (r : Nat) (t : Nat) (q : SlotReq) {d : Dev} (h : d.Forms) :
    (portRequest r t q d).Forms := by
  unfold portRequest
  repeat' first
    | with_reducible assumption | intro _ | with_reducible apply forEach_forms | with_reducible apply foldl_forms
    | with_reducible apply ite_forms | with_reducible apply drainPort_forms | with_reducible apply arrive_forms
    | with_reducible refine pair_forms ‹_ = (_, _)› ?_ | with_reducible refine pair3_forms ‹_ = (_, _, _)› ?_
    | extract_lets | split | exact Dev.Forms.of ‹_› rfl rfl rfl rfl

theorem popMeets_forms (r : Nat) (t : Nat) (q : SlotReq) (w : MeetPush) {d : Dev} (h : d.Forms) :
    (popMeets r t q w d).Forms := by
  unfold popMeets
  extract_lets src words stop word join bad
  split
  · have hp := qPush_forms src q.tgt words h
    generalize qPush src q.tgt words d = s at hp
    obtain ⟨c, n, d1⟩ := s
    exact Dev.answer_forms _ _ (portRequest_forms _ _ _ hp)
  · have hj : ∀ f, some join = some f → ∀ e : Dev, e.Forms → (f e).Forms := by
      intro f hf e he
      injection hf with hf
      subst hf
      by_cases hs : stop.isSome = true
      · simp only [join, if_pos hs]; exact he
      · simp only [join, if_neg hs]; exact trimCells_forms _ (pushWord_forms _ _ _ he)
    clear_value join
    have hq := qPopJoin_forms (consSrc r t) q.tgt q.len q.flag (some join) h hj
    generalize qPopJoin (consSrc r t) q.tgt q.len q.flag (some join) d = s at hq
    obtain ⟨c, ws, d1⟩ := s
    generalize pushWord src q.tgt word d = s
    obtain ⟨res, dp⟩ := s
    exact Dev.answer_forms _ _ hq

theorem currentRead_forms (fails : Nat) (amps : Nat) {d : Dev} (h : d.Forms) :
    (currentRead fails amps d).Forms := by
  unfold currentRead
  repeat' first
    | with_reducible assumption | intro _ | with_reducible apply forEach_forms | with_reducible apply foldl_forms
    | with_reducible apply ite_forms | with_reducible apply forEach_forms | with_reducible apply Dev.emit_forms
    | with_reducible apply frameOk_forms | with_reducible apply avsFault_forms
    | with_reducible apply Dev.withTg_forms | with_reducible apply Dev.incSat_forms
    | with_reducible apply Dev.set_forms | with_reducible refine pair_forms ‹_ = (_, _)› ?_
    | with_reducible refine pair3_forms ‹_ = (_, _, _)› ?_ | extract_lets | split
    | exact Dev.Forms.of ‹_› rfl rfl rfl rfl

theorem avsRetry_forms  {d : Dev} (h : d.Forms) :
    (avsRetry d).Forms := by
  unfold avsRetry
  repeat' first
    | with_reducible assumption | intro _ | with_reducible apply forEach_forms | with_reducible apply foldl_forms
    | with_reducible apply ite_forms | with_reducible apply Dev.withTg_forms
    | with_reducible refine pair_forms ‹_ = (_, _)› ?_ | with_reducible refine pair3_forms ‹_ = (_, _, _)› ?_
    | extract_lets | split | exact Dev.Forms.of ‹_› rfl rfl rfl rfl

theorem innerReset_forms (x : Nat) {d : Dev} (h : d.Forms) :
    (innerReset x d).Forms := by
  unfold innerReset
  repeat' first
    | with_reducible assumption | intro _ | with_reducible apply forEach_forms | with_reducible apply foldl_forms
    | with_reducible apply ite_forms | with_reducible apply setXState_forms
    | with_reducible refine pair_forms ‹_ = (_, _)› ?_ | with_reducible refine pair3_forms ‹_ = (_, _, _)› ?_
    | extract_lets | split | exact Dev.Forms.of ‹_› rfl rfl rfl rfl

theorem innerResync_forms (x : Nat) {d : Dev} (h : d.Forms) :
    (innerResync x d).Forms := by
  unfold innerResync
  repeat' first
    | with_reducible assumption | intro _ | with_reducible apply forEach_forms | with_reducible apply foldl_forms
    | with_reducible apply ite_forms | with_reducible apply setXState_forms
    | with_reducible refine pair_forms ‹_ = (_, _)› ?_ | with_reducible refine pair3_forms ‹_ = (_, _, _)› ?_
    | extract_lets | split | exact Dev.Forms.of ‹_› rfl rfl rfl rfl

end Sys2Proof.Machine
end

