-- ==== Sys2Proof/Tests/Slice0.lean ====
section
/-! SUPPORT. The model's own tests: a term that each check of WellFormed refuses, the worked examples of the spec, and for
every statement of Certificates/Slice0/Obligations.lean that has hypotheses a state and operands that meet them, clause by
clause. -/
namespace Sys2Proof.Tests
open Sys2Proof Sys2Proof.Machine Sys2Proof.Machine.Reg
set_option Elab.async false
set_option linter.unusedVariables false

/-! ### Ill-formed commands: each check refuses one -/

theorem test_ill_sample_slot : (Instr.tickEdge [((0 : Fin 128), (17 : Fin 32), (0 : BitVec 56), false)]).check = some .sampleSlot := by decide
theorem test_ill_crossing_ring :
    (Instr.sideReset (1 : Fin 128) .config).check = some .crossingRing := by decide
theorem test_ill_request_words :
    (Instr.xwr (0 : Fin 128) (0 : Fin 10) (0 : Fin 256) (0 : Word) (List.replicate 64 (0 : Token)) false).check = some .requestWords := by decide +kernel
theorem test_ill_delay_count :
    (Instr.trainingDone (0 : Fin 8) true false (0 : Fin 8) (0 : BitVec 8) (0 : BitVec 8)
      (List.replicate 73 ((0 : BitVec 8), (0 : BitVec 8)))).check = some .delayCount := by decide +kernel
theorem test_ill_readings : (Instr.sensorRead (Vector.replicate 8 (0 : BitVec 10)) [] []).check = some .readings := by decide
theorem test_ill_supplies : (Instr.coldStart (0 : Fin 8) (0 : Fin 16) false []).check = some .supplies := by decide
theorem test_ill_trim_values : (Instr.fieldTrimDone (List.replicate 0xFF9 (0 : Byte))).check = some .trimValues := by decide +kernel
theorem test_ill_transfer_entries :
    (Instr.xferDone (0 : Fin 4) (0 : Fin 6) (0 : Fin 17) (List.replicate 17 (0 : BitVec 16)) false false).check
      = some .transferEntries := by decide
theorem test_ill_payload :
    (Instr.bar0Request (0 : BitVec 25) (1 : BitVec 10) (15 : BitVec 4) (0 : BitVec 4) (0 : BitVec 16) (some [])).check = some .payload := by decide
theorem test_ill_piece_bytes : (Instr.dmaPiece (0 : Fin 8) (0 : Fin 4) (List.replicate 513 (0 : Byte))).check = some .pieceBytes := by
  decide +kernel
theorem test_well_formed : Instr.pllLock.wellFormed = true := by decide

/-! ### The worked examples of the spec, and values calculated by hand from its rules -/

/-- A state whose device is `d`. -/
def st (d : Dev) : State := { dev := d }
/-- What a command makes of a device. -/
def after (i : Instr) (d : Dev) : Dev := match exec i { dev := d } with | .next t => t.dev | _ => {}
/-- Ring 37 of the worked example of chapter 1: act 0 with 22,060 DU and 96 ns, the safety net 750 mV, the sensors from 80
to 92 degrees. -/
def node : Dev :=
  let d : Dev := (((((({} : Dev).set (RING_SCHED_ARM 37) 1).set (RING_ACT_DU_DU_TOTAL 37 0) 22060).set
    (RING_ACT_FIX_FIXED_NS 37 0) 96).set RM_PERIOD_NOW_NS 2400).set TG_VSAFE_MV 750).set RM_CONTRACT_CTRL_TJ_DESIGN 5
  { d with tg := { d.tg with temps := some 368 :: List.replicate 31 (some 320) } }

/-- Readings of 685 mV and of 84.625 ps as the largest monitor. -/
def aged (d : Dev) : Dev :=
  let d : Dev := (d.set TG_VCMD_SENSED_MV 685).set TG_DMON_DU_Q4 1354
  { d with tg := { d.tg with dm := 677 / 8 } }

/-- Chapter 1, worked example: 2,326 ns hold 22,060 DU at 750 mV and 150 degrees, 2,325 ns do not. -/
theorem test_minimum_period :
    failing node 750 5 2326 = [] ∧ failing node 750 5 2325 = [37] := by decide +kernel
/-- Chapter 1, worked example: CEIL reads 0x675A, the floor is 725 mV. -/
theorem test_ceiling_and_floor :
    (recomputeCeil node).get RM_CONTRACT_CEIL_CEIL = 0x675A ∧
    (after .floorRecompute (recomputeCeil node)).get RM_CONTRACT_STATUS_FLOOR_MV = 725 ∧
    (after .floorRecompute (recomputeCeil node)).get TG_EFF_VSAFE_EFF_MV = 750 := by decide +kernel
/-- Table 12-3 and the text after it: MR 0x138, age ratio 687 at 685 mV and 84.625 ps; slack fractions 58, 55, 51. -/
theorem test_margin_and_age :
    (ratios (aged (recomputeCeil node))).get TG_MARGIN_MR = 0x138 ∧
    (ratios (aged (recomputeCeil node))).get TG_AGE_RATIO = 687 := by decide +kernel
/-- R437: the lowest of the eight sense points. -/
theorem test_lowest_sense : lowestSense (#v[700, 690, 685, 701, 702, 686, 690, 1023]) = 685 := by decide
theorem test_slack_fractions :
    [524, 493, 460].map (fun x => (reportSlack 37 x 0 node).tg.sMin) = [some (58, 37), some (55, 37), some (51, 37)] := by
  decide +kernel
/-- Table 7-6: the controller picks Q1, Q2, Q1, host, Q1, Q2, Q1 and ends with no credit. -/
theorem test_dynamic_grants :
    ((List.range 7).foldl (fun (x : List (Option Nat) × List Int) _ =>
      let y := decide280 x.2 [4, 2, 1]
      (x.1 ++ [y.1], y.2)) ([], [0, 0, 0])) = ([some 0, some 1, some 0, some 2, some 0, some 1, some 0], [0, 0, 0]) := by decide
/-- Chapter 7, worked example: address 0x1000C0 is on controller 3 at device address 0x4000. -/
theorem test_interleave :
    ctlOf (({} : Dev).set XM_CFG_POP 3) 0x1000C0 = 3 ∧ devAddr (({} : Dev).set XM_CFG_POP 3) 0x1000C0 = 0x4000 ∧
    ctlOf (({} : Dev).set XM_CFG_POP 3) 0x201A40 = 1 := by decide +kernel
/-- R348's example. -/
theorem test_block_mantissas :
    blockWidth [-4100, 3000] = 14 ∧ mantissa 9 5 3000 = 94 ∧ mantissa 9 5 (-4100) = -128 ∧ blockWidth [4095] = 13 ∧
    mantissa 9 4 4095 = 255 := by decide +kernel
/-- Chapter 10, worked example: MEAS_NS + 80 of the three links; tick offsets 3 and 2. -/
theorem test_tick_offsets : tickOffset 420 400 2 = 3 ∧ tickOffset 420 400 1 = 2 := by decide
/-- Chapter 14, worked example: address and index of the routing frame of ring 37. -/
theorem test_frame_address :
    frameAddr 1 37 10 2 = 0x14A02802 ∧ frameIndex 0x14A02802 = 28502 ∧
      indexAddr 28502 = 0x14A02802 := by decide +kernel
/-- Chapter 15, worked example: GPIO79 is offset 13 of bank 4 and may take PPS_IN; GPIO64 is offset 13 of bank 3. -/
theorem test_pin_offsets :
    bankOf 79 = 4 ∧ pinOffset 79 = 13 ∧ bankOf 64 = 3 ∧ pinOffset 64 = 13 ∧ funcOk 79 6 = true ∧
      funcOk 78 6 = false := by decide
/-- The CRC check values for the nine digits, and FIPS 197's AES-256 block (PRESUMED: the standards the spec names). -/
theorem test_crc_check_values :
    crc32c ((List.range 9).map (fun i => BitVec.ofNat 8 (0x31 + i))) = 0xE3069283 ∧
    crc32 ((List.range 9).map (fun i => BitVec.ofNat 8 (0x31 + i))) = 0xCBF43926 := by decide +kernel
theorem test_aes256_block :
    aesBlock (aesSchedule (List.range 32)) ((List.range 16).map (fun i => 17 * i)) =
      [0x8E, 0xA2, 0xB7, 0xCA, 0x51, 0x67, 0x45, 0xBF, 0xEA, 0xFC, 0x49, 0x90, 0x4B, 0x49, 0x60, 0x89] := by decide +kernel
/-- No row of the table gives bits: no word spells a command, and the queue is as it was. -/
theorem test_no_word_spells_a_command :
    decodeTableWord 32 5 = none ∧ ((st {}).withFetchWord 32 5).pending = [] := by decide
/-- The queue is first in, first out. -/
theorem test_queue_order :
    (match step { dev := {}, pending := [.pllLock, .carClrStats] } with | .next t => t.pending | _ => []) = [.carClrStats] := by
  decide +kernel

/-! ### States that meet the hypotheses of the statements

Each `w_<statement>_<clause>` is the device after reset with what the clause asks of it; the theorem of a statement says, for
each of its clauses in order, that a state and operands meet the clause's hypotheses together. -/

def onRing (r : Nat) (f : Ring → Ring) (d : Dev) : Dev := d.setRing r (f (d.ring r))
def onSlot (r t : Nat) (f : SlotSt → SlotSt) (d : Dev) : Dev := { d with slots := sset {} d.slots (32 * r + t) (f (d.slot r t)) }
def onEng (e : Nat) (f : EngSt → EngSt) (d : Dev) : Dev := { d with engs := sset {} d.engs e (f (d.eng e)) }
def onLane (r t l : Nat) (f : LaneSt → LaneSt) (d : Dev) : Dev := onSlot r t (fun x => { x with lanes := sset {} x.lanes l (f (sget {} x.lanes l)) }) d
def onFab (r : Nat) (f : FabSt → FabSt) (d : Dev) : Dev := onRing r (fun x => { x with fab := f x.fab }) d
def wroute (r : Nat) (a : WSrc) (b : WSink) (d : Dev) : Dev :=
  onRing r (fun x => { x with cfg := { x.cfg with wroutes := (a, b) :: x.cfg.wroutes } }) d
def wideTok (r : Nat) (a : WSrc) (ts : List Token) (d : Dev) : Dev := onFab r (fun f => { f with wide := sset [] f.wide (wsrcKey a) ts }) d
def mem (a n v : Nat) (d : Dev) : Dev := { d with chip := { d.chip with cells := wrLe d.chip.cells a n v } }
def onQueue (q : Nat) (f : QSt → QSt) (d : Dev) : Dev := d.setQueue q (f (d.queue q))
def bundle (e pc w : Nat) (d : Dev) : Dev := ((mem (bundleAt e pc) 16 w d).set (ENG_STATUS_PC e) pc).set (ENG_HDR_LAST e) 10
def inPort (e p : Nat) (ts : List Token) (d : Dev) : Dev := onEng e (fun x => { x with inq := sset [] x.inq p ts }) d
def queue0 (prod cons : Nat) (x : QSt) (p : QPtrs) (d : Dev) : Dev :=
  let d : Dev := (((d.set QM_STATUS_STATE 0).set (QD_CFG_EN 0) 1).set (QD_BIND_PROD 0) prod).set (QD_BIND_CONS 0) cons
  let d : Dev := onQueue 0 (fun _ => x.setPtrs p) d
  { d with qm := { d.qm with pool := x.cells.map (fun i => (i, some ({ q := 0 } : PCell))) } }
def file0 (d : Dev) : Dev :=
  let d : Dev := ((d.set (XF_CFG_EN 0) 1).set (XF_SIZE_SIZE 0) 2).set (XF_RIGHTS_RIGHTS 0 0) 3
  (List.range 8).foldl (fun d n => d.set (XMC_STATUS_STATE n) 2) d
def onPort (p : Nat) (f : PortSt → PortSt) (d : Dev) : Dev := { d with net := { d.net with ports := sset {} d.net.ports p (f (d.port p)) } }
def onBoat (b : Nat) (f : BoatSt → BoatSt) (d : Dev) : Dev := { d with net := { d.net with boats := sset {} d.net.boats b (f (d.boat b)) } }
def onIcl (q : Nat) (f : IclPort → IclPort) (d : Dev) : Dev := { d with icl := { d.icl with ports := sset {} d.icl.ports q (f (d.iport q)) } }
def frameEnd (bs : List Byte) : List Byte := bs ++ leBytes 4 (crc32 bs)
def frame60 (etype : List Byte) (rest : List Byte) : List Byte := frameEnd ((List.replicate 12 (1 : Byte) ++ etype ++ rest ++ List.replicate 46 (0 : Byte)).take 60)
def routeTo (i o : Nat) (d : Dev) : Dev := (((d.set (ICL_FWD_EN i) 1).set (ICL_FWD_PORT i) o).set (ICL_PORT_STATUS_STATE o) 3)
def iclBytes (h : Nat) (body : List Byte) : List Byte :=
  let bs : List Byte := leBytes 16 h ++ body
  bs ++ leBytes 4 (crc32c bs)
def portBits (ws : List Nat) : List Bool := ws.flatMap (fun w => (List.range 32).reverse.map (fun i => bitAt w i))
def loadPort (l : LoadSt) (ws : List Nat) (d : Dev) : Dev := { d with cfg := { d.cfg with load := some l, port := portBits ws } }
def headDev (d : Dev) : Dev := match loadHead [] d with | some (_, _, e) => e | none => d
def encCipher : List Byte := gcmPlain (List.replicate 32 0) (List.replicate 12 0) (List.replicate 4 0)
def encWords (tag : Nat) : List Nat := [0x40000008, 0, 0, 0, leNat encCipher] ++ (List.range 4).map (fun i => leNat ((leBytes 16 tag).reverse.drop (4 * i) |>.take 4))
def encTagged (aad : List Nat) : List Nat := encWords (gcmTag (List.replicate 32 0) (List.replicate 12 0) aad (encCipher.map (fun b => b.toNat)))
def carGoes (i : Nat) (d : Dev) : Dev :=
  let d : Dev := ((d.set CFG_STATUS_FULL_DONE 1).set CAR_STATUS_STATE 2).set CAR_POS_INDEX i
  { d with car := { d.car with counter := i } }
def onPin (n : Nat) (p : PinSt) (d : Dev) : Dev := { d with pins := { d.pins with pins := sset {} d.pins.pins n p } }
def onPeriph (k b : Nat) (p : PeriphSt) (d : Dev) : Dev := { d with pins := { d.pins with periphs := sset {} d.pins.periphs (6 * k + b) p } }
def i2cPinned (d : Dev) : Dev := (((d.set (GPIO_PIN_CFG_FUNC 1) 2).set (GPIO_PIN_CFG_FUNC 0) 2).set (GPIO_BANK_VIO 0) 1).set (I2C_CFG_EN 0) 1
def dmaOn (n : Nat) (d : Dev) : Dev :=
  let d : Dev := ((d.set (DMA_CTRL_EN n) 1).set (DMA_PROD_PROD n) 1).set HOST_STATUS_BME 1
  { d with host := { d.host with inReset := false } }
def mi2cOn (d : Dev) : Dev :=
  (((d.set (GPIO_PIN_CFG_FUNC 11) 9).set (GPIO_PIN_CFG_FUNC 12) 9).set (GPIO_BANK_VIO 0) 1).set MI2C_STATUS_ADDR 0x40
def irqOn (v : Nat) (d : Dev) : Dev :=
  ((((d.set (GIRQ_MAP_VECTOR 1) v).set (GIRQ_EN_EN 0) 2).set TG_IRQ_CAUSE_REG_SLOW 1).set TG_IRQ_EN_REG_SLOW 1)

/-- A frame that holds what it held after the clearing, with its own reference value, has no UE. -/
theorem blank_frame_has_no_ue (d : Dev) (a : Nat) (h1 : (frameFlaws d a).contains .double = false)
    (h2 : sget Flaw.none d.cfg.rflaws (frameIndex a) ≠ .double) (h3 : storedWords d a = blankFrame)
    (h4 : sget none d.cfg.refs (frameIndex a) = none) : frameUe d a = 0 := by
  have h5 : frameCrc a (storedWords d a) = frameRef d a := by rw [frameRef, h3, h4, Option.getD_none]
  unfold frameUe
  rw [if_neg (by rw [h1]; decide), if_neg h2, if_neg (fun h => h h5)]
/-- A fold over four parts. -/
theorem fold_four {α β : Type} (f : β → α → β) (l0 l1 : List α) (a c1 c2 c3 c4 : β) (h1 : l0.foldl f a = c1) (h2 : l1.foldl f c1 = c2)
    (h3 : l1.foldl f c2 = c3) (h4 : l1.foldl f c3 = c4) : (l0 ++ (l1 ++ (l1 ++ l1))).foldl f a = c4 := by
  simp only [List.foldl_append, h1, h2, h3, h4]
/-- The bytes of 128 equal words, 32 words at a time. -/
theorem bytes_of_equal_words (g : List Byte) (x : Nat) : g ++ (List.replicate 128 x).flatMap (leBytes 4) =
    (g ++ (List.replicate 32 x).flatMap (leBytes 4)) ++ ((List.replicate 32 x).flatMap (leBytes 4) ++ ((List.replicate 32 x).flatMap (leBytes 4) ++ (List.replicate 32 x).flatMap (leBytes 4))) := by
  have h : List.replicate 128 x = List.replicate 32 x ++ (List.replicate 32 x ++ (List.replicate 32 x ++ List.replicate 32 x)) := by
    simp only [List.replicate_append_replicate]
  rw [h]
  simp only [List.flatMap_append, List.append_assoc]
/-- The reference value of a frame of equal words, 32 words at a time. -/
theorem frame_crc_of_parts (a x c1 c2 c3 c4 : Nat) (h1 : (leBytes 4 a ++ (List.replicate 32 x).flatMap (leBytes 4)).foldl (crcByte 0x82F63B78) 4294967295 = c1)
   (h2 : ((List.replicate 32 x).flatMap (leBytes 4)).foldl (crcByte 0x82F63B78) c1 = c2)
   (h3 : ((List.replicate 32 x).flatMap (leBytes 4)).foldl (crcByte 0x82F63B78) c2 = c3)
   (h4 : ((List.replicate 32 x).flatMap (leBytes 4)).foldl (crcByte 0x82F63B78) c3 = c4) :
   frameCrc a (List.replicate 128 x) = c4 ^^^ 0xFFFFFFFF := by
  unfold frameCrc crc32c crcOf
  rw [bytes_of_equal_words, fold_four _ _ _ _ c1 c2 c3 c4 h1 h2 h3 h4]
/-- The reference value of a frame of words 0 at address 0x00000000, 32 words at a time. -/
theorem routing_frame_crc_1 :
    (leBytes 4 0 ++ ((List.replicate 32 0).flatMap (leBytes 4))).foldl (crcByte 0x82F63B78) 4294967295 = 73192541 := by decide +kernel
theorem routing_frame_crc_2 :
    (((List.replicate 32 0).flatMap (leBytes 4))).foldl (crcByte 0x82F63B78) 73192541 = 319578614 := by decide +kernel
theorem routing_frame_crc_3 :
    (((List.replicate 32 0).flatMap (leBytes 4))).foldl (crcByte 0x82F63B78) 319578614 = 349931513 := by decide +kernel
theorem routing_frame_crc_4 :
    (((List.replicate 32 0).flatMap (leBytes 4))).foldl (crcByte 0x82F63B78) 349931513 = 1202840420 := by decide +kernel
theorem routing_frame_crc : frameCrc 0 (List.replicate 128 0) = 3092126875 :=
  (frame_crc_of_parts _ _ _ _ _ _ routing_frame_crc_1 routing_frame_crc_2 routing_frame_crc_3 routing_frame_crc_4).trans (by decide)
/-- The reference value of a frame of words 5 at address 0x40000000, 32 words at a time. -/
theorem memory_frame_crc_1 :
    (leBytes 4 1073741824 ++ ((List.replicate 32 5).flatMap (leBytes 4))).foldl (crcByte 0x82F63B78) 4294967295 = 1062925052 := by decide +kernel
theorem memory_frame_crc_2 :
    (((List.replicate 32 5).flatMap (leBytes 4))).foldl (crcByte 0x82F63B78) 1062925052 = 1959976373 := by decide +kernel
theorem memory_frame_crc_3 :
    (((List.replicate 32 5).flatMap (leBytes 4))).foldl (crcByte 0x82F63B78) 1959976373 = 2159060679 := by decide +kernel
theorem memory_frame_crc_4 :
    (((List.replicate 32 5).flatMap (leBytes 4))).foldl (crcByte 0x82F63B78) 2159060679 = 308170348 := by decide +kernel
theorem memory_frame_crc : frameCrc 1073741824 (List.replicate 128 5) = 3986796947 :=
  (frame_crc_of_parts _ _ _ _ _ _ memory_frame_crc_1 memory_frame_crc_2 memory_frame_crc_3 memory_frame_crc_4).trans (by decide)

theorem test_witness_forms_kept : ∃ s : State, s.Forms := by
  refine ⟨State.reset, ?_⟩
  unfold State.Forms Dev.Forms
  decide +kernel

def w_RingFiguresLocked_0 : State :=
  let d : Dev := {}
  let d : Dev := d.set (RING_SCHED_ARM (0 : Fin 128).val) (1)
  { dev := d }
def w_RingFiguresLocked_1 : State :=
  let d : Dev := {}
  let d : Dev := d.set (RING_SCHED_ARM (0 : Fin 128).val) (0)
  { dev := d }
def w_RingFiguresLocked_2 : State :=
  let d : Dev := {}
  let d : Dev := d.set (RING_SCHED_ARM (0 : Fin 128).val) (0)
  { dev := d }
theorem test_witness_ring_figures_locked :
    (∃ (s : State) (r : Fin 128) (a : Fin 8) (v : Word) (o : Nat), (o = 0x10 ∨ o = 0x30) ∧
      s.dev.inspected r.val = false ∧ s.dev.get (RING_SCHED_ARM r.val) = 1) ∧
    (∃ (s : State) (r : Fin 128) (a : Fin 8) (v : Word), s.dev.inspected r.val = false ∧
      s.dev.get (RING_SCHED_ARM r.val) = 0) ∧
    (∃ (s : State) (r : Fin 128) (a : Fin 8) (v : Word), s.dev.inspected r.val = false ∧
      s.dev.get (RING_SCHED_ARM r.val) = 0) :=
  ⟨⟨w_RingFiguresLocked_0, (0 : Fin 128), (0 : Fin 8), (0 : Word), 0x30, by decide +kernel⟩,
   ⟨w_RingFiguresLocked_1, (0 : Fin 128), (0 : Fin 8), (0 : Word), by decide +kernel⟩,
   ⟨w_RingFiguresLocked_2, (0 : Fin 128), (0 : Fin 8), (0 : Word), by decide +kernel⟩⟩

def w_LostPulses_0 : State :=
  let d : Dev := {}
  let d : Dev := d.set (TS_CFG_EN (0 : Fin 128) 24) 1
  let d : Dev := d.set (TS_STATUS_STATE (0 : Fin 128) 24) 1
  let d : Dev := onLane 0 24 0 (fun x => { x with busy := true, acc := 15 }) d
  { dev := d }
def w_LostPulses_1 : State :=
  let d : Dev := {}
  let d : Dev := d.set (TS_STATUS_STATE (0 : Fin 128) 24) 1
  let d : Dev := onLane 0 24 0 (fun x => { x with busy := true, got := List.replicate 15 0 }) d
  { dev := d }
def w_LostPulses_2 : State :=
  let d : Dev := {}
  let d : Dev := d.set (TS_CFG_EN (0 : Fin 128) 25) 1
  let d : Dev := onFab 0 (fun f => { f with pulses := [(0, some 0)] }) d
  let d : Dev := onLane 0 25 0 (fun x => { x with staged := 15 }) d
  { dev := d }
def w_LostPulses_3 : State :=
  let d : Dev := {}
  let d : Dev := d.set (TS_STATUS_STATE 0 25) 1
  let d : Dev := onLane 0 25 0 (fun x => { x with busy := true, acc := 15, staged := 1 }) d
  { dev := d }
theorem test_witness_lost_pulses :
    (∃ (s : State) (r : Fin 128) (l : Fin 4), slotEn s.dev r 24 = true ∧ slotSt s.dev r 24 = 1 ∧
      (lane s.dev r 24 l).busy = true ∧ (lane s.dev r 24 l).acc = 15) ∧
    (∃ (s : State) (r : Fin 128) (l : Fin 4), slotSt s.dev r 24 = 1 ∧ (lane s.dev r 24 l).busy = true ∧
      (lane s.dev r 24 l).delivered = false ∧ (lane s.dev r 24 l).got.length = 15) ∧
    (∃ (s : State) (r : Fin 128) (l : Fin 4) (v : Digit), sget none (s.dev.ring r).fab.pulses l = some v ∧
      slotEn s.dev r 25 = true ∧ (lane s.dev r 25 l).staged = 15) ∧
    (∃ (d : Dev) (r l : Nat), l < 4 ∧ slotSt d r 25 = 1 ∧ (lane d r 25 l).busy = true ∧
      15 < (lane d r 25 l).acc + (lane d r 25 l).staged) :=
  ⟨⟨w_LostPulses_0, (0 : Fin 128), (0 : Fin 4), by decide +kernel⟩,
   ⟨w_LostPulses_1, (0 : Fin 128), (0 : Fin 4), by decide +kernel⟩,
   ⟨w_LostPulses_2, (0 : Fin 128), (0 : Fin 4), (default : Digit), by decide +kernel⟩,
   ⟨w_LostPulses_3.dev, 0, 0, by decide +kernel⟩⟩

def w_QRewindReturns_0 : State :=
  let d : Dev := {}
  let d : Dev := d.set QM_STATUS_STATE 0
  let d : Dev := (d.set (QD_CFG_EN 0) 1).set (QD_BIND_CONS 0) 0
  let d : Dev := onQueue 0 (fun x => ({ x with base := 8, words := [{}, { fin := true }], cells := [0] } : QSt).setPtrs { rd := 10, mark := some 8, commit := 10, tail := 10 }) d
  let d : Dev := { d with qm := { d.qm with pool := [(0, some {})] } }
  { dev := d }
def w_QRewindReturns_1 : State :=
  let d : Dev := {}
  let d : Dev := d.set QM_STATUS_STATE 0
  let d : Dev := (d.set (QD_CFG_EN 0) 1).set (QD_BIND_CONS 0) 0
  { dev := d }
theorem test_witness_q_rewind_returns :
    (∃ (s : State) (r : Fin 128) (t : Fin 10) (q : Fin 16384) (x : QSt) (m : Nat), x = s.dev.queue q ∧
      qmBlocked s.dev = none ∧ consumerOk s.dev (consSrc r t) q = true ∧ soundQueue s.dev q = true ∧
      s.dev.qm.work = [] ∧ x.ptrA.mark = some m) ∧
    (∃ (s : State) (r : Fin 128) (t : Fin 10) (q : Fin 16384), qmBlocked s.dev = none ∧
      consumerOk s.dev (consSrc r t) q = true ∧ soundQueue s.dev q = true ∧ s.dev.qm.work = [] ∧
      (s.dev.queue q).ptrA.mark = none) :=
  ⟨⟨w_QRewindReturns_0, (0 : Fin 128), (0 : Fin 10), (0 : Fin 16384), (w_QRewindReturns_0.dev.queue (0 : Fin 16384)), 8, by decide +kernel⟩,
   ⟨w_QRewindReturns_1, (0 : Fin 128), (0 : Fin 10), (0 : Fin 16384), by decide +kernel⟩⟩

def w_QueueResetRetries_0 : State :=
  let d : Dev := {}
  let d : Dev := d.set QM_STATUS_STATE (0)
  let d : Dev := { d with qm := { d.qm with pool := [(0, some { q := 0, gen := 1, quar := true })] } }
  { dev := d }
theorem test_witness_queue_reset_retries :
    ∃ (s : State) (q : Fin 16384) (i : Nat) (c : PCell), s.dev.get QM_STATUS_STATE = 0 ∧ s.dev.qm.cmdTill ≤ s.dev.tb ∧
      soundQueue s.dev q = true ∧ (i, some c) ∈ s.dev.qm.pool ∧ c.q = q.val ∧ c.quar = true ∧
      c.gen = ((s.dev.queue q).gen + 1) % 256 :=
  ⟨w_QueueResetRetries_0, (0 : Fin 16384), 0, ({ q := 0, gen := 1, quar := true } : PCell), by decide +kernel⟩

def w_RingDeadlines_0 : State :=
  let d : Dev := {}
  let d : Dev := onRing 0 (fun x => { x with run := .tick }) d
  let d : Dev := (List.range 8).foldl (fun d e => onEng e (fun x => { x with done := true }) d) d
  { dev := d }
def w_RingDeadlines_1 : State :=
  let d : Dev := {}
  let d : Dev := onRing (0 : Fin 128) (fun x => { x with run := .tick }) d
  let d : Dev := onRing (0 : Fin 128) (fun x => { x with done := none }) d
  let d : Dev := onRing (0 : Fin 128) (fun x => { x with due := none }) d
  let d : Dev := onRing (0 : Fin 128) (fun x => { x with judged := false }) d
  let d : Dev := onRing (0 : Fin 128) (fun x => { x with missed := false }) d
  let d : Dev := onRing (0 : Fin 128) (fun x => { x with force := false }) d
  let d : Dev := onRing 0 (fun x => { x with qdone := true, endCount := 1 }) d
  let d : Dev := { d with ctl := { d.ctl with time := { d.ctl.time with nextEdge := 400 } } }
  { dev := d }
def w_RingDeadlines_2 : State :=
  let d : Dev := {}
  let d : Dev := onRing (0 : Fin 128) (fun x => { x with run := .tick }) d
  let d : Dev := onRing (0 : Fin 128) (fun x => { x with done := some 0 }) d
  let d : Dev := onRing (0 : Fin 128) (fun x => { x with force := false }) d
  let d : Dev := onRing 0 (fun x => { x with endCount := 1 }) d
  { dev := d }
def w_RingDeadlines_3 : State :=
  let d : Dev := {}
  let d : Dev := onRing (0 : Fin 128) (fun x => { x with done := none }) d
  let d : Dev := onRing (0 : Fin 128) (fun x => { x with disarm := false }) d
  let d : Dev := onRing 0 (fun x => { x with run := .tick, endCount := 1 }) d
  { dev := d }
def w_RingDeadlines_4 : State :=
  let d : Dev := {}
  let d : Dev := onRing (0 : Fin 128) (fun x => { x with due := some 0 }) d
  { dev := d }
theorem test_witness_ring_deadlines :
    (∃ (s : State) (m : Fin 128), (s.dev.ring (s.dev.lead m)).run ≠ .out ∧ quiet s.dev m = true) ∧
    (∃ (s : State) (r : Fin 128) (ns : BitVec 32) (T : Nat), s.dev.lead r = r.val ∧ (s.dev.ring r).run = .tick ∧
      (s.dev.ring r).done = none ∧ (s.dev.ring r).due = none ∧ (s.dev.ring r).judged = false ∧
      (s.dev.ring r).missed = false ∧ (s.dev.ring r).force = false ∧
      (∀ m ∈ s.dev.members r, (s.dev.ring m).qdone = true) ∧ endsNext s.dev r = true ∧
      T = Nat.max s.dev.tb ((s.dev.ring r).startTb + 4 * ns.toNat) ∧ T / 4 ≤ (s.dev.ctl.time.nextEdge - 24) / 4) ∧
    (∃ (s : State) (r : Fin 128) (t : Nat), toJudge s.dev r = true ∧ (s.dev.ring r).run = .tick ∧
      (s.dev.ring r).done = some t ∧ (s.dev.ring r).force = false) ∧
    (∃ (s : State) (r : Fin 128), toJudge s.dev r = true ∧ (s.dev.ring r).done = none ∧ (s.dev.ring r).disarm = false) ∧
    (∃ (s : State) (r : Fin 128) (c : Nat), s.dev.lead r = r.val ∧ (s.dev.ring r).due = some c) :=
  ⟨⟨w_RingDeadlines_0, (0 : Fin 128), by decide +kernel⟩,
   ⟨w_RingDeadlines_1, (0 : Fin 128), (90 : BitVec 32), (Nat.max w_RingDeadlines_1.dev.tb ((w_RingDeadlines_1.dev.ring (0 : Fin 128)).startTb + 4 * (90 : BitVec 32).toNat)), by decide +kernel⟩,
   ⟨w_RingDeadlines_2, (0 : Fin 128), 0, by decide +kernel⟩,
   ⟨w_RingDeadlines_3, (0 : Fin 128), by decide +kernel⟩,
   ⟨w_RingDeadlines_4, (0 : Fin 128), 0, by decide +kernel⟩⟩

def w_RingCommands_0 : State :=
  let d : Dev := {}
  let d : Dev := d.set (RING_STATUS_STATE (0 : Fin 128)) (0)
  let d : Dev := d.set (RING_SCHED_ARM (0 : Fin 128)) (0)
  let d : Dev := onRing (0 : Fin 128) (fun x => { x with schedAt := none }) d
  let d : Dev := onRing (0 : Fin 128) (fun x => { x with disarm := false }) d
  let d : Dev := onRing (0 : Fin 128) (fun x => { x with closeReq := .none }) d
  { dev := d }
def w_RingCommands_1 : State :=
  let d : Dev := {}
  let d : Dev := d.set (RING_STATUS_STATE (0 : Fin 128)) (0)
  let d : Dev := d.set (RING_SCHED_ARM (0 : Fin 128)) (0)
  let d : Dev := onRing (0 : Fin 128) (fun x => { x with schedAt := none }) d
  let d : Dev := onRing (0 : Fin 128) (fun x => { x with closeReq := .none }) d
  let d : Dev := d.set (RING_SCHED_ACT_MODE 0) 1
  let d : Dev := d.set (RING_ACT_DU_DU_TOTAL 0 0) 0x1FFFFFFF
  { dev := d }
def w_RingCommands_2 : State :=
  let d : Dev := {}
  let d : Dev := d.set (RING_STATUS_STATE (0 : Fin 128)) (1)
  let d : Dev := d.set (RING_SCHED_ARM (0 : Fin 128)) (1)
  let d : Dev := onRing (0 : Fin 128) (fun x => { x with schedAt := none }) d
  let d : Dev := onRing (0 : Fin 128) (fun x => { x with run := .out }) d
  { dev := d }
def w_RingCommands_3 : State :=
  let d : Dev := {}
  let d : Dev := d.set (RING_STATUS_STATE (0 : Fin 128)) (4)
  { dev := d }
def w_RingCommands_4 : State :=
  let d : Dev := {}
  { dev := d }
def w_RingCommands_5 : State :=
  let d : Dev := {}
  { dev := d }
def w_RingCommands_6 : State :=
  let d : Dev := {}
  let d : Dev := d.set (RING_GROUP_LEAD (0 : Fin 128)) 1
  { dev := d }
def w_RingCommands_7 : State :=
  let d : Dev := {}
  let d : Dev := (d.set (RING_STATUS_STATE (0 : Fin 128)) 5).set (RING_FAB_STATUS_CLOSE_REASON (0 : Fin 128)) 1
  { dev := d }
theorem test_witness_ring_commands :
    (∃ (s : State) (r : Fin 128), s.dev.lead r = r.val ∧ s.dev.members r = [r.val] ∧
      s.dev.get (RING_STATUS_STATE r) = 0 ∧ s.dev.get (RING_SCHED_ARM r) = 0 ∧ s.dev.get (RING_SCHED_SLIP_LIMIT r) ≠ 0 ∧
      (s.dev.ring r).schedAt = none ∧ (s.dev.ring r).disarm = false ∧ (s.dev.ring r).closeReq = .none ∧
      s.dev.get TG_STATUS_MODE ≠ 4 ∧ s.dev.get TG_STATUS_MODE ≠ 5 ∧ zeroing s.dev r = false ∧
      ringFits s.dev r (s.dev.get TG_VSAFE_MV) (s.dev.get RM_CONTRACT_CTRL_TJ_DESIGN) (periodCheck s.dev) (schedRegs s.dev r) = true) ∧
    (∃ (s : State) (r : Fin 128), s.dev.lead r = r.val ∧ s.dev.members r = [r.val] ∧
      s.dev.get (RING_STATUS_STATE r) = 0 ∧ s.dev.get (RING_SCHED_ARM r) = 0 ∧ s.dev.get (RING_SCHED_SLIP_LIMIT r) ≠ 0 ∧
      (s.dev.ring r).schedAt = none ∧ (s.dev.ring r).closeReq = .none ∧ s.dev.get TG_STATUS_MODE ≠ 4 ∧
      s.dev.get TG_STATUS_MODE ≠ 5 ∧ zeroing s.dev r = false ∧
      ringFits s.dev r (s.dev.get TG_VSAFE_MV) (s.dev.get RM_CONTRACT_CTRL_TJ_DESIGN) (periodCheck s.dev) (schedRegs s.dev r) = false) ∧
    (∃ (s : State) (r : Fin 128), s.dev.lead r = r.val ∧ s.dev.get (RING_STATUS_STATE r) = 1 ∧
      s.dev.get (RING_SCHED_ARM r) = 1 ∧ (s.dev.ring r).schedAt = none ∧ (s.dev.ring r).run = .out) ∧
    (∃ (s : State) (r : Fin 128), s.dev.lead r = r.val ∧ s.dev.get (RING_STATUS_STATE r) = 4) ∧
    (∃ (s : State) (r : Fin 128), s.dev.inspected r = false ∧ s.dev.lead r = r.val) ∧
    (∃ (s : State) (r : Fin 128), s.dev.inspected r = false ∧ s.dev.lead r = r.val) ∧
    (∃ (s : State) (r : Fin 128) (c : Instr), c ∈ [Instr.restart r, Instr.forceSlip r, Instr.ringClrStats r] ∧
      s.dev.inspected r = false ∧ s.dev.lead r ≠ r.val) ∧
    (∃ (s : State) (r : Fin 128) (c : Instr), c ∈ [Instr.ringArm r, Instr.ringDisarm r, Instr.restart r, Instr.forceSlip r, Instr.ringClrStats r] ∧
      s.dev.inspected r = true) :=
  ⟨⟨w_RingCommands_0, (0 : Fin 128), by decide +kernel⟩,
   ⟨w_RingCommands_1, (0 : Fin 128), by decide +kernel⟩,
   ⟨w_RingCommands_2, (0 : Fin 128), by decide +kernel⟩,
   ⟨w_RingCommands_3, (0 : Fin 128), by decide +kernel⟩,
   ⟨w_RingCommands_4, (0 : Fin 128), by decide +kernel⟩,
   ⟨w_RingCommands_5, (0 : Fin 128), by decide +kernel⟩,
   ⟨w_RingCommands_6, (0 : Fin 128), (Instr.ringClrStats 0), by decide +kernel⟩,
   ⟨w_RingCommands_7, (0 : Fin 128), (Instr.ringArm 0), by decide +kernel⟩⟩

def w_FabricTokens_0 : State :=
  let d : Dev := {}
  let d : Dev := onRing 0 (fun x => { x with cfg := { x.cfg with cells := [(0, ({ mode := .func, table := List.replicate 32 0, digit := 0 } : HlcCfg))], droutes := [(.cell 0 0, [.cell 1 0, .pack 2 3])] } }) d
  let d : Dev := onFab 0 (fun f => { f with cellA := [(0, some 0)], cellB := [(0, some 0)] }) d
  { dev := d }
def w_FabricTokens_1 : State :=
  let d : Dev := {}
  let d : Dev := onRing 0 (fun x => { x with cfg := { x.cfg with cells := [(0, ({ mode := .buf } : HlcCfg))], droutes := [(.cell 0 0, [.cell 1 0, .pack 2 3])] } }) d
  let d : Dev := onFab 0 (fun f => { f with cellA := [(0, some 0)] }) d
  { dev := d }
def w_FabricTokens_2 : State :=
  let d : Dev := {}
  let d : Dev := onRing 0 (fun x => { x with cfg := { x.cfg with cells := [(0, ({ mode := .sink } : HlcCfg))] } }) d
  let d : Dev := onFab 0 (fun f => { f with cellA := [(0, some 0)] }) d
  { dev := d }
def w_FabricTokens_3 : State :=
  let d : Dev := {}
  let d : Dev := wroute 0 (.pack 0) (.unpack 0) d
  let d : Dev := onFab 0 (fun f => { f with packs := (List.range 32).map (fun i => (i, some ((fun i => if i % 2 = 0 then 1 else 3) i))) }) d
  { dev := d }
def w_FabricTokens_4 : State :=
  let d : Dev := {}
  let d : Dev := wroute 0 (.pack 3) (.unpack 0) d
  let d : Dev := wideTok 0 (.pack 3) [(0x123456789 : Token)] d
  let d : Dev := onRing 0 (fun x => { x with cfg := { x.cfg with droutes := (List.range 32).map (fun i => (.unpack 0 i, [.cell (i + 5) 0])) } }) d
  { dev := d }
def w_FabricTokens_5 : State :=
  let d : Dev := {}
  let d : Dev := wroute 0 (.mem 0 false) (.unpack 0) d
  let d : Dev := onFab 0 (fun f => { f with memCmd := [(0, some (0 : Token))] }) d
  { dev := d }
def w_FabricTokens_6 : State :=
  let d : Dev := {}
  let d : Dev := wroute 0 (.pack 3) (.mem 0 false) d
  let d : Dev := wideTok 0 (.pack 3) [(0x1122334455667788 : Token)] d
  let d : Dev := onFab 0 (fun f => { f with memCmd := [(0, some (0xFF403 : Token))] }) d
  { dev := d }
theorem test_witness_fabric_tokens :
    (∃ (s : State) (r : Fin 128) (c : Fin 24576) (h : HlcCfg) (a b : Digit), cellCfg s.dev r c = some h ∧
      h.mode = .func ∧ inA s.dev r c = some a ∧ inB s.dev r c = some b ∧ canDrive s.dev r (.cell c 0) = true) ∧
    (∃ (s : State) (r : Fin 128) (c : Fin 24576) (h : HlcCfg) (a : Digit), cellCfg s.dev r c = some h ∧ h.mode = .buf ∧
      inA s.dev r c = some a ∧ canDrive s.dev r (.cell c 0) = true) ∧
    (∃ (s : State) (r : Fin 128) (c : Fin 24576) (h : HlcCfg) (a : Digit), cellCfg s.dev r c = some h ∧ h.mode = .sink ∧
      inA s.dev r c = some a) ∧
    (∃ (s : State) (r g : Fin 128) (x : Nat → Digit) (h : Nat), (∀ i < 32, sget none (s.dev.ring r).fab.packs (32 * g.val + i) = some (x i)) ∧
      wsinkOf s.dev r (.pack g) = some (.unpack h) ∧ wideAt s.dev r (.pack g) = []) ∧
    (∃ (s : State) (r g : Fin 128) (t : Token) (rest : List Token) (f : Nat → Nat), waiting s.dev r (.unpack g) = t :: rest ∧
      (∀ i < 32, drives s.dev r (.unpack g i) = [(r.val, .cell (f i) 0)]) ∧ (∀ i < 32, inA s.dev r (f i) = none) ∧
      (∀ i < 32, ∀ j < 32, f i = f j → i = j)) ∧
    (∃ (s : State) (r : Fin 128) (b : Fin 32) (portB : Bool) (t : Token) (h : Nat), sget none (s.dev.ring r).fab.memCmd (2 * b.val + b2n portB) = some t ∧
      isWriteCmd t = false ∧ canDrive s.dev r (.memStatus b portB) = true ∧
      wsinkOf s.dev r (.mem b portB) = some (.unpack h) ∧ wideAt s.dev r (.mem b portB) = [] ∧
      s.dev.chipFlaw (ringWordAt r b (bitsAt t.toNat 0 10)) = .none ∧ wsrcOf s.dev r (.mem b portB) = none) ∧
    (∃ (s : State) (r : Fin 128) (b : Fin 32) (portB : Bool) (t v : Token) (rest : List Token), sget none (s.dev.ring r).fab.memCmd (2 * b.val + b2n portB) = some t ∧
      isWriteCmd t = true ∧ bitsAt t.toNat 12 8 = 255 ∧ waiting s.dev r (.mem b portB) = v :: rest ∧
      canDrive s.dev r (.memStatus b portB) = true) :=
  ⟨⟨w_FabricTokens_0, (0 : Fin 128), (0 : Fin 24576), ({ mode := .func, table := List.replicate 32 0, digit := 0 } : HlcCfg), (default : Digit), (default : Digit), by decide +kernel⟩,
   ⟨w_FabricTokens_1, (0 : Fin 128), (0 : Fin 24576), ({ mode := .buf } : HlcCfg), (default : Digit), by decide +kernel⟩,
   ⟨w_FabricTokens_2, (0 : Fin 128), (0 : Fin 24576), ({ mode := .sink } : HlcCfg), (default : Digit), by decide +kernel⟩,
   ⟨w_FabricTokens_3, (0 : Fin 128), (0 : Fin 128), (fun i => if i % 2 = 0 then 1 else 3), 0, by decide +kernel⟩,
   ⟨w_FabricTokens_4, (0 : Fin 128), (0 : Fin 128), (0x123456789 : Token), [], (fun i => i + 5), by decide +kernel⟩,
   ⟨w_FabricTokens_5, (0 : Fin 128), (0 : Fin 32), false, (0 : Token), 0, by decide +kernel⟩,
   ⟨w_FabricTokens_6, (0 : Fin 128), (0 : Fin 32), false, (0xFF403 : Token), (0x1122334455667788 : Token), [], by decide +kernel⟩⟩

def w_RingMemoryAndGroups_0 : State :=
  let d : Dev := {}
  { dev := d }
def w_RingMemoryAndGroups_1 : State :=
  let d : Dev := {}
  { dev := d }
def w_RingMemoryAndGroups_2 : State :=
  let d : Dev := {}
  let d : Dev := d.set (RING_GROUP_EN (0 : Fin 128)) (1)
  let d : Dev := d.set (RING_SCHED_ARM (0 : Fin 128)) (0)
  { dev := d }
def w_RingMemoryAndGroups_3 : State :=
  let d : Dev := {}
  let d : Dev := d.set (RING_GROUP_LEAD (0 : Fin 128)) 1
  { dev := d }
def w_RingMemoryAndGroups_4 : State :=
  let d : Dev := {}
  let d : Dev := (d.set (RING_GROUP_EN 0) 1).set (RING_SCHED_ARM 0) 1
  { dev := d }
def w_RingMemoryAndGroups_5 : State :=
  let d : Dev := {}
  { dev := d }
def w_RingMemoryAndGroups_6 : State :=
  let d : Dev := {}
  { dev := d }
def w_RingMemoryAndGroups_7 : State :=
  let d : Dev := {}
  { dev := d }
def w_RingMemoryAndGroups_8 : State :=
  let d : Dev := {}
  let d : Dev := { d with xstop := [(xRing 0, 3)] }
  { dev := d }
def w_RingMemoryAndGroups_9 : State :=
  let d : Dev := {}
  let d : Dev := { d with xstop := [(xRing 0, 3)] }
  { dev := d }
def w_RingMemoryAndGroups_10 : State :=
  let d : Dev := {}
  let d : Dev := d.set (RING_STATUS_STATE (0 : Fin 128)) 0
  { dev := d }
def w_RingMemoryAndGroups_11 : State :=
  let d : Dev := {}
  let d : Dev := d.set (RING_FAB_STATUS_MEM_BUSY (0 : Fin 128)) (1)
  { dev := d }
def w_RingMemoryAndGroups_12 : State :=
  let d : Dev := {}
  { dev := d }
theorem test_witness_ring_memory_and_groups :
    (∃ (s : State) (r : Fin 128) (w : Fin 16) (h : Fin 8), s.dev.inspected r = false ∧
      groupRefused s.dev r (w.val + 1) (h.val + 1) = false) ∧
    (∃ (s : State) (r : Fin 128) (w : Fin 16) (h : Fin 8), s.dev.inspected r = false ∧
      groupRefused s.dev r (w.val + 1) (h.val + 1) = true) ∧
    (∃ (s : State) (r : Fin 128) (w : Fin 16) (h : Fin 8), s.dev.inspected r = false ∧ s.dev.lead r = r.val ∧
      s.dev.get (RING_GROUP_EN r) = 1 ∧ s.dev.get (RING_SCHED_ARM r) = 0) ∧
    (∃ (s : State) (r : Fin 128) (w : Fin 16) (h : Fin 8), s.dev.inspected r = false ∧ s.dev.lead r ≠ r.val) ∧
    (∃ (s : State) (r : Fin 128) (w : Fin 16) (h : Fin 8), s.dev.inspected r = false ∧ s.dev.lead r = r.val ∧
      s.dev.get (RING_GROUP_EN r) = 1 ∧ s.dev.get (RING_SCHED_ARM r) = 1) ∧
    (∃ (s : State) (off : BitVec 25) (n : Fin 16), unitOk off.toNat n = true ∧
      ringHostCode s.dev (off.toNat / 0x40000) (off.toNat / 0x2000 % 32) = .ok ∧
      s.dev.chipFlaw (off.toNat - off.toNat % 8) = .none) ∧
    (∃ (s : State) (off : BitVec 25) (n : Fin 16) (v : Token), unitOk off.toNat n = true ∧
      ringHostCode s.dev (off.toNat / 0x40000) (off.toNat / 0x2000 % 32) = .ok ∧
      s.dev.chipFlaw (off.toNat - off.toNat % 8) = .none) ∧
    (∃ (s : State) (off : BitVec 25) (n : Fin 16) (x : Option Token), unitOk off.toNat n = false ∧
      s.dev.rstate (off.toNat / 0x40000) ≠ 5 ∧ xStopped s.dev (xRing (off.toNat / 0x40000)) = false) ∧
    (∃ (s : State) (off : BitVec 25) (n : Fin 16) (x : Option Token), s.dev.rstate (off.toNat / 0x40000) ≠ 5 ∧
      xStopped s.dev (xRing (off.toNat / 0x40000)) = true) ∧
    (∃ (s : State) (off : BitVec 25) (n : Fin 16) (x : Option Token) (c : Resp), unitOk off.toNat n = true ∧
      ringHostCode s.dev (off.toNat / 0x40000) (off.toNat / 0x2000 % 32) = c ∧ c ≠ .ok) ∧
    (∃ (s : State) (r : Fin 128), s.dev.inspected r = false ∧ (s.dev.rstate r = 0 ∨ s.dev.rstate r = 4)) ∧
    (∃ (s : State) (r : Fin 128), s.dev.get (RING_FAB_STATUS_MEM_BUSY r) = 1) ∧
    (∃ (s : State) (r : Fin 128), s.dev.inspected r = false) :=
  ⟨⟨w_RingMemoryAndGroups_0, (0 : Fin 128), (0 : Fin 16), (0 : Fin 8), by decide +kernel⟩,
   ⟨w_RingMemoryAndGroups_1, (0 : Fin 128), (15 : Fin 16), (7 : Fin 8), by decide +kernel⟩,
   ⟨w_RingMemoryAndGroups_2, (0 : Fin 128), (0 : Fin 16), (0 : Fin 8), by decide +kernel⟩,
   ⟨w_RingMemoryAndGroups_3, (0 : Fin 128), (0 : Fin 16), (0 : Fin 8), by decide +kernel⟩,
   ⟨w_RingMemoryAndGroups_4, (0 : Fin 128), (0 : Fin 16), (0 : Fin 8), by decide +kernel⟩,
   ⟨w_RingMemoryAndGroups_5, (8 : BitVec 25), (8 : Fin 16), by decide +kernel⟩,
   ⟨w_RingMemoryAndGroups_6, (12 : BitVec 25), (4 : Fin 16), (0x11223344 : Token), by decide +kernel⟩,
   ⟨w_RingMemoryAndGroups_7, (0 : BitVec 25), (0 : Fin 16), none, by decide +kernel⟩,
   ⟨w_RingMemoryAndGroups_8, (0 : BitVec 25), (0 : Fin 16), none, by decide +kernel⟩,
   ⟨w_RingMemoryAndGroups_9, (0 : BitVec 25), (8 : Fin 16), none, .clockStopped, by decide +kernel⟩,
   ⟨w_RingMemoryAndGroups_10, (0 : Fin 128), by decide +kernel⟩,
   ⟨w_RingMemoryAndGroups_11, (0 : Fin 128), by decide +kernel⟩,
   ⟨w_RingMemoryAndGroups_12, (0 : Fin 128), by decide +kernel⟩⟩

def w_EngineActs_0 : State :=
  let d : Dev := {}
  let d : Dev := onEng (0 : Fin 1024) (fun x => { x with disp := true }) d
  let d : Dev := mem (bundleAt 0 0) 16 0x0A01B2E5 d
  let d : Dev := mem (bundleAt 0 1) 16 5 d
  { dev := d }
def w_EngineActs_1 : State :=
  let d : Dev := {}
  let d : Dev := onEng (0 : Fin 1024) (fun x => { x with disp := true }) d
  let d : Dev := { d with chip := { d.chip with flaws := [(bundleAt 0 3, .double)] } }
  { dev := d }
def w_EngineActs_2 : State :=
  let d : Dev := {}
  let d : Dev := onEng (0 : Fin 1024) (fun x => { x with disp := true }) d
  { dev := d }
def w_EngineActs_3 : State :=
  let d : Dev := {}
  let d : Dev := onEng (0 : Fin 1024) (fun x => { x with ended := false }) d
  let d : Dev := wroute 0 (.slot 10) (.eng 0 0) d
  let d : Dev := wideTok 0 (.slot 10) [77] d
  let d : Dev := inPort 0 0 [5] d
  { dev := d }
def w_EngineActs_4 : State :=
  let d : Dev := {}
  let d : Dev := onEng (0 : Fin 1024) (fun x => { x with ended := true }) d
  let d : Dev := wroute 0 (.slot 10) (.eng 0 0) d
  let d : Dev := wideTok 0 (.slot 10) [77] d
  { dev := d }
def w_EngineActs_5 : State :=
  let d : Dev := {}
  let d : Dev := wroute 0 (.eng 0 0) (.unpack 0) d
  let d : Dev := onEng 0 (fun x => { x with outq := [(0, [77])] }) d
  { dev := d }
def w_EngineActs_6 : State :=
  let d : Dev := {}
  let d : Dev := onEng (0 : Fin 1024) (fun x => { x with ended := true }) d
  let d : Dev := onEng (0 : Fin 1024) (fun x => { x with outq := [] }) d
  { dev := d }
def w_EngineActs_7 : State :=
  let d : Dev := {}
  let d : Dev := onEng (0 : Fin 1024) (fun x => { x with srcUe := [] }) d
  let d : Dev := { d with xm := { d.xm with resps := [({ r := 0, t := 0, who := .engine 3 0, op := 4, code := .perm, units := 0 } : SlotResp)] } }
  let d : Dev := onEng 0 (fun x => { x with tags := [(3, 15)] }) d
  { dev := d }
theorem test_witness_engine_acts :
    (∃ (s : State) (e : Fin 1024), (s.dev.eng e).disp = true ∧ headerUe s.dev e = none ∧
      headerValid (headerWord s.dev e 0) = true ∧ 4 ≤ bitsAt (headerWord s.dev e 1) (16 * (s.dev.eng e).act) 10 ∧
      bitsAt (headerWord s.dev e 1) (16 * (s.dev.eng e).act) 10 ≤ bitsAt (headerWord s.dev e 0) 24 10 ∧
      (s.dev.eng e).act < 8) ∧
    (∃ (s : State) (e : Fin 1024) (n : Nat), (s.dev.eng e).disp = true ∧ headerUe s.dev e = some n) ∧
    (∃ (s : State) (e : Fin 1024), (s.dev.eng e).disp = true ∧ headerUe s.dev e = none ∧
      headerValid (headerWord s.dev e 0) = false) ∧
    (∃ (s : State) (e : Fin 1024) (p : Fin 4) (t : Token) (rest : List Token), waiting s.dev (engRing e) (.eng (e.val % 8) p) = t :: rest ∧
      (s.dev.eng e).ended = false ∧ 0 < inCredit s.dev e p) ∧
    (∃ (s : State) (e : Fin 1024) (p : Fin 4) (t : Token) (rest : List Token), waiting s.dev (engRing e) (.eng (e.val % 8) p) = t :: rest ∧
      (s.dev.eng e).ended = true) ∧
    (∃ (s : State) (e : Fin 1024) (p : Fin 4) (t : Token) (rest : List Token), (s.dev.eng e).outPort p = t :: rest ∧
      wideRoom s.dev (engRing e) (.eng (e.val % 8) p) = true) ∧
    (∃ (s : State) (e : Fin 1024), (s.dev.eng e).ended = true ∧ (s.dev.eng e).outq = []) ∧
    (∃ (s : State) (e : Fin 1024) (a : SlotResp) (rest : List SlotResp) (t m : Nat), takeResp (engRing e) (e.val % 8) s.dev.xm.resps = some (a, rest) ∧
      a.who = .engine t m ∧ (s.dev.eng e).srcUe = [] ∧ a.op ≠ 2 ∧
      (∀ w ∈ s.dev.qm.work, w.r = engRing e → w.t ≠ e.val % 8)) :=
  ⟨⟨w_EngineActs_0, (0 : Fin 1024), by decide +kernel⟩,
   ⟨w_EngineActs_1, (0 : Fin 1024), 3, by decide +kernel⟩,
   ⟨w_EngineActs_2, (0 : Fin 1024), by decide +kernel⟩,
   ⟨w_EngineActs_3, (0 : Fin 1024), (0 : Fin 4), (77 : Token), [], by decide +kernel⟩,
   ⟨w_EngineActs_4, (0 : Fin 1024), (0 : Fin 4), (77 : Token), [], by decide +kernel⟩,
   ⟨w_EngineActs_5, (0 : Fin 1024), (0 : Fin 4), (77 : Token), [], by decide +kernel⟩,
   ⟨w_EngineActs_6, (0 : Fin 1024), by decide +kernel⟩,
   ⟨w_EngineActs_7, (0 : Fin 1024), ({ r := 0, t := 0, who := .engine 3 0, op := 4, code := .perm, units := 0 } : SlotResp), [], 3, 0, by decide +kernel⟩⟩

def w_EngineBundleStops_0 : State :=
  let d : Dev := {}
  let d : Dev := onEng (0 : Fin 1024) (fun x => { x with live := true }) d
  let d : Dev := bundle 0 4 0x2 d
  { dev := d }
def w_EngineBundleStops_1 : State :=
  let d : Dev := {}
  let d : Dev := onEng (0 : Fin 1024) (fun x => { x with live := true }) d
  let d : Dev := bundle 0 4 0x83 d
  { dev := d }
def w_EngineBundleStops_2 : State :=
  let d : Dev := {}
  let d : Dev := onEng (0 : Fin 1024) (fun x => { x with live := true }) d
  let d : Dev := { d with chip := { d.chip with flaws := [(bundleAt 0 4, .double)] } }
  let d : Dev := d.set (ENG_STATUS_PC 0) 4
  { dev := d }
def w_EngineBundleStops_3 : State :=
  let d : Dev := {}
  let d : Dev := onEng (0 : Fin 1024) (fun x => { x with live := true }) d
  let d : Dev := bundle 0 4 0x409000100 d
  let d : Dev := onEng 0 (fun x => { x with s := [(2, 1)] }) d
  { dev := d }
def w_EngineBundleStops_4 : State :=
  let d : Dev := {}
  let d : Dev := onEng (0 : Fin 1024) (fun x => { x with live := true }) d
  let d : Dev := bundle 0 4 0x80c400000 d
  let d : Dev := inPort 0 2 [1] d
  { dev := d }
def w_EngineBundleStops_5 : State :=
  let d : Dev := {}
  let d : Dev := onEng (0 : Fin 1024) (fun x => { x with live := true }) d
  let d : Dev := bundle 0 4 0xc3000000000000000000000000000000 d
  let d : Dev := onEng 0 (fun x => { x with tags := [(3, 15)] }) d
  { dev := d }
theorem test_witness_engine_bundle_stops :
    (∃ (s : State) (e : Fin 1024) (meets : Bool) (w : Nat), (s.dev.eng e).live = true ∧
      fetch s.dev e (s.dev.get (ENG_STATUS_PC e)) = some w ∧ decodeBundle w = some .stop) ∧
    (∃ (s : State) (e : Fin 1024) (meets : Bool) (w : Nat), (s.dev.eng e).live = true ∧
      fetch s.dev e (s.dev.get (ENG_STATUS_PC e)) = some w ∧ decodeBundle w = none) ∧
    (∃ (s : State) (e : Fin 1024) (meets : Bool), (s.dev.eng e).live = true ∧
      fetch s.dev e (s.dev.get (ENG_STATUS_PC e)) = none) ∧
    (∃ (s : State) (e : Fin 1024) (meets pinv pls : Bool) (w pred : Nat) (ls : LsOp) (v0 v1 : VaOp) (m : MacOp) (a z : Nat), (s.dev.eng e).live = true ∧
      fetch s.dev e (s.dev.get (ENG_STATUS_PC e)) = some w ∧
      decodeBundle w = some (.ops pred pinv pls ls v0 v1 (.normal m .nop)) ∧ ls.access (s.dev.eng e) = some (a, z) ∧
      (0xC000 ≤ a ∨ a % z ≠ 0)) ∧
    (∃ (s : State) (e : Fin 1024) (meets pinv pls : Bool) (w pred : Nat) (ls : LsOp) (v0 v1 : VaOp) (t : Tail), (s.dev.eng e).live = true ∧
      fetch s.dev e (s.dev.get (ENG_STATUS_PC e)) = some w ∧ decodeBundle w = some (.ops pred pinv pls ls v0 v1 t) ∧
      portWait s.dev e ls = true) ∧
    (∃ (s : State) (e : Fin 1024) (meets pinv pls : Bool) (w pred : Nat) (ls : LsOp) (v0 v1 : VaOp) (m : MacOp) (xs : XsOp), (s.dev.eng e).live = true ∧
      fetch s.dev e (s.dev.get (ENG_STATUS_PC e)) = some w ∧
      decodeBundle w = some (.ops pred pinv pls ls v0 v1 (.normal m xs)) ∧ portWait s.dev e ls = false ∧
      tagWait (s.dev.eng e) xs = true) :=
  ⟨⟨w_EngineBundleStops_0, (0 : Fin 1024), false, 0x2, by decide +kernel⟩,
   ⟨w_EngineBundleStops_1, (0 : Fin 1024), false, 0x83, by decide +kernel⟩,
   ⟨w_EngineBundleStops_2, (0 : Fin 1024), false, by decide +kernel⟩,
   ⟨w_EngineBundleStops_3, (0 : Fin 1024), false, false, false, 0x409000100, 0, (.sst 1 2 false 1), (.nop), (.nop), (.nop), 5, 4, by decide +kernel⟩,
   ⟨w_EngineBundleStops_4, (0 : Fin 1024), false, false, false, 0x80c400000, 0, (.recv 1 2 1), (.nop), (.nop), (.normal .nop .nop), by decide +kernel⟩,
   ⟨w_EngineBundleStops_5, (0 : Fin 1024), false, false, false, 0xc3000000000000000000000000000000, 0, (.nop), (.nop), (.nop), (.nop), (.wait 3 false), by decide +kernel⟩⟩

def w_EngineBundleEffects_0 : State :=
  let d : Dev := {}
  let d : Dev := onEng (0 : Fin 1024) (fun x => { x with live := true }) d
  let d : Dev := bundle 0 4 0xf0c007ec4805000000000 d
  let d : Dev := onEng 0 (fun x => { x with s := [(2, 9)], waited := true }) d
  { dev := d }
def w_EngineBundleEffects_1 : State :=
  let d : Dev := {}
  let d : Dev := onEng (0 : Fin 1024) (fun x => { x with live := true }) d
  let d : Dev := (bundle 0 10 0xf0c007ec4805000000000 d)
  { dev := d }
def w_EngineBundleEffects_2 : State :=
  let d : Dev := {}
  let d : Dev := onEng (0 : Fin 1024) (fun x => { x with live := true }) d
  let d : Dev := bundle 0 4 0xa0807000000000000000000001 d
  let d : Dev := d.set (ENG_BOUND_BOUND_LO 0 1) 12
  { dev := d }
def w_EngineBundleEffects_3 : State :=
  let d : Dev := {}
  let d : Dev := onEng (0 : Fin 1024) (fun x => { x with live := true }) d
  let d : Dev := bundle 0 4 0x409400200 d
  let d : Dev := onEng 0 (fun x => { x with s := [(1, 0x11223344), (2, 0xBFFC)] }) d
  { dev := d }
def w_EngineBundleEffects_4 : State :=
  let d : Dev := {}
  let d : Dev := onEng (0 : Fin 1024) (fun x => { x with live := true }) d
  let d : Dev := bundle 0 4 0x80c400000 d
  let d : Dev := inPort 0 2 [11, 12, 13] d
  { dev := d }
def w_EngineBundleEffects_5 : State :=
  let d : Dev := {}
  let d : Dev := onEng (0 : Fin 1024) (fun x => { x with live := true }) d
  let d : Dev := bundle 0 4 0x90c400000 d
  let d : Dev := d.set (ENG_PORT_CFG_OUT_DM1 0) 0xFFFF
  let d : Dev := onEng 0 (fun x => { x with v := [(1, 0x123456789abcdef0fedcba9876543210)] }) d
  { dev := d }
def w_EngineBundleEffects_6 : State :=
  let d : Dev := {}
  let d : Dev := onEng (0 : Fin 1024) (fun x => { x with live := true }) d
  let d : Dev := bundle 0 4 0x43010000000000000000000000000000 d
  let d : Dev := onEng 0 (fun x => { x with s := [(2, 9)] }) d
  { dev := d }
theorem test_witness_engine_bundle_effects :
    (∃ (s : State) (e : Fin 1024) (meets pinv pls : Bool) (w pred : Nat) (v0 v1 : VaOp) (m : MacOp), (s.dev.eng e).live = true ∧
      fetch s.dev e (s.dev.get (ENG_STATUS_PC e)) = some w ∧
      decodeBundle w = some (.ops pred pinv pls .nop v0 v1 (.normal m .nop)) ∧
      (unwind (s.dev.get (ENG_STATUS_PC e)) (s.dev.eng e).loops).2 ≤ s.dev.get (ENG_HDR_LAST e)) ∧
    (∃ (s : State) (e : Fin 1024) (meets pinv pls : Bool) (w pred : Nat) (v0 v1 : VaOp) (m : MacOp), (s.dev.eng e).live = true ∧
      fetch s.dev e (s.dev.get (ENG_STATUS_PC e)) = some w ∧
      decodeBundle w = some (.ops pred pinv pls .nop v0 v1 (.normal m .nop)) ∧
      s.dev.get (ENG_HDR_LAST e) < (unwind (s.dev.get (ENG_STATUS_PC e)) (s.dev.eng e).loops).2) ∧
    (∃ (s : State) (e : Fin 1024) (meets pinv pls : Bool) (w pred endb j : Nat) (v0 v1 : VaOp) (c : LoopCount), (s.dev.eng e).live = true ∧
      fetch s.dev e (s.dev.get (ENG_STATUS_PC e)) = some w ∧
      decodeBundle w = some (.ops pred pinv pls .nop v0 v1 (.loop endb j c)) ∧
      loopFault s.dev e (s.dev.get (ENG_STATUS_PC e)) endb j (s.dev.eng e).loops = 0 ∧
      endb ≤ s.dev.get (ENG_HDR_LAST e) ∧ 0 < countOf c (s.dev.eng e)) ∧
    (∃ (s : State) (e : Fin 1024) (meets pinv pls inc : Bool) (w pred rt b : Nat) (ofs : Int), (s.dev.eng e).live = true ∧
      fetch s.dev e (s.dev.get (ENG_STATUS_PC e)) = some w ∧
      decodeBundle w = some (.ops pred pinv pls (.sst rt b inc ofs) .nop .nop (.normal .nop .nop)) ∧
      badAddr (lsAddr (s.dev.eng e) b inc ofs 4) 4 = false ∧
      s.dev.chipFlaw (dataAt e (8 * (lsAddr (s.dev.eng e) b inc ofs 4 / 8))) = .none) ∧
    (∃ (s : State) (e : Fin 1024) (meets pinv pls : Bool) (w pred rt p n : Nat), (s.dev.eng e).live = true ∧
      fetch s.dev e (s.dev.get (ENG_STATUS_PC e)) = some w ∧
      decodeBundle w = some (.ops pred pinv pls (.recv rt p n) .nop .nop (.normal .nop .nop)) ∧
      n < ((s.dev.eng e).inPort p).length ∧
      (unwind (s.dev.get (ENG_STATUS_PC e)) (s.dev.eng e).loops).2 ≤ s.dev.get (ENG_HDR_LAST e)) ∧
    (∃ (s : State) (e : Fin 1024) (meets pinv pls : Bool) (w pred rt p n : Nat), (s.dev.eng e).live = true ∧
      fetch s.dev e (s.dev.get (ENG_STATUS_PC e)) = some w ∧
      decodeBundle w = some (.ops pred pinv pls (.send rt p n) .nop .nop (.normal .nop .nop)) ∧
      portWait s.dev e (.send rt p n) = false ∧
      (unwind (s.dev.get (ENG_STATUS_PC e)) (s.dev.eng e).loops).2 ≤ s.dev.get (ENG_HDR_LAST e)) ∧
    (∃ (s : State) (e : Fin 1024) (meets pinv pls : Bool) (w pred tg : Nat) (xs : XsOp) (q : SlotReq), (s.dev.eng e).live = true ∧
      fetch s.dev e (s.dev.get (ENG_STATUS_PC e)) = some w ∧
      decodeBundle w = some (.ops pred pinv pls .nop .nop .nop (.normal .nop xs)) ∧ tagWait (s.dev.eng e) xs = false ∧
      xs.tag = some tg ∧ xsRequest xs (s.dev.eng e) = some q ∧ xs.desc (s.dev.eng e) = none ∧
      carriesData q.op = false) :=
  ⟨⟨w_EngineBundleEffects_0, (0 : Fin 1024), false, false, false, 0xf0c007ec4805000000000, 0, (.saddi 1 2 5), (.smovi 3 7), (.nop), by decide +kernel⟩,
   ⟨w_EngineBundleEffects_1, (0 : Fin 1024), false, false, false, 0xf0c007ec4805000000000, 0, (.saddi 1 2 5), (.smovi 3 7), (.nop), by decide +kernel⟩,
   ⟨w_EngineBundleEffects_2, (0 : Fin 1024), false, false, false, 0xa0807000000000000000000001, 0, 7, 2, (.nop), (.nop), (.imm 20), by decide +kernel⟩,
   ⟨w_EngineBundleEffects_3, (0 : Fin 1024), false, false, false, true, 0x409400200, 0, 1, 2, 2, by decide +kernel⟩,
   ⟨w_EngineBundleEffects_4, (0 : Fin 1024), false, false, false, 0x80c400000, 0, 1, 2, 1, by decide +kernel⟩,
   ⟨w_EngineBundleEffects_5, (0 : Fin 1024), false, false, false, 0x90c400000, 0, 1, 2, 1, by decide +kernel⟩,
   ⟨w_EngineBundleEffects_6, (0 : Fin 1024), false, false, false, 0x43010000000000000000000000000000, 0, 3, (.rewind 3 false 1), ({ who := .engine 3 0, op := 4, tgt := 9 } : SlotReq), by decide +kernel⟩⟩

theorem test_witness_vector_arithmetic :
    (∃ (x : EngSt) (g vd va vb i : Nat), i < 16) ∧
    (∃ (x : EngSt) (g vd va vb i : Nat), i < 32) ∧
    (∃ (x : EngSt) (g vd va vb i : Nat), i < 32) ∧
    (∃ (x : EngSt) (g vd va vb i : Nat), i < 64) ∧
    (∃ (x : EngSt) (g ad : Nat), g = 0xFFFFFFFF) :=
  ⟨⟨({ v := [(1, 2 ^ 512 - 1), (2, 0x7FFF80017FFFFFFF80000000)] } : EngSt), 0x5555555555555555, 3, 2, 1, 15, by decide +kernel⟩,
   ⟨({ v := [(1, 2 ^ 512 - 1), (2, 0x7FFF80017FFFFFFF80000000)] } : EngSt), 0x5555555555555555, 3, 2, 1, 31, by decide +kernel⟩,
   ⟨({ v := [(1, 2 ^ 512 - 1), (2, 0x7FFF80017FFFFFFF80000000)] } : EngSt), 0x5555555555555555, 3, 2, 1, 31, by decide +kernel⟩,
   ⟨({ v := [(1, 2 ^ 512 - 1), (2, 0x7FFF80017FFFFFFF80000000)] } : EngSt), 0x5555555555555555, 3, 2, 1, 63, by decide +kernel⟩,
   ⟨({ a := [(0, 77)] } : EngSt), 0xFFFFFFFF, 0, by decide +kernel⟩⟩

def w_EngineHostAccess_0 : State :=
  let d : Dev := {}
  { dev := d }
def w_EngineHostAccess_1 : State :=
  let d : Dev := {}
  { dev := d }
def w_EngineHostAccess_2 : State :=
  let d : Dev := {}
  { dev := d }
def w_EngineHostAccess_3 : State :=
  let d : Dev := {}
  { dev := d }
def w_EngineHostAccess_4 : State :=
  let d : Dev := {}
  let d : Dev := d.set (RING_STATUS_STATE (engRing (0 : Fin 1024))) 0
  { dev := d }
def w_EngineHostAccess_5 : State :=
  let d : Dev := {}
  let d : Dev := d.set (RING_STATUS_STATE (engRing (0 : Fin 1024))) 0
  { dev := d }
def w_EngineHostAccess_6 : State :=
  let d : Dev := {}
  let d : Dev := d.set (RING_STATUS_STATE 0) 2
  { dev := d }
def w_EngineHostAccess_7 : State :=
  let d : Dev := {}
  let d : Dev := d.set (ENG_STATUS_MEM_BUSY (0 : Fin 1024)) (1)
  let d : Dev := mem (dataAt 0 0) 8 5 d
  { dev := d }
def w_EngineHostAccess_8 : State :=
  let d : Dev := {}
  { dev := d }
def w_EngineHostAccess_9 : State :=
  let d : Dev := {}
  { dev := d }
def w_EngineHostAccess_10 : State :=
  let d : Dev := {}
  let d : Dev := d.set (RING_STATUS_STATE (engRing (0 : Fin 1024))) 0
  let d : Dev := d.set (ENG_DBG_ADDR_FILE (0 : Fin 1024)) (1)
  let d : Dev := d.set (ENG_DBG_ADDR_WORD (0 : Fin 1024)) (0)
  let d : Dev := d.set (ENG_DBG_ADDR_AUTO_INC (0 : Fin 1024)) (0)
  let d : Dev := d.set (ENG_DBG_ADDR_INDEX 0) 15
  let d : Dev := onEng 0 (fun x => { x with s := [(15, 9)] }) d
  { dev := d }
def w_EngineHostAccess_11 : State :=
  let d : Dev := {}
  let d : Dev := d.set (RING_STATUS_STATE (engRing (0 : Fin 1024))) 0
  let d : Dev := d.set (ENG_DBG_ADDR_FILE (0 : Fin 1024)) (1)
  let d : Dev := d.set (ENG_DBG_ADDR_WORD (0 : Fin 1024)) (0)
  let d : Dev := d.set (ENG_DBG_ADDR_AUTO_INC (0 : Fin 1024)) (0)
  let d : Dev := d.set (ENG_DBG_ADDR_INDEX 0) 15
  { dev := d }
theorem test_witness_engine_host_access :
    (∃ (s : State) (e : Fin 1024) (a : BitVec 16) (len : Fin 16), dataHostCode s.dev e a.toNat len = .ok ∧
      s.dev.chipFlaw (dataAt e (8 * (a.toNat / 8))) = .none) ∧
    (∃ (s : State) (e : Fin 1024) (a : BitVec 16) (len : Fin 16) (v : Token), dataHostCode s.dev e a.toNat len = .ok ∧
      s.dev.chipFlaw (dataAt e (8 * (a.toNat / 8))) = .none) ∧
    (∃ (s : State) (e : Fin 1024) (a : BitVec 16) (len : Fin 16) (v : Option Token) (c : Resp), dataHostCode s.dev e a.toNat len = c ∧
      c ≠ .ok) ∧
    (∃ (s : State) (e : Fin 1024) (a : BitVec 14) (len : Fin 16), s.dev.inspected (engRing e) = false ∧
      xStopped s.dev (xProg e) = false ∧ unitOk a.toNat len = true ∧
      s.dev.chipFlaw (bundleAt e (a.toNat / 16)) ≠ .double) ∧
    (∃ (s : State) (e : Fin 1024), s.dev.inspected (engRing e) = false ∧
      (s.dev.rstate (engRing e) = 0 ∨ s.dev.rstate (engRing e) = 4)) ∧
    (∃ (s : State) (e : Fin 1024), s.dev.inspected (engRing e) = false ∧
      (s.dev.rstate (engRing e) = 0 ∨ s.dev.rstate (engRing e) = 4)) ∧
    (∃ (s : State) (e : Fin 1024) (c : Instr), c ∈ [Instr.engMemZero e, Instr.clearRegs e] ∧
      s.dev.inspected (engRing e) = false ∧ s.dev.rstate (engRing e) ≠ 0 ∧ s.dev.rstate (engRing e) ≠ 4) ∧
    (∃ (s : State) (e : Fin 1024), s.dev.get (ENG_STATUS_MEM_BUSY e) = 1) ∧
    (∃ (s : State) (e : Fin 1024), s.dev.inspected (engRing e) = false) ∧
    (∃ (s : State) (e : Fin 1024), s.dev.inspected (engRing e) = false) ∧
    (∃ (s : State) (e : Fin 1024), s.dev.rstate (engRing e) = 0 ∧ s.dev.get (ENG_DBG_ADDR_FILE e) = 1 ∧
      s.dev.get (ENG_DBG_ADDR_INDEX e) < 16 ∧ s.dev.get (ENG_DBG_ADDR_WORD e) = 0 ∧
      s.dev.get (ENG_DBG_ADDR_AUTO_INC e) = 0) ∧
    (∃ (s : State) (e : Fin 1024) (v : Word), s.dev.rstate (engRing e) = 0 ∧ s.dev.get (ENG_DBG_ADDR_FILE e) = 1 ∧
      s.dev.get (ENG_DBG_ADDR_INDEX e) < 16 ∧ s.dev.get (ENG_DBG_ADDR_WORD e) = 0 ∧
      s.dev.get (ENG_DBG_ADDR_AUTO_INC e) = 0) :=
  ⟨⟨w_EngineHostAccess_0, (0 : Fin 1024), (0xBFF8 : BitVec 16), (8 : Fin 16), by decide +kernel⟩,
   ⟨w_EngineHostAccess_1, (0 : Fin 1024), (0xBFFC : BitVec 16), (4 : Fin 16), (0x11223344 : Token), by decide +kernel⟩,
   ⟨w_EngineHostAccess_2, (0 : Fin 1024), (0xC000 : BitVec 16), (8 : Fin 16), none, (Resp.addr), by decide +kernel⟩,
   ⟨w_EngineHostAccess_3, (0 : Fin 1024), (0x3FF8 : BitVec 14), (8 : Fin 16), by decide +kernel⟩,
   ⟨w_EngineHostAccess_4, (0 : Fin 1024), by decide +kernel⟩,
   ⟨w_EngineHostAccess_5, (0 : Fin 1024), by decide +kernel⟩,
   ⟨w_EngineHostAccess_6, (0 : Fin 1024), (Instr.clearRegs 0), by decide +kernel⟩,
   ⟨w_EngineHostAccess_7, (0 : Fin 1024), by decide +kernel⟩,
   ⟨w_EngineHostAccess_8, (0 : Fin 1024), by decide +kernel⟩,
   ⟨w_EngineHostAccess_9, (0 : Fin 1024), by decide +kernel⟩,
   ⟨w_EngineHostAccess_10, (0 : Fin 1024), by decide +kernel⟩,
   ⟨w_EngineHostAccess_11, (0 : Fin 1024), (99 : Word), by decide +kernel⟩⟩

def w_StreamCrossings_0 : State :=
  let d : Dev := {}
  let d : Dev := d.set (TS_CFG_EN (0 : Fin 128) (soutSlot (0 : Fin 4))) 1
  let d : Dev := wroute 0 (.pack 3) (.slot (soutSlot 0)) d
  let d : Dev := wideTok 0 (.pack 3) [99] d
  let d : Dev := onSlot 0 (soutSlot 0) (fun x => { x with space := 1 }) d
  { dev := d }
def w_StreamCrossings_1 : State :=
  let d : Dev := {}
  let d : Dev := d.set (TS_CFG_EN (0 : Fin 128) (soutSlot (0 : Fin 4))) 1
  let d : Dev := onSlot (0 : Fin 128) (soutSlot (0 : Fin 4)) (fun x => { x with space := 0 }) d
  let d : Dev := wroute 0 (.pack 3) (.slot (soutSlot 0)) d
  let d : Dev := wideTok 0 (.pack 3) [99] d
  { dev := d }
def w_StreamCrossings_2 : State :=
  let d : Dev := {}
  let d : Dev := d.set (TS_CFG_EN (0 : Fin 128) (soutSlot (0 : Fin 4))) 0
  let d : Dev := wroute 0 (.pack 3) (.slot (soutSlot 0)) d
  let d : Dev := wideTok 0 (.pack 3) [99] d
  { dev := d }
def w_StreamCrossings_3 : State :=
  let d : Dev := {}
  let d : Dev := d.set (TS_CFG_EN (0 : Fin 128) (sinSlot (0 : Fin 4))) 1
  let d : Dev := d.set (TS_STATUS_STATE (0 : Fin 128) (sinSlot (0 : Fin 4))) 1
  let d : Dev := onSlot 0 (sinSlot 0) (fun x => { x with fin := List.replicate 63 (0, 5) }) d
  { dev := d }
def w_StreamCrossings_4 : State :=
  let d : Dev := {}
  let d : Dev := d.set (TS_CFG_EN (0 : Fin 128) (sinSlot (0 : Fin 4))) 0
  let d : Dev := onSlot 0 (sinSlot 0) (fun x => { x with fin := List.replicate 64 (0, 5) }) d
  { dev := d }
def w_StreamCrossings_5 : State :=
  let d : Dev := {}
  let d : Dev := d.set QM_STATUS_STATE 0
  let d : Dev := d.set (TS_CFG_EN (0 : Fin 128) (soutSlot (0 : Fin 4))) 1
  let d : Dev := d.set (TS_STATUS_STATE (0 : Fin 128) (soutSlot (0 : Fin 4))) 1
  let d : Dev := d.set (TS_CFG_TARGET (0 : Fin 128) (soutSlot (0 : Fin 4))) ((0 : Fin 128).val / 2)
  let d : Dev := onSlot (0 : Fin 128) (soutSlot (0 : Fin 4)) (fun x => { x with pub := (0, (0 : Token)) :: [(0, 5), (1, 6)] }) d
  let d : Dev := onSlot (0 : Fin 128) (soutSlot (0 : Fin 4)) (fun x => { x with seg := none }) d
  { dev := d }
def w_StreamCrossings_6 : State :=
  let d : Dev := {}
  let d : Dev := d.set (TS_CFG_EN (0 : Fin 128) (soutSlot (0 : Fin 4))) 1
  let d : Dev := d.set (TS_STATUS_STATE (0 : Fin 128) (soutSlot (0 : Fin 4))) 1
  let d : Dev := d.set (TS_CFG_TARGET (0 : Fin 128) (soutSlot (0 : Fin 4))) ((0 : Fin 128).val / 2)
  let d : Dev := onSlot (0 : Fin 128) (soutSlot (0 : Fin 4)) (fun x => { x with pub := (0, (0x04010002 : Token)) :: [(0, 0x1122334455667788)] }) d
  let d : Dev := onSlot (0 : Fin 128) (soutSlot (0 : Fin 4)) (fun x => { x with seg := none }) d
  let d : Dev := d.set QM_STATUS_STATE 0
  let d : Dev := (d.set (QD_CFG_EN 2) 1).set (QD_BIND_PROD 2) 0
  let d : Dev := (d.set (QD_CFG_MODE 2) 1).set (QD_CFG_MAX_CELLS 2) 2
  { dev := d }
def d1_StreamCrossings_6 : Dev := (qPush (soutSrc 0 (soutSlot 0)) 2 (narrowWords [0x1122334455667788] true 0) (mapSlot 0 (soutSlot 0) (fun x => { x with pub := [(0, 0x1122334455667788)] }) (portTurn 0 14 w_StreamCrossings_6.dev))).2.2
def w_StreamCrossings_7 : State :=
  let d : Dev := {}
  let d : Dev := d.set (QM_SIN_EN (4 * (0 : Fin 128) + (0 : Fin 4))) (0)
  { dev := d }
def w_StreamCrossings_8 : State :=
  let d : Dev := {}
  let d : Dev := d.set (QM_SIN_EN (4 * (0 : Fin 128) + (0 : Fin 4))) (1)
  let d : Dev := d.set (TS_CFG_TARGET (0 : Fin 128) (sinSlot (0 : Fin 4))) (0x40 + (0 : Fin 128).val / 4)
  let d : Dev := d.set (QM_SIN_WHOLE (4 * (0 : Fin 128) + (0 : Fin 4))) (0)
  let d : Dev := d.set QM_STATUS_STATE 0
  let d : Dev := (d.set (QM_SIN_EN 0) 1).set (QM_SIN_QUEUE 0) 2
  let d : Dev := (d.set (QD_CFG_EN 2) 1).set (QD_BIND_CONS 2) 0
  let d : Dev := (d.set (TS_CFG_EN 0 (sinSlot 0)) 1).set (TS_STATUS_STATE 0 (sinSlot 0)) 1
  let d : Dev := onQueue 2 (fun x => ({ x with words := [{ data := leBytes 8 0x1122334455667788, vb := 8, fin := true }], cells := [0] } : QSt).setPtrs { tail := 1, commit := 1 }) d
  let d : Dev := { d with qm := { d.qm with pool := [(0, some { q := 2 })] } }
  { dev := d }
def d1_StreamCrossings_8 : Dev := (qPop (0, sinSlot 0) 2 1 false (portTurn 64 10 w_StreamCrossings_8.dev)).2.2
theorem test_witness_stream_crossings :
    (∃ (s : State) (r : Fin 128) (i : Fin 4) (w : Token) (rest : List Token), slotEn s.dev r (soutSlot i) = true ∧
      waiting s.dev r (.slot (soutSlot i)) = w :: rest ∧ 0 < (s.dev.slot r (soutSlot i)).space) ∧
    (∃ (s : State) (r : Fin 128) (i : Fin 4) (w : Token) (rest : List Token), slotEn s.dev r (soutSlot i) = true ∧
      waiting s.dev r (.slot (soutSlot i)) = w :: rest ∧ (s.dev.slot r (soutSlot i)).space = 0) ∧
    (∃ (s : State) (r : Fin 128) (i : Fin 4) (w : Token) (rest : List Token), slotEn s.dev r (soutSlot i) = false ∧
      waiting s.dev r (.slot (soutSlot i)) = w :: rest) ∧
    (∃ (s : State) (r : Fin 128) (i : Fin 4) (w : Token), slotEn s.dev r (sinSlot i) = true ∧
      slotSt s.dev r (sinSlot i) = 1 ∧ (s.dev.slot r (sinSlot i)).fin.length < 64) ∧
    (∃ (s : State) (r : Fin 128) (i : Fin 4) (w : Token), (slotEn s.dev r (sinSlot i) = false ∨ slotSt s.dev r (sinSlot i) ≠ 1 ∨ 64 ≤ (s.dev.slot r (sinSlot i)).fin.length)) ∧
    (∃ (s : State) (r : Fin 128) (i : Fin 4) (k : Nat) (h : Token) (rest : List (Nat × Token)), slotEn s.dev r (soutSlot i) = true ∧
      slotSt s.dev r (soutSlot i) = 1 ∧ s.dev.get (TS_CFG_TARGET r (soutSlot i)) = r.val / 2 ∧
      (s.dev.slot r (soutSlot i)).pub = (k, h) :: rest ∧ (s.dev.slot r (soutSlot i)).seg = none ∧
      bitsAt h.toNat 26 6 = 0 ∧ qmBlocked s.dev = none ∧ s.dev.qm.work = []) ∧
    (∃ (s : State) (r : Fin 128) (i : Fin 4) (k n m : Nat) (h : Token) (es : List (Nat × Token)) (d1 : Dev), slotEn s.dev r (soutSlot i) = true ∧
      slotSt s.dev r (soutSlot i) = 1 ∧ s.dev.get (TS_CFG_TARGET r (soutSlot i)) = r.val / 2 ∧
      (s.dev.slot r (soutSlot i)).pub = (k, h) :: es ∧ (s.dev.slot r (soutSlot i)).seg = none ∧
      n = bitsAt h.toNat 26 6 ∧ n ≠ 0 ∧ es.length = n ∧ bitsAt h.toNat 14 2 = 0 ∧ bitsAt h.toNat 17 3 = 0 ∧
      bitsAt h.toNat 23 3 = 0 ∧ h.toNat < 2 ^ 32 ∧ qmBlocked s.dev = none ∧ s.dev.qm.work = [] ∧
      (s.dev.queue (bitsAt h.toNat 0 14)).lock = none ∧
      qPush (soutSrc r (soutSlot i)) (bitsAt h.toNat 0 14) (narrowWords (es.map (·.2)) (bitAt h.toNat 16) (bitsAt h.toNat 20 3)) (mapSlot r (soutSlot i) (fun x => { x with pub := es }) (portTurn (r / 2) (32 * r + soutSlot i) s.dev)) = (.ok, m, d1)) ∧
    (∃ (s : State) (r : Fin 128) (i : Fin 4), s.dev.get (QM_SIN_EN (4 * r + i)) = 0 ∧ s.dev.qm.work = []) ∧
    (∃ (s : State) (r : Fin 128) (i : Fin 4) (q : Nat) (w : QWord) (c : Resp) (d1 : Dev), s.dev.get (QM_SIN_EN (4 * r + i)) = 1 ∧
      q = s.dev.get (QM_SIN_QUEUE (4 * r + i)) ∧ s.dev.get (TS_CFG_TARGET r (sinSlot i)) = 0x40 + r.val / 4 ∧
      segmentWords s.dev q = 1 ∧ streamRoom s.dev r (sinSlot i) 5 = true ∧ s.dev.get (QM_SIN_WHOLE (4 * r + i)) = 0 ∧
      s.dev.qm.work = [] ∧
      qPop (r.val / 4, 32 * r.val + sinSlot i) q 1 false (portTurn (64 + r / 4) (32 * r + sinSlot i) s.dev) = (c, [w], d1)) :=
  ⟨⟨w_StreamCrossings_0, (0 : Fin 128), (0 : Fin 4), (99 : Token), [], by decide +kernel⟩,
   ⟨w_StreamCrossings_1, (0 : Fin 128), (0 : Fin 4), (99 : Token), [], by decide +kernel⟩,
   ⟨w_StreamCrossings_2, (0 : Fin 128), (0 : Fin 4), (99 : Token), [], by decide +kernel⟩,
   ⟨w_StreamCrossings_3, (0 : Fin 128), (0 : Fin 4), (99 : Token), by decide +kernel⟩,
   ⟨w_StreamCrossings_4, (0 : Fin 128), (0 : Fin 4), (0 : Token), by decide +kernel⟩,
   ⟨w_StreamCrossings_5, (0 : Fin 128), (0 : Fin 4), 0, (0 : Token), [(0, 5), (1, 6)], by decide +kernel⟩,
   ⟨w_StreamCrossings_6, (0 : Fin 128), (0 : Fin 4), 0, (bitsAt (0x04010002 : Token).toNat 26 6), 1, (0x04010002 : Token), [(0, 0x1122334455667788)], d1_StreamCrossings_6, by decide +kernel⟩,
   ⟨w_StreamCrossings_7, (0 : Fin 128), (0 : Fin 4), by decide +kernel⟩,
   ⟨w_StreamCrossings_8, (0 : Fin 128), (0 : Fin 4), (w_StreamCrossings_8.dev.get (QM_SIN_QUEUE (4 * (0 : Fin 128) + (0 : Fin 4)))), ({ data := leBytes 8 0x1122334455667788, vb := 8, fin := true } : QWord), (.ok), d1_StreamCrossings_8, by decide +kernel⟩⟩

def w_PulseCrossings_0 : State :=
  let d : Dev := {}
  let d : Dev := d.set (TS_CFG_EN (0 : Fin 128) 25) 1
  let d : Dev := onFab 0 (fun f => { f with pulses := [(0, some 0)] }) d
  let d : Dev := onLane 0 25 0 (fun x => { x with staged := 14 }) d
  { dev := d }
def w_PulseCrossings_1 : State :=
  let d : Dev := {}
  let d : Dev := d.set (TS_CFG_EN (0 : Fin 128) 25) 1
  let d : Dev := onFab 0 (fun f => { f with pulses := [(0, some 0)] }) d
  let d : Dev := onLane 0 25 0 (fun x => { x with staged := 15 }) d
  { dev := d }
def w_PulseCrossings_2 : State :=
  let d : Dev := {}
  let d : Dev := d.set (TS_CFG_EN (0 : Fin 128) 24) 1
  let d : Dev := d.set (TS_STATUS_STATE (0 : Fin 128) 24) 1
  { dev := d }
def w_PulseCrossings_3 : State :=
  let d : Dev := {}
  let d : Dev := d.set (TS_CFG_EN (0 : Fin 128) 24) 1
  let d : Dev := d.set (TS_STATUS_STATE (0 : Fin 128) 24) 1
  let d : Dev := onLane 0 24 0 (fun x => { x with busy := true, acc := 14 }) d
  { dev := d }
def w_PulseCrossings_4 : State :=
  let d : Dev := {}
  let d : Dev := d.set (TS_CFG_EN (0 : Fin 128) 24) 1
  let d : Dev := d.set (TS_STATUS_STATE (0 : Fin 128) 24) 1
  let d : Dev := onLane 0 24 0 (fun x => { x with busy := true, acc := 15 }) d
  { dev := d }
def w_PulseCrossings_5 : State :=
  let d : Dev := {}
  let d : Dev := d.set (TS_CFG_EN (0 : Fin 128) 24) 1
  { dev := d }
def w_PulseCrossings_6 : State :=
  let d : Dev := {}
  let d : Dev := d.set (TS_STATUS_STATE (0 : Fin 128) 24) 1
  let d : Dev := onLane 0 24 0 (fun x => { x with busy := true, got := List.replicate 14 0 }) d
  { dev := d }
def w_PulseCrossings_7 : State :=
  let d : Dev := {}
  let d : Dev := d.set (TS_STATUS_STATE (0 : Fin 128) 25) 1
  let d : Dev := onLane 0 25 0 (fun x => { x with busy := true }) d
  { dev := d }
def w_PulseCrossings_8 : State :=
  let d : Dev := {}
  let d : Dev := d.set (TS_STATUS_STATE (0 : Fin 128) (24 + b2n false)) 1
  let d : Dev := onLane 0 24 0 (fun x => { x with busy := true, delivered := true, acc := 2 }) d
  { dev := d }
def w_PulseCrossings_9 : State :=
  let d : Dev := {}
  let d : Dev := d.set (TS_STATUS_STATE (0 : Fin 128) 24) 1
  let d : Dev := onLane 0 24 0 (fun x => { x with busy := true, delivered := true, acc := 2 }) d
  { dev := d }
theorem test_witness_pulse_crossings :
    (∃ (s : State) (r : Fin 128) (l : Fin 4) (v : Digit), sget none (s.dev.ring r).fab.pulses l = some v ∧
      slotEn s.dev r 25 = true ∧ (lane s.dev r 25 l).staged < 15) ∧
    (∃ (s : State) (r : Fin 128) (l : Fin 4) (v : Digit), sget none (s.dev.ring r).fab.pulses l = some v ∧
      slotEn s.dev r 25 = true ∧ 15 ≤ (lane s.dev r 25 l).staged) ∧
    (∃ (s : State) (r : Fin 128) (l : Fin 4), slotEn s.dev r 24 = true ∧ slotSt s.dev r 24 = 1 ∧
      (lane s.dev r 24 l).busy = false) ∧
    (∃ (s : State) (r : Fin 128) (l : Fin 4), slotEn s.dev r 24 = true ∧ slotSt s.dev r 24 = 1 ∧
      (lane s.dev r 24 l).busy = true ∧ (lane s.dev r 24 l).acc < 15) ∧
    (∃ (s : State) (r : Fin 128) (l : Fin 4), slotEn s.dev r 24 = true ∧ slotSt s.dev r 24 = 1 ∧
      (lane s.dev r 24 l).busy = true ∧ 15 ≤ (lane s.dev r 24 l).acc) ∧
    (∃ (s : State) (r : Fin 128) (l : Fin 4), slotEn s.dev r 24 = true ∧ slotSt s.dev r 24 ≠ 1) ∧
    (∃ (s : State) (r : Fin 128) (l : Fin 4), slotSt s.dev r 24 = 1 ∧ (lane s.dev r 24 l).busy = true ∧
      (lane s.dev r 24 l).delivered = false ∧ (lane s.dev r 24 l).got.length < 15) ∧
    (∃ (s : State) (r : Fin 128) (l : Fin 4), slotSt s.dev r 25 = 1 ∧ (lane s.dev r 25 l).busy = true ∧
      (lane s.dev r 25 l).delivered = false) ∧
    (∃ (s : State) (r : Fin 128) (l : Fin 4) (o p : Bool), slotSt s.dev r (24 + b2n o) = 1 ∧
      (lane s.dev r (24 + b2n o) l).busy = true ∧ (lane s.dev r (24 + b2n o) l).delivered = true ∧
      (p = false ∨ o = true)) ∧
    (∃ (s : State) (r : Fin 128) (l : Fin 4), slotSt s.dev r 24 = 1 ∧ (lane s.dev r 24 l).busy = true ∧
      (lane s.dev r 24 l).delivered = true) :=
  ⟨⟨w_PulseCrossings_0, (0 : Fin 128), (0 : Fin 4), (default : Digit), by decide +kernel⟩,
   ⟨w_PulseCrossings_1, (0 : Fin 128), (0 : Fin 4), (default : Digit), by decide +kernel⟩,
   ⟨w_PulseCrossings_2, (0 : Fin 128), (0 : Fin 4), by decide +kernel⟩,
   ⟨w_PulseCrossings_3, (0 : Fin 128), (0 : Fin 4), by decide +kernel⟩,
   ⟨w_PulseCrossings_4, (0 : Fin 128), (0 : Fin 4), by decide +kernel⟩,
   ⟨w_PulseCrossings_5, (0 : Fin 128), (0 : Fin 4), by decide +kernel⟩,
   ⟨w_PulseCrossings_6, (0 : Fin 128), (0 : Fin 4), by decide +kernel⟩,
   ⟨w_PulseCrossings_7, (0 : Fin 128), (0 : Fin 4), by decide +kernel⟩,
   ⟨w_PulseCrossings_8, (0 : Fin 128), (0 : Fin 4), false, false, by decide +kernel⟩,
   ⟨w_PulseCrossings_9, (0 : Fin 128), (0 : Fin 4), by decide +kernel⟩⟩

def w_RequestsAndStops_0 : State :=
  let d : Dev := {}
  let d : Dev := d.set (TS_CFG_EN (0 : Fin 128) (0 : Fin 10)) 0
  let d : Dev := onSlot (0 : Fin 128) (0 : Fin 10) (fun x => { x with reqs := ({ who := .engine 3 0, op := 3, tgt := 5 } : SlotReq) :: [] }) d
  { dev := d }
def w_RequestsAndStops_1 : State :=
  let d : Dev := {}
  let d : Dev := d.set (TS_CFG_EN (0 : Fin 128) (0 : Fin 10)) 1
  let d : Dev := d.set (TS_STATUS_STATE (0 : Fin 128) (0 : Fin 10)) 3
  let d : Dev := onSlot (0 : Fin 128) (0 : Fin 10) (fun x => { x with reqs := ({ who := .engine 3 0, op := 3, tgt := 5 } : SlotReq) :: [] }) d
  { dev := d }
def w_RequestsAndStops_2 : State :=
  let d : Dev := {}
  let d : Dev := d.set (TS_CFG_EN (0 : Fin 128) (0 : Fin 10)) 1
  let d : Dev := d.set (TS_STATUS_STATE (0 : Fin 128) (0 : Fin 10)) 2
  { dev := d }
def w_RequestsAndStops_3 : State :=
  let d : Dev := {}
  let d : Dev := d.set QM_STATUS_STATE 0
  let d : Dev := (d.set (TS_CFG_EN 0 0) 1).set (TS_STATUS_STATE 0 0) 1
  let d : Dev := onSlot 0 0 (fun x => { x with reqs := [({ who := .fabric, op := 3, tgt := 5 } : SlotReq)] }) d
  { dev := d }
def w_RequestsAndStops_4 : State :=
  let d : Dev := {}
  let d : Dev := wroute 0 (.slot 8) (.slot 10) d
  let d : Dev := { d with xm := { d.xm with resps := [({ r := 0, t := 8, who := .fabric, op := 2, token := 7, data := [1, 2] } : SlotResp)] } }
  { dev := d }
def w_RequestsAndStops_5 : State :=
  let d : Dev := {}
  let d : Dev := d.set (TS_CFG_EN (0 : Fin 128) (0 : Fin 26)) 1
  let d : Dev := d.set (TS_STATUS_STATE (0 : Fin 128) (0 : Fin 26)) 1
  { dev := d }
def w_RequestsAndStops_6 : State :=
  let d : Dev := {}
  let d : Dev := d.set (TS_CFG_EN (0 : Fin 128) (17 : Fin 26)) 1
  let d : Dev := d.set (TS_STATUS_STATE (0 : Fin 128) (17 : Fin 26)) 2
  let d : Dev := onSlot 0 17 (fun x => { x with fin := [(0, 5)] }) d
  { dev := d }
def w_RequestsAndStops_7 : State :=
  let d : Dev := {}
  let d : Dev := d.set (TS_CFG_EN (0 : Fin 128) (10 : Fin 26)) 1
  let d : Dev := d.set (TS_STATUS_STATE (0 : Fin 128) (10 : Fin 26)) 1
  { dev := d }
def w_RequestsAndStops_8 : State :=
  let d : Dev := {}
  { dev := d }
def w_RequestsAndStops_10 : State :=
  let d : Dev := {}
  let d : Dev := d.set (TS_CFG_EN (0 : Fin 128) (10 : Fin 26)) 1
  let d : Dev := d.set (TS_STATUS_STATE (0 : Fin 128) (10 : Fin 26)) 3
  { dev := d }
def w_RequestsAndStops_11 : State :=
  let d : Dev := {}
  let d : Dev := d.set (RING_STATUS_STATE (0 : Fin 128)) 0
  let d : Dev := d.set (TS_CFG_EN (0 : Fin 128) (17 : Fin 26)) 1
  { dev := d }
def w_RequestsAndStops_12 : State :=
  let d : Dev := {}
  let d : Dev := d.set (RING_STATUS_STATE 0) 3
  { dev := d }
def w_RequestsAndStops_13 : State :=
  let d : Dev := {}
  { dev := d }
theorem test_witness_requests_and_stops :
    (∃ (s : State) (r : Fin 128) (t : Fin 10) (busy : Bool) (q : SlotReq) (rest : List SlotReq), t.val < 8 ∧
      slotEn s.dev r t = false ∧ (s.dev.slot r t).reqs = q :: rest ∧ q.op ≠ 8) ∧
    (∃ (s : State) (r : Fin 128) (t : Fin 10) (busy : Bool) (q : SlotReq) (rest : List SlotReq), t.val < 8 ∧
      slotEn s.dev r t = true ∧ slotSt s.dev r t = 3 ∧ (s.dev.slot r t).reqs = q :: rest ∧ q.op ≠ 8) ∧
    (∃ (s : State) (r : Fin 128) (t : Fin 10) (busy : Bool), slotEn s.dev r t = true ∧
      (slotSt s.dev r t = 2 ∨ (slotSt s.dev r t = 1 ∧ 16 ≤ slotLevel s.dev r t - (s.dev.slot r t).reqs.length))) ∧
    (∃ (s : State) (r : Fin 128) (t : Fin 10) (q : SlotReq) (rest : List SlotReq), t.val < 8 ∧ slotEn s.dev r t = true ∧
      slotSt s.dev r t = 1 ∧ slotLevel s.dev r t - (s.dev.slot r t).reqs.length < 16 ∧
      (s.dev.slot r t).reqs = q :: rest ∧ q.op ∈ [3, 4, 5] ∧ q.who = .fabric ∧ q.seat = false ∧ qmBlocked s.dev = none ∧
      soundQueue s.dev q.tgt = true ∧ s.dev.qm.work = []) ∧
    (∃ (s : State) (r : Fin 128) (nine : Bool) (a : SlotResp) (rest : List SlotResp), takeResp r (8 + b2n nine) s.dev.xm.resps = some (a, rest) ∧
      a.who = .fabric ∧ wsinkOf s.dev r (.slot (8 + b2n nine)) = some (.slot 10) ∧ s.dev.qm.work = []) ∧
    (∃ (s : State) (r : Fin 128) (t : Fin 26), slotEn s.dev r t = true ∧ slotSt s.dev r t = 1) ∧
    (∃ (s : State) (r : Fin 128) (t : Fin 26), 10 ≤ t.val ∧ t.val < 18 ∧ slotEn s.dev r t = true ∧
      slotSt s.dev r t = 2 ∧ ringSideReset s.dev = false) ∧
    (∃ (s : State) (r : Fin 128) (t : Fin 26) (step4 : Bool), slotEn s.dev r t = true ∧ slotSt s.dev r t = 1 ∧
      10 ≤ t.val) ∧
    (∃ (s : State) (e : Fin 1024) (step4 : Bool), xState s.dev (xData e) = 0) ∧
    (∃ (s : State) (r : Fin 128) (t : Fin 26), 10 ≤ t.val ∧ t.val < 18 ∧ slotEn s.dev r t = true ∧
      slotSt s.dev r t = 3 ∧ ringSideReset s.dev = false ∧ s.dev.get (TS_STATUS_FAR_RST r t) = 0) ∧
    (∃ (s : State) (r : Fin 128) (t : Fin 26), s.dev.inspected r = false ∧ s.dev.rstate r = 0 ∧ t.val < 18 ∧
      slotEn s.dev r t = true) ∧
    (∃ (s : State) (r : Fin 128) (t : Fin 26), s.dev.inspected r = false ∧ s.dev.rstate r ∈ [1, 2, 3]) ∧
    (∃ (s : State) (r : Fin 128) (t : Fin 26), s.dev.inspected r = false) :=
  ⟨⟨w_RequestsAndStops_0, (0 : Fin 128), (0 : Fin 10), false, ({ who := .engine 3 0, op := 3, tgt := 5 } : SlotReq), [], by decide +kernel⟩,
   ⟨w_RequestsAndStops_1, (0 : Fin 128), (0 : Fin 10), false, ({ who := .engine 3 0, op := 3, tgt := 5 } : SlotReq), [], by decide +kernel⟩,
   ⟨w_RequestsAndStops_2, (0 : Fin 128), (0 : Fin 10), false, by decide +kernel⟩,
   ⟨w_RequestsAndStops_3, (0 : Fin 128), (0 : Fin 10), ({ who := .fabric, op := 3, tgt := 5 } : SlotReq), [], by decide +kernel⟩,
   ⟨w_RequestsAndStops_4, (0 : Fin 128), false, ({ r := 0, t := 8, who := .fabric, op := 2, token := 7, data := [1, 2] } : SlotResp), [], by decide +kernel⟩,
   ⟨w_RequestsAndStops_5, (0 : Fin 128), (0 : Fin 26), by decide +kernel⟩,
   ⟨w_RequestsAndStops_6, (0 : Fin 128), (17 : Fin 26), by decide +kernel⟩,
   ⟨w_RequestsAndStops_7, (0 : Fin 128), (10 : Fin 26), false, by decide +kernel⟩,
   ⟨w_RequestsAndStops_8, (0 : Fin 1024), false, by decide +kernel⟩,
   ⟨w_RequestsAndStops_10, (0 : Fin 128), (10 : Fin 26), by decide +kernel⟩,
   ⟨w_RequestsAndStops_11, (0 : Fin 128), (17 : Fin 26), by decide +kernel⟩,
   ⟨w_RequestsAndStops_12, (0 : Fin 128), (0 : Fin 26), by decide +kernel⟩,
   ⟨w_RequestsAndStops_13, (0 : Fin 128), (0 : Fin 26), by decide +kernel⟩⟩

def w_QueuePushes_0 : State :=
  let d : Dev := {}
  let d : Dev := d.set (QD_CFG_MODE (0 : Fin 16384)) 0
  let d : Dev := d.set (QD_WM_LEVEL (0 : Fin 16384)) (0)
  let d : Dev := queue0 0 0 { words := List.replicate 7 {}, cells := [0] } { tail := 7, commit := 7 } d
  { dev := d }
def w_QueuePushes_1 : State :=
  let d : Dev := {}
  let d : Dev := d.set (QD_CFG_MODE (0 : Fin 16384)) 0
  let d : Dev := d.set (QD_WM_LEVEL (0 : Fin 16384)) (0)
  let d : Dev := d.set (QD_CFG_MAX_CELLS (0 : Fin 16384)) (1)
  let d : Dev := queue0 0 0 { words := List.replicate 8 {}, cells := [0] } { tail := 8, commit := 8 } d
  { dev := d }
def w_QueuePushes_2 : State :=
  let d : Dev := {}
  let d : Dev := d.set (QD_CFG_MODE (0 : Fin 16384)) 1
  let d : Dev := queue0 0 0 { lock := some (1, 1), cells := [0] } {} d
  { dev := d }
def w_QueuePushes_3 : State :=
  let d : Dev := {}
  { dev := d }
def w_QueuePushes_4 : State :=
  let d : Dev := {}
  let d : Dev := d.set QM_STATUS_STATE (2)
  let d : Dev := (d.set (QD_CFG_EN 0) 1).set (QD_BIND_PROD 0) 0
  { dev := d }
def w_QueuePushes_5 : State :=
  let d : Dev := {}
  let d : Dev := d.set QM_STATUS_STATE (0)
  let d : Dev := d.set (QD_CFG_MODE (0 : Fin 16384)) 0
  let d : Dev := d.set (QD_WM_LEVEL (0 : Fin 16384)) (0)
  let d : Dev := queue0 0x5C 0 { words := List.replicate 7 {}, cells := [0] } { tail := 7, commit := 7 } d
  let d : Dev := d.set (QM_HOST_DATA_DATA 3) 0x12345678
  { dev := d }
def w_QueuePushes_6 : State :=
  let d : Dev := {}
  let d : Dev := d.set QM_STATUS_STATE 0
  let d : Dev := { d with qm.hostTill := 40 }
  { dev := d }
theorem test_witness_queue_pushes :
    (∃ (s : State) (r : Fin 128) (t : Fin 10) (q : Fin 16384) (w : Token) (vb : Fin 8) (c : Nat), qmBlocked s.dev = none ∧
      producerOk s.dev (prodSrc r t) q = true ∧ soundQueue s.dev q = true ∧ s.dev.qm.work = [] ∧ qMode s.dev q = 0 ∧
      s.dev.get (QD_WM_LEVEL q) = 0 ∧ (s.dev.queue q).openN = 0 ∧ (s.dev.queue q).cells = [c] ∧
      (s.dev.queue q).ptrA.tail < (s.dev.queue q).base + 8) ∧
    (∃ (s : State) (r : Fin 128) (t : Fin 10) (q : Fin 16384) (w : Token) (vb : Fin 8) (c : Nat), qmBlocked s.dev = none ∧
      producerOk s.dev (prodSrc r t) q = true ∧ soundQueue s.dev q = true ∧ s.dev.qm.work = [] ∧ qMode s.dev q = 0 ∧
      s.dev.get (QD_WM_LEVEL q) = 0 ∧ (s.dev.queue q).openN = 0 ∧ (s.dev.queue q).cells = [c] ∧
      (s.dev.queue q).ptrA.tail = (s.dev.queue q).base + 8 ∧ s.dev.get (QD_CFG_MAX_CELLS q) = 1) ∧
    (∃ (s : State) (r : Fin 128) (t : Fin 10) (q : Fin 16384) (w : Token) (ws : List Token) (eop : Bool) (vb : Fin 8) (o : QSource), qmBlocked s.dev = none ∧
      producerOk s.dev (prodSrc r t) q = true ∧ soundQueue s.dev q = true ∧ s.dev.qm.work = [] ∧ qMode s.dev q = 1 ∧
      (s.dev.queue q).lock = some o ∧ o ≠ prodSrc r t ∧ (s.dev.queue q).discard = []) ∧
    (∃ (s : State) (r : Fin 128) (t : Fin 10) (q : Fin 16384) (w : Token) (ws : List Token) (eop : Bool) (vb : Fin 8), qmBlocked s.dev ≠ some .closed ∧
      producerOk s.dev (prodSrc r t) q = false ∧ s.dev.qm.work = []) ∧
    (∃ (s : State) (r : Fin 128) (t : Fin 10) (q : Fin 16384) (w : Token) (ws : List Token) (eop seat : Bool) (vb : Fin 8), s.dev.get QM_STATUS_STATE = 2 ∧
      producerOk s.dev (prodSrc r t) q = true ∧ s.dev.qm.work = []) ∧
    (∃ (s : State) (q : Fin 16384) (vb : Fin 8) (c : Nat), s.dev.get QM_STATUS_STATE = 0 ∧
      producerOk s.dev (0x5C, 0) q = true ∧ soundQueue s.dev q = true ∧ s.dev.qm.hostTill ≤ s.dev.tb ∧
      qMode s.dev q = 0 ∧ s.dev.get (QD_WM_LEVEL q) = 0 ∧ (s.dev.queue q).openN = 0 ∧ (s.dev.queue q).cells = [c] ∧
      (s.dev.queue q).ptrA.tail < (s.dev.queue q).base + 8) ∧
    (∃ (s : State) (q : Fin 16384) (eop : Bool) (vb : Fin 8) (c : Instr), c ∈ [Instr.hostPush q eop vb, .hostPop q] ∧
      s.dev.get QM_STATUS_STATE ≠ 1 ∧ s.dev.tb < s.dev.qm.hostTill) :=
  ⟨⟨w_QueuePushes_0, (0 : Fin 128), (0 : Fin 10), (0 : Fin 16384), (0x1122334455667788 : Token), (0 : Fin 8), 0, by decide +kernel⟩,
   ⟨w_QueuePushes_1, (0 : Fin 128), (0 : Fin 10), (0 : Fin 16384), (0 : Token), (0 : Fin 8), 0, by decide +kernel⟩,
   ⟨w_QueuePushes_2, (0 : Fin 128), (0 : Fin 10), (0 : Fin 16384), (0 : Token), [], false, (0 : Fin 8), (1, 1), by decide +kernel⟩,
   ⟨w_QueuePushes_3, (0 : Fin 128), (0 : Fin 10), (0 : Fin 16384), (0 : Token), [], false, (0 : Fin 8), by decide +kernel⟩,
   ⟨w_QueuePushes_4, (0 : Fin 128), (0 : Fin 10), (0 : Fin 16384), (0 : Token), [], false, false, (0 : Fin 8), by decide +kernel⟩,
   ⟨w_QueuePushes_5, (0 : Fin 16384), (0 : Fin 8), 0, by decide +kernel⟩,
   ⟨w_QueuePushes_6, (0 : Fin 16384), false, (0 : Fin 8), (Instr.hostPop (0 : Fin 16384)), by decide +kernel⟩⟩

def w_QueuePops_0 : State :=
  let d : Dev := {}
  let d : Dev := d.set (QD_WM_LEVEL (0 : Fin 16384)) (0)
  let d : Dev := queue0 0 0 { words := [{ data := leBytes 8 0x1122334455667788, vb := 8, fin := true }, {}], cells := [0] } { tail := 2, commit := 2 } d
  { dev := d }
def w_QueuePops_1 : State :=
  let d : Dev := {}
  let d : Dev := queue0 0 0 {} {} d
  { dev := d }
def w_QueuePops_2 : State :=
  let d : Dev := {}
  { dev := d }
def w_QueuePops_3 : State :=
  let d : Dev := {}
  let d : Dev := d.set (QD_WM_LEVEL (0 : Fin 16384)) (0)
  let d : Dev := queue0 0 0 { words := [{}, {}], cells := [0] } { rd := 1, tail := 2, commit := 2 } d
  { dev := d }
def w_QueuePops_4 : State :=
  let d : Dev := {}
  let d : Dev := d.set (QD_WM_LEVEL (0 : Fin 16384)) (0)
  let d : Dev := queue0 0 0 { words := [{}, {}], cells := [0] } { rd := 1, mark := some 0, tail := 2, commit := 2 } d
  { dev := d }
def w_QueuePops_5 : State :=
  let d : Dev := {}
  let d : Dev := d.set (QD_CFG_MODE (0 : Fin 16384)) 2
  let d : Dev := d.set (QD_WM_LEVEL (0 : Fin 16384)) (0)
  let d : Dev := queue0 0 0 { words := [{}, {}], cells := [0], lock := some (0, 0) } { tail := 2 } d
  { dev := d }
def w_QueuePops_6 : State :=
  let d : Dev := {}
  let d : Dev := d.set (QD_CFG_MODE (0 : Fin 16384)) 2
  let d : Dev := d.set (QD_WM_LEVEL (0 : Fin 16384)) (0)
  let d : Dev := queue0 0 0 { words := [{}, {}], cells := [0], lock := some (0, 0) } { tail := 2 } d
  { dev := d }
def w_QueuePops_7 : State :=
  let d : Dev := {}
  let d : Dev := d.set QM_STATUS_STATE (0)
  let d : Dev := queue0 0 0x5C {} {} d
  { dev := d }
def w_QueuePops_8 : State :=
  let d : Dev := {}
  let d : Dev := d.set QM_STATUS_STATE (0)
  let d : Dev := queue0 0 0x5C { words := [{ data := leBytes 8 0x1122334455667788, vb := 8, fin := true }, {}], cells := [0] } { tail := 2, commit := 2 } d
  { dev := d }
theorem test_witness_queue_pops :
    (∃ (s : State) (r : Fin 128) (t : Fin 10) (q : Fin 16384) (w : QWord) (rest : List QWord) (c : Nat), qmBlocked s.dev = none ∧
      consumerOk s.dev (consSrc r t) q = true ∧ soundQueue s.dev q = true ∧ s.dev.qm.work = [] ∧
      s.dev.get (QD_WM_LEVEL q) = 0 ∧ (s.dev.queue q).cells = [c] ∧
      (s.dev.queue q).visible (qMode s.dev q) = w :: rest ∧ w.flaws = [] ∧ w.tagFlaw = .none) ∧
    (∃ (s : State) (r : Fin 128) (t : Fin 10) (q : Fin 16384) (n : Fin 64) (whole : Bool), qmBlocked s.dev = none ∧
      consumerOk s.dev (consSrc r t) q = true ∧ soundQueue s.dev q = true ∧ s.dev.qm.work = [] ∧
      (s.dev.queue q).visible (qMode s.dev q) = []) ∧
    (∃ (s : State) (r : Fin 128) (t : Fin 10) (q : Fin 16384) (c : Instr), c ∈ [Instr.qpop r t q 1 false false none, .qmark r t q false, .qrewind r t q false, .qrelease r t q false] ∧
      qmBlocked s.dev ≠ some .closed ∧ consumerOk s.dev (consSrc r t) q = false ∧ s.dev.qm.work = []) ∧
    (∃ (s : State) (r : Fin 128) (t : Fin 10) (q : Fin 16384) (c : Nat), qmBlocked s.dev = none ∧
      consumerOk s.dev (consSrc r t) q = true ∧ soundQueue s.dev q = true ∧ s.dev.qm.work = [] ∧
      s.dev.get (QD_WM_LEVEL q) = 0 ∧ (s.dev.queue q).cells = [c]) ∧
    (∃ (s : State) (r : Fin 128) (t : Fin 10) (q : Fin 16384) (m : Nat), qmBlocked s.dev = none ∧
      consumerOk s.dev (consSrc r t) q = true ∧ soundQueue s.dev q = true ∧ s.dev.qm.work = [] ∧
      s.dev.get (QD_WM_LEVEL q) = 0 ∧ (s.dev.queue q).ptrA.mark = some m) ∧
    (∃ (s : State) (r : Fin 128) (t : Fin 10) (q : Fin 16384), qmBlocked s.dev = none ∧
      producerOk s.dev (prodSrc r t) q = true ∧ soundQueue s.dev q = true ∧ s.dev.qm.work = [] ∧ qMode s.dev q = 2 ∧
      s.dev.get (QD_WM_LEVEL q) = 0 ∧ (s.dev.queue q).lock = some (prodSrc r t) ∧ (s.dev.queue q).failed = false) ∧
    (∃ (s : State) (r : Fin 128) (t : Fin 10) (q : Fin 16384), qmBlocked s.dev = none ∧
      producerOk s.dev (prodSrc r t) q = true ∧ soundQueue s.dev q = true ∧ s.dev.qm.work = [] ∧ qMode s.dev q = 2 ∧
      s.dev.get (QD_WM_LEVEL q) = 0 ∧ (s.dev.queue q).lock = some (prodSrc r t)) ∧
    (∃ (s : State) (q : Fin 16384), s.dev.get QM_STATUS_STATE = 0 ∧ consumerOk s.dev (0x5C, 0) q = true ∧
      soundQueue s.dev q = true ∧ s.dev.qm.hostTill ≤ s.dev.tb ∧ (s.dev.queue q).visible (qMode s.dev q) = []) ∧
    (∃ (s : State) (q : Fin 16384) (w : QWord) (rest : List QWord) (c : Nat), s.dev.get QM_STATUS_STATE = 0 ∧
      consumerOk s.dev (0x5C, 0) q = true ∧ soundQueue s.dev q = true ∧ s.dev.qm.hostTill ≤ s.dev.tb ∧
      s.dev.get (QD_WM_LEVEL q) = 0 ∧ (s.dev.queue q).cells = [c] ∧
      (s.dev.queue q).visible (qMode s.dev q) = w :: rest ∧ w.flaws = [] ∧ w.tagFlaw = .none) :=
  ⟨⟨w_QueuePops_0, (0 : Fin 128), (0 : Fin 10), (0 : Fin 16384), ({ data := leBytes 8 0x1122334455667788, vb := 8, fin := true } : QWord), [({} : QWord)], 0, by decide +kernel⟩,
   ⟨w_QueuePops_1, (0 : Fin 128), (0 : Fin 10), (0 : Fin 16384), (63 : Fin 64), true, by decide +kernel⟩,
   ⟨w_QueuePops_2, (0 : Fin 128), (0 : Fin 10), (0 : Fin 16384), (.qmark 0 0 0 false), by decide +kernel⟩,
   ⟨w_QueuePops_3, (0 : Fin 128), (0 : Fin 10), (0 : Fin 16384), 0, by decide +kernel⟩,
   ⟨w_QueuePops_4, (0 : Fin 128), (0 : Fin 10), (0 : Fin 16384), 0, by decide +kernel⟩,
   ⟨w_QueuePops_5, (0 : Fin 128), (0 : Fin 10), (0 : Fin 16384), by decide +kernel⟩,
   ⟨w_QueuePops_6, (0 : Fin 128), (0 : Fin 10), (0 : Fin 16384), by decide +kernel⟩,
   ⟨w_QueuePops_7, (0 : Fin 16384), by decide +kernel⟩,
   ⟨w_QueuePops_8, (0 : Fin 16384), ({ data := leBytes 8 0x1122334455667788, vb := 8, fin := true } : QWord), [({} : QWord)], 0, by decide +kernel⟩⟩

def w_QueueCommands_0 : State :=
  let d : Dev := {}
  let d : Dev := d.set QM_STATUS_STATE (0)
  let d : Dev := d.set (QD_STAT_ABOVE (0 : Fin 16384)) (0)
  let d : Dev := onQueue 0 (fun x => { x with gen := 255 }) d
  { dev := d }
def w_QueueCommands_1 : State :=
  let d : Dev := {}
  let d : Dev := d.set QM_STATUS_STATE (0)
  let d : Dev := d.set (QD_CFG_MODE (0 : Fin 16384)) 1
  let d : Dev := queue0 0 0 { lock := some (1, 1) } {} d
  { dev := d }
def w_QueueCommands_2 : State :=
  let d : Dev := {}
  let d : Dev := d.set QM_STATUS_STATE 0
  let d : Dev := d.set (QD_DROP_WORDS 0) 5
  { dev := d }
def w_QueueCommands_3 : State :=
  let d : Dev := {}
  let d : Dev := d.set QM_STATUS_STATE 0
  let d : Dev := { d with qm.cmdTill := 40 }
  { dev := d }
def w_QueueCommands_4 : State :=
  let d : Dev := {}
  let d : Dev := d.set QM_STATUS_STATE (2)
  { dev := d }
def w_QueueCommands_5 : State :=
  let d : Dev := {}
  let d : Dev := { d with qm := { d.qm with pool := [(0, some { q := 3, gen := 7 })] } }
  { dev := d }
def w_QueueCommands_6 : State :=
  let d : Dev := {}
  { dev := d }
def w_QueueCommands_7 : State :=
  let d : Dev := {}
  let d : Dev := d.set (QD_CFG_EN (0 : Fin 16384)) (1)
  { dev := d }
def w_QueueCommands_8 : State :=
  let d : Dev := {}
  let d : Dev := d.set (QD_CFG_EN (0 : Fin 16384)) (0)
  let d : Dev := d.set (QD_BIND_CONS 0) 0x57
  { dev := d }
def w_QueueCommands_9 : State :=
  let d : Dev := {}
  { dev := d }
def w_QueueCommands_10 : State :=
  let d : Dev := {}
  { dev := d }
theorem test_witness_queue_commands :
    (∃ (s : State) (q : Fin 16384), s.dev.get QM_STATUS_STATE = 0 ∧ s.dev.qm.cmdTill ≤ s.dev.tb ∧
      soundQueue s.dev q = true ∧ nextGenBusy s.dev q = false ∧ s.dev.get (QD_STAT_ABOVE q) = 0) ∧
    (∃ (s : State) (q : Fin 16384) (o : QSource), s.dev.get QM_STATUS_STATE = 0 ∧ s.dev.qm.cmdTill ≤ s.dev.tb ∧
      soundQueue s.dev q = true ∧ (s.dev.queue q).lock = some o ∧ qMode s.dev q = 1) ∧
    (∃ (s : State) (q : Fin 16384), s.dev.get QM_STATUS_STATE = 0 ∧ s.dev.qm.cmdTill ≤ s.dev.tb ∧
      soundQueue s.dev q = true) ∧
    (∃ (s : State) (q : Fin 16384) (c : Instr), c ∈ [Instr.queueReset q, .abortPkt q, .qClrStats q] ∧
      s.dev.get QM_STATUS_STATE ≠ 1 ∧ s.dev.tb < s.dev.qm.cmdTill) ∧
    (∃ (s : State), s.dev.get QM_STATUS_STATE = 2) ∧
    (∃ (s : State) (c : PCell), s.dev.qm.sweepPos + 1 < 262144 ∧ sget none s.dev.qm.pool s.dev.qm.sweepPos = some c ∧
      c.owner = .none ∧ c.gen ≠ (s.dev.queue c.q).gen) ∧
    (∃ (s : State), s.dev.qm.sweepPos + 1 < 262144 ∧ sget none s.dev.qm.pool s.dev.qm.sweepPos = none) ∧
    (∃ (s : State) (q : Fin 16384) (v : Word), s.dev.get QM_STATUS_STATE ≠ 1 ∧ s.dev.get (QD_CFG_EN q) = 1 ∧
      bitAt v.toNat 31 = true ∧ limitTo (.zeroAt 3) (bitsAt v.toNat 29 2) ≠ s.dev.get (QD_CFG_MODE q)) ∧
    (∃ (s : State) (q : Fin 16384) (v : Word), s.dev.get QM_STATUS_STATE ≠ 1 ∧ s.dev.get (QD_CFG_EN q) = 0 ∧
      s.dev.get (QD_BIND_CONS q) < 0x58) ∧
    (∃ (s : State) (q : Fin 16384) (level : BitVec 22), s.dev.get QM_STATUS_STATE ≠ 1) ∧
    (∃ (s : State) (level : BitVec 19), s.dev.get QM_STATUS_STATE ≠ 1) :=
  ⟨⟨w_QueueCommands_0, (0 : Fin 16384), by decide +kernel⟩,
   ⟨w_QueueCommands_1, (0 : Fin 16384), (1, 1), by decide +kernel⟩,
   ⟨w_QueueCommands_2, (0 : Fin 16384), by decide +kernel⟩,
   ⟨w_QueueCommands_3, (0 : Fin 16384), (Instr.abortPkt (0 : Fin 16384)), by decide +kernel⟩,
   ⟨w_QueueCommands_4, by decide +kernel⟩,
   ⟨w_QueueCommands_5, ({ q := 3, gen := 7 } : PCell), by decide +kernel⟩,
   ⟨w_QueueCommands_6, by decide +kernel⟩,
   ⟨w_QueueCommands_7, (0 : Fin 16384), (0xC0000000 : Word), by decide +kernel⟩,
   ⟨w_QueueCommands_8, (0 : Fin 16384), (0xE0FF00FF : Word), by decide +kernel⟩,
   ⟨w_QueueCommands_9, (0 : Fin 16384), (0x3FFFFF : BitVec 22), by decide +kernel⟩,
   ⟨w_QueueCommands_10, (5 : BitVec 19), by decide +kernel⟩⟩

def w_MemoryRequests_0 : State :=
  let d : Dev := {}
  let d : Dev := d.set (XF_CFG_EN (0 : Fin 256)) (0)
  let d : Dev := file0 d
  let d : Dev := d.set (XF_CFG_EN 0) 0
  { dev := d }
def w_MemoryRequests_1 : State :=
  let d : Dev := {}
  let d : Dev := d.set (XF_CFG_EN (0 : Fin 256)) (1)
  let d : Dev := file0 d
  { dev := d }
def w_MemoryRequests_2 : State :=
  let d : Dev := {}
  let d : Dev := d.set (XF_CFG_EN (0 : Fin 256)) (1)
  let d : Dev := file0 d
  { dev := d }
def w_MemoryRequests_3 : State :=
  let d : Dev := {}
  let d : Dev := d.set (XF_CFG_EN (0 : Fin 256)) (1)
  let d : Dev := file0 d
  { dev := d }
def w_MemoryRequests_4 : State :=
  let d : Dev := {}
  let d : Dev := d.set (XF_CFG_EN (0 : Fin 256)) (1)
  let d : Dev := file0 d
  { dev := d }
def w_MemoryRequests_5 : State :=
  let d : Dev := {}
  let d : Dev := d.set (XMC_STATUS_STATE (0 : Fin 8)) 2
  let d : Dev := { d with xm := { d.xm with reqs := [({ who := .bare, addr := 64, words := 1, parts := [{ len := 8, seated := 1, addr := 64 }] } : XReq)], mem := { d.xm.mem with cells := wrLe [] (placeOf d 64) 8 0x1122334455667788, modes := [(placeOf d 64 / 8, 1)] } } }
  { dev := d }
def w_MemoryRequests_6 : State :=
  let d : Dev := {}
  let d : Dev := d.set (XMC_STATUS_STATE (0 : Fin 8)) 2
  let d : Dev := { d with xm.reqs := [({ who := .bare, addr := 64, words := 1, data := some (leBytes 8 0x1122334455667788), parts := [{ len := 8, seated := 1, addr := 64 }] } : XReq)] }
  let d : Dev := { d with xm := { d.xm with reqs := [({ who := .bare, addr := 64, words := 1, data := some (leBytes 8 0x1122334455667788), parts := [{ len := 8, seated := 1, addr := 64 }] } : XReq)] } }
  { dev := d }
def w_MemoryRequests_7 : State :=
  let d : Dev := {}
  let d : Dev := d.set (XMC_STATUS_STATE (0 : Fin 8)) 2
  let d : Dev := { d with xm.reqs := [] }
  let d : Dev := { d with xm := { d.xm with drift := [(0, 16)] } }
  { dev := d }
def w_MemoryRequests_8 : State :=
  let d : Dev := {}
  { dev := d }
def w_MemoryRequests_9 : State :=
  let d : Dev := {}
  let d : Dev := { d with xm := { d.xm with reqs := [({ who := .bare, data := some (List.replicate 64 7), parts := [{ len := 64, key := some 3, waits := true }] } : XReq)] } }
  let d : Dev := (d.set (KS_STATE_STATE 3) 1).set (XF_CFG_KEY_IDX 0) 3
  let d : Dev := { d with cx := { d.cx with cs := [(0, { minors := [(0, 62)] })], keys := [(3, List.replicate 32 1)] } }
  let d : Dev := (List.range 8).foldl (fun d n => d.set (XMC_STATUS_STATE n) 2) d
  { dev := d }
theorem test_witness_memory_requests :
    (∃ (s : State) (r : Fin 128) (t : Fin 10) (f : Fin 256) (off : Word) (len : Fin 64) (seat : Bool), (s.dev.get (XF_CFG_EN f) = 0 ∨ ringRight s.dev r f false = false) ∧
      off.toNat % 8 = 0 ∧ off.toNat + 8 * len.val ≤ fileBytes s.dev f ∧
      fileStart s.dev f + off.toNat + 8 * len.val ≤ 4096 * usablePages s.dev ∧
      ctlCode s.dev (ctlsOf s.dev (fileStart s.dev f + off.toNat) (8 * len.val)) = .ok) ∧
    (∃ (s : State) (r : Fin 128) (t : Fin 10) (f : Fin 256) (off : Word) (len : Fin 64) (seat : Bool), s.dev.get (XF_CFG_EN f) = 1 ∧
      ringRight s.dev r f false = true ∧ off.toNat % 8 ≠ 0 ∧
      ctlCode s.dev (ctlsOf s.dev (fileStart s.dev f + off.toNat) (8 * len.val)) = .ok) ∧
    (∃ (s : State) (r : Fin 128) (t : Fin 10) (f : Fin 256) (off : Word) (seat : Bool) (c : Instr), c ∈ [Instr.xrd r t f off 0 seat, Instr.xwr r t f off [] seat] ∧
      s.dev.get (XF_CFG_EN f) = 1 ∧ (∀ w : Bool, ringRight s.dev r f w = true) ∧ off.toNat % 8 = 0 ∧
      off.toNat ≤ fileBytes s.dev f ∧ fileStart s.dev f + off.toNat ≤ 4096 * usablePages s.dev) ∧
    (∃ (s : State) (r : Fin 128) (t : Fin 10) (f : Fin 256) (off : Word), s.dev.get (XF_CFG_EN f) = 1 ∧
      ringRight s.dev r f false = true ∧ off.toNat % 8 = 0 ∧ off.toNat + 8 ≤ fileBytes s.dev f ∧
      fileStart s.dev f + off.toNat + 8 ≤ 4096 * usablePages s.dev ∧ fileEnc s.dev f = false ∧
      ctlCode s.dev (ctlsOf s.dev (fileStart s.dev f + off.toNat) 8) = .ok) ∧
    (∃ (s : State) (r : Fin 128) (t : Fin 10) (f : Fin 256) (off : Word) (w : Token), s.dev.get (XF_CFG_EN f) = 1 ∧
      ringRight s.dev r f true = true ∧ off.toNat % 8 = 0 ∧ off.toNat + 8 ≤ fileBytes s.dev f ∧
      fileStart s.dev f + off.toNat + 8 ≤ 4096 * usablePages s.dev ∧ fileEnc s.dev f = false ∧
      ctlCode s.dev (ctlsOf s.dev (fileStart s.dev f + off.toNat) 8) = .ok) ∧
    (∃ (s : State) (n : Fin 8) (q : XReq) (x : XPart), xmcState s.dev n = 2 ∧ s.dev.xm.reqs = [q] ∧ q.parts = [x] ∧
      q.who = .bare ∧ q.data = none ∧ q.words = 1 ∧ q.addr = x.addr ∧ x.ctl = n.val ∧ x.key = none ∧ x.len = 8 ∧
      x.addr % 8 = 0 ∧ x.seated = 1 ∧ x.dyn = 0 ∧ x.waits = false ∧ x.code = none ∧ opHolds s.dev x = false ∧
      sget 0 s.dev.xm.mem.modes (placeOf s.dev x.addr / 8) = 1 ∧
      sget Flaw.none s.dev.xm.mem.flaws (placeOf s.dev x.addr / 8) = .none) ∧
    (∃ (s : State) (n : Fin 8) (q : XReq) (x : XPart) (bs : List Byte), xmcState s.dev n = 2 ∧ s.dev.xm.reqs = [q] ∧
      q.parts = [x] ∧ q.who = .bare ∧ q.data = some bs ∧ bs.length = 8 ∧ q.addr = x.addr ∧ x.ctl = n.val ∧
      x.key = none ∧ x.len = 8 ∧ x.addr % 8 = 0 ∧ x.seated = 1 ∧ x.dyn = 0 ∧ x.waits = false ∧ x.code = none ∧
      opHolds s.dev x = false) ∧
    (∃ (s : State) (n : Fin 8), xmcState s.dev n = 2 ∧ s.dev.xm.reqs = [] ∧ sget 0 s.dev.xm.drift n ≠ 0) ∧
    (∃ (s : State) (n : Fin 8), xmcState s.dev n ≠ 2) ∧
    (∃ (s : State) (q : XReq) (x : XPart) (bs : List Byte) (k tag own : Nat), s.dev.xm.reqs = [q] ∧ q.parts = [x] ∧
      q.who = .bare ∧ q.data = some bs ∧ bs.length = 64 ∧ q.addr = x.addr ∧ x.addr % 64 = 0 ∧ x.len = 64 ∧
      x.key = some own ∧ x.waits = true ∧ x.code = none ∧ willRewrite s.dev (x.addr / 4096) (x.addr / 64 % 64) = false ∧
      (csEntry s.dev (x.addr / 4096)).flaws = [] ∧ (csEntry s.dev (x.addr / 4096)).poison = false ∧
      lineMinor (csEntry s.dev (x.addr / 4096)) (x.addr / 64 % 64) < 63 ∧
      writeKey s.dev x.file own x.epoch (x.addr / 64) = (k, tag) ∧ slotServes s.dev k 0 = true) :=
  ⟨⟨w_MemoryRequests_0, (0 : Fin 128), (0 : Fin 10), (0 : Fin 256), (0 : Word), (1 : Fin 64), false, by decide +kernel⟩,
   ⟨w_MemoryRequests_1, (0 : Fin 128), (0 : Fin 10), (0 : Fin 256), (4 : Word), (63 : Fin 64), false, by decide +kernel⟩,
   ⟨w_MemoryRequests_2, (0 : Fin 128), (0 : Fin 10), (0 : Fin 256), (0 : Word), false, (Instr.xwr 0 0 0 (0 : Word) [] false), by decide +kernel⟩,
   ⟨w_MemoryRequests_3, (0 : Fin 128), (0 : Fin 10), (0 : Fin 256), (8184 : Word), by decide +kernel⟩,
   ⟨w_MemoryRequests_4, (0 : Fin 128), (0 : Fin 10), (0 : Fin 256), (8184 : Word), (0x1122334455667788 : Token), by decide +kernel⟩,
   ⟨w_MemoryRequests_5, (0 : Fin 8), ({ who := .bare, addr := 64, words := 1, parts := [{ len := 8, seated := 1, addr := 64 }] } : XReq), ({ len := 8, seated := 1, addr := 64 } : XPart), by decide +kernel⟩,
   ⟨w_MemoryRequests_6, (0 : Fin 8), ({ who := .bare, addr := 64, words := 1, data := some (leBytes 8 0x1122334455667788), parts := [{ len := 8, seated := 1, addr := 64 }] } : XReq), ({ len := 8, seated := 1, addr := 64 } : XPart), (leBytes 8 0x1122334455667788), by decide +kernel⟩,
   ⟨w_MemoryRequests_7, (0 : Fin 8), by decide +kernel⟩,
   ⟨w_MemoryRequests_8, (0 : Fin 8), by decide +kernel⟩,
   ⟨w_MemoryRequests_9, ({ who := .bare, data := some (List.replicate 64 7), parts := [{ len := 64, key := some 3, waits := true }] } : XReq), ({ len := 64, key := some 3, waits := true } : XPart), (List.replicate 64 7), 3, 0, 3, by decide +kernel⟩⟩

def w_FilesAndTraining_0 : State :=
  let d : Dev := {}
  let d : Dev := d.set (XF_CFG_EN (0 : Fin 256)) (0)
  let d : Dev := d.set (XF_SIZE_SIZE 0) 1
  { dev := d }
def w_FilesAndTraining_1 : State :=
  let d : Dev := {}
  let d : Dev := d.set (XF_CFG_EN (0 : Fin 256)) (0)
  { dev := d }
def w_FilesAndTraining_2 : State :=
  let d : Dev := {}
  let d : Dev := d.set (XF_CFG_EN (0 : Fin 256)) (1)
  let d : Dev := d.set (XF_CFG_MODE (0 : Fin 256)) (0)
  let d : Dev := d.set (CF_CTRL_STATE (0 : Fin 256)) 0
  { dev := d }
def w_FilesAndTraining_3 : State :=
  let d : Dev := {}
  let d : Dev := d.set (XMC_STATUS_STATE (0 : Fin 8)) 0
  let d : Dev := d.set (XMC_CTRL_EN (0 : Fin 8)) (0)
  { dev := d }
def w_FilesAndTraining_4 : State :=
  let d : Dev := {}
  let d : Dev := d.set (XMC_STATUS_STATE (0 : Fin 8)) 1
  let d : Dev := d.set (XMC_STATUS_WARM (0 : Fin 8)) (0)
  let d : Dev := d.set (XMC_CTRL_EN (0 : Fin 8)) (1)
  { dev := d }
def w_FilesAndTraining_5 : State :=
  let d : Dev := {}
  let d : Dev := d.set (XMC_STATUS_STATE (0 : Fin 8)) 1
  let d : Dev := d.set (XMC_STATUS_WARM (0 : Fin 8)) (0)
  let d : Dev := d.set (XMC_CTRL_EN (0 : Fin 8)) (1)
  { dev := d }
def w_FilesAndTraining_6 : State :=
  let d : Dev := {}
  let d : Dev := d.set (XMC_STATUS_STATE (0 : Fin 8)) 2
  { dev := d }
def w_FilesAndTraining_7 : State :=
  let d : Dev := {}
  let d : Dev := d.set (XMC_STATUS_STATE (0 : Fin 8)) 2
  { dev := d }
def w_FilesAndTraining_8 : State :=
  let d : Dev := {}
  let d : Dev := d.set (XMC_STATUS_STATE (0 : Fin 8)) 0
  { dev := d }
def w_FilesAndTraining_9 : State :=
  let d : Dev := {}
  { dev := d }
def w_FilesAndTraining_10 : State :=
  let d : Dev := {}
  { dev := d }
def w_FilesAndTraining_11 : State :=
  let d : Dev := {}
  let d : Dev := d.set (XMC_STATUS_STATE (0 : Fin 8)) 4
  { dev := d }
theorem test_witness_files_and_training :
    (∃ (s : State) (f : Fin 256) (hr hw : Bool) (k : Fin 64), s.dev.get (XF_CFG_EN f) = 0 ∧
      fileFits s.dev f false k = true) ∧
    (∃ (s : State) (f : Fin 256) (enc hr hw : Bool) (k : Fin 64), s.dev.get (XF_CFG_EN f) = 0 ∧
      fileFits s.dev f enc k = false) ∧
    (∃ (s : State) (f : Fin 256), s.dev.get (XF_CFG_EN f) = 1 ∧ s.dev.get (XF_CFG_MODE f) = 0 ∧ cfState s.dev f = 0) ∧
    (∃ (s : State) (n : Fin 8), n.val < popCount s.dev ∧ xmcState s.dev n = 0 ∧ s.dev.get (XMC_CTRL_EN n) = 0) ∧
    (∃ (s : State) (n step : Fin 8) (re : Bool) (rdLat eye : BitVec 8) (dly : List (BitVec 8 × BitVec 8)), xmcState s.dev n = 1 ∧
      s.dev.get (XMC_STATUS_WARM n) = 0 ∧ s.dev.get (XMC_CTRL_EN n) = 1) ∧
    (∃ (s : State) (n step : Fin 8) (re : Bool) (rdLat eye : BitVec 8) (dly : List (BitVec 8 × BitVec 8)), xmcState s.dev n = 1 ∧
      s.dev.get (XMC_STATUS_WARM n) = 0 ∧ s.dev.get (XMC_CTRL_EN n) = 1) ∧
    (∃ (s : State) (n : Fin 8) (x : DriftStep), xmcState s.dev n = 2) ∧
    (∃ (s : State) (n : Fin 8), (xmcState s.dev n = 2 ∨ xmcState s.dev n = 3)) ∧
    (∃ (s : State) (n : Fin 8), (xmcState s.dev n = 0 ∨ xmcState s.dev n = 1)) ∧
    (∃ (s : State) (n : Fin 8), xmcState s.dev n ≠ 4) ∧
    (∃ (s : State) (n : Fin 8), xmcState s.dev n ≠ 4) ∧
    (∃ (s : State) (n : Fin 8) (c : Instr), c ∈ [Instr.trainingStart n, .retrain n, .xmcClrEcc n, .xmcClrStats n] ∧
      xmcState s.dev n = 4) :=
  ⟨⟨w_FilesAndTraining_0, (0 : Fin 256), false, false, (0 : Fin 64), by decide +kernel⟩,
   ⟨w_FilesAndTraining_1, (0 : Fin 256), false, false, false, (0 : Fin 64), by decide +kernel⟩,
   ⟨w_FilesAndTraining_2, (0 : Fin 256), by decide +kernel⟩,
   ⟨w_FilesAndTraining_3, (0 : Fin 8), by decide +kernel⟩,
   ⟨w_FilesAndTraining_4, (0 : Fin 8), (0 : Fin 8), false, (9 : BitVec 8), (7 : BitVec 8), [(1, 2)], by decide +kernel⟩,
   ⟨w_FilesAndTraining_5, (0 : Fin 8), (0 : Fin 8), false, (9 : BitVec 8), (7 : BitVec 8), [(1, 2)], by decide +kernel⟩,
   ⟨w_FilesAndTraining_6, (0 : Fin 8), ({ down := 0, up := 0, margin := 0 } : DriftStep), by decide +kernel⟩,
   ⟨w_FilesAndTraining_7, (0 : Fin 8), by decide +kernel⟩,
   ⟨w_FilesAndTraining_8, (0 : Fin 8), by decide +kernel⟩,
   ⟨w_FilesAndTraining_9, (0 : Fin 8), by decide +kernel⟩,
   ⟨w_FilesAndTraining_10, (0 : Fin 8), by decide +kernel⟩,
   ⟨w_FilesAndTraining_11, (0 : Fin 8), (Instr.retrain 0), by decide +kernel⟩⟩

def w_KeySlots_0 : State :=
  let d : Dev := {}
  let d : Dev := { d with cx.closed := false }
  let d : Dev := d.set KS_CMD_STAT_BUSY (0)
  let d : Dev := d.set (KS_STATE_STATE (0 : Fin 64)) 0
  { dev := d }
def w_KeySlots_1 : State :=
  let d : Dev := {}
  let d : Dev := d.set (KS_STATE_STATE 0) 3
  { dev := d }
def w_KeySlots_2 : State :=
  let d : Dev := {}
  let d : Dev := { d with cx.load := some (63, 1) }
  let d : Dev := d.set (KS_DATA_KEY 0) 0x11223344
  { dev := d }
def w_KeySlots_3 : State :=
  let d : Dev := {}
  let d : Dev := d.set (KS_STATE_STATE 0) 1
  { dev := d }
def w_KeySlots_4 : State :=
  let d : Dev := {}
  let d : Dev := d.set (KS_STATE_STATE (0 : Fin 64)) 2
  let d : Dev := { d with cx.retire := some (0 : Fin 64).val }
  let d : Dev := { d with cx := { d.cx with keys := [(0, List.replicate 32 1)] } }
  { dev := d }
def w_KeySlots_5 : State :=
  let d : Dev := {}
  let d : Dev := d.set (KS_STATE_STATE (0 : Fin 64)) 3
  { dev := d }
def w_KeySlots_6 : State :=
  let d : Dev := {}
  let d : Dev := { d with cx.closed := false }
  let d : Dev := { d with cx.load := none }
  let d : Dev := d.set (KS_STATE_STATE (0 : Fin 64)) 2
  { dev := d }
def w_KeySlots_7 : State :=
  let d : Dev := {}
  let d : Dev := { d with cx.closed := false }
  { dev := d }
def w_KeySlots_8 : State :=
  let d : Dev := {}
  let d : Dev := { d with cx.closed := false }
  let d : Dev := d.set SEC_CTRL_AUTO_ZERO (0)
  { dev := d }
theorem test_witness_key_slots :
    (∃ (s : State) (k : Fin 64) (link : Bool), s.dev.cx.closed = false ∧ ksBusy s.dev = false ∧ slotState s.dev k = 0) ∧
    (∃ (s : State) (k : Fin 64) (link : Bool) (c : Resp), s.dev.cx.closed = false ∧ ksBusy s.dev = false ∧
      ((slotState s.dev k = 3 ∧ c = .retry) ∨ (slotState s.dev k = 1 ∧ c = .perm) ∨ (slotState s.dev k = 2 ∧
      c = .perm))) ∧
    (∃ (s : State) (k use : Nat), k < 64 ∧ use < 2 ∧ s.dev.cx.load = some (k, use)) ∧
    (∃ (s : State) (k : Fin 64), s.dev.cx.closed = false ∧ ksBusy s.dev = false ∧ slotState s.dev k = 1) ∧
    (∃ (s : State) (k : Fin 64), slotState s.dev k = 2 ∧ slotInFlight s.dev k = false ∧ s.dev.cx.retire = some k.val ∧
      s.dev.cx.load = none) ∧
    (∃ (s : State) (k : Fin 64), slotState s.dev k = 3) ∧
    (∃ (s : State) (k : Fin 64), s.dev.cx.closed = false ∧ s.dev.cx.load = none ∧ slotState s.dev k = 2) ∧
    (∃ (s : State) (mask : BitVec 6), s.dev.cx.closed = false) ∧
    (∃ (s : State), s.dev.cx.closed = false ∧ s.dev.get SEC_CTRL_AUTO_ZERO = 0) :=
  ⟨⟨w_KeySlots_0, (0 : Fin 64), false, by decide +kernel⟩,
   ⟨w_KeySlots_1, (0 : Fin 64), false, .retry, by decide +kernel⟩,
   ⟨w_KeySlots_2, 63, 1, by decide +kernel⟩,
   ⟨w_KeySlots_3, (0 : Fin 64), by decide +kernel⟩,
   ⟨w_KeySlots_4, (0 : Fin 64), by decide +kernel⟩,
   ⟨w_KeySlots_5, (0 : Fin 64), by decide +kernel⟩,
   ⟨w_KeySlots_6, (0 : Fin 64), by decide +kernel⟩,
   ⟨w_KeySlots_7, (0 : BitVec 6), by decide +kernel⟩,
   ⟨w_KeySlots_8, by decide +kernel⟩⟩

def w_CountersAndMigration_0 : State :=
  let d : Dev := {}
  let d : Dev := { d with cx.op := some (.init (0 : Fin 256).val) }
  let d : Dev := { d with cx.inits := [] }
  let d : Dev := { d with cx.resets := none }
  { dev := d }
def w_CountersAndMigration_1 : State :=
  let d : Dev := {}
  let d : Dev := { d with cx.op := none }
  let d : Dev := { d with cx.inits := [] }
  let d : Dev := { d with cx.resets := none }
  let d : Dev := { d with cx.queue := 1 :: [] }
  let d : Dev := d.set (CF_CTRL_STATE 0) 2
  let d : Dev := d.set (CF_HW_LOST 0) (0)
  let d : Dev := file0 d
  let d : Dev := d.set (XF_CFG_MODE 0) 1
  let d : Dev := { d with cx := { d.cx with hw := [(0, 5, 5, 5)] } }
  { dev := d }
def w_CountersAndMigration_2 : State :=
  let d : Dev := {}
  let d : Dev := { d with cx.op := some (.reenc 1) }
  let d : Dev := file0 d
  let d : Dev := (d.set (XF_CFG_MODE 0) 1).set (XF_CFG_KEY_IDX 0) 3
  let d : Dev := ((d.set (KS_STATE_STATE 3) 1).set (CF_CTRL_STATE 0) 2).set (XF_CFG_EN 0) 1
  let d : Dev := { d with cx := { d.cx with cs := [(1, { major := 4, reenc := true })], keys := [(3, List.replicate 32 1)], grants := 16 } }
  let d : Dev := { d with xm := { d.xm with mem := { d.xm.mem with modes := (List.range 8).map (fun i => (placeOf d 4096 / 8 + i, 2)) } } }
  { dev := d }
def w_CountersAndMigration_3 : State :=
  let d : Dev := {}
  let d : Dev := { d with cx.closed := false }
  let d : Dev := d.set CX_CMD_STAT_BUSY (0)
  let d : Dev := file0 d
  let d : Dev := (d.set (XF_CFG_MODE 0) 1).set (XF_CFG_KEY_IDX 0) 3
  let d : Dev := ((d.set (CF_CTRL_NEXT_EN 0) 1).set (CF_CTRL_NEXT_SLOT 0) 5).set (CF_CTRL_STATE 0) 2
  let d : Dev := (d.set (KS_STATE_STATE 5) 1).set (KS_STATE_FRESH 5) 1
  { dev := d }
def w_CountersAndMigration_4 : State :=
  let d : Dev := {}
  let d : Dev := { d with cx.closed := false }
  let d : Dev := d.set CX_CMD_STAT_BUSY (0)
  let d : Dev := d.set (CF_CTRL_STATE (0 : Fin 256)) 0
  { dev := d }
def w_CountersAndMigration_5 : State :=
  let d : Dev := {}
  let d : Dev := { d with cx.closed := false }
  let d : Dev := d.set CX_CMD_STAT_BUSY (0)
  let d : Dev := d.set (CF_CTRL_STATE (0 : Fin 256)) 3
  let d : Dev := { d with cx.op := none }
  { dev := d }
def w_CountersAndMigration_6 : State :=
  let d : Dev := {}
  let d : Dev := { d with cx.closed := false }
  let d : Dev := d.set CX_CMD_STAT_BUSY (0)
  let d : Dev := d.set (CF_CTRL_STATE (0 : Fin 256)) 4
  { dev := d }
def w_CountersAndMigration_7 : State :=
  let d : Dev := {}
  let d : Dev := { d with cx.closed := false }
  let d : Dev := d.set CX_CMD_STAT_BUSY (0)
  { dev := d }
def w_CountersAndMigration_8 : State :=
  let d : Dev := {}
  let d : Dev := { d with cx.closed := false }
  let d : Dev := d.set CX_CMD_STAT_BUSY (0)
  let d : Dev := d.set (XF_CFG_EN (0 : Fin 256)) (1)
  let d : Dev := d.set (CF_CTRL_STATE (0 : Fin 256)) 2
  let d : Dev := d.set (CF_HW_LOST (0 : Fin 256)) (0)
  let d : Dev := { d with cx.op := none }
  let d : Dev := { d with cx.inits := [] }
  let d : Dev := file0 d
  let d : Dev := (d.set (XF_CFG_MODE 0) 1).set (XF_CFG_KEY_IDX 0) 3
  let d : Dev := d.set (KS_STATE_STATE 3) 1
  let d : Dev := { d with cx := { d.cx with hw := [(0, 5, 5, 5)] } }
  { dev := d }
def w_CountersAndMigration_9 : State :=
  let d : Dev := {}
  { dev := d }
theorem test_witness_counters_and_migration :
    (∃ (s : State) (f : Fin 256), s.dev.cx.op = some (.init f.val) ∧ s.dev.cx.inits = [] ∧ s.dev.cx.resets = none) ∧
    (∃ (s : State) (p f v : Nat) (rest : List Nat), s.dev.cx.op = none ∧ s.dev.cx.inits = [] ∧ s.dev.cx.resets = none ∧
      s.dev.cx.queue = p :: rest ∧ fileOfPage s.dev p = some f ∧ fileEnc s.dev f = true ∧ cfState s.dev f = 2 ∧
      (csEntry s.dev p).flaws = [] ∧ (csEntry s.dev p).poison = false ∧ (csEntry s.dev p).reenc = false ∧
      (csEntry s.dev p).major + 1 < 0xFFF000 ∧ s.dev.get (CF_HW_LOST f) = 0 ∧
      sget (0, 0, 0) s.dev.cx.hw f = (v, v, v)) ∧
    (∃ (s : State) (p f k : Nat), s.dev.cx.op = some (.reenc p) ∧ fileOfPage s.dev p = some f ∧
      (csEntry s.dev p).flaws = [] ∧ (csEntry s.dev p).poison = false ∧ (csEntry s.dev p).reenc = true ∧
      (csEntry s.dev p).linePtr < 63 ∧ xmcState s.dev (ctlOf s.dev (64 * (64 * p + (csEntry s.dev p).linePtr))) = 2 ∧
      migrating s.dev f = false ∧ s.dev.get (XF_CFG_KEY_IDX f) = k ∧ slotState s.dev k = 1 ∧
      opCost s.dev ≤ s.dev.cx.grants ∧ s.dev.get (XF_CFG_EN f) = 1 ∧
      sget 0 s.dev.xm.mem.tags (placeOf s.dev (64 * (64 * p + (csEntry s.dev p).linePtr)) / 64) = s.dev.get (CF_CTRL_EPOCH f) ∧
      (∀ i : Nat, i < 8 → sget 0 s.dev.xm.mem.modes (placeOf s.dev (64 * (64 * p + (csEntry s.dev p).linePtr)) / 8 + i) = 2 ∧
      sget Flaw.none s.dev.xm.mem.flaws (placeOf s.dev (64 * (64 * p + (csEntry s.dev p).linePtr)) / 8 + i) = .none)) ∧
    (∃ (s : State) (f : Fin 256), s.dev.cx.closed = false ∧ s.dev.get CX_CMD_STAT_BUSY = 0 ∧
      canMigrate s.dev f = true) ∧
    (∃ (s : State) (f : Fin 256), s.dev.cx.closed = false ∧ s.dev.get CX_CMD_STAT_BUSY = 0 ∧
      canMigrate s.dev f = false ∧ (cfState s.dev f = 0 ∨ cfState s.dev f = 2)) ∧
    (∃ (s : State) (f : Fin 256), s.dev.cx.closed = false ∧ s.dev.get CX_CMD_STAT_BUSY = 0 ∧ cfState s.dev f = 3 ∧
      s.dev.cx.op = none) ∧
    (∃ (s : State) (f : Fin 256), s.dev.cx.closed = false ∧ s.dev.get CX_CMD_STAT_BUSY = 0 ∧ cfState s.dev f = 4) ∧
    (∃ (s : State) (f : Fin 256) (p : Fin 65536), s.dev.cx.closed = false ∧ s.dev.get CX_CMD_STAT_BUSY = 0 ∧
      fileOfPage s.dev p ≠ some f.val) ∧
    (∃ (s : State) (f : Fin 256) (p : Fin 65536) (v : Nat), s.dev.cx.closed = false ∧ s.dev.get CX_CMD_STAT_BUSY = 0 ∧
      s.dev.get (XF_CFG_EN f) = 1 ∧ fileEnc s.dev f = true ∧ fileOfPage s.dev p = some f.val ∧
      slotServes s.dev (s.dev.get (XF_CFG_KEY_IDX f)) 0 = true ∧ cfState s.dev f = 2 ∧ s.dev.get (CF_HW_LOST f) = 0 ∧
      sget (0, 0, 0) s.dev.cx.hw f = (v, v, v) ∧ v + 1 < 2 ^ 24 ∧ s.dev.cx.op = none ∧ s.dev.cx.inits = [] ∧
      pageReady s.dev p = true) ∧
    (∃ (s : State), (csEntry s.dev s.dev.cx.sweep).flaws = []) :=
  ⟨⟨w_CountersAndMigration_0, (0 : Fin 256), by decide +kernel⟩,
   ⟨w_CountersAndMigration_1, 1, 0, 5, [], by decide +kernel⟩,
   ⟨w_CountersAndMigration_2, 1, 0, 3, by decide +kernel⟩,
   ⟨w_CountersAndMigration_3, (0 : Fin 256), by decide +kernel⟩,
   ⟨w_CountersAndMigration_4, (0 : Fin 256), by decide +kernel⟩,
   ⟨w_CountersAndMigration_5, (0 : Fin 256), by decide +kernel⟩,
   ⟨w_CountersAndMigration_6, (0 : Fin 256), by decide +kernel⟩,
   ⟨w_CountersAndMigration_7, (0 : Fin 256), (0 : Fin 65536), by decide +kernel⟩,
   ⟨w_CountersAndMigration_8, (0 : Fin 256), (1 : Fin 65536), 5, by decide +kernel⟩,
   ⟨w_CountersAndMigration_9, by decide +kernel⟩⟩

def w_EthernetLinks_0 : State :=
  let d : Dev := {}
  let d : Dev := d.set (EP_CFG_EN (0 : Fin 48)) (0)
  { dev := d }
def w_EthernetLinks_1 : State :=
  let d : Dev := {}
  let d : Dev := d.set (EP_CFG_EN (0 : Fin 48)) (0)
  { dev := d }
def w_EthernetLinks_2 : State :=
  let d : Dev := {}
  let d : Dev := d.set (EP_CFG_EN (0 : Fin 48)) (1)
  { dev := d }
def w_EthernetLinks_3 : State :=
  let d : Dev := {}
  let d : Dev := d.set (EP_STATUS_STATE (0 : Fin 48)) (1)
  let d : Dev := d.set (EP_STATUS_LINK_UP (0 : Fin 48)) (0)
  { dev := d }
def w_EthernetLinks_4 : State :=
  let d : Dev := {}
  let d : Dev := d.set (EP_STATUS_STATE (0 : Fin 48)) (2)
  let d : Dev := d.set (EP_STATUS_LINK_UP (0 : Fin 48)) (1)
  let d : Dev := onPort 0 (fun x => { x with tx := some 100 }) d
  { dev := d }
def w_EthernetLinks_5 : State :=
  let d : Dev := {}
  let d : Dev := d.set (EP_CFG_PFC_TX (0 : Fin 48)) (1)
  let d : Dev := d.set (EP_STATUS_STATE (0 : Fin 48)) (2)
  let d : Dev := d.set (EP_CLASS_EN (0 : Fin 48) (0 : Fin 8)) (1)
  let d : Dev := (d.set (EP_CLASS_QUEUE 0 0) 7).set (QD_STAT_ABOVE 7) 1
  { dev := d }
def w_EthernetLinks_6 : State :=
  let d : Dev := {}
  let d : Dev := onPort 0 (fun x => { x with pause := [(3, 100)] }) d
  let d : Dev := d.set (EP_STATUS_PAUSED 0) 1
  { dev := d }
def w_EthernetLinks_7 : State :=
  let d : Dev := {}
  let d : Dev := onPort 0 (fun x => { x with txts := [(1, 2, 3), (4, 5, 6)] }) d
  { dev := d }
theorem test_witness_ethernet_links :
    (∃ (s : State) (p : Fin 48) (v : Word), octetClosed s.dev (p / 8) = false ∧ s.dev.get (EP_CFG_EN p) = 0 ∧
      bitAt v.toNat 31 = true ∧ enableRefused s.dev p (bitsAt v.toNat 27 4) = false) ∧
    (∃ (s : State) (p : Fin 48) (v : Word), octetClosed s.dev (p / 8) = false ∧ s.dev.get (EP_CFG_EN p) = 0 ∧
      bitAt v.toNat 31 = true ∧ enableRefused s.dev p (bitsAt v.toNat 27 4) = true) ∧
    (∃ (s : State) (p : Fin 48) (v : Word), octetClosed s.dev (p / 8) = false ∧ s.dev.get (EP_CFG_EN p) = 1 ∧
      bitsAt v.toNat 27 4 ≠ s.dev.get (EP_CFG_MODE p)) ∧
    (∃ (s : State) (p : Fin 48), s.dev.get (EP_STATUS_STATE p) = 1 ∧ s.dev.get (EP_STATUS_LINK_UP p) = 0) ∧
    (∃ (s : State) (p : Fin 48) (t : Nat), s.dev.get (EP_STATUS_STATE p) = 2 ∧ (s.dev.port p).tx = some t ∧
      s.dev.tb < t ∧ (s.dev.port p).boatq = [] ∧ (s.dev.port p).pause = [] ∧ s.dev.get (EP_STATUS_LINK_UP p) = 1) ∧
    (∃ (s : State) (p : Fin 48) (i : Fin 8), s.dev.get (EP_CFG_PFC_TX p) = 1 ∧ s.dev.get (EP_STATUS_STATE p) = 2 ∧
      s.dev.get (EP_CLASS_EN p i) = 1 ∧ s.dev.get (QD_STAT_ABOVE (s.dev.get (EP_CLASS_QUEUE p i))) = 1) ∧
    (∃ (s : State) (p : Fin 48) (i t : Nat), (s.dev.port p).pause = [(i, t)] ∧ (s.dev.port p).tx = none) ∧
    (∃ (s : State) (p : Fin 48) (e : Nat × Nat × Nat) (rest : List (Nat × Nat × Nat)), (s.dev.port p).txts = e :: rest) :=
  ⟨⟨w_EthernetLinks_0, (0 : Fin 48), (0x80000000 : Word), by decide +kernel⟩,
   ⟨w_EthernetLinks_1, (0 : Fin 48), (0xF8000000 : Word), by decide +kernel⟩,
   ⟨w_EthernetLinks_2, (0 : Fin 48), (0x88000000 : Word), by decide +kernel⟩,
   ⟨w_EthernetLinks_3, (0 : Fin 48), by decide +kernel⟩,
   ⟨w_EthernetLinks_4, (0 : Fin 48), 100, by decide +kernel⟩,
   ⟨w_EthernetLinks_5, (0 : Fin 48), (0 : Fin 8), by decide +kernel⟩,
   ⟨w_EthernetLinks_6, (0 : Fin 48), 3, 100, by decide +kernel⟩,
   ⟨w_EthernetLinks_7, (0 : Fin 48), (1, 2, 3), [(4, 5, 6)], by decide +kernel⟩⟩

def w_EthernetFrames_0 : State :=
  let d : Dev := {}
  let d : Dev := d.set (EP_STATUS_STATE 0) 2
  { dev := d }
def w_EthernetFrames_1 : State :=
  let d : Dev := {}
  let d : Dev := d.set (EP_STATUS_STATE 0) 2
  { dev := d }
def w_EthernetFrames_2 : State :=
  let d : Dev := {}
  { dev := d }
def w_EthernetFrames_3 : State :=
  let d : Dev := {}
  let d : Dev := d.set (EP_STATUS_STATE 0) 2
  let d : Dev := (d.set (SB_CFG_EN 0) 1).set (SB_CFG_RX_EN 0) 1
  { dev := d }
def w_EthernetFrames_4 : State :=
  let d : Dev := {}
  let d : Dev := queue0 0xFF 0 {} {} d
  let d : Dev := (d.set (QD_CFG_MODE 0) 1).set (QD_CFG_MAX_CELLS 0) 4
  let d : Dev := onPort 0 (fun x => { x with buf := [({ queue := 0, data := List.replicate 64 3 } : RxBuf)] }) d
  { dev := d }
def d1_EthernetFrames_4 : Dev := (pushFrame 0 { queue := 0, data := List.replicate 64 3 } w_EthernetFrames_4.dev).2
def w_EthernetFrames_5 : State :=
  let d : Dev := {}
  let d : Dev := d.set (EP_STATUS_PAUSED (0 : Fin 48)) (0)
  let d : Dev := d.set (EP_STATUS_STATE 0) 2
  let d : Dev := onPort 0 (fun x => { x with boatq := [({ boat := 2, bytes := List.replicate 60 3 } : BoatFrame)] }) d
  { dev := d }
def w_EthernetFrames_6 : State :=
  let d : Dev := {}
  { dev := d }
def w_EthernetFrames_7 : State :=
  let d : Dev := {}
  let d : Dev := d.set (EP_STATUS_STATE 0) 4
  { dev := d }
def w_EthernetFrames_8 : State :=
  let d : Dev := {}
  let d : Dev := queue0 0x40 0 {} {} d
  let d : Dev := ((d.set (QD_CFG_MODE 0) 1).set (QD_CFG_MAX_CELLS 0) 4).set (EP_STATUS_STATE 0) 2
  let d : Dev := d.set (EP_CLASS_EN 0 0) 1
  { dev := d }
def d1_EthernetFrames_8 : Dev := (pushFrame 0 ({ ad := (0 : Fin 4).val % portAdapters w_EthernetFrames_8.dev 0, queue := w_EthernetFrames_8.dev.get (EP_CLASS_QUEUE 0 (framePrio w_EthernetFrames_8.dev 0 (frame60 [8, 0] []))), data := (frame60 [8, 0] []).take ((frame60 [8, 0] []).length - 4), size := (frame60 [8, 0] []).length } : RxBuf) w_EthernetFrames_8.dev).2
theorem test_witness_ethernet_frames :
    (∃ (s : State) (p : Fin 48) (i : Fin 4) (bs : List Byte) (tb : BitVec 64), portUp s.dev p = true ∧
      (bs.length < 64 ∨ s.dev.get (EP_CFG_MAX_FRAME p) < bs.length)) ∧
    (∃ (s : State) (p : Fin 48) (i : Fin 4) (bs : List Byte) (tb : BitVec 64), portUp s.dev p = true ∧ 64 ≤ bs.length ∧
      bs.length ≤ s.dev.get (EP_CFG_MAX_FRAME p) ∧ crcGood crc32 bs = true ∧ netNat (bytesAt bs 12 2) ≠ 0x8808 ∧
      boatOf s.dev p bs = none ∧ s.dev.get (EP_CLASS_EN p (framePrio s.dev p bs)) = 0) ∧
    (∃ (s : State) (p : Fin 48) (i : Fin 4) (bs : List Byte) (tb : BitVec 64), portUp s.dev p = false) ∧
    (∃ (s : State) (p : Fin 48) (i : Fin 4) (bs : List Byte) (tb : BitVec 64) (b : Nat), portUp s.dev p = true ∧
      64 ≤ bs.length ∧ bs.length ≤ s.dev.get (EP_CFG_MAX_FRAME p) ∧ crcGood crc32 bs = true ∧
      netNat (bytesAt bs 12 2) ≠ 0x8808 ∧ boatOf s.dev p bs = some b) ∧
    (∃ (s : State) (p : Fin 48) (i : Fin 4) (f : RxBuf) (rest : List RxBuf) (d1 : Dev), octetClosed s.dev (p / 8) = false ∧
      (s.dev.port p).buf = f :: rest ∧ f.ad = i.val ∧ pushFrame p f s.dev = (false, d1) ∧ d1.net = s.dev.net) ∧
    (∃ (s : State) (p : Fin 48) (tb : BitVec 64) (f : BoatFrame) (rest : List BoatFrame), portUp s.dev p = true ∧
      xStopped s.dev (xEth p) = false ∧ (s.dev.port p).tx = none ∧ (s.dev.port p).boatq = f :: rest ∧
      (s.dev.port p).pause = [] ∧ s.dev.get (EP_STATUS_PAUSED p) = 0) ∧
    (∃ (s : State) (p : Fin 48) (tb : BitVec 64), portUp s.dev p = false) ∧
    (∃ (s : State) (p : Fin 48) (i : Fin 4), octetClosed s.dev (p / 8) = true) ∧
    (∃ (s : State) (p : Fin 48) (i : Fin 4) (bs : List Byte) (tb : BitVec 64) (f : RxBuf) (d1 : Dev), portUp s.dev p = true ∧
      64 ≤ bs.length ∧ bs.length ≤ s.dev.get (EP_CFG_MAX_FRAME p) ∧ crcGood crc32 bs = true ∧
      netNat (bytesAt bs 12 2) ≠ 0x8808 ∧ boatOf s.dev p bs = none ∧
      s.dev.get (EP_CLASS_EN p (framePrio s.dev p bs)) = 1 ∧ s.dev.get (EP_CFG_META p) = 0 ∧
      s.dev.get (EP_CFG_KEEP_FCS p) = 0 ∧ (s.dev.port p).buf = [] ∧
      f = { ad := i.val % portAdapters s.dev p, queue := s.dev.get (EP_CLASS_QUEUE p (framePrio s.dev p bs)), data := bs.take (bs.length - 4), size := bs.length } ∧
      pushFrame p f s.dev = (false, d1)) :=
  ⟨⟨w_EthernetFrames_0, (0 : Fin 48), (0 : Fin 4), (List.replicate 63 0), (0 : BitVec 64), by decide +kernel⟩,
   ⟨w_EthernetFrames_1, (0 : Fin 48), (0 : Fin 4), (frame60 [8, 0] []), (0 : BitVec 64), by decide +kernel⟩,
   ⟨w_EthernetFrames_2, (0 : Fin 48), (0 : Fin 4), [], (0 : BitVec 64), by decide +kernel⟩,
   ⟨w_EthernetFrames_3, (0 : Fin 48), (0 : Fin 4), (frame60 [0x88, 0xB5] [0x20, 9, 0, 7]), (0 : BitVec 64), 0, by decide +kernel⟩,
   ⟨w_EthernetFrames_4, (0 : Fin 48), (0 : Fin 4), ({ queue := 0, data := List.replicate 64 3 } : RxBuf), [], d1_EthernetFrames_4, by decide +kernel⟩,
   ⟨w_EthernetFrames_5, (0 : Fin 48), (0 : BitVec 64), ({ boat := 2, bytes := List.replicate 60 3 } : BoatFrame), [], by decide +kernel⟩,
   ⟨w_EthernetFrames_6, (0 : Fin 48), (0 : BitVec 64), by decide +kernel⟩,
   ⟨w_EthernetFrames_7, (0 : Fin 48), (0 : Fin 4), by decide +kernel⟩,
   ⟨w_EthernetFrames_8, (0 : Fin 48), (0 : Fin 4), (frame60 [8, 0] []), (0 : BitVec 64), ({ ad := (0 : Fin 4).val % portAdapters w_EthernetFrames_8.dev 0, queue := w_EthernetFrames_8.dev.get (EP_CLASS_QUEUE 0 (framePrio w_EthernetFrames_8.dev 0 (frame60 [8, 0] []))), data := (frame60 [8, 0] []).take ((frame60 [8, 0] []).length - 4), size := (frame60 [8, 0] []).length } : RxBuf), d1_EthernetFrames_8, by decide +kernel⟩⟩

def w_Swingboats_0 : State :=
  let d : Dev := {}
  let d : Dev := d.set (SB_CFG_EN (0 : Fin 12)) (0)
  let d : Dev := ((d.set (SB_TXS_EN 0 0) 1).set (SB_TXS_EN 0 1) 1)
  { dev := d }
def w_Swingboats_1 : State :=
  let d : Dev := {}
  let d : Dev := d.set (SB_CFG_EN (0 : Fin 12)) (0)
  { dev := d }
def w_Swingboats_2 : State :=
  let d : Dev := {}
  let d : Dev := d.set (TS_CFG_EN (0 : Fin 128) (soutSlot (0 : Fin 4))) 1
  let d : Dev := d.set (TS_STATUS_STATE (0 : Fin 128) (soutSlot (0 : Fin 4))) 1
  let d : Dev := onSlot (0 : Fin 128) (soutSlot (0 : Fin 4)) (fun x => { x with pub := [(0, (0x1F : Token))] }) d
  let d : Dev := d.set (TS_CFG_TARGET 0 (soutSlot 0)) 0x80
  let d : Dev := (d.set (SB_CFG_EN 0) 1).set (SB_CFG_TX_EN 0) 1
  { dev := d }
def w_Swingboats_3 : State :=
  let d : Dev := {}
  let d : Dev := (d.set (TS_CFG_EN 0 (soutSlot 0)) 1).set (TS_STATUS_STATE 0 (soutSlot 0)) 1
  let d : Dev := d.set (TS_CFG_TARGET 0 (soutSlot 0)) 0x80
  let d : Dev := (d.set (SB_CFG_EN 0) 1).set (SB_CFG_TX_EN 0) 1
  let d : Dev := ((d.set (SB_TXS_EN 0 0) 1).set (SB_TXS_NBLK 0 0) 1).set (SB_TXS_M 0 0) 9
  let d : Dev := d.set (EP_STATUS_STATE 0) 2
  let d : Dev := onSlot 0 (soutSlot 0) (fun x => { x with pub := ((0x0800 : Token) :: (List.range 8).map (fun i => BitVec.ofNat 64 (i * 0x0001000200030004))).map (fun w => (6, w)) }) d
  { dev := d }
def w_Swingboats_4 : State :=
  let d : Dev := {}
  let d : Dev := (((d.set (SB_RXS_EN 0 0) 1).set (SB_RXS_STREAM_ID 0 0) 7).set (SB_RXS_M 0 0) 9).set (SB_RXS_LAG 0 0) 5
  let d : Dev := onBoat 0 (fun x => { x with rx := [((frameEnd (List.replicate 12 (1 : Byte) ++ [0x88, 0xB5, 0x20, 9, 0, 7, 0, 0, 0, 0, 0, 0, 0, 4, 0, 1] ++ List.replicate 39 (0 : Byte))), true)] }) d
  let d : Dev := { d with ctl.time.count := 6 }
  { dev := d }
def w_Swingboats_5 : State :=
  let d : Dev := {}
  let d : Dev := onBoat 0 (fun x => { x with rx := [((frame60 [0x88, 0xB5] [0x20, 9, 0, 7]), false)] }) d
  { dev := d }
def w_Swingboats_6 : State :=
  let d : Dev := {}
  let d : Dev := ((d.set (SB_RXS_EN 0 0) 1).set (SB_RXS_STREAM_ID 0 0) 7).set (SB_RXS_M 0 0) 9
  let d : Dev := onBoat 0 (fun x => { x with rx := [((frameEnd (List.replicate 12 (1 : Byte) ++ [0x88, 0xB5, 0x20, 9, 0, 7, 0, 0, 0, 0, 0, 0, 0, 4, 0, 1] ++ List.replicate 39 (0 : Byte))), true)] }) d
  { dev := d }
def w_Swingboats_7 : State :=
  let d : Dev := {}
  let d : Dev := onBoat 0 (fun x => { x with dec := [({ j := 1, tick := 2 } : HeldFrame)] }) d
  { dev := d }
theorem test_witness_swingboats :
    (∃ (s : State) (b : Fin 12) (v : Word), octetClosed s.dev (b / 2) = false ∧ s.dev.get (SB_CFG_EN b) = 0 ∧
      bitAt v.toNat 31 = true ∧ boatRefused s.dev b (bitsAt v.toNat 16 6) = true) ∧
    (∃ (s : State) (b : Fin 12) (v : Word), octetClosed s.dev (b / 2) = false ∧ s.dev.get (SB_CFG_EN b) = 0 ∧
      boatRefused s.dev b (bitsAt v.toNat 16 6) = false) ∧
    (∃ (s : State) (r : Fin 128) (i : Fin 4) (k : Nat) (h : Token), slotEn s.dev r (soutSlot i) = true ∧
      slotSt s.dev r (soutSlot i) = 1 ∧ 0x80 ≤ s.dev.get (TS_CFG_TARGET r (soutSlot i)) ∧
      s.dev.get (TS_CFG_TARGET r (soutSlot i)) < 0xE0 ∧
      s.dev.get (SB_CFG_EN ((s.dev.get (TS_CFG_TARGET r (soutSlot i)) - 0x80) / 8)) = 1 ∧
      s.dev.get (SB_CFG_TX_EN ((s.dev.get (TS_CFG_TARGET r (soutSlot i)) - 0x80) / 8)) = 1 ∧
      octetClosed s.dev ((s.dev.get (TS_CFG_TARGET r (soutSlot i)) - 0x80) / 8 / 2) = false ∧
      (s.dev.boat ((s.dev.get (TS_CFG_TARGET r (soutSlot i)) - 0x80) / 8)).parked = false ∧
      (s.dev.slot r (soutSlot i)).pub = [(k, h)] ∧
      s.dev.get (SB_TXS_EN ((s.dev.get (TS_CFG_TARGET r (soutSlot i)) - 0x80) / 8) (bitsAt h.toNat 0 5)) = 0) ∧
    (∃ (s : State) (r : Fin 128) (i : Fin 4) (k g b j : Nat) (h : Token) (ts : List Token), slotEn s.dev r (soutSlot i) = true ∧
      slotSt s.dev r (soutSlot i) = 1 ∧ g = s.dev.get (TS_CFG_TARGET r (soutSlot i)) ∧ 0x80 ≤ g ∧ g < 0xE0 ∧
      b = (g - 0x80) / 8 ∧ s.dev.get (SB_CFG_EN b) = 1 ∧ s.dev.get (SB_CFG_TX_EN b) = 1 ∧
      octetClosed s.dev (b / 2) = false ∧ (s.dev.boat b).parked = false ∧
      (s.dev.slot r (soutSlot i)).pub = (h :: ts).map (fun w => (k, w)) ∧ j = bitsAt h.toNat 0 5 ∧
      s.dev.get (SB_TXS_EN b j) = 1 ∧ s.dev.get (SB_TXS_CHANNEL b j) = g % 8 ∧
      bitsAt h.toNat 8 8 = 8 * s.dev.get (SB_TXS_NBLK b j) ∧ ts.length = 8 * s.dev.get (SB_TXS_NBLK b j) ∧
      portUp s.dev (s.dev.get (SB_CFG_PORT b)) = true) ∧
    (∃ (s : State) (b : Fin 12) (bs : List Byte) (rest : List (List Byte × Bool)) (j tick : Nat), octetClosed s.dev (b / 2) = false ∧
      (s.dev.boat b).rx = (bs, true) :: rest ∧ rxEntry s.dev b (streamIdOf bs) = some j ∧
      netNat (bytesAt bs (payloadAt bs) 1) = 0x20 ∧
      netNat (bytesAt bs (payloadAt bs + 1) 1) = s.dev.get (SB_RXS_M b j) ∧
      netNat (bytesAt bs (payloadAt bs + 12) 2) = s.dev.get (SB_RXS_NBLK b j) ∧
      payloadAt bs + 16 + s.dev.get (SB_RXS_NBLK b j) * (1 + 4 * s.dev.get (SB_RXS_M b j)) + 4 ≤ bs.length ∧
      (s.dev.boat b).dec = [] ∧ (s.dev.boat b).held = [] ∧ tick = netNat (bytesAt bs (payloadAt bs + 4) 8) ∧
      tick ≤ s.dev.ctl.time.count ∧ s.dev.ctl.time.count + 1 < tick + s.dev.get (SB_RXS_LAG b j)) ∧
    (∃ (s : State) (b : Fin 12) (bs : List Byte) (good : Bool) (rest : List (List Byte × Bool)), octetClosed s.dev (b / 2) = false ∧
      (s.dev.boat b).rx = (bs, good) :: rest ∧ rxEntry s.dev b (streamIdOf bs) = none) ∧
    (∃ (s : State) (b : Fin 12) (bs : List Byte) (rest : List (List Byte × Bool)) (j : Nat), octetClosed s.dev (b / 2) = false ∧
      (s.dev.boat b).rx = (bs, true) :: rest ∧ rxEntry s.dev b (streamIdOf bs) = some j ∧
      netNat (bytesAt bs (payloadAt bs) 1) = 0x20 ∧
      netNat (bytesAt bs (payloadAt bs + 1) 1) = s.dev.get (SB_RXS_M b j) ∧
      netNat (bytesAt bs (payloadAt bs + 12) 2) = s.dev.get (SB_RXS_NBLK b j) ∧
      payloadAt bs + 16 + s.dev.get (SB_RXS_NBLK b j) * (1 + 4 * s.dev.get (SB_RXS_M b j)) + 4 ≤ bs.length ∧
      (s.dev.boat b).dec = [] ∧ (s.dev.boat b).held = [] ∧
      s.dev.ctl.time.count < netNat (bytesAt bs (payloadAt bs + 4) 8)) ∧
    (∃ (s : State) (b : Fin 12) (f : HeldFrame) (rest : List HeldFrame), octetClosed s.dev (b / 2) = false ∧
      (s.dev.boat b).dec = f :: rest) :=
  ⟨⟨w_Swingboats_0, (0 : Fin 12), (0x80000000 : Word), by decide +kernel⟩,
   ⟨w_Swingboats_1, (0 : Fin 12), (0 : Word), by decide +kernel⟩,
   ⟨w_Swingboats_2, (0 : Fin 128), (0 : Fin 4), 0, (0x1F : Token), by decide +kernel⟩,
   ⟨w_Swingboats_3, (0 : Fin 128), (0 : Fin 4), 6, 0x80, 0, 0, (0x0800 : Token), ((List.range 8).map (fun i => BitVec.ofNat 64 (i * 0x0001000200030004))), by decide +kernel⟩,
   ⟨w_Swingboats_4, (0 : Fin 12), (frameEnd (List.replicate 12 (1 : Byte) ++ [0x88, 0xB5, 0x20, 9, 0, 7, 0, 0, 0, 0, 0, 0, 0, 4, 0, 1] ++ List.replicate 39 (0 : Byte))), [], 0, 4, by decide +kernel⟩,
   ⟨w_Swingboats_5, (0 : Fin 12), (frame60 [0x88, 0xB5] [0x20, 9, 0, 7]), false, [], by decide +kernel⟩,
   ⟨w_Swingboats_6, (0 : Fin 12), (frameEnd (List.replicate 12 (1 : Byte) ++ [0x88, 0xB5, 0x20, 9, 0, 7, 0, 0, 0, 0, 0, 0, 0, 4, 0, 1] ++ List.replicate 39 (0 : Byte))), [], 0, by decide +kernel⟩,
   ⟨w_Swingboats_7, (0 : Fin 12), ({ j := 1, tick := 2 } : HeldFrame), [], by decide +kernel⟩⟩

def w_CascadePorts_0 : State :=
  let d : Dev := {}
  let d : Dev := d.set (ICL_PORT_CFG_EN (0 : Fin 4)) (0)
  { dev := d }
def w_CascadePorts_1 : State :=
  let d : Dev := {}
  let d : Dev := d.set (ICL_PORT_STATUS_STATE 0) 5
  { dev := d }
def w_CascadePorts_2 : State :=
  let d : Dev := {}
  let d : Dev := d.set (ICL_PORT_STATUS_STATE 0) 1
  { dev := d }
def w_CascadePorts_3 : State :=
  let d : Dev := {}
  let d : Dev := d.set (ICL_PORT_STATUS_STATE 0) 3
  { dev := d }
def w_CascadePorts_4 : State :=
  let d : Dev := {}
  let d : Dev := { d with ctl.time.follow := false }
  let d : Dev := d.set (ICL_PORT_STATUS_STATE 0) 2
  let d : Dev := onIcl 0 (fun x => { x with inbox := [(0, ({ type := 0, body := leBytes 64 (2 ^ 144 * 77 + 2 ^ 80 * 5 + 0x145) } : IclFrame))] }) d
  { dev := d }
def w_CascadePorts_5 : State :=
  let d : Dev := {}
  let d : Dev := d.set (ICL_PORT_DLY_VALID (0 : Fin 4)) (1)
  let d : Dev := ((d.set (ICL_PORT_STATUS_STATE 0) 2).set (ICL_PORT_STATUS_P_ID 0) 9).set ICL_CFG_CTRL_SLOT 3
  let d : Dev := (d.set (KS_STATE_STATE 3) 1).set (KS_STATE_USE 3) 1
  let d : Dev := onIcl 0 (fun x => { x with peer := some ({ keyReady := true, slot := 3, hop := 420, uid := 5, toM := 2 } : Partner), meas := List.replicate 16 100 }) d
  { dev := d }
def w_CascadePorts_6 : State :=
  let d : Dev := {}
  let d : Dev := d.set (ICL_PORT_DLY_VALID (0 : Fin 4)) (1)
  let d : Dev := { d with ctl.time.follow := false }
  let d : Dev := d.set (ICL_PORT_STATUS_STATE 0) 2
  let d : Dev := onIcl 0 (fun x => { x with peer := some ({ keyReady := true, slot := 3, hop := 420 } : Partner), meas := List.replicate 16 60000 }) d
  { dev := d }
def w_CascadePorts_7 : State :=
  let d : Dev := {}
  let d : Dev := { d with ctl.time.follow := false }
  let d : Dev := d.set (ICL_PORT_STATUS_STATE 0) 2
  let d : Dev := onIcl 0 (fun x => { x with probed := true, inbox := [(0, ({ type := 2, a := 1, src := 4, port := 2, body := (List.range 16).flatMap (fun _ => [(0x1F : Byte), 0xE7, 4, 2]) } : IclFrame))] }) d
  { dev := d }
def w_CascadePorts_8 : State :=
  let d : Dev := {}
  let d : Dev := { d with ctl.time.follow := false }
  let d : Dev := d.set (ICL_PORT_STATUS_STATE 0) 3
  { dev := d }
def w_CascadePorts_9 : State :=
  let d : Dev := {}
  let d : Dev := { d with ctl.time.follow := false }
  let d : Dev := d.set (ICL_PORT_STATUS_STATE 0) 2
  { dev := d }
def w_CascadePorts_10 : State :=
  let d : Dev := {}
  let d : Dev := (d.set (ICL_PORT_STATUS_STATE 0) 4).set (ICL_PORT_STATUS_WHY 0) 3
  let d : Dev := onIcl 0 (fun x => { x with probed := true }) d
  { dev := d }
theorem test_witness_cascade_ports :
    (∃ (s : State) (q : Fin 4) (v : Word), iclClosed s.dev = false ∧ s.dev.get (ICL_PORT_CFG_EN q) = 0 ∧
      bitAt v.toNat 31 = true) ∧
    (∃ (s : State) (q : Fin 4) (v : Word), iclClosed s.dev = true) ∧
    (∃ (s : State) (q : Fin 4), iclState s.dev q = 1) ∧
    (∃ (s : State) (q : Fin 4), iclTrained s.dev q = true) ∧
    (∃ (s : State) (q : Fin 4) (t : Int) (f : IclFrame) (rest : List (Int × IclFrame)) (n : Nat), (s.dev.iport q).inbox = (t, f) :: rest ∧
      f.type = 0 ∧ n = leNat (bytesAt f.body 0 64) ∧ (s.dev.iport q).peer = none ∧ bitsAt n 208 64 = 0 ∧
      bitsAt n 0 4 ≠ ownId s.dev ∧ bitAt n 4 = false ∧ s.dev.ctl.time.follow = false ∧ cascState s.dev ≠ 2 ∧
      (s.dev.get ICL_CFG_EN = 0 ∨ isMaster s.dev = true)) ∧
    (∃ (s : State) (q : Fin 4) (p : Partner), (s.dev.iport q).peer = some p ∧ iclState s.dev q = 2 ∧
      s.dev.get (ICL_PORT_DLY_VALID q) = 1 ∧ linkUsable s.dev q = true ∧ ctrlReady s.dev = true ∧ p.keyReady = true ∧
      p.slot = s.dev.get ICL_CFG_CTRL_SLOT ∧ p.hop = s.dev.get ICL_CFG_HOP_NS) ∧
    (∃ (s : State) (q : Fin 4) (p : Partner), (s.dev.iport q).peer = some p ∧ iclState s.dev q = 2 ∧
      s.dev.get (ICL_PORT_DLY_VALID q) = 1 ∧ linkUsable s.dev q = false ∧ s.dev.ctl.time.follow = false ∧
      cascState s.dev ≠ 2) ∧
    (∃ (s : State) (q : Fin 4) (t : Int) (f : IclFrame) (rest : List (Int × IclFrame)), (s.dev.iport q).probed = true ∧
      iclState s.dev q = 2 ∧ (s.dev.iport q).inbox = (t, f) :: rest ∧ f.type = 2 ∧ f.a = 1 ∧
      f.body = (List.range 16).flatMap (fun _ => [(0x1F : Byte), 0xE7, BitVec.ofNat 8 f.src, BitVec.ofNat 8 f.port]) ∧
      s.dev.ctl.time.follow = false ∧ cascState s.dev ≠ 2 ∧ (s.dev.get ICL_CFG_EN = 0 ∨ isMaster s.dev = true)) ∧
    (∃ (s : State) (q : Fin 4), iclTrained s.dev q = true ∧ s.dev.ctl.time.follow = false ∧ cascState s.dev ≠ 2) ∧
    (∃ (s : State) (q : Fin 4), iclState s.dev q = 2 ∧ s.dev.ctl.time.follow = false ∧ cascState s.dev ≠ 2) ∧
    (∃ (s : State) (q : Fin 4), iclState s.dev q = 4 ∧ (s.dev.iport q).peer = none) :=
  ⟨⟨w_CascadePorts_0, (0 : Fin 4), (0x80000000 : Word), by decide +kernel⟩,
   ⟨w_CascadePorts_1, (0 : Fin 4), (0 : Word), by decide +kernel⟩,
   ⟨w_CascadePorts_2, (0 : Fin 4), by decide +kernel⟩,
   ⟨w_CascadePorts_3, (0 : Fin 4), by decide +kernel⟩,
   ⟨w_CascadePorts_4, (0 : Fin 4), 0, ({ type := 0, body := leBytes 64 (2 ^ 144 * 77 + 2 ^ 80 * 5 + 0x145) } : IclFrame), [], (leNat (bytesAt (leBytes 64 (2 ^ 144 * 77 + 2 ^ 80 * 5 + 0x145)) 0 64)), by decide +kernel⟩,
   ⟨w_CascadePorts_5, (0 : Fin 4), ({ keyReady := true, slot := 3, hop := 420, uid := 5, toM := 2 } : Partner), by decide +kernel⟩,
   ⟨w_CascadePorts_6, (0 : Fin 4), ({ keyReady := true, slot := 3, hop := 420 } : Partner), by decide +kernel⟩,
   ⟨w_CascadePorts_7, (0 : Fin 4), 0, ({ type := 2, a := 1, src := 4, port := 2, body := (List.range 16).flatMap (fun _ => [(0x1F : Byte), 0xE7, 4, 2]) } : IclFrame), [], by decide +kernel⟩,
   ⟨w_CascadePorts_8, (0 : Fin 4), by decide +kernel⟩,
   ⟨w_CascadePorts_9, (0 : Fin 4), by decide +kernel⟩,
   ⟨w_CascadePorts_10, (0 : Fin 4), by decide +kernel⟩⟩

def w_CascadeFrames_0 : State :=
  let d : Dev := {}
  let d : Dev := d.set (ICL_PORT_STATUS_STATE 0) 3
  let d : Dev := onIcl 0 (fun x => { x with wait := [{}] }) d
  { dev := d }
def w_CascadeFrames_1 : State :=
  let d : Dev := {}
  { dev := d }
def w_CascadeFrames_2 : State :=
  let d : Dev := {}
  let d : Dev := d.set (ICL_PORT_STATUS_STATE 0) 3
  { dev := d }
def w_CascadeFrames_3 : State :=
  let d : Dev := {}
  let d : Dev := d.set (ICL_PORT_STATUS_STATE 0) 3
  { dev := d }
def w_CascadeFrames_4 : State :=
  let d : Dev := {}
  let d : Dev := d.set (ICL_PORT_STATUS_STATE 0) 3
  let d : Dev := routeTo 5 2 d
  { dev := d }
def w_CascadeFrames_5 : State :=
  let d : Dev := {}
  let d : Dev := d.set ICL_TUN_STAT_BUSY (0)
  { dev := d }
def w_CascadeFrames_6 : State :=
  let d : Dev := {}
  let d : Dev := d.set ICL_TUN_STAT_BUSY (1)
  { dev := d }
def w_CascadeFrames_7 : State :=
  let d : Dev := {}
  let d : Dev := d.set ICL_TUN_STAT_BUSY (0)
  let d : Dev := routeTo 5 2 d
  { dev := d }
def w_CascadeFrames_8 : State :=
  let d : Dev := {}
  let d : Dev := d.set ICL_TUN_STAT_BUSY (1)
  let d : Dev := { d with icl := { d.icl with tunDest := 5, tunWrite := true } }
  let d : Dev := onIcl 0 (fun x => { x with inbox := [(0, ({ type := 6, src := 5, body := List.replicate 8 1 } : IclFrame))] }) d
  { dev := d }
def w_CascadeFrames_9 : State :=
  let d : Dev := {}
  let d : Dev := d.set ICL_TUN_STAT_BUSY (1)
  { dev := d }
def w_CascadeFrames_10 : State :=
  let d : Dev := {}
  let d : Dev := d.set ICL_CFG_TUN_ACCEPT (0)
  let d : Dev := routeTo 5 2 d
  let d : Dev := onIcl 0 (fun x => { x with inbox := [(0, ({ type := 5, src := 5, body := List.replicate 16 1 } : IclFrame))] }) d
  { dev := d }
def w_CascadeFrames_11 : State :=
  let d : Dev := {}
  let d : Dev := d.set (ICL_QTX_A_ACTIVE 0) (0)
  let d : Dev := queue0 0 0 { words := [{ data := [1], vb := 1, fin := true }], cells := [0] } { tail := 1, commit := 1 } d
  let d : Dev := d.set (QD_BIND_CONS 0) (iclSrc 0 0).1
  let d : Dev := (d.set (QD_CFG_MODE 0) 1).set (QD_CFG_KEY_IDX 0) 3
  let d : Dev := (d.set (KS_STATE_STATE 3) 1).set (KS_STATE_USE 3) 1
  let d : Dev := (d.set (ICL_QTX_A_EN 0) 1)
  { dev := d }
def d1_CascadeFrames_11 : Dev := (qPop (iclSrc 0 0) 0 1 true w_CascadeFrames_11.dev).2.2
def w_CascadeFrames_12 : State :=
  let d : Dev := {}
  let d : Dev := onIcl 0 (fun x => { x with inbox := [(0, ({ type := 4, src := 5, port := 1, a := 16384 + 9, body := List.replicate 8 1 } : IclFrame))] }) d
  { dev := d }
def w_CascadeFrames_13 : State :=
  let d : Dev := {}
  let d : Dev := d.set ICL_CFG_TUN_ACCEPT 1
  let d : Dev := routeTo 5 2 d
  let d : Dev := onIcl 0 (fun x => { x with inbox := [(0, ({ type := 5, src := 5, body := List.replicate 16 1 } : IclFrame))] }) d
  { dev := d }
theorem test_witness_cascade_frames :
    (∃ (s : State) (q : Fin 4) (tb : BitVec 64), iclTrained s.dev q = true ∧ (s.dev.iport q).wait = [{}]) ∧
    (∃ (s : State) (q : Fin 4) (bs : List Byte) (tb : BitVec 64), iclTrained s.dev q = false) ∧
    (∃ (s : State) (q : Fin 4) (bs : List Byte) (tb : BitVec 64), iclTrained s.dev q = true ∧ readFrame bs = none ∧
      bitsAt (leNat (bs.take 16)) 0 4 ≠ 4) ∧
    (∃ (s : State) (q : Fin 4) (bs : List Byte) (tb : BitVec 64) (f : IclFrame), iclTrained s.dev q = true ∧
      readFrame bs = some f ∧ f.type = 0) ∧
    (∃ (s : State) (q : Fin 4) (bs : List Byte) (tb : BitVec 64) (f : IclFrame) (o : Nat), iclTrained s.dev q = true ∧
      readFrame bs = some f ∧ f.type ≠ 0 ∧ f.bcast = false ∧ f.dest ≠ ownId s.dev ∧ portTo s.dev f.dest = some o ∧
      f.hops < 15) ∧
    (∃ (s : State) (dest : Fin 16) (c : Instr), c ∈ [Instr.tunnelRead dest, .tunnelWrite dest] ∧
      iclClosed s.dev = false ∧ s.dev.get ICL_TUN_STAT_BUSY = 0 ∧ dest.val = ownId s.dev) ∧
    (∃ (s : State) (dest : Fin 16) (c : Instr), c ∈ [Instr.tunnelRead dest, .tunnelWrite dest] ∧
      iclClosed s.dev = false ∧ s.dev.get ICL_TUN_STAT_BUSY = 1) ∧
    (∃ (s : State) (dest : Fin 16) (o : Nat) (w : Bool) (c : Instr), c = (if w then .tunnelWrite dest else .tunnelRead dest) ∧
      iclClosed s.dev = false ∧ s.dev.get ICL_TUN_STAT_BUSY = 0 ∧ dest.val ≠ ownId s.dev ∧ portTo s.dev dest = some o) ∧
    (∃ (s : State) (q : Fin 4) (t : Int) (f : IclFrame) (rest : List (Int × IclFrame)), (s.dev.iport q).inbox = (t, f) :: rest ∧
      f.type = 6 ∧ s.dev.get ICL_TUN_STAT_BUSY = 1 ∧ f.src = s.dev.icl.tunDest) ∧
    (∃ (s : State), s.dev.get ICL_TUN_STAT_BUSY = 1) ∧
    (∃ (s : State) (q : Fin 4) (t : Int) (f : IclFrame) (rest : List (Int × IclFrame)) (o : Nat), (s.dev.iport q).inbox = (t, f) :: rest ∧
      f.type = 5 ∧ s.dev.get ICL_CFG_TUN_ACCEPT = 0 ∧ portTo s.dev f.src = some o ∧ o ≠ q.val) ∧
    (∃ (s : State) (q : Fin 4) (i : Nat) (w : QWord) (ws : List QWord) (d1 : Dev), (List.range 16).find? (transferReady s.dev q) = some i ∧
      (∀ k : Nat, k < 4 → (s.dev.iport k).wait = []) ∧
      qPop (iclSrc q q) (s.dev.get (ICL_QTX_A_QUEUE i)) ((s.dev.queue (s.dev.get (ICL_QTX_A_QUEUE i))).depth (qMode s.dev (s.dev.get (ICL_QTX_A_QUEUE i)))) true s.dev = (.ok, w :: ws, d1) ∧
      d1.icl = s.dev.icl ∧ slotSends s.dev (s.dev.get (QD_CFG_KEY_IDX (s.dev.get (ICL_QTX_A_QUEUE i)))) = true ∧
      s.dev.get (ICL_QTX_A_ACTIVE i) = 0) ∧
    (∃ (s : State) (q : Fin 4) (t : Int) (f : IclFrame) (rest : List (Int × IclFrame)), (s.dev.iport q).inbox = (t, f) :: rest ∧
      f.type = 4 ∧ bitAt f.a 14 = true ∧ bitAt f.a 15 = false ∧ 0 < f.body.length ∧ f.body.length ≤ 32 ∧
      (s.dev.iport q).opens = [] ∧ (s.dev.iport q).segs = []) ∧
    (∃ (s : State) (q : Fin 4) (t : Int) (f : IclFrame) (rest : List (Int × IclFrame)) (e : Dev), (s.dev.iport q).inbox = (t, f) :: rest ∧
      f.type = 5 ∧ s.dev.get ICL_CFG_TUN_ACCEPT = 1 ∧
      e = tunAccess f.body (takeInbox q (fun f => f.type == 5) s.dev).2) :=
  ⟨⟨w_CascadeFrames_0, (0 : Fin 4), (7 : BitVec 64), by decide +kernel⟩,
   ⟨w_CascadeFrames_1, (0 : Fin 4), [], (0 : BitVec 64), by decide +kernel⟩,
   ⟨w_CascadeFrames_2, (0 : Fin 4), (List.replicate 84 0), (0 : BitVec 64), by decide +kernel⟩,
   ⟨w_CascadeFrames_3, (0 : Fin 4), (iclBytes (64 * 2 ^ 72) (List.replicate 64 0)), (40 : BitVec 64), (frameOf (64 * 2 ^ 72) (List.replicate 64 0)), by decide +kernel⟩,
   ⟨w_CascadeFrames_4, (0 : Fin 4), (iclBytes (6 + 16 * 3 + 256 * 5 + 16 * 2 ^ 72) (List.replicate 16 7)), (40 : BitVec 64), (frameOf (6 + 16 * 3 + 256 * 5 + 16 * 2 ^ 72) (List.replicate 16 7)), 2, by decide +kernel⟩,
   ⟨w_CascadeFrames_5, (0 : Fin 16), (.tunnelRead 0), by decide +kernel⟩,
   ⟨w_CascadeFrames_6, (0 : Fin 16), (.tunnelWrite 0), by decide +kernel⟩,
   ⟨w_CascadeFrames_7, (5 : Fin 16), 2, true, (.tunnelWrite 5), by decide +kernel⟩,
   ⟨w_CascadeFrames_8, (0 : Fin 4), 0, ({ type := 6, src := 5, body := List.replicate 8 1 } : IclFrame), [], by decide +kernel⟩,
   ⟨w_CascadeFrames_9, by decide +kernel⟩,
   ⟨w_CascadeFrames_10, (0 : Fin 4), 0, ({ type := 5, src := 5, body := List.replicate 16 1 } : IclFrame), [], 2, by decide +kernel⟩,
   ⟨w_CascadeFrames_11, (0 : Fin 4), 0, ({ data := [1], vb := 1, fin := true } : QWord), [], d1_CascadeFrames_11, by decide +kernel⟩,
   ⟨w_CascadeFrames_12, (0 : Fin 4), 0, ({ type := 4, src := 5, port := 1, a := 16384 + 9, body := List.replicate 8 1 } : IclFrame), [], by decide +kernel⟩,
   ⟨w_CascadeFrames_13, (0 : Fin 4), 0, ({ type := 5, src := 5, body := List.replicate 16 1 } : IclFrame), [], (tunAccess (List.replicate 16 1) (takeInbox 0 (fun f => f.type == 5) w_CascadeFrames_13.dev).2), by decide +kernel, by decide +kernel, by decide +kernel, rfl⟩⟩

def w_CascadeMembership_0 : State :=
  let d : Dev := {}
  let d : Dev := d.set ICL_STATUS_STATE 1
  let d : Dev := { d with icl.master := some 5 }
  let d : Dev := routeTo 5 2 d
  let d : Dev := ((d.set ICL_CFG_EN 1).set ICL_STATUS_TO_MASTER 1).set CFG_STATUS_DONE_PIN 1
  let d : Dev := d.set RM_CASC_STATUS_ASTATE 4
  let d : Dev := { d with icl := { d.icl with master := some 5 } }
  { dev := d }
def w_CascadeMembership_1 : State :=
  let d : Dev := {}
  let d : Dev := d.set ICL_STATUS_MASTER 1
  let d : Dev := onIcl 0 (fun x => { x with inbox := [(0, ({ type := 2, a := 2, src := 5, body := List.replicate 8 1 } : IclFrame))] }) d
  { dev := d }
def w_CascadeMembership_2 : State :=
  let d : Dev := {}
  let d : Dev := { d with icl.joinSet := none }
  let d : Dev := d.set ICL_STATUS_MASTER 1
  let d : Dev := { d with icl := { d.icl with ready := [5, 6] } }
  let d : Dev := onIcl 0 (fun x => { x with inbox := [(0, ({ type := 2, a := 3, src := 5, body := List.replicate 8 1 } : IclFrame))] }) d
  { dev := d }
def w_CascadeMembership_3 : State :=
  let d : Dev := {}
  let d : Dev := d.set ICL_CFG_EN (1)
  let d : Dev := d.set CFG_STATUS_DONE_PIN (1)
  let d : Dev := { d with icl.ready := 5 :: [] }
  let d : Dev := { d with icl.lastJoin := none }
  let d : Dev := { d with ctl.time.running := true }
  let d : Dev := { d with icl.joinSet := none }
  let d : Dev := d.set ICL_STATUS_STATE 3
  let d : Dev := (d.set ICL_STATUS_MASTER 1).set ICL_CFG_CTRL_SLOT 3
  let d : Dev := (d.set (KS_STATE_STATE 3) 1).set (KS_STATE_USE 3) 1
  let d : Dev := { d with icl := { d.icl with ready := [5] } }
  let d : Dev := { d with ctl := { d.ctl with time := { d.ctl.time with running := true, nextEdge := 1000000, tb := 999000 } } }
  { dev := d }
def w_CascadeMembership_4 : State :=
  let d : Dev := {}
  let d : Dev := d.set ICL_STATUS_STATE 2
  let d : Dev := onIcl 0 (fun x => { x with inbox := [(0, ({ type := 2, a := 4, src := 5, body := leBytes 8 50 ++ leBytes 8 0x21 } : IclFrame))] }) d
  { dev := d }
def w_CascadeMembership_5 : State :=
  let d : Dev := {}
  let d : Dev := d.set ICL_STATUS_STATE 3
  let d : Dev := { d with ctl.time.follow := false }
  { dev := d }
def w_CascadeMembership_6 : State :=
  let d : Dev := {}
  let d : Dev := d.set ICL_MEMBERS_MEMBERS 0x21
  let d : Dev := onIcl 0 (fun x => { x with inbox := [(0, ({ type := 2, a := 5, src := 5, body := leBytes 8 5 } : IclFrame))] }) d
  { dev := d }
def w_CascadeMembership_7 : State :=
  let d : Dev := {}
  let d : Dev := { d with icl.alive := [((5 : Fin 16).val, 100)] }
  let d : Dev := (d.set ICL_STATUS_MASTER 1).set ICL_MEMBERS_MEMBERS 0x20
  let d : Dev := { d with icl := { d.icl with alive := [(5, 100)] } }
  { dev := d }
def w_CascadeMembership_8 : State :=
  let d : Dev := {}
  let d : Dev := d.set ICL_STATUS_STATE 3
  let d : Dev := { d with ctl.time.follow := false }
  let d : Dev := d.set ICL_STATUS_CASC_ERR (0)
  { dev := d }
def w_CascadeMembership_9 : State :=
  let d : Dev := {}
  let d : Dev := d.set ICL_STATUS_STATE 3
  let d : Dev := { d with icl.master := some 5 }
  let d : Dev := routeTo 5 2 d
  let d : Dev := { d with icl := { d.icl with master := some 5 } }
  { dev := d }
def w_CascadeMembership_10 : State :=
  let d : Dev := {}
  let d : Dev := onIcl 0 (fun x => { x with inbox := [(0, ({ type := 2, a := 6, src := 5, body := leBytes 8 0x120000 } : IclFrame))] }) d
  { dev := d }
def w_CascadeMembership_11 : State :=
  let d : Dev := {}
  let d : Dev := { d with icl.seenP := [((5 : Fin 16).val, 100)] }
  let d : Dev := d.set ICL_MAP_PRESENT 0x21
  let d : Dev := { d with icl := { d.icl with seenP := [(5, 100)] } }
  { dev := d }
def w_CascadeMembership_12 : State :=
  let d : Dev := {}
  let d : Dev := d.set ICL_CFG_EN (1)
  let d : Dev := d.set ICL_STATUS_STATE 0
  let d : Dev := d.set ICL_MAP_MASTERS (0)
  let d : Dev := d.set ICL_STATUS_CASC_ERR (0)
  let d : Dev := { d with ctl.time.follow := false }
  { dev := d }
def w_CascadeMembership_13 : State :=
  let d : Dev := {}
  let d : Dev := d.set ICL_CFG_EN (1)
  let d : Dev := d.set ICL_STATUS_STATE 1
  let d : Dev := d.set ICL_MAP_MASTERS (2 ^ (7 : Fin 16).val)
  let d : Dev := d.set ICL_STATUS_CASC_ERR (0)
  let d : Dev := { d with ctl.time.follow := false }
  let d : Dev := { d with icl := { d.icl with seenM := [(7, 0)] } }
  { dev := d }
theorem test_witness_cascade_membership :
    (∃ (s : State) (m o : Nat), cascState s.dev = 1 ∧ readyOk s.dev = true ∧ s.dev.icl.master = some m ∧
      portTo s.dev m = some o) ∧
    (∃ (s : State) (q : Fin 4) (t : Int) (f : IclFrame) (rest : List (Int × IclFrame)), (s.dev.iport q).inbox = (t, f) :: rest ∧
      f.type = 2 ∧ f.a = 2 ∧ isMaster s.dev = true ∧ bitAt (s.dev.get ICL_MEMBERS_MEMBERS) f.src = false ∧
      f.src ∉ s.dev.icl.ready) ∧
    (∃ (s : State) (q : Fin 4) (t : Int) (f : IclFrame) (rest : List (Int × IclFrame)), (s.dev.iport q).inbox = (t, f) :: rest ∧
      f.type = 2 ∧ f.a = 3 ∧ isMaster s.dev = true ∧ bitAt (s.dev.get ICL_MEMBERS_MEMBERS) f.src = false ∧
      s.dev.icl.joinSet = none) ∧
    (∃ (s : State) (i : Nat) (rest : List Nat), s.dev.get ICL_CFG_EN = 1 ∧ isMaster s.dev = true ∧
      s.dev.get CFG_STATUS_DONE_PIN = 1 ∧ ctrlReady s.dev = true ∧ s.dev.icl.ready = i :: rest ∧ i < 16 ∧
      bitAt (s.dev.get ICL_MEMBERS_MEMBERS) i = false ∧ s.dev.icl.lastJoin = none ∧ s.dev.ctl.time.running = true ∧
      s.dev.icl.joinSet = none ∧ cascState s.dev = 3) ∧
    (∃ (s : State) (q : Fin 4) (t : Int) (f : IclFrame) (rest : List (Int × IclFrame)), (s.dev.iport q).inbox = (t, f) :: rest ∧
      f.type = 2 ∧ f.a = 4 ∧ isMaster s.dev = false ∧ cascState s.dev = 2 ∧
      bitAt (leNat (bytesAt f.body 8 2)) (ownId s.dev) = true ∧
      (s.dev.ctl.time.count : Int) < (leNat (bytesAt f.body 0 8) : Int) - s.dev.icl.mOff) ∧
    (∃ (s : State), iclClosed s.dev = false ∧ cascState s.dev = 3 ∧ s.dev.ctl.time.follow = false) ∧
    (∃ (s : State) (q : Fin 4) (t : Int) (f : IclFrame) (rest : List (Int × IclFrame)) (i : Nat), (s.dev.iport q).inbox = (t, f) :: rest ∧
      f.type = 2 ∧ f.a = 5 ∧ isMaster s.dev = false ∧ i = leNat (bytesAt f.body 0 8) % 16 ∧
      bitAt (s.dev.get ICL_MEMBERS_MEMBERS) i = true) ∧
    (∃ (s : State) (i : Fin 16) (t : Nat), s.dev.icl.alive = [(i.val, t)] ∧ isMaster s.dev = true ∧
      bitAt (s.dev.get ICL_MEMBERS_MEMBERS) i = true) ∧
    (∃ (s : State), isMaster s.dev = false ∧ cascState s.dev = 3 ∧ s.dev.ctl.time.follow = false ∧
      s.dev.get ICL_STATUS_CASC_ERR = 0) ∧
    (∃ (s : State) (m o : Nat), isMaster s.dev = false ∧ cascState s.dev = 3 ∧ s.dev.icl.master = some m ∧
      portTo s.dev m = some o) ∧
    (∃ (s : State) (q : Fin 4) (t : Int) (f : IclFrame) (rest : List (Int × IclFrame)), (s.dev.iport q).inbox = (t, f) :: rest ∧
      f.type = 2 ∧ f.a = 6) ∧
    (∃ (s : State) (i : Fin 16) (t : Nat), s.dev.icl.seenP = [(i.val, t)] ∧ i.val ≠ ownId s.dev) ∧
    (∃ (s : State), s.dev.get ICL_CFG_EN = 1 ∧ (cascState s.dev = 0 ∨ cascState s.dev = 1) ∧
      s.dev.get ICL_MAP_MASTERS = 0 ∧ s.dev.get ICL_STATUS_CASC_ERR = 0 ∧ s.dev.ctl.time.follow = false) ∧
    (∃ (s : State) (m : Fin 16), s.dev.get ICL_CFG_EN = 1 ∧ cascState s.dev = 1 ∧
      s.dev.get ICL_MAP_MASTERS = 2 ^ m.val ∧ s.dev.get ICL_STATUS_CASC_ERR = 0 ∧ s.dev.ctl.time.follow = false) :=
  ⟨⟨w_CascadeMembership_0, 5, 2, by decide +kernel⟩,
   ⟨w_CascadeMembership_1, (0 : Fin 4), 0, ({ type := 2, a := 2, src := 5, body := List.replicate 8 1 } : IclFrame), [], by decide +kernel⟩,
   ⟨w_CascadeMembership_2, (0 : Fin 4), 0, ({ type := 2, a := 3, src := 5, body := List.replicate 8 1 } : IclFrame), [], by decide +kernel⟩,
   ⟨w_CascadeMembership_3, 5, [], by decide +kernel⟩,
   ⟨w_CascadeMembership_4, (0 : Fin 4), 0, ({ type := 2, a := 4, src := 5, body := leBytes 8 50 ++ leBytes 8 0x21 } : IclFrame), [], by decide +kernel⟩,
   ⟨w_CascadeMembership_5, by decide +kernel⟩,
   ⟨w_CascadeMembership_6, (0 : Fin 4), 0, ({ type := 2, a := 5, src := 5, body := leBytes 8 5 } : IclFrame), [], 5, by decide +kernel⟩,
   ⟨w_CascadeMembership_7, (5 : Fin 16), 100, by decide +kernel⟩,
   ⟨w_CascadeMembership_8, by decide +kernel⟩,
   ⟨w_CascadeMembership_9, 5, 2, by decide +kernel⟩,
   ⟨w_CascadeMembership_10, (0 : Fin 4), 0, ({ type := 2, a := 6, src := 5, body := leBytes 8 0x120000 } : IclFrame), [], by decide +kernel⟩,
   ⟨w_CascadeMembership_11, (5 : Fin 16), 100, by decide +kernel⟩,
   ⟨w_CascadeMembership_12, by decide +kernel⟩,
   ⟨w_CascadeMembership_13, (7 : Fin 16), by decide +kernel⟩⟩

def w_CascadeTokens_0 : State :=
  let d : Dev := {}
  let d : Dev := onIcl 0 (fun x => { x with inbox := [(0, ({ type := 3, src := 5, b := 0, body := leBytes 8 1 } : IclFrame))] }) d
  { dev := d }
def w_CascadeTokens_1 : State :=
  let d : Dev := {}
  let d : Dev := { d with icl.held := [] }
  let d : Dev := { d with icl.written := [] }
  let d : Dev := onIcl 0 (fun x => { x with inbox := [(0, ({ type := 3, src := 5, b := 2, c := 33, a := 1, body := leBytes 8 1 } : IclFrame))] }) d
  { dev := d }
def w_CascadeTokens_2 : State :=
  let d : Dev := {}
  let d : Dev := { d with icl.held := [({ q := 1, ch := 0, due := 1, send := 0, src := 5, data := [9] } : Batch)] }
  let d : Dev := { d with icl := { d.icl with held := [({ q := 1, ch := 0, due := 1, send := 0, src := 5, data := [9] } : Batch)] } }
  let d : Dev := ((d.set (TS_CFG_EN 3 10) 1).set (TS_STATUS_STATE 3 10) 1).set (TS_CFG_TARGET 3 10) 0xE0
  { dev := d }
def w_CascadeTokens_3 : State :=
  let d : Dev := {}
  let d : Dev := d.set ICL_STATUS_MASTER 1
  let d : Dev := onIcl 0 (fun x => { x with inbox := [(0, ({ type := 1, src := 5 } : IclFrame))] }) d
  { dev := d }
def w_CascadeTokens_4 : State :=
  let d : Dev := {}
  let d : Dev := d.set ICL_STATUS_STATE 1
  let d : Dev := (d.set ICL_CFG_EN 1).set (ICL_PORT_STATUS_UPSTREAM 0) 1
  let d : Dev := (d.set RM_CASC_STATUS_ASTATE 3).set ICL_STATUS_TO_MASTER 1
  let d : Dev := onIcl 0 (fun x => { x with inbox := [(400, ({ type := 1, src := 5, body := leBytes 8 0 ++ leBytes 8 1 ++ leBytes 8 400 ++ leBytes 8 0 ++ leBytes 8 0 ++ leBytes 8 0 ++ leBytes 8 0 ++ leBytes 8 0 } : IclFrame))] }) d
  let d : Dev := { d with ctl := { d.ctl with time := { d.ctl.time with tb := 400, goodMarks := 15, follow := true, running := true } } }
  { dev := d }
theorem test_witness_cascade_tokens :
    (∃ (s : State) (q : Fin 4) (fb : Bool) (t : Int) (f : IclFrame) (rest : List (Int × IclFrame)), (s.dev.iport q).inbox = (t, f) :: rest ∧
      f.type = 3 ∧ batchLate s.dev f.b = true) ∧
    (∃ (s : State) (q : Fin 4) (fb : Bool) (t : Int) (f : IclFrame) (rest : List (Int × IclFrame)), (s.dev.iport q).inbox = (t, f) :: rest ∧
      f.type = 3 ∧ 1 < edgesTo s.dev f.b ∧ s.dev.icl.held = [] ∧ s.dev.icl.written = []) ∧
    (∃ (s : State) (ch : Fin 32) (b : Batch) (r t : Nat), s.dev.icl.held = [b] ∧ b.ch = ch.val ∧
      edgesTo s.dev b.due = 1 ∧ batchLate s.dev b.due = false ∧ inSlotOf s.dev (0xE0 + ch.val) = some (r, t) ∧
      streamRoom s.dev r t (b.data.length + 1) = true) ∧
    (∃ (s : State) (q : Fin 4) (t : Int) (f : IclFrame) (rest : List (Int × IclFrame)), (s.dev.iport q).inbox = (t, f) :: rest ∧
      f.type = 1 ∧ isMaster s.dev = true) ∧
    (∃ (s : State) (q : Fin 4) (t : Int) (f : IclFrame) (rest : List (Int × IclFrame)), (s.dev.iport q).inbox = (t, f) :: rest ∧
      f.type = 1 ∧ isMaster s.dev = false ∧ upstream s.dev = some q.val ∧
      (∀ k : Nat, k < 4 → k ≠ q.val → iclUp s.dev k = false) ∧ f.hops < 15 ∧ mayFollow s.dev = true ∧
      cascState s.dev = 1 ∧ s.dev.ctl.time.follow = true ∧ s.dev.ctl.time.running = true ∧ astate s.dev = 3 ∧
      (t - markTime s.dev q f).natAbs ≤ 4) :=
  ⟨⟨w_CascadeTokens_0, (0 : Fin 4), false, 0, ({ type := 3, src := 5, b := 0, body := leBytes 8 1 } : IclFrame), [], by decide +kernel⟩,
   ⟨w_CascadeTokens_1, (0 : Fin 4), false, 0, ({ type := 3, src := 5, b := 2, c := 33, a := 1, body := leBytes 8 1 } : IclFrame), [], by decide +kernel⟩,
   ⟨w_CascadeTokens_2, (0 : Fin 32), ({ q := 1, ch := 0, due := 1, send := 0, src := 5, data := [9] } : Batch), 3, 10, by decide +kernel⟩,
   ⟨w_CascadeTokens_3, (0 : Fin 4), 0, ({ type := 1, src := 5 } : IclFrame), [], by decide +kernel⟩,
   ⟨w_CascadeTokens_4, (0 : Fin 4), 400, ({ type := 1, src := 5, body := leBytes 8 0 ++ leBytes 8 1 ++ leBytes 8 400 ++ leBytes 8 0 ++ leBytes 8 0 ++ leBytes 8 0 ++ leBytes 8 0 ++ leBytes 8 0 } : IclFrame), [], by decide +kernel⟩⟩

def w_TickGenerator_0 : State :=
  let d : Dev := {}
  let d : Dev := { d with ctl.time.refLost := false }
  { dev := d }
def w_TickGenerator_1 : State :=
  let d : Dev := {}
  let d : Dev := d.set RM_CTRL_RUN (0)
  let d : Dev := d.set RM_STATUS_PLL_LOCK (1)
  { dev := d }
def w_TickGenerator_2 : State :=
  let d : Dev := {}
  let d : Dev := d.set RM_CTRL_RUN (0)
  let d : Dev := d.set RM_STATUS_PLL_LOCK (0)
  { dev := d }
def w_TickGenerator_3 : State :=
  let d : Dev := {}
  let d : Dev := d.set RM_CTRL_RUN (1)
  let d : Dev := d.set RM_CONTRACT_CTRL_CASC_ALLOW (0)
  { dev := d }
def w_TickGenerator_4 : State :=
  let d : Dev := {}
  let d : Dev := d.set RM_CTRL_RUN (1)
  let d : Dev := d.set (RING_SCHED_ARM 0) 1
  { dev := d }
def w_TickGenerator_5 : State :=
  let d : Dev := {}
  let d : Dev := d.set RM_CTRL_RUN (0)
  { dev := d }
def w_TickGenerator_6 : State :=
  let d : Dev := {}
  let d : Dev := d.set RM_CTRL_RUN (1)
  { dev := d }
def w_TickGenerator_7 : State :=
  let d : Dev := {}
  let d : Dev := { d with ctl.time.running := true }
  let d : Dev := { d with ctl.time.join := none }
  let d : Dev := { d with ctl.time.pend := none }
  let d : Dev := { d with ctl.time.rephase := none }
  let d : Dev := { d with ctl.time.accRst := false }
  { dev := d }
def w_TickGenerator_8 : State :=
  let d : Dev := {}
  let d : Dev := { d with ctl.time.running := false }
  { dev := d }
def w_TickGenerator_9 : State :=
  let d : Dev := {}
  let d : Dev := d.set RM_CMD_STAT_BUSY (0)
  let d : Dev := d.set RM_CTRL_RUN (0)
  { dev := d }
def w_TickGenerator_10 : State :=
  let d : Dev := {}
  let d : Dev := d.set RM_CMD_STAT_BUSY (0)
  let d : Dev := d.set RM_CTRL_RUN (1)
  let d : Dev := d.set RM_PERIOD_NEXT_NS 5
  { dev := d }
def w_TickGenerator_11 : State :=
  let d : Dev := {}
  let d : Dev := d.set RM_CMD_STAT_BUSY (0)
  let d : Dev := d.set (RING_SCHED_ARM 0) 1
  let d : Dev := d.set (RING_ACT_DU_DU_TOTAL 0 0) 200000000
  { dev := d }
def w_TickGenerator_12 : State :=
  let d : Dev := {}
  let d : Dev := d.set RM_CMD_STAT_BUSY (0)
  let d : Dev := d.set RM_CTRL_RUN (1)
  { dev := d }
def w_TickGenerator_13 : State :=
  let d : Dev := {}
  let d : Dev := d.set RM_CMD_STAT_BUSY (0)
  let d : Dev := d.set RM_CTRL_RUN (0)
  { dev := d }
def w_TickGenerator_14 : State :=
  let d : Dev := {}
  let d : Dev := d.set RM_CMD_STAT_BUSY (1)
  let d : Dev := { d with ctl := { d.ctl with time := { d.ctl.time with pend := some (.align 5 6 true) } } }
  { dev := d }
def w_TickGenerator_15 : State :=
  let d : Dev := {}
  let d : Dev := d.set RM_CMD_STAT_BUSY (1)
  let d : Dev := { d with ctl.time := { d.ctl.time with pend := some (.align 5 1 true), nextEdge := 4, tb := 6 } }
  { dev := d }
def w_TickGenerator_16 : State :=
  let d : Dev := {}
  let d : Dev := { d with ctl.time.pend := none }
  let d : Dev := { d with ctl.time.cmdDone := true }
  { dev := d }
theorem test_witness_tick_generator :
    (∃ (s : State), s.dev.ctl.time.refLost = false) ∧
    (∃ (s : State), s.dev.get RM_CTRL_RUN = 0 ∧ s.dev.get RM_STATUS_PLL_LOCK = 1) ∧
    (∃ (s : State), s.dev.get RM_CTRL_RUN = 0 ∧ s.dev.get RM_STATUS_PLL_LOCK = 0) ∧
    (∃ (s : State), s.dev.get RM_CTRL_RUN = 1 ∧ armedLeads s.dev = [] ∧ s.dev.get RM_CONTRACT_CTRL_CASC_ALLOW = 0) ∧
    (∃ (s : State), s.dev.get RM_CTRL_RUN = 1 ∧ armedLeads s.dev ≠ []) ∧
    (∃ (s : State) (lo : Word), s.dev.get RM_CTRL_RUN = 0) ∧
    (∃ (s : State) (lo : Word), s.dev.get RM_CTRL_RUN = 1) ∧
    (∃ (s : State) (ins : List (Fin 128 × Fin 32 × BitVec 56 × Bool)), s.dev.ctl.time.running = true ∧
      s.dev.ctl.time.join = none ∧ s.dev.ctl.time.pend = none ∧ s.dev.ctl.time.rephase = none ∧
      s.dev.ctl.time.fixNext = none ∧ s.dev.ctl.time.accRst = false) ∧
    (∃ (s : State) (ins : List (Fin 128 × Fin 32 × BitVec 56 × Bool)), s.dev.ctl.time.running = false) ∧
    (∃ (s : State), s.dev.get RM_CMD_STAT_BUSY = 0 ∧ s.dev.get RM_STATUS_DISC ≠ 4 ∧ s.dev.get RM_CTRL_RUN = 0 ∧
      failing s.dev (s.dev.get TG_VSAFE_MV) (s.dev.get RM_CONTRACT_CTRL_TJ_DESIGN) (s.dev.get RM_PERIOD_NEXT_NS) = []) ∧
    (∃ (s : State), s.dev.get RM_CMD_STAT_BUSY = 0 ∧ s.dev.get RM_STATUS_DISC ≠ 4 ∧ s.dev.get RM_CTRL_RUN = 1 ∧
      failing s.dev (s.dev.get TG_VSAFE_MV) (s.dev.get RM_CONTRACT_CTRL_TJ_DESIGN) (s.dev.get RM_PERIOD_NEXT_NS) = []) ∧
    (∃ (s : State), s.dev.get RM_CMD_STAT_BUSY = 0 ∧ s.dev.get RM_STATUS_DISC ≠ 4 ∧
      failing s.dev (s.dev.get TG_VSAFE_MV) (s.dev.get RM_CONTRACT_CTRL_TJ_DESIGN) (s.dev.get RM_PERIOD_NEXT_NS) ≠ []) ∧
    (∃ (s : State), s.dev.get RM_CMD_STAT_BUSY = 0 ∧ s.dev.get RM_STATUS_DISC ≠ 4 ∧ s.dev.get RM_CTRL_RUN = 1) ∧
    (∃ (s : State), s.dev.get RM_CMD_STAT_BUSY = 0 ∧ s.dev.get RM_CTRL_RUN = 0) ∧
    (∃ (s : State), s.dev.ctl.time.pend ≠ none ∧ s.dev.get RM_CMD_STAT_BUSY = 1 ∧ effectNow s.dev.ctl.time = false) ∧
    (∃ (s : State), s.dev.get RM_CMD_STAT_BUSY = 1 ∧ effectNow s.dev.ctl.time = true) ∧
    (∃ (s : State), s.dev.ctl.time.pend = none ∧ s.dev.ctl.time.cmdDone = true) :=
  ⟨⟨w_TickGenerator_0, by decide +kernel⟩,
   ⟨w_TickGenerator_1, by decide +kernel⟩,
   ⟨w_TickGenerator_2, by decide +kernel⟩,
   ⟨w_TickGenerator_3, by decide +kernel⟩,
   ⟨w_TickGenerator_4, by decide +kernel⟩,
   ⟨w_TickGenerator_5, (0 : Word), by decide +kernel⟩,
   ⟨w_TickGenerator_6, (0 : Word), by decide +kernel⟩,
   ⟨w_TickGenerator_7, [], by decide +kernel⟩,
   ⟨w_TickGenerator_8, [], by decide +kernel⟩,
   ⟨w_TickGenerator_9, by decide +kernel⟩,
   ⟨w_TickGenerator_10, by decide +kernel⟩,
   ⟨w_TickGenerator_11, by decide +kernel⟩,
   ⟨w_TickGenerator_12, by decide +kernel⟩,
   ⟨w_TickGenerator_13, by decide +kernel⟩,
   ⟨w_TickGenerator_14, by decide +kernel⟩,
   ⟨w_TickGenerator_15, by decide +kernel⟩,
   ⟨w_TickGenerator_16, by decide +kernel⟩⟩

def w_TimeDiscipline_0 : State :=
  let d : Dev := {}
  let d : Dev := d.set RM_DISC_SRC (1)
  let d : Dev := d.set RM_STATUS_DISC (0)
  let d : Dev := d.set RM_STATUS_HISTORY (0)
  { dev := d }
def w_TimeDiscipline_1 : State :=
  let d : Dev := {}
  let d : Dev := { d with ctl.time.lastPps := none }
  let d : Dev := (d.set (GPIO_PIN_CFG_FUNC 13) 6).set (GPIO_BANK_VIO 0) 1
  { dev := d }
def w_TimeDiscipline_2 : State :=
  let d : Dev := {}
  let d : Dev := d.set RM_STATUS_DISC (1)
  { dev := d }
def w_TimeDiscipline_3 : State :=
  let d : Dev := {}
  let d : Dev := d.set RM_DISC_SRC (0)
  { dev := d }
def w_TimeDiscipline_4 : State :=
  let d : Dev := {}
  let d : Dev := d.set RM_DISC_SRC 1
  { dev := d }
def w_TimeDiscipline_5 : State :=
  let d : Dev := {}
  { dev := d }
def w_TimeDiscipline_6 : State :=
  let d : Dev := {}
  let d : Dev := d.set RM_PPS_OUT_EN (1)
  let d : Dev := d.set RM_PPS_OUT_ALWAYS (1)
  { dev := d }
theorem test_witness_time_discipline :
    (∃ (s : State) (v : Word), s.dev.get RM_DISC_SRC = 1 ∧ s.dev.get RM_STATUS_DISC = 0 ∧
      s.dev.get RM_STATUS_HISTORY = 0) ∧
    (∃ (s : State) (falling : Bool) (tb : BitVec 64), ppsPin s.dev = true ∧ falling = s.dev.flag RM_DISC_PPS_POL ∧
      s.dev.ctl.time.lastPps = none ∧ s.dev.get RM_STATUS_DISC ≠ 2) ∧
    (∃ (s : State), (s.dev.get RM_STATUS_DISC = 1 ∨ s.dev.get RM_STATUS_DISC = 2)) ∧
    (∃ (s : State) (v : Word), s.dev.get RM_DISC_SRC = 0) ∧
    (∃ (s : State) (v : Word), s.dev.get RM_DISC_SRC ≠ 0) ∧
    (∃ (s : State) (v : Word), v.toNat / 2 ^ 30 = 0 ∧ s.dev.get RM_STATUS_DISC ≠ 4) ∧
    (∃ (s : State), s.dev.get RM_PPS_OUT_EN = 1 ∧ s.dev.get RM_PPS_OUT_ALWAYS = 1) :=
  ⟨⟨w_TimeDiscipline_0, (0 : Word), by decide +kernel⟩,
   ⟨w_TimeDiscipline_1, (w_TimeDiscipline_1.dev.flag RM_DISC_PPS_POL), (0 : BitVec 64), by decide +kernel⟩,
   ⟨w_TimeDiscipline_2, by decide +kernel⟩,
   ⟨w_TimeDiscipline_3, (0 : Word), by decide +kernel⟩,
   ⟨w_TimeDiscipline_4, (0 : Word), by decide +kernel⟩,
   ⟨w_TimeDiscipline_5, (0 : Word), by decide +kernel⟩,
   ⟨w_TimeDiscipline_6, by decide +kernel⟩⟩

def w_RegulatorLink_0 : State :=
  let d : Dev := {}
  { dev := d }
def w_RegulatorLink_1 : State :=
  let d : Dev := {}
  let d : Dev := { d with tg.frames := (AvsFrame.readStatus) :: [] }
  { dev := d }
def w_RegulatorLink_2 : State :=
  let d : Dev := {}
  let d : Dev := { d with tg.frames := (AvsFrame.readStatus) :: [] }
  let d : Dev := { d with tg := { d.tg with attempt := 3 } }
  { dev := d }
def w_RegulatorLink_3 : State :=
  let d : Dev := {}
  let d : Dev := { d with tg.frames := .writeVoltage 0 :: [] }
  let d : Dev := { d with tg.inStatus := true }
  { dev := d }
def w_RegulatorLink_4 : State :=
  let d : Dev := {}
  let d : Dev := d.set TG_STATUS_REG_FAULT 1
  let d : Dev := { d with tg := { d.tg with frames := [.readCurrent], held := true } }
  { dev := d }
def w_RegulatorLink_5 : State :=
  let d : Dev := {}
  let d : Dev := d.set TG_STATUS_MODE 3
  { dev := d }
def w_RegulatorLink_6 : State :=
  let d : Dev := {}
  let d : Dev := d.set TG_STATUS_MODE 3
  { dev := d }
theorem test_witness_regulator_link :
    (∃ (s : State), s.dev.get TG_STATUS_MODE = 0 ∧ s.dev.tg.frames = [] ∧ s.dev.tg.held = false ∧ s.dev.tg.cut = false ∧
      s.dev.tg.inStatus = false ∧ s.dev.get TG_FORCE_EN = 0) ∧
    (∃ (s : State) (f : AvsFrame) (rest : List AvsFrame) (e : Bool) (v : BitVec 16), s.dev.tg.frames = f :: rest ∧
      s.dev.tg.held = false ∧ s.dev.tg.cut = false ∧ s.dev.tg.attempt < 3) ∧
    (∃ (s : State) (f : AvsFrame) (rest : List AvsFrame) (e : Bool) (v : BitVec 16), s.dev.tg.frames = f :: rest ∧
      s.dev.tg.held = false ∧ s.dev.tg.cut = false ∧ 3 ≤ s.dev.tg.attempt ∧ s.dev.get TG_STATUS_REG_FAULT = 0) ∧
    (∃ (s : State) (mv : Nat) (rest : List AvsFrame) (v : BitVec 16), s.dev.tg.frames = .writeVoltage mv :: rest ∧
      s.dev.tg.held = false ∧ s.dev.tg.inStatus = true) ∧
    (∃ (s : State), s.dev.get TG_STATUS_REG_FAULT = 1) ∧
    (∃ (s : State) (amps : BitVec 16) (fails : Fin 5), s.dev.get TG_STATUS_MODE ≠ 0 ∧ fails.val < 4) ∧
    (∃ (s : State) (amps : BitVec 16), s.dev.get TG_STATUS_MODE ≠ 0) :=
  ⟨⟨w_RegulatorLink_0, by decide +kernel⟩,
   ⟨w_RegulatorLink_1, (AvsFrame.readStatus), [], false, (0 : BitVec 16), by decide +kernel⟩,
   ⟨w_RegulatorLink_2, (AvsFrame.readStatus), [], false, (0 : BitVec 16), by decide +kernel⟩,
   ⟨w_RegulatorLink_3, 0, [], (0 : BitVec 16), by decide +kernel⟩,
   ⟨w_RegulatorLink_4, by decide +kernel⟩,
   ⟨w_RegulatorLink_5, (700 : BitVec 16), (3 : Fin 5), by decide +kernel⟩,
   ⟨w_RegulatorLink_6, (700 : BitVec 16), by decide +kernel⟩⟩

def w_GovernorModes_0 : State :=
  let d : Dev := {}
  let d : Dev := d.set TG_STATUS_MODE (1)
  let d : Dev := d.set TG_STATUS_HOLD_LEFT (0)
  { dev := d }
def w_GovernorModes_2 : State :=
  let d : Dev := {}
  let d : Dev := d.set TG_CTRL_LOCK (0)
  { dev := d }
def w_GovernorModes_3 : State :=
  let d : Dev := {}
  let d : Dev := d.set TG_STATUS_MODE 3
  let d : Dev := { d with tg.cmd := some 660 }
  let d : Dev := d.set RM_CONTRACT_STATUS_FLOOR_MV 725
  { dev := d }
def w_GovernorModes_4 : State :=
  let d : Dev := {}
  let d : Dev := d.set TG_CTRL_LOCK (1)
  let d : Dev := d.set TG_CTRL_GOVERNED (1)
  { dev := d }
def w_GovernorModes_5 : State :=
  let d : Dev := {}
  let d : Dev := d.set TG_STATUS_MODE 3
  { dev := d }
def w_GovernorModes_6 : State :=
  let d : Dev := {}
  { dev := d }
def w_GovernorModes_7 : State :=
  let d : Dev := {}
  { dev := d }
def w_GovernorModes_8 : State :=
  let d : Dev := {}
  let d : Dev := d.set TG_STATUS_MODE (4)
  let d : Dev := { d with tg.auto800 := false }
  { dev := d }
def w_GovernorModes_9 : State :=
  let d : Dev := {}
  let d : Dev := d.set TG_STATUS_MODE (5)
  let d : Dev := { d with tg.auto800 := false }
  { dev := d }
def w_GovernorModes_10 : State :=
  let d : Dev := {}
  let d : Dev := d.set TG_THERM_HOT 0
  { dev := d }
theorem test_witness_governor_modes :
    (∃ (s : State), (s.dev.get TG_STATUS_MODE = 1 ∨ s.dev.get TG_STATUS_MODE = 2) ∧ s.dev.get TG_STATUS_HOLD_LEFT = 0) ∧
    (∃ (s : State), s.dev.get TG_CTRL_LOCK = 0) ∧
    (∃ (s : State) (c : Nat), s.dev.get TG_CTRL_LOCK = 0 ∧ s.dev.get TG_STATUS_MODE = 3 ∧ s.dev.tg.age = none ∧
      s.dev.tg.cmd = some c ∧ c < Nat.min (s.dev.get RM_CONTRACT_STATUS_FLOOR_MV + s.dev.get TG_STEP_GUARD) 900) ∧
    (∃ (s : State), s.dev.get TG_CTRL_LOCK = 1 ∧ s.dev.get TG_CTRL_GOVERNED = 1) ∧
    (∃ (s : State) (mv : BitVec 10), armedLeads s.dev = [] ∧ s.dev.get TG_STATUS_MODE ≠ 0 ∧
      s.dev.get TG_STATUS_MODE ≠ 5 ∧ 650 ≤ mv.toNat ∧ mv.toNat ≤ 900) ∧
    (∃ (s : State) (mv : BitVec 10), armedLeads s.dev = [] ∧ s.dev.get TG_STATUS_MODE = 0 ∧ 650 ≤ mv.toNat ∧
      mv.toNat ≤ 900) ∧
    (∃ (s : State) (mv : BitVec 10), (armedLeads s.dev ≠ [] ∨ s.dev.get TG_STATUS_MODE = 5 ∨ mv.toNat < 650 ∨ 900 < mv.toNat)) ∧
    (∃ (s : State), s.dev.get TG_STATUS_MODE = 4 ∧ s.dev.tg.auto800 = false) ∧
    (∃ (s : State), s.dev.get TG_STATUS_MODE = 5 ∧ tjMax s.dev < threshold (s.dev.get TG_THERM_HOT) ∧
      s.dev.tg.auto800 = false) ∧
    (∃ (s : State), threshold (s.dev.get TG_THERM_HOT) ≤ tjMax s.dev) :=
  ⟨⟨w_GovernorModes_0, by decide +kernel⟩,
   ⟨w_GovernorModes_2, by decide +kernel⟩,
   ⟨w_GovernorModes_3, 660, by decide +kernel⟩,
   ⟨w_GovernorModes_4, by decide +kernel⟩,
   ⟨w_GovernorModes_5, (700 : BitVec 10), by decide +kernel⟩,
   ⟨w_GovernorModes_6, (700 : BitVec 10), by decide +kernel⟩,
   ⟨w_GovernorModes_7, (0 : BitVec 10), by decide +kernel⟩,
   ⟨w_GovernorModes_8, by decide +kernel⟩,
   ⟨w_GovernorModes_9, by decide +kernel⟩,
   ⟨w_GovernorModes_10, by decide +kernel⟩⟩

def w_GovernorSteps_0 : State :=
  let d : Dev := {}
  let d : Dev := d.set TG_STATUS_MODE (3)
  let d : Dev := { d with tg.cmd := some 0 }
  let d : Dev := { d with tg.settled := true }
  let d : Dev := { d with tg.sMin := some (0, 0) }
  let d : Dev := d.set TG_CTRL_TARGET_LO 1
  { dev := d }
def w_GovernorSteps_1 : State :=
  let d : Dev := {}
  let d : Dev := d.set TG_STATUS_MODE (3)
  let d : Dev := { d with tg.cmd := some 800 }
  let d : Dev := { d with tg.settled := true }
  let d : Dev := { d with tg.sMin := some (40, 0) }
  { dev := d }
def w_GovernorSteps_2 : State :=
  let d : Dev := {}
  let d : Dev := d.set TG_STATUS_MODE (3)
  let d : Dev := { d with tg.cmd := some 890 }
  let d : Dev := { d with tg.settled := true }
  let d : Dev := { d with tg.sMin := some (60, 0) }
  let d : Dev := d.set TG_STATUS_REG_FAULT (0)
  let d : Dev := d.set TG_IRQ_CAUSE_REG_ALERT (0)
  { dev := d }
def w_GovernorSteps_3 : State :=
  let d : Dev := {}
  let d : Dev := { d with tg.age := none }
  let d : Dev := { d with tg.cmd := some 700 }
  let d : Dev := d.set TG_STATUS_MODE 3
  { dev := d }
def w_GovernorSteps_4 : State :=
  let d : Dev := {}
  let d : Dev := { d with tg := { d.tg with age := some ({ back := 700, ready := 400 } : AgeChk), cmd := some 800 } }
  let d : Dev := (d.set TG_STATUS_MODE 3).set TG_CTRL_GOVERNED 1
  { dev := d }
def w_GovernorSteps_5 : State :=
  let d : Dev := {}
  let d : Dev := { d with tg := { d.tg with age := some ({ back := 700, ready := 400 } : AgeChk), cmd := some 800 } }
  let d : Dev := d.set TG_STATUS_MODE 2
  { dev := d }
def w_GovernorSteps_6 : State :=
  let d : Dev := {}
  let d : Dev := { d with tg := { d.tg with age := some ({ back := 700, ready := 400 } : AgeChk), cmd := some 800, eolRun := 16 } }
  let d : Dev := d.set TG_STATUS_MODE 3
  { dev := d }
theorem test_witness_governor_steps :
    (∃ (s : State) (c x r : Nat), s.dev.get TG_STATUS_MODE = 3 ∧ s.dev.tg.cmd = some c ∧ s.dev.tg.settled = true ∧
      s.dev.tg.age = none ∧ s.dev.tg.sMin = some (x, r) ∧ x < s.dev.get TG_CTRL_TARGET_LO) ∧
    (∃ (s : State) (c x r : Nat), s.dev.get TG_STATUS_MODE = 3 ∧ s.dev.tg.cmd = some c ∧ s.dev.tg.sMin = some (x, r) ∧
      (s.dev.tg.settled = false ∨ s.dev.tg.age.isSome = true ∨ (s.dev.get TG_CTRL_TARGET_LO ≤ x ∧
      x ≤ s.dev.get TG_CTRL_TARGET_HI))) ∧
    (∃ (s : State) (c x r : Nat), s.dev.get TG_STATUS_MODE = 3 ∧ s.dev.tg.cmd = some c ∧ s.dev.tg.settled = true ∧
      s.dev.tg.age = none ∧ s.dev.tg.sMin = some (x, r) ∧ s.dev.get TG_CTRL_TARGET_LO ≤ x ∧
      s.dev.get TG_CTRL_TARGET_HI < x ∧ s.dev.get TG_STATUS_REG_FAULT = 0 ∧ s.dev.get TG_IRQ_CAUSE_REG_ALERT = 0 ∧
      monsFailed s.dev ≤ 8 ∧ c ≤ 900 ∧ s.dev.get TG_STEP_STEP_DN ≠ 0 ∧ lowerBound s.dev < c) ∧
    (∃ (s : State) (c : Nat), s.dev.tg.age = none ∧ s.dev.get TG_STATUS_MODE ≠ 0 ∧ s.dev.get TG_STATUS_MODE ≠ 4 ∧
      s.dev.get TG_STATUS_MODE ≠ 5 ∧ s.dev.tg.cmd = some c) ∧
    (∃ (s : State) (a : AgeChk) (c : Nat), s.dev.tg.age = some a ∧ s.dev.tg.eolRun < 16 ∧ s.dev.get TG_STATUS_MODE = 3 ∧
      s.dev.get TG_STATUS_REG_FAULT = 0 ∧ s.dev.get TG_IRQ_CAUSE_REG_ALERT = 0 ∧ monsFailed s.dev ≤ 8 ∧
      s.dev.tg.cmd = some c ∧ Nat.max a.back (lowerBound s.dev) < c) ∧
    (∃ (s : State) (a : AgeChk), s.dev.tg.age = some a ∧ s.dev.tg.eolRun < 16 ∧
      (s.dev.get TG_STATUS_MODE = 1 ∨ s.dev.get TG_STATUS_MODE = 2)) ∧
    (∃ (s : State) (a : AgeChk), s.dev.tg.age = some a ∧ 16 ≤ s.dev.tg.eolRun) :=
  ⟨⟨w_GovernorSteps_0, 0, 0, 0, by decide +kernel⟩,
   ⟨w_GovernorSteps_1, 800, 40, 0, by decide +kernel⟩,
   ⟨w_GovernorSteps_2, 890, 60, 0, by decide +kernel⟩,
   ⟨w_GovernorSteps_3, 700, by decide +kernel⟩,
   ⟨w_GovernorSteps_4, ({ back := 700, ready := 400 } : AgeChk), 800, by decide +kernel⟩,
   ⟨w_GovernorSteps_5, ({ back := 700, ready := 400 } : AgeChk), by decide +kernel⟩,
   ⟨w_GovernorSteps_6, ({ back := 700, ready := 400 } : AgeChk), by decide +kernel⟩⟩

def w_SafetyNetAndSensors_0 : State :=
  let d : Dev := {}
  let d : Dev := d.set TG_CTRL_LOCK (0)
  { dev := d }
def w_SafetyNetAndSensors_1 : State :=
  let d : Dev := {}
  let d : Dev := d.set TG_CTRL_LOCK (0)
  let d : Dev := d.set (RING_SCHED_ARM 0) 1
  let d : Dev := d.set (RING_ACT_DU_DU_TOTAL 0 0) 200000000
  { dev := d }
def w_SafetyNetAndSensors_2 : State :=
  let d : Dev := {}
  { dev := d }
def w_SafetyNetAndSensors_3 : State :=
  let d : Dev := {}
  let d : Dev := d.set RM_CONTRACT_CTRL_LOCK (0)
  { dev := d }
def w_SafetyNetAndSensors_4 : State :=
  let d : Dev := {}
  let d : Dev := d.set RM_CONTRACT_CTRL_LOCK (0)
  let d : Dev := d.set (RING_SCHED_ARM 0) 1
  let d : Dev := d.set (RING_ACT_DU_DU_TOTAL 0 0) 200000000
  { dev := d }
def w_SafetyNetAndSensors_6 : State :=
  let d : Dev := {}
  let d : Dev := { d with tg.settled := false }
  { dev := d }
def w_SafetyNetAndSensors_7 : State :=
  let d : Dev := {}
  let d : Dev := (d.set (GPIO_PIN_CFG_FUNC 7) 8).set (GPIO_BANK_VIO 0) 1
  { dev := d }
theorem test_witness_safety_net_and_sensors :
    (∃ (s : State) (mv : BitVec 10), s.dev.get TG_CTRL_LOCK = 0 ∧ 700 ≤ mv.toNat ∧ mv.toNat ≤ 900 ∧
      failing s.dev mv.toNat (s.dev.get RM_CONTRACT_CTRL_TJ_DESIGN) (periodCheck s.dev) = []) ∧
    (∃ (s : State) (mv : BitVec 10), s.dev.get TG_CTRL_LOCK = 0 ∧ 700 ≤ mv.toNat ∧ mv.toNat ≤ 900 ∧
      failing s.dev mv.toNat (s.dev.get RM_CONTRACT_CTRL_TJ_DESIGN) (periodCheck s.dev) ≠ []) ∧
    (∃ (s : State) (mv : BitVec 10), (mv.toNat < 700 ∨ 900 < mv.toNat)) ∧
    (∃ (s : State) (col : Fin 8), s.dev.get RM_CONTRACT_CTRL_LOCK = 0 ∧
      failing s.dev (s.dev.get TG_VSAFE_MV) (Nat.min col.val 5) (periodCheck s.dev) = []) ∧
    (∃ (s : State) (col : Fin 8), s.dev.get RM_CONTRACT_CTRL_LOCK = 0 ∧
      failing s.dev (s.dev.get TG_VSAFE_MV) (Nat.min col.val 5) (periodCheck s.dev) ≠ []) ∧
    (∃ (s : State), s.dev.tg.settled = false) ∧
    (∃ (s : State), alertPin s.dev = true) :=
  ⟨⟨w_SafetyNetAndSensors_0, (750 : BitVec 10), by decide +kernel⟩,
   ⟨w_SafetyNetAndSensors_1, (750 : BitVec 10), by decide +kernel⟩,
   ⟨w_SafetyNetAndSensors_2, (0 : BitVec 10), by decide +kernel⟩,
   ⟨w_SafetyNetAndSensors_3, (0 : Fin 8), by decide +kernel⟩,
   ⟨w_SafetyNetAndSensors_4, (0 : Fin 8), by decide +kernel⟩,
   ⟨w_SafetyNetAndSensors_6, by decide +kernel⟩,
   ⟨w_SafetyNetAndSensors_7, by decide +kernel⟩⟩

def w_ConfigRoutes_0 : State :=
  let d : Dev := {}
  { dev := d }
def w_ConfigRoutes_1 : State :=
  let d : Dev := {}
  let d : Dev := { d with cfg := { d.cfg with load := some {} } }
  { dev := d }
def w_ConfigRoutes_2 : State :=
  let d : Dev := {}
  let d : Dev := { d with cfg.syncW := false }
  let d : Dev := d.set CFG_STATUS_INIT_PIN (0)
  { dev := d }
def w_ConfigRoutes_3 : State :=
  let d : Dev := {}
  let d : Dev := { d with cfg.syncW := false }
  let d : Dev := d.set CFG_STATUS_INIT_PIN (1)
  let d : Dev := { d with cfg.win := [(3 : Word)] ++ 0x5A3C96E1#32 :: [(4 : Word)] }
  { dev := d }
def w_ConfigRoutes_4 : State :=
  let d : Dev := {}
  let d : Dev := { d with cfg.load := none }
  let d : Dev := { d with cfg.syncP := false }
  let d : Dev := d.set CFG_STATUS_INIT_PIN (1)
  let d : Dev := (d.set (GPIO_BANK_VIO 0) 1).set (GPIO_BANK_VIO 1) 1
  let d : Dev := { d with cfg := { d.cfg with port := [true] ++ portBits [0x5A3C96E1] ++ [true, false] } }
  { dev := d }
theorem test_witness_config_routes :
    (∃ (s : State) (v : Word), portLoad s.dev = false) ∧
    (∃ (s : State) (v : Word), portLoad s.dev = true) ∧
    (∃ (s : State) (data : List Word), s.dev.cfg.syncW = false ∧ windowLoad s.dev = false ∧
      s.dev.get CFG_STATUS_INIT_PIN = 0) ∧
    (∃ (s : State) (data skipped rest : List Word), s.dev.cfg.syncW = false ∧ windowLoad s.dev = false ∧
      s.dev.get CFG_STATUS_INIT_PIN = 1 ∧ s.dev.cfg.win = skipped ++ 0x5A3C96E1#32 :: rest ∧
      (0x5A3C96E1#32 : Word) ∉ skipped) ∧
    (∃ (s : State) (data : List Word) (rest : List Bool), portPins s.dev = true ∧ s.dev.cfg.load = none ∧
      s.dev.cfg.syncP = false ∧ s.dev.get CFG_STATUS_INIT_PIN = 1 ∧
      afterSync (if portWidth s.dev ≤ 4 then 1 else portWidth s.dev) (s.dev.cfg.port ++ data.flatMap (fun v => transferBits s.dev (portWidth s.dev) v.toNat)).length (s.dev.cfg.port ++ data.flatMap (fun v => transferBits s.dev (portWidth s.dev) v.toNat)) = some rest) :=
  ⟨⟨w_ConfigRoutes_0, (0 : Word), by decide +kernel⟩,
   ⟨w_ConfigRoutes_1, (0 : Word), by decide +kernel⟩,
   ⟨w_ConfigRoutes_2, [], by decide +kernel⟩,
   ⟨w_ConfigRoutes_3, [], [(3 : Word)], [(4 : Word)], by decide +kernel⟩,
   ⟨w_ConfigRoutes_4, [], [true, false], by decide +kernel⟩⟩

def w_ConfigHeaders_0 : State :=
  let d : Dev := {}
  let d : Dev := { d with cfg := { d.cfg with port := portBits [0x10000008, 0x1B4C20F5, 77, 0x200, 0, 0, 0, 0, 0], syncP := true } }
  { dev := d }
def w_ConfigHeaders_1 : State :=
  let d : Dev := {}
  let d : Dev := { d with cfg.syncW := true }
  let d : Dev := d.set CFG_STATUS_FULL_DONE 1
  let d : Dev := { d with cfg := { d.cfg with win := [0x10000008, 0x1B4C20F5, 77, 0x201, 2, 0, 0, 0, 0], syncW := true } }
  { dev := d }
def w_ConfigHeaders_2 : State :=
  let d : Dev := {}
  let d : Dev := { d with cfg := { d.cfg with port := portBits [0x10000008, 0x1B4C20F4, 77, 0x200, 0, 0, 0, 0, 0], syncP := true } }
  { dev := d }
def w_ConfigHeaders_3 : State :=
  let d : Dev := {}
  let d : Dev := { d with cfg.syncW := true }
  let d : Dev := { d with cfg := { d.cfg with win := [0x10000008, 0x1B4C20F5, 77, 0x201, 2, 0, 0, 0, 0], syncW := true } }
  { dev := d }
def w_ConfigHeaders_4 : State :=
  let d : Dev := {}
  let d : Dev := { d with cfg.syncW := false }
  { dev := d }
theorem test_witness_config_headers :
    (∃ (s : State) (window : Bool) (data : List Word) (d1 : Dev) (ws : List Nat), d1 = (if window then s.dev else portTake data s.dev) ∧
      synced d1 window = true ∧ (window = true ∨ windowLoad d1 = false) ∧ streamWords d1 window = 0x10000008 :: ws ∧
      8 ≤ ws.length ∧ headerCode (dropWords window 9 d1) window (ws.take 8) = 0 ∧ bitAt (ws.getD 2 0) 0 = false) ∧
    (∃ (s : State) (data : List Word) (ws : List Nat), s.dev.cfg.syncW = true ∧
      streamWords s.dev true = 0x10000008 :: ws ∧ 8 ≤ ws.length ∧
      headerCode (dropWords true 9 s.dev) true (ws.take 8) = 0 ∧ bitAt (ws.getD 2 0) 0 = true) ∧
    (∃ (s : State) (data : List Word) (d1 : Dev) (ws : List Nat) (c : Nat), d1 = portTake data s.dev ∧
      d1.cfg.syncP = true ∧ windowLoad d1 = false ∧ streamWords d1 false = 0x10000008 :: ws ∧ 8 ≤ ws.length ∧
      headerCode (dropWords false 9 d1) false (ws.take 8) = c ∧ c ∈ [1, 2, 10, 11] ∧ bitAt (ws.getD 2 0) 0 = false) ∧
    (∃ (s : State) (data : List Word) (ws : List Nat) (c : Nat), s.dev.cfg.syncW = true ∧
      streamWords s.dev true = 0x10000008 :: ws ∧ 8 ≤ ws.length ∧
      headerCode (dropWords true 9 s.dev) true (ws.take 8) = c ∧ c ∈ [6, 7, 8, 15]) ∧
    (∃ (s : State) (data : List Word), s.dev.cfg.syncW = false) :=
  ⟨⟨w_ConfigHeaders_0, false, [], w_ConfigHeaders_0.dev, [0x1B4C20F5, 77, 0x200, 0, 0, 0, 0, 0], by decide +kernel⟩,
   ⟨w_ConfigHeaders_1, [], [0x1B4C20F5, 77, 0x201, 2, 0, 0, 0, 0], by decide +kernel⟩,
   ⟨w_ConfigHeaders_2, [], w_ConfigHeaders_2.dev, [0x1B4C20F4, 77, 0x200, 0, 0, 0, 0, 0], 2, by decide +kernel⟩,
   ⟨w_ConfigHeaders_3, [], [0x1B4C20F5, 77, 0x201, 2, 0, 0, 0, 0], 7, by decide +kernel⟩,
   ⟨w_ConfigHeaders_4, [], by decide +kernel⟩⟩

def w_ConfigFrames_0 : State :=
  let d : Dev := {}
  let d : Dev := { d with cfg := { d.cfg with load := some ({ window := true, next := 0, left := 1, mask := 2 ^ 128 - 1 } : LoadSt), win := List.replicate 128 0 ++ [3092126875] } }
  { dev := d }
def w_ConfigFrames_1 : State :=
  let d : Dev := {}
  let d : Dev := { d with cfg := { d.cfg with load := some ({ window := true, next := 0x40000000, left := 1, mask := 2 ^ 128 - 1 } : LoadSt), win := List.replicate 128 5 ++ [3986796947] } }
  { dev := d }
def w_ConfigFrames_2 : State :=
  let d : Dev := {}
  let d : Dev := { d with cfg := { d.cfg with load := some ({ window := true, next := 48 * 1024, left := 1, mask := 2 ^ 128 - 1 } : LoadSt), win := List.replicate 129 0 } }
  { dev := d }
def w_ConfigFrames_3 : State :=
  let d : Dev := {}
  let d : Dev := loadPort ({ mask := 2 ^ 128 - 1 } : LoadSt) [0x20000001] d
  { dev := d }
def w_ConfigFrames_4 : State :=
  let d : Dev := {}
  let d : Dev := { d with cfg := { d.cfg with fuseKey := List.replicate 32 0 } }
  let d : Dev := loadPort ({ mask := 2 ^ 128 - 1, enc := true, aad := [1] } : LoadSt) (encTagged [1]) d
  { dev := d }
def w_ConfigFrames_5 : State :=
  let d : Dev := {}
  let d : Dev := { d with cfg := { d.cfg with fuseKey := List.replicate 32 0 } }
  let d : Dev := loadPort ({ mask := 2 ^ 128 - 1, enc := true, aad := [1] } : LoadSt) (encWords 0) d
  { dev := d }
theorem test_witness_config_frames :
    (∃ (s : State) (data : List Word) (l : LoadSt) (d1 : Dev) (ws : List Nat), loadHead data s.dev = some (l, .waits, d1) ∧
      l.left ≠ 0 ∧ l.part = false ∧ ws = streamWords d1 l.window ∧ 129 ≤ ws.length ∧ frameValid l.next = true ∧
      frameType l.next ≤ 1 ∧ frameCrc l.next (ws.take 128) = ws.getD 128 0) ∧
    (∃ (s : State) (data : List Word) (l : LoadSt) (d1 : Dev) (ws : List Nat), loadHead data s.dev = some (l, .waits, d1) ∧
      l.left ≠ 0 ∧ l.part = false ∧ ws = streamWords d1 l.window ∧ 129 ≤ ws.length ∧ frameValid l.next = true ∧
      frameType l.next = 4 ∧ frameCrc l.next (ws.take 128) = ws.getD 128 0) ∧
    (∃ (s : State) (data : List Word) (l : LoadSt) (d1 : Dev) (ws : List Nat) (c : Nat), loadHead data s.dev = some (l, .waits, d1) ∧
      l.left ≠ 0 ∧ l.part = false ∧ ws = streamWords d1 l.window ∧ 129 ≤ ws.length ∧
      c = (if frameValid l.next then 3 else 4) ∧
      (frameValid l.next = true → frameCrc l.next (ws.take 128) ≠ ws.getD 128 0) ∧ l.next < 2 ^ 32) ∧
    (∃ (s : State) (data : List Word) (l : LoadSt) (d1 : Dev), loadHead data s.dev = some (l, .bad, d1) ∧
      l.part = false) ∧
    (∃ (s : State) (data : List Word) (l : LoadSt) (d1 : Dev) (n : Nat) (ws iv : List Nat) (cipher : List Byte), loadHead data s.dev = some (l, .enc n, d1) ∧
      l.part = false ∧ ws = ((streamWords d1 l.window).drop 1).take n ∧
      iv = ((ws.take 3).flatMap (leBytes 4)).map (·.toNat) ∧ cipher = ((ws.drop 3).take (n - 7)).flatMap (leBytes 4) ∧
      wordsOf (n - 7) (gcmPlain s.dev.cfg.fuseKey iv cipher) = [0] ∧
      gcmTag s.dev.cfg.fuseKey iv (l.aad.map (·.toNat)) (cipher.map (·.toNat)) = beNat (((ws.drop (n - 4)).flatMap (leBytes 4)).map (·.toNat))) ∧
    (∃ (s : State) (data : List Word) (l : LoadSt) (d1 : Dev) (n : Nat) (ws iv : List Nat) (cipher : List Byte), loadHead data s.dev = some (l, .enc n, d1) ∧
      l.part = false ∧ ws = ((streamWords d1 l.window).drop 1).take n ∧
      iv = ((ws.take 3).flatMap (leBytes 4)).map (·.toNat) ∧ cipher = ((ws.drop 3).take (n - 7)).flatMap (leBytes 4) ∧
      wordsOf (n - 7) (gcmPlain s.dev.cfg.fuseKey iv cipher) = [0] ∧
      gcmTag s.dev.cfg.fuseKey iv (l.aad.map (·.toNat)) (cipher.map (·.toNat)) ≠ beNat (((ws.drop (n - 4)).flatMap (leBytes 4)).map (·.toNat))) :=
  ⟨⟨w_ConfigFrames_0, [], ({ window := true, next := 0, left := 1, mask := 2 ^ 128 - 1 } : LoadSt), (w_ConfigFrames_0.dev), (streamWords w_ConfigFrames_0.dev true), by decide +kernel, by decide +kernel, by decide +kernel, by decide +kernel, by decide +kernel, by decide +kernel, by decide +kernel, (by rw [show List.take 128 (streamWords w_ConfigFrames_0.dev true) = List.replicate 128 0 by decide +kernel, show (streamWords w_ConfigFrames_0.dev true).getD 128 0 = 3092126875 by decide +kernel]; exact routing_frame_crc)⟩,
   ⟨w_ConfigFrames_1, [], ({ window := true, next := 0x40000000, left := 1, mask := 2 ^ 128 - 1 } : LoadSt), (w_ConfigFrames_1.dev), (streamWords w_ConfigFrames_1.dev true), by decide +kernel, by decide +kernel, by decide +kernel, by decide +kernel, by decide +kernel, by decide +kernel, by decide +kernel, (by rw [show List.take 128 (streamWords w_ConfigFrames_1.dev true) = List.replicate 128 5 by decide +kernel, show (streamWords w_ConfigFrames_1.dev true).getD 128 0 = 3986796947 by decide +kernel]; exact memory_frame_crc)⟩,
   ⟨w_ConfigFrames_2, [], ({ window := true, next := 48 * 1024, left := 1, mask := 2 ^ 128 - 1 } : LoadSt), (w_ConfigFrames_2.dev), (streamWords w_ConfigFrames_2.dev true), 4, by decide +kernel⟩,
   ⟨w_ConfigFrames_3, [], ({ mask := 2 ^ 128 - 1 } : LoadSt), (headDev w_ConfigFrames_3.dev), by decide +kernel⟩,
   ⟨w_ConfigFrames_4, [], ({ mask := 2 ^ 128 - 1, enc := true, aad := [1] } : LoadSt), (headDev w_ConfigFrames_4.dev), 8, ((encTagged [1]).drop 1), (List.replicate 12 0), encCipher, by decide +kernel⟩,
   ⟨w_ConfigFrames_5, [], ({ mask := 2 ^ 128 - 1, enc := true, aad := [1] } : LoadSt), (headDev w_ConfigFrames_5.dev), 8, ((encWords 0).drop 1), (List.replicate 12 0), encCipher, by decide +kernel⟩⟩

def w_ConfigEnds_0 : State :=
  let d : Dev := {}
  let d : Dev := loadPort ({ mask := 2 ^ 128 - 1, design := 77, recs := [] } : LoadSt) [0x30000002, 0, 0] d
  { dev := d }
def w_ConfigEnds_1 : State :=
  let d : Dev := {}
  let d : Dev := loadPort ({ mask := 2 ^ 128 - 1, design := 77 } : LoadSt) [0x30000002, 1, 0] d
  { dev := d }
def w_ConfigEnds_2 : State :=
  let d : Dev := {}
  let d : Dev := { d with cfg := { d.cfg with load := some ({ part := true, window := true, mask := 2, design := 77 } : LoadSt), win := [0x30000002, 1, 0] } }
  { dev := d }
def w_ConfigEnds_3 : State :=
  let d : Dev := {}
  let d : Dev := { d with cfg.doneAt := some 0 }
  let d : Dev := d.set CFG_STATUS_RELEASED (1)
  { dev := d }
def w_ConfigEnds_4 : State :=
  let d : Dev := {}
  let d : Dev := { d with cfg.doneAt := some 0 }
  let d : Dev := d.set CFG_STATUS_RELEASED (0)
  let d : Dev := d.set CFG_CTRL_WAIT_XMC (0)
  let d : Dev := { d with cfg.heldRun := false }
  let d : Dev := { d with cfg.starting := false }
  { dev := d }
def w_ConfigEnds_6 : State :=
  let d : Dev := {}
  let d : Dev := { d with cfg.load := some (default : LoadSt) }
  { dev := d }
def w_ConfigEnds_7 : State :=
  let d : Dev := {}
  let d : Dev := { d with cfg.load := none }
  let d : Dev := { d with cfg.endAt := none }
  { dev := d }
theorem test_witness_config_ends :
    (∃ (s : State) (data : List Word) (l : LoadSt) (d1 d2 : Dev) (ws : List Nat), loadHead data s.dev = some (l, .fin, d1) ∧
      l.part = false ∧ ws = streamWords d1 l.window ∧ ws.getD 2 0 = 0 ∧ ws.getD 1 0 = s.dev.get CFG_FRAMES_FRAMES ∧
      applyRecs l.recs (dropHeld true (maskRings l.mask) (dropWords l.window 3 d1)) = (none, d2)) ∧
    (∃ (s : State) (data : List Word) (l : LoadSt) (d1 : Dev) (ws : List Nat) (c : Nat), loadHead data s.dev = some (l, .fin, d1) ∧
      l.part = false ∧ ws = streamWords d1 l.window ∧ (c = 1 ∧ ws.getD 2 0 ≠ 0 ∨ c = 12 ∧ ws.getD 2 0 = 0 ∧
      ws.getD 1 0 ≠ s.dev.get CFG_FRAMES_FRAMES)) ∧
    (∃ (s : State) (data : List Word) (l : LoadSt) (d1 : Dev) (r : Nat), loadHead data s.dev = some (l, .fin, d1) ∧
      l.part = true ∧ r ∈ maskRings l.mask ∧ s.dev.get (RING_STATUS_STATE r) ≠ 5) ∧
    (∃ (s : State) (t : Nat), s.dev.cfg.doneAt = some t ∧ s.dev.get CFG_STATUS_RELEASED = 1) ∧
    (∃ (s : State) (t : Nat), s.dev.cfg.doneAt = some t ∧ s.dev.get CFG_STATUS_RELEASED = 0 ∧
      s.dev.get CFG_CTRL_WAIT_XMC = 0 ∧ s.dev.cfg.heldRun = false ∧ s.dev.cfg.starting = false ∧
      (∀ r : Nat, r < 128 → (s.dev.ring r).heldArm = false)) ∧
    (∃ (s : State) (l : LoadSt), s.dev.cfg.load = some l ∧ l.part = false) ∧
    (∃ (s : State), s.dev.cfg.load = none ∧ s.dev.cfg.endAt = none) :=
  ⟨⟨w_ConfigEnds_0, [], ({ mask := 2 ^ 128 - 1, design := 77, recs := [] } : LoadSt), (headDev w_ConfigEnds_0.dev), ((applyRecs (({ mask := 2 ^ 128 - 1, design := 77, recs := [] } : LoadSt)).recs (dropHeld true (maskRings (({ mask := 2 ^ 128 - 1, design := 77, recs := [] } : LoadSt)).mask) (dropWords (({ mask := 2 ^ 128 - 1, design := 77, recs := [] } : LoadSt)).window 3 (headDev w_ConfigEnds_0.dev)))).2), (streamWords (headDev w_ConfigEnds_0.dev) ({ mask := 2 ^ 128 - 1, design := 77, recs := [] } : LoadSt).window), by decide +kernel⟩,
   ⟨w_ConfigEnds_1, [], ({ mask := 2 ^ 128 - 1, design := 77 } : LoadSt), (headDev w_ConfigEnds_1.dev), (streamWords (headDev w_ConfigEnds_1.dev) ({ mask := 2 ^ 128 - 1, design := 77 } : LoadSt).window), 12, by decide +kernel⟩,
   ⟨w_ConfigEnds_2, [], ({ part := true, window := true, mask := 2, design := 77 } : LoadSt), (headDev w_ConfigEnds_2.dev), 1, by decide +kernel⟩,
   ⟨w_ConfigEnds_3, 0, by decide +kernel⟩,
   ⟨w_ConfigEnds_4, 0, by decide +kernel⟩,
   ⟨w_ConfigEnds_6, (default : LoadSt), by decide +kernel⟩,
   ⟨w_ConfigEnds_7, by decide +kernel⟩⟩

def w_KeyFuses_0 : State :=
  let d : Dev := {}
  { dev := d }
def w_KeyFuses_1 : State :=
  let d : Dev := {}
  { dev := d }
def w_KeyFuses_2 : State :=
  let d : Dev := {}
  let d : Dev := d.set CFG_KEY_STATUS_FUSE_BUSY (1)
  { dev := d }
def w_KeyFuses_3 : State :=
  let d : Dev := {}
  let d : Dev := d.set CFG_KEY_STATUS_PROGRAMMED (0)
  let d : Dev := d.set CFG_KEY_STATUS_FUSE_BUSY (0)
  { dev := d }
def w_KeyFuses_4 : State :=
  let d : Dev := {}
  let d : Dev := d.set CFG_KEY_STATUS_FUSE_BUSY (0)
  { dev := d }
def w_KeyFuses_5 : State :=
  let d : Dev := {}
  let d : Dev := { d with cfg.burning := some (true, false) }
  { dev := d }
def w_KeyFuses_6 : State :=
  let d : Dev := {}
  let d : Dev := { d with cfg.burning := some (false, true) }
  { dev := d }
def w_KeyFuses_7 : State :=
  let d : Dev := {}
  let d : Dev := { d with cfg.burning := none }
  { dev := d }
theorem test_witness_key_fuses :
    (∃ (s : State) (u : BitVec 16), (u ≠ 0xF05E#16 ∨ s.dev.get CFG_KEY_STATUS_PROGRAMMED = 1)) ∧
    (∃ (s : State) (u : BitVec 16), u ≠ 0xF05E#16) ∧
    (∃ (s : State), s.dev.get CFG_KEY_STATUS_FUSE_BUSY = 1) ∧
    (∃ (s : State), s.dev.get CFG_KEY_STATUS_PROGRAMMED = 0 ∧ s.dev.get CFG_KEY_STATUS_FUSE_BUSY = 0) ∧
    (∃ (s : State), s.dev.get CFG_KEY_STATUS_FUSE_BUSY = 0) ∧
    (∃ (s : State) (r : Bool), s.dev.cfg.burning = some (true, r)) ∧
    (∃ (s : State), s.dev.cfg.burning = some (false, true)) ∧
    (∃ (s : State), s.dev.cfg.burning = none) :=
  ⟨⟨w_KeyFuses_0, (0 : BitVec 16), by decide +kernel⟩,
   ⟨w_KeyFuses_1, (0 : BitVec 16), by decide +kernel⟩,
   ⟨w_KeyFuses_2, by decide +kernel⟩,
   ⟨w_KeyFuses_3, by decide +kernel⟩,
   ⟨w_KeyFuses_4, by decide +kernel⟩,
   ⟨w_KeyFuses_5, false, by decide +kernel⟩,
   ⟨w_KeyFuses_6, by decide +kernel⟩,
   ⟨w_KeyFuses_7, by decide +kernel⟩⟩

def w_TrimStore_0 : State :=
  let d : Dev := {}
  let d : Dev := d.set TRIM_STAT_BUSY (0)
  { dev := d }
def w_TrimStore_1 : State :=
  let d : Dev := {}
  { dev := d }
def w_TrimStore_2 : State :=
  let d : Dev := {}
  let d : Dev := d.set TRIM_STAT_BUSY (1)
  { dev := d }
def w_TrimStore_3 : State :=
  let d : Dev := {}
  let d : Dev := { d with trim.op := 1 }
  { dev := d }
def w_TrimStore_4 : State :=
  let d : Dev := {}
  let d : Dev := d.set (RING_SCHED_ARM 0) (1)
  let d : Dev := d.set TRIM_STAT_BUSY (0)
  { dev := d }
def w_TrimStore_5 : State :=
  let d : Dev := {}
  let d : Dev := d.set TRIM_STAT_BUSY (0)
  let d : Dev := d.set TG_STATUS_MODE 3
  { dev := d }
def w_TrimStore_6 : State :=
  let d : Dev := {}
  let d : Dev := { d with trim.op := 2 }
  let d : Dev := d.set TG_STATUS_MODE (3)
  { dev := d }
def w_TrimStore_7 : State :=
  let d : Dev := {}
  let d : Dev := { d with trim.op := 2 }
  let d : Dev := d.set TG_STATUS_MODE (3)
  let d : Dev := d.set TG_VCMD_SENSED_MV 800
  let d : Dev := { d with ctl := { d.ctl with time := { d.ctl.time with refclk := 15600 } } }
  { dev := d }
def w_TrimStore_8 : State :=
  let d : Dev := {}
  let d : Dev := { d with trim.op := 2 }
  let d : Dev := d.set TG_STATUS_MODE (3)
  { dev := d }
def w_TrimStore_9 : State :=
  let d : Dev := {}
  let d : Dev := { d with trim.torn := false }
  let d : Dev := d.set TRIM_ADDR_ADDR 0xFFC
  { dev := d }
def w_TrimStore_10 : State :=
  let d : Dev := {}
  let d : Dev := d.set TRIM_ADDR_ADDR 0xFF4
  { dev := d }
def w_TrimStore_11 : State :=
  let d : Dev := {}
  let d : Dev := d.set TRIM_ADDR_ADDR 0xFF8
  { dev := d }
theorem test_witness_trim_store :
    (∃ (s : State), s.dev.get TRIM_STAT_BUSY = 0) ∧
    (∃ (s : State) (c : BitVec 16), c ≠ 0xC5A7#16) ∧
    (∃ (s : State), s.dev.get TRIM_STAT_BUSY = 1) ∧
    (∃ (s : State), s.dev.trim.op = 1) ∧
    (∃ (s : State) (r : Nat), r < 128 ∧ s.dev.get (RING_SCHED_ARM r) = 1 ∧ s.dev.get TRIM_STAT_BUSY = 0) ∧
    (∃ (s : State), (∀ r : Nat, r < 128 → s.dev.get (RING_SCHED_ARM r) = 0) ∧ s.dev.get TG_STATUS_MODE ≠ 5 ∧
      s.dev.get TG_STATUS_MODE ≠ 0 ∧ s.dev.get TRIM_STAT_BUSY = 0) ∧
    (∃ (s : State) (vals : List Byte), s.dev.trim.op = 2 ∧ inLimits s.dev = false ∧ s.dev.get TG_STATUS_MODE = 3) ∧
    (∃ (s : State) (vals : List Byte), s.dev.trim.op = 2 ∧ inLimits s.dev = true ∧ s.dev.get TG_STATUS_MODE = 3) ∧
    (∃ (s : State), s.dev.trim.op = 2 ∧ s.dev.get TG_STATUS_MODE = 3) ∧
    (∃ (s : State), s.dev.trim.torn = false ∧ s.dev.get TRIM_ADDR_ADDR < 0x1010) ∧
    (∃ (s : State) (v : Word) (a : Nat), a = s.dev.get TRIM_ADDR_ADDR / 4 * 4 ∧ a < 0xFF8) ∧
    (∃ (s : State) (v : Word), 0xFF8 ≤ s.dev.get TRIM_ADDR_ADDR) :=
  ⟨⟨w_TrimStore_0, by decide +kernel⟩,
   ⟨w_TrimStore_1, (0 : BitVec 16), by decide +kernel⟩,
   ⟨w_TrimStore_2, by decide +kernel⟩,
   ⟨w_TrimStore_3, by decide +kernel⟩,
   ⟨w_TrimStore_4, 0, by decide +kernel⟩,
   ⟨w_TrimStore_5, by decide +kernel⟩,
   ⟨w_TrimStore_6, [], by decide +kernel⟩,
   ⟨w_TrimStore_7, [], by decide +kernel⟩,
   ⟨w_TrimStore_8, by decide +kernel⟩,
   ⟨w_TrimStore_9, by decide +kernel⟩,
   ⟨w_TrimStore_10, (0x11223344 : Word), (w_TrimStore_10.dev.get TRIM_ADDR_ADDR / 4 * 4), by decide +kernel⟩,
   ⟨w_TrimStore_11, (0 : Word), by decide +kernel⟩⟩

def w_CarouselChecks_0 : State :=
  let d : Dev := {}
  { dev := d }
def w_CarouselChecks_1 : State :=
  let d : Dev := {}
  let d : Dev := { d with car.counter := 5 }
  let d : Dev := carGoes 5 d
  { dev := d }
def w_CarouselChecks_2 : State :=
  let d : Dev := {}
  let d : Dev := { d with car.counter := 5 }
  let d : Dev := carGoes 5 d
  let d : Dev := { d with cfg := { d.cfg with fflaws := [(64 * 5 + 3, Flaw.single)] } }
  { dev := d }
def w_CarouselChecks_3 : State :=
  let d : Dev := {}
  let d : Dev := { d with car.counter := 97800 }
  let d : Dev := carGoes 97800 d
  let d : Dev := { d with cfg := { d.cfg with fflaws := [(64 * 97800 + 3, Flaw.double)] } }
  { dev := d }
def w_CarouselChecks_4 : State :=
  let d : Dev := {}
  let d : Dev := d.set CAR_POS_INDEX (98175)
  let d : Dev := { d with car.counter := 98175 }
  let d : Dev := d.set CAR_CTRL_EN (0)
  let d : Dev := carGoes 98175 d
  { dev := d }
def w_CarouselChecks_5 : State :=
  let d : Dev := {}
  let d : Dev := carGoes 5 d
  let d : Dev := { d with car := { d.car with counter := 6 } }
  { dev := d }
def w_CarouselChecks_6 : State :=
  let d : Dev := {}
  let d : Dev := carGoes 5 d
  let d : Dev := { d with car := { d.car with restarts := 4 } }
  { dev := d }
def w_CarouselChecks_7 : State :=
  let d : Dev := {}
  { dev := d }
theorem test_witness_carousel_checks :
    (∃ (s : State), carRunning s.dev = false) ∧
    (∃ (s : State) (i : Nat), carRunning s.dev = true ∧ carMay s.dev = true ∧ xStopped s.dev xCarousel = false ∧
      s.dev.car.restarts < 4 ∧ i = s.dev.get CAR_POS_INDEX ∧ i < 98175 ∧ s.dev.car.counter = i ∧
      carSkips s.dev (indexAddr i) = false ∧ frameUe s.dev (indexAddr i) = 0 ∧
      (frameFlaws s.dev (indexAddr i)).countP (· == .single) = 0) ∧
    (∃ (s : State) (i n : Nat), carRunning s.dev = true ∧ carMay s.dev = true ∧ xStopped s.dev xCarousel = false ∧
      s.dev.car.restarts < 4 ∧ i = s.dev.get CAR_POS_INDEX ∧ i < 98175 ∧ s.dev.car.counter = i ∧
      carSkips s.dev (indexAddr i) = false ∧ frameUe s.dev (indexAddr i) = 0 ∧ frameType (indexAddr i) ≠ 3 ∧
      n = (frameFlaws s.dev (indexAddr i)).countP (· == .single) ∧ n ≠ 0) ∧
    (∃ (s : State) (i a k : Nat), carRunning s.dev = true ∧ carMay s.dev = true ∧ xStopped s.dev xCarousel = false ∧
      s.dev.car.restarts < 4 ∧ i = s.dev.get CAR_POS_INDEX ∧ 97792 ≤ i ∧ i < 98175 ∧ s.dev.car.counter = i ∧
      a = indexAddr i ∧ frameUe s.dev a = k ∧ k ≠ 0) ∧
    (∃ (s : State), carRunning s.dev = true ∧ carMay s.dev = true ∧ xStopped s.dev xCarousel = false ∧
      s.dev.car.restarts < 4 ∧ s.dev.get CAR_POS_INDEX = 98175 ∧ s.dev.car.counter = 98175 ∧
      frameUe s.dev (indexAddr 98175) = 0 ∧ (frameFlaws s.dev (indexAddr 98175)).countP (· == .single) = 0 ∧
      s.dev.get CAR_CTRL_EN = 0) ∧
    (∃ (s : State), carRunning s.dev = true ∧ carMay s.dev = true ∧ xStopped s.dev xCarousel = false ∧
      s.dev.car.restarts < 4 ∧ s.dev.car.counter ≠ s.dev.get CAR_POS_INDEX) ∧
    (∃ (s : State), carRunning s.dev = true ∧ 4 ≤ s.dev.car.restarts) ∧
    (∃ (s : State), s.dev.car.restarts < 4) :=
  ⟨⟨w_CarouselChecks_0, by decide +kernel⟩,
   ⟨w_CarouselChecks_1, 5, by decide +kernel, by decide +kernel, by decide +kernel, by decide +kernel, by decide +kernel, by decide +kernel, by decide +kernel, by decide +kernel, blank_frame_has_no_ue _ _ (by decide +kernel) (by decide +kernel) (by decide +kernel) (by decide +kernel), by decide +kernel⟩,
   ⟨w_CarouselChecks_2, 5, ((frameFlaws w_CarouselChecks_2.dev (indexAddr 5)).countP (· == .single)), by decide +kernel, by decide +kernel, by decide +kernel, by decide +kernel, by decide +kernel, by decide +kernel, by decide +kernel, by decide +kernel, blank_frame_has_no_ue _ _ (by decide +kernel) (by decide +kernel) (by decide +kernel) (by decide +kernel), by decide +kernel, by decide +kernel, by decide +kernel⟩,
   ⟨w_CarouselChecks_3, 97800, (indexAddr 97800), 1, by decide +kernel⟩,
   ⟨w_CarouselChecks_4, by decide +kernel, by decide +kernel, by decide +kernel, by decide +kernel, by decide +kernel, by decide +kernel, blank_frame_has_no_ue _ _ (by decide +kernel) (by decide +kernel) (by decide +kernel) (by decide +kernel), by decide +kernel, by decide +kernel⟩,
   ⟨w_CarouselChecks_5, by decide +kernel⟩,
   ⟨w_CarouselChecks_6, by decide +kernel⟩,
   ⟨w_CarouselChecks_7, by decide +kernel⟩⟩

def w_CarouselCommands_0 : State :=
  let d : Dev := {}
  let d : Dev := d.set CFG_STATUS_FULL_DONE 1
  { dev := d }
def w_CarouselCommands_1 : State :=
  let d : Dev := {}
  let d : Dev := carGoes 5 d
  { dev := d }
def w_CarouselCommands_2 : State :=
  let d : Dev := {}
  let d : Dev := d.set CFG_STATUS_FULL_DONE 1
  { dev := d }
def w_CarouselCommands_3 : State :=
  let d : Dev := {}
  let d : Dev := carGoes 5 d
  { dev := d }
def w_CarouselCommands_4 : State :=
  let d : Dev := {}
  let d : Dev := { d with car.endAt := none }
  let d : Dev := carGoes 5 d
  { dev := d }
def w_CarouselCommands_6 : State :=
  let d : Dev := {}
  let d : Dev := { d with car.copies := [(0x0030000C, 0x80000001, 0x80000001, 0x80000003)] }
  { dev := d }
def w_CarouselCommands_7 : State :=
  let d : Dev := {}
  let d : Dev := { d with car.copies := [] }
  { dev := d }
theorem test_witness_carousel_commands :
    (∃ (s : State) (ue : Bool), carRunning s.dev = false ∧ carMay s.dev = true) ∧
    (∃ (s : State) (ue : Bool), carRunning s.dev = true) ∧
    (∃ (s : State), carRunning s.dev = false ∧ carMay s.dev = true) ∧
    (∃ (s : State), carRunning s.dev = true) ∧
    (∃ (s : State), carRunning s.dev = true ∧ s.dev.car.endAt = none) ∧
    (∃ (s : State) (x y : Nat), x ≠ y ∧ s.dev.car.copies = [(0x0030000C, x, x, y)]) ∧
    (∃ (s : State), s.dev.car.copies = []) :=
  ⟨⟨w_CarouselCommands_0, false, by decide +kernel⟩,
   ⟨w_CarouselCommands_1, false, by decide +kernel⟩,
   ⟨w_CarouselCommands_2, by decide +kernel⟩,
   ⟨w_CarouselCommands_3, by decide +kernel⟩,
   ⟨w_CarouselCommands_4, by decide +kernel⟩,
   ⟨w_CarouselCommands_6, 0x80000001, 0x80000003, by decide +kernel⟩,
   ⟨w_CarouselCommands_7, by decide +kernel⟩⟩

def w_SelfTestRuns_0 : State :=
  let d : Dev := {}
  let d : Dev := d.set BIST_STATUS_BUSY (1)
  { dev := d }
def w_SelfTestRuns_1 : State :=
  let d : Dev := {}
  let d : Dev := d.set BIST_STATUS_BUSY (0)
  { dev := d }
def w_SelfTestRuns_2 : State :=
  let d : Dev := {}
  let d : Dev := d.set BIST_STATUS_BUSY (0)
  { dev := d }
def w_SelfTestRuns_3 : State :=
  let d : Dev := {}
  let d : Dev := d.set BIST_STATUS_BUSY (0)
  let d : Dev := d.set TG_VCMD_SENSED_MV 800
  let d : Dev := { d with ctl := { d.ctl with time := { d.ctl.time with refclk := 15600 } } }
  { dev := d }
def w_SelfTestRuns_4 : State :=
  let d : Dev := {}
  let d : Dev := { d with bist.run := some (default : RunSt) }
  { dev := d }
def w_SelfTestRuns_5 : State :=
  let d : Dev := {}
  let d : Dev := { d with bist.run := some (default : RunSt) }
  { dev := d }
def w_SelfTestRuns_6 : State :=
  let d : Dev := {}
  let d : Dev := { d with bist.run := none }
  { dev := d }
def w_SelfTestRuns_7 : State :=
  let d : Dev := {}
  let d : Dev := { d with bist.run := some ({ kind := 4, target := 0, count := 64, expect := 9 } : RunSt) }
  let d : Dev := d.set BIST_STATUS_AUTO (0)
  let d : Dev := { d with cfg.replays := false }
  { dev := d }
def w_SelfTestRuns_8 : State :=
  let d : Dev := {}
  let d : Dev := { d with bist.run := some ({ kind := 4, target := 0, count := 64, expect := 9, stop := .aborted } : RunSt) }
  let d : Dev := d.set BIST_STATUS_AUTO (0)
  let d : Dev := { d with cfg.replays := false }
  { dev := d }
theorem test_witness_self_test_runs :
    (∃ (s : State) (k : Fin 8), s.dev.get BIST_STATUS_BUSY = 1) ∧
    (∃ (s : State) (k : Fin 8), s.dev.get BIST_STATUS_BUSY = 0 ∧
      (badTarget s.dev k.val (s.dev.get BIST_TARGET_TARGET) = true ∨ badState s.dev k.val (s.dev.get BIST_TARGET_TARGET) = true)) ∧
    (∃ (s : State) (k : Fin 8), s.dev.get BIST_STATUS_BUSY = 0 ∧
      badTarget s.dev k.val (s.dev.get BIST_TARGET_TARGET) = false ∧
      badState s.dev k.val (s.dev.get BIST_TARGET_TARGET) = false ∧ inLimits s.dev = false) ∧
    (∃ (s : State), s.dev.get BIST_STATUS_BUSY = 0 ∧ badTarget s.dev 2 (s.dev.get BIST_TARGET_TARGET) = false ∧
      inLimits s.dev = true ∧ s.dev.qm.work = []) ∧
    (∃ (s : State) (b : RunSt), s.dev.bist.run = some b) ∧
    (∃ (s : State) (b : RunSt), s.dev.bist.run = some b ∧ b.stop = .goes ∧ inLimits s.dev = false) ∧
    (∃ (s : State) (pats : BitVec 24) (sig fails addr : Word) (map : BitVec 96), s.dev.bist.run = none) ∧
    (∃ (s : State) (b : RunSt) (pats : BitVec 24) (sig addr : Word) (map : BitVec 96), s.dev.bist.run = some b ∧
      b.kind = 4 ∧ b.count ≤ pats.toNat ∧ b.stop = .goes ∧ s.dev.get BIST_STATUS_AUTO = 0 ∧ s.dev.cfg.replays = false) ∧
    (∃ (s : State) (b : RunSt) (pats : BitVec 24) (sig addr : Word) (map : BitVec 96), s.dev.bist.run = some b ∧
      b.kind = 4 ∧ pats.toNat < b.count ∧ b.stop = .aborted ∧ s.dev.get BIST_STATUS_AUTO = 0 ∧
      s.dev.cfg.replays = false) :=
  ⟨⟨w_SelfTestRuns_0, (0 : Fin 8), by decide +kernel⟩,
   ⟨w_SelfTestRuns_1, (3 : Fin 8), by decide +kernel⟩,
   ⟨w_SelfTestRuns_2, (0 : Fin 8), by decide +kernel⟩,
   ⟨w_SelfTestRuns_3, by decide +kernel⟩,
   ⟨w_SelfTestRuns_4, (default : RunSt), by decide +kernel⟩,
   ⟨w_SelfTestRuns_5, (default : RunSt), by decide +kernel⟩,
   ⟨w_SelfTestRuns_6, (0 : BitVec 24), (0 : Word), (0 : Word), (0 : Word), (0 : BitVec 96), by decide +kernel⟩,
   ⟨w_SelfTestRuns_7, ({ kind := 4, target := 0, count := 64, expect := 9 } : RunSt), (64 : BitVec 24), (9 : Word), (0 : Word), (0 : BitVec 96), by decide +kernel⟩,
   ⟨w_SelfTestRuns_8, ({ kind := 4, target := 0, count := 64, expect := 9, stop := .aborted } : RunSt), (10 : BitVec 24), (0 : Word), (0 : Word), (0 : BitVec 96), by decide +kernel⟩⟩

def w_RecorderRuns_0 : State :=
  let d : Dev := {}
  let d : Dev := { d with ctl.bbr.queue := [] }
  { dev := d }
def w_RecorderRuns_1 : State :=
  let d : Dev := {}
  let d : Dev := { d with ctl.bbr.queue := (default : BbrEvent) :: [] }
  let d : Dev := d.set BBR_STATUS_FROZEN (1)
  let d : Dev := d.set BBR_STATUS_PENDING (0)
  { dev := d }
def w_RecorderRuns_2 : State :=
  let d : Dev := {}
  let d : Dev := { d with ctl.bbr.queue := (default : BbrEvent) :: [] }
  let d : Dev := d.set BBR_STATUS_FROZEN (0)
  let d : Dev := d.set BBR_STATUS_PENDING (0)
  let d : Dev := d.set BBR_CTRL_TAP_EN (0)
  let d : Dev := { d with ctl.bbr.freezeIn := none }
  { dev := d }
def w_RecorderRuns_3 : State :=
  let d : Dev := {}
  let d : Dev := { d with ctl.bbr.queue := ({ source := 7, event := 1, fatal := true } : BbrEvent) :: [] }
  let d : Dev := d.set BBR_STATUS_FROZEN (0)
  let d : Dev := d.set BBR_STATUS_PENDING (0)
  let d : Dev := d.set BBR_CTRL_TAP_EN (0)
  let d : Dev := { d with ctl.bbr.freezeIn := none }
  let d : Dev := d.set BBR_CTRL_TRIG 0xFFFF
  { dev := d }
def w_RecorderRuns_4 : State :=
  let d : Dev := {}
  let d : Dev := d.set BBR_STATUS_PENDING (1)
  let d : Dev := { d with ctl.bbr.postLeft := 0 }
  { dev := d }
def w_RecorderRuns_5 : State :=
  let d : Dev := {}
  let d : Dev := d.set BBR_STATUS_PENDING (0)
  { dev := d }
def w_RecorderRuns_6 : State :=
  let d : Dev := {}
  { dev := d }
def w_RecorderRuns_7 : State :=
  let d : Dev := {}
  let d : Dev := { d with ctl.bbr.latch := some ((0 : Fin 4096).val, 0) }
  { dev := d }
def w_RecorderRuns_8 : State :=
  let d : Dev := {}
  let d : Dev := { d with ctl := { d.ctl with bbr := { d.ctl.bbr with flaws := [(0, Flaw.double)] } } }
  { dev := d }
def w_RecorderRuns_11 : State :=
  let d : Dev := {}
  { dev := d }
def w_RecorderRuns_12 : State :=
  let d : Dev := {}
  let d : Dev := { d with ctl := { d.ctl with bbr := { d.ctl.bbr with queue := List.replicate 16 (default : BbrEvent) } } }
  { dev := d }
def w_RecorderRuns_13 : State :=
  let d : Dev := {}
  let d : Dev := { d with ctl.bbr.queue := [default] }
  { dev := d }
def w_RecorderRuns_14 : State :=
  let d : Dev := {}
  { dev := d }
theorem test_witness_recorder_runs :
    (∃ (s : State), s.dev.ctl.bbr.queue = []) ∧
    (∃ (s : State) (e : BbrEvent) (rest : List BbrEvent), s.dev.ctl.bbr.queue = e :: rest ∧
      s.dev.get BBR_STATUS_FROZEN = 1 ∧ s.dev.get BBR_STATUS_PENDING = 0) ∧
    (∃ (s : State) (e : BbrEvent) (rest : List BbrEvent) (i : Nat), s.dev.ctl.bbr.queue = e :: rest ∧
      s.dev.get BBR_STATUS_FROZEN = 0 ∧ s.dev.get BBR_STATUS_PENDING = 0 ∧ s.dev.get BBR_CTRL_TAP_EN = 0 ∧
      s.dev.ctl.bbr.freezeIn = none ∧ e.fatal = false ∧ i = s.dev.get BBR_STATUS_WR_PTR) ∧
    (∃ (s : State) (e : BbrEvent) (rest : List BbrEvent) (i : Nat), s.dev.ctl.bbr.queue = e :: rest ∧
      s.dev.get BBR_STATUS_FROZEN = 0 ∧ s.dev.get BBR_STATUS_PENDING = 0 ∧ s.dev.get BBR_CTRL_TAP_EN = 0 ∧
      s.dev.ctl.bbr.freezeIn = none ∧ e.fatal = true ∧ e.source < 16 ∧ bitAt (s.dev.get BBR_CTRL_TRIG) e.source = true ∧
      i = s.dev.get BBR_STATUS_WR_PTR) ∧
    (∃ (s : State), s.dev.get BBR_STATUS_PENDING = 1 ∧ s.dev.ctl.bbr.postLeft = 0) ∧
    (∃ (s : State), (s.dev.get BBR_STATUS_PENDING = 0 ∨ s.dev.ctl.bbr.postLeft ≠ 0)) ∧
    (∃ (s : State) (i : Fin 4096), sget Flaw.none s.dev.ctl.bbr.flaws i.val ≠ .double) ∧
    (∃ (s : State) (i : Fin 4096) (w : Fin 4) (x : Nat), w ≠ 0 ∧ s.dev.ctl.bbr.latch = some (i.val, x)) ∧
    (∃ (s : State) (i : Fin 4096), sget Flaw.none s.dev.ctl.bbr.flaws i.val = .double) ∧
    (∃ (s : State) (fatal : Bool), s.dev.ctl.bbr.queue.length < 16) ∧
    (∃ (s : State) (fatal : Bool), 16 ≤ s.dev.ctl.bbr.queue.length) ∧
    (∃ (s : State), s.dev.ctl.bbr.queue ≠ [] ∧ s.dev.get BBR_STATUS_FROZEN = 0) ∧
    (∃ (s : State), (s.dev.ctl.bbr.queue = [] ∨ s.dev.get BBR_STATUS_FROZEN = 1)) :=
  ⟨⟨w_RecorderRuns_0, by decide +kernel⟩,
   ⟨w_RecorderRuns_1, (default : BbrEvent), [], by decide +kernel⟩,
   ⟨w_RecorderRuns_2, (default : BbrEvent), [], (w_RecorderRuns_2.dev.get BBR_STATUS_WR_PTR), by decide +kernel⟩,
   ⟨w_RecorderRuns_3, ({ source := 7, event := 1, fatal := true } : BbrEvent), [], (w_RecorderRuns_3.dev.get BBR_STATUS_WR_PTR), by decide +kernel⟩,
   ⟨w_RecorderRuns_4, by decide +kernel⟩,
   ⟨w_RecorderRuns_5, by decide +kernel⟩,
   ⟨w_RecorderRuns_6, (0 : Fin 4096), by decide +kernel⟩,
   ⟨w_RecorderRuns_7, (0 : Fin 4096), (2 : Fin 4), 0, by decide +kernel⟩,
   ⟨w_RecorderRuns_8, (0 : Fin 4096), by decide +kernel⟩,
   ⟨w_RecorderRuns_11, false, by decide +kernel⟩,
   ⟨w_RecorderRuns_12, false, by decide +kernel⟩,
   ⟨w_RecorderRuns_13, by decide +kernel⟩,
   ⟨w_RecorderRuns_14, by decide +kernel⟩⟩

def w_GpioRegisters_0 : State :=
  let d : Dev := {}
  { dev := d }
def w_GpioRegisters_1 : State :=
  let d : Dev := {}
  { dev := d }
theorem test_witness_gpio_registers :
    (∃ (s : State) (n : Fin 96) (f : Fin 16), (s.dev.pin n.val).switch = none ∧
      padLevel s.dev n.val = (s.dev.pin n.val).sync ∧ f.val ≠ s.dev.get (GPIO_PIN_CFG_FUNC n.val) ∧
      funcOk n.val f.val = false) ∧
    (∃ (s : State) (n : Fin 96) (f : Fin 16), (s.dev.pin n.val).switch = none ∧
      padLevel s.dev n.val = (s.dev.pin n.val).sync ∧ f.val ≠ s.dev.get (GPIO_PIN_CFG_FUNC n.val) ∧
      funcOk n.val f.val = true) :=
  ⟨⟨w_GpioRegisters_0, (0 : Fin 96), (7 : Fin 16), by decide +kernel⟩,
   ⟨w_GpioRegisters_1, (0 : Fin 96), (0 : Fin 16), by decide +kernel⟩⟩

def w_GpioPins_0 : State :=
  let d : Dev := {}
  let d : Dev := { d with pins.jtag := none }
  let d : Dev := d.set (GPIO_BANK_VIO 2) 3
  let d : Dev := d.set (GPIO_PIN_CFG_EVT 40) 1
  { dev := d }
def w_GpioPins_1 : State :=
  let d : Dev := {}
  let d : Dev := { d with pins.jtag := none }
  let d : Dev := d.set (GPIO_BANK_VIO 2) 3
  let d : Dev := d.set (GPIO_PIN_CFG_FILT 40) 1
  { dev := d }
def w_GpioPins_2 : State :=
  let d : Dev := {}
  { dev := d }
def w_GpioPins_3 : State :=
  let d : Dev := {}
  let d : Dev := d.set (GPIO_PIN_CFG_FILT (40 : Fin 96).val) (1)
  let d : Dev := d.set (GPIO_BANK_VIO 2) 3
  let d : Dev := onPin 40 { sync := true, since := some 7 } d
  { dev := d }
def w_GpioPins_5 : State :=
  let d : Dev := {}
  let d : Dev := d.set (GPIO_BANK_VIO (2 : Fin 6).val) (0)
  let d : Dev := onPin 40 { sync := true, since := some 7 } d
  { dev := d }
def w_GpioPins_7 : State :=
  let d : Dev := {}
  let d : Dev := { d with pins := { d.pins with jtag := some (1, 1) } }
  { dev := d }
def w_GpioPins_8 : State :=
  let d : Dev := {}
  let d : Dev := { d with pins.jtag := none }
  { dev := d }
theorem test_witness_gpio_pins :
    (∃ (s : State) (n : Fin 96) (l : Bool), s.dev.pins.jtag = none ∧ (s.dev.pin n.val).switch = none ∧
      pinBit s.dev GPIO_OE_OE n.val = false ∧ powered s.dev n.val = true ∧ filtered s.dev n.val = false ∧
      (s.dev.pin n.val).sync = (s.dev.pin n.val).level ∧ l ≠ (s.dev.pin n.val).level) ∧
    (∃ (s : State) (n : Fin 96) (l : Bool), s.dev.pins.jtag = none ∧ (s.dev.pin n.val).switch = none ∧
      pinBit s.dev GPIO_OE_OE n.val = false ∧ powered s.dev n.val = true ∧ filtered s.dev n.val = true ∧
      (s.dev.pin n.val).sync = (s.dev.pin n.val).level ∧ l ≠ (s.dev.pin n.val).level) ∧
    (∃ (s : State) (n : Fin 96), (s.dev.pin n.val).since = none) ∧
    (∃ (s : State) (n : Fin 96) (t : Nat), (s.dev.pin n.val).since = some t ∧ powered s.dev n.val = true ∧
      s.dev.get (GPIO_PIN_CFG_FILT n.val) = 1) ∧
    (∃ (s : State) (b : Fin 6) (vio : Fin 5), s.dev.get (GPIO_BANK_VIO b.val) = 0 ∧ vio ≠ 0) ∧
    (∃ (s : State), s.dev.pins.jtag ≠ none) ∧
    (∃ (s : State), s.dev.pins.jtag = none) :=
  ⟨⟨w_GpioPins_0, (40 : Fin 96), true, by decide +kernel⟩,
   ⟨w_GpioPins_1, (40 : Fin 96), true, by decide +kernel⟩,
   ⟨w_GpioPins_2, (0 : Fin 96), by decide +kernel⟩,
   ⟨w_GpioPins_3, (40 : Fin 96), 7, by decide +kernel⟩,
   ⟨w_GpioPins_5, (2 : Fin 6), (3 : Fin 5), by decide +kernel⟩,
   ⟨w_GpioPins_7, by decide +kernel⟩,
   ⟨w_GpioPins_8, by decide +kernel⟩⟩

def w_PeripheralFifos_0 : State :=
  let d : Dev := {}
  { dev := d }
def w_PeripheralFifos_1 : State :=
  let d : Dev := {}
  let d : Dev := onPeriph 0 0 { tx := List.replicate 16 0 } d
  { dev := d }
def w_PeripheralFifos_2 : State :=
  let d : Dev := {}
  { dev := d }
def w_PeripheralFifos_3 : State :=
  let d : Dev := {}
  let d : Dev := onPeriph 3 0 { rx := [77] } d
  { dev := d }
def w_PeripheralFifos_4 : State :=
  let d : Dev := {}
  let d : Dev := d.set (UART_CFG_EN (0 : Fin 6).val) (1)
  let d : Dev := d.set (UART_CFG_DATA7 (0 : Fin 6).val) (0)
  let d : Dev := ((d.set (GPIO_PIN_CFG_FUNC 1) 4).set (GPIO_BANK_VIO 0) 1).set (UART_CFG_EN 0) 1
  { dev := d }
def w_PeripheralFifos_5 : State :=
  let d : Dev := {}
  let d : Dev := d.set (UART_CFG_EN (0 : Fin 6).val) (0)
  { dev := d }
def w_PeripheralFifos_6 : State :=
  let d : Dev := {}
  let d : Dev := d.set (UART_CFG_EN (0 : Fin 6).val) (1)
  let d : Dev := d.set (UART_CFG_FLOW (0 : Fin 6).val) (0)
  let d : Dev := onPeriph 2 0 { tx := [200] } d
  { dev := d }
def w_PeripheralFifos_7 : State :=
  let d : Dev := {}
  { dev := d }
theorem test_witness_peripheral_fifos :
    (∃ (s : State) (k : Fin 3) (b : Fin 6) (v : BitVec 8), (s.dev.periph k.val b.val).tx.length < fifoDepth k.val) ∧
    (∃ (s : State) (k : Fin 3) (b : Fin 6) (v : BitVec 8), fifoDepth k.val ≤ (s.dev.periph k.val b.val).tx.length) ∧
    (∃ (s : State) (k : Fin 4) (b : Fin 6), (s.dev.periph k.val b.val).rx = []) ∧
    (∃ (s : State) (k : Fin 4) (b : Fin 6) (v : Nat) (rest : List Nat), (s.dev.periph k.val b.val).rx = v :: rest) ∧
    (∃ (s : State) (b : Fin 6) (v : BitVec 8) (perr ferr : Bool), s.dev.get (UART_CFG_EN b.val) = 1 ∧
      servedBy s.dev 4 [b.val] [1, 8] ≠ none ∧ s.dev.get (UART_CFG_DATA7 b.val) = 0 ∧
      (s.dev.periph 2 b.val).rx.length < 64) ∧
    (∃ (s : State) (b : Fin 6) (v : BitVec 8) (perr ferr : Bool), s.dev.get (UART_CFG_EN b.val) = 0) ∧
    (∃ (s : State) (b : Fin 6) (v : Nat) (rest : List Nat), (s.dev.periph 2 b.val).tx = v :: rest ∧
      s.dev.get (UART_CFG_EN b.val) = 1 ∧ s.dev.get (UART_CFG_FLOW b.val) = 0) ∧
    (∃ (s : State) (b : Fin 6), (s.dev.periph 2 b.val).tx = []) :=
  ⟨⟨w_PeripheralFifos_0, (0 : Fin 3), (0 : Fin 6), (0 : BitVec 8), by decide +kernel⟩,
   ⟨w_PeripheralFifos_1, (0 : Fin 3), (0 : Fin 6), (0 : BitVec 8), by decide +kernel⟩,
   ⟨w_PeripheralFifos_2, (0 : Fin 4), (0 : Fin 6), by decide +kernel⟩,
   ⟨w_PeripheralFifos_3, (3 : Fin 4), (0 : Fin 6), 77, [], by decide +kernel⟩,
   ⟨w_PeripheralFifos_4, (0 : Fin 6), (200 : BitVec 8), false, false, by decide +kernel⟩,
   ⟨w_PeripheralFifos_5, (0 : Fin 6), (0 : BitVec 8), false, false, by decide +kernel⟩,
   ⟨w_PeripheralFifos_6, (0 : Fin 6), 200, [], by decide +kernel⟩,
   ⟨w_PeripheralFifos_7, (0 : Fin 6), by decide +kernel⟩⟩

def w_PeripheralTransfers_0 : State :=
  let d : Dev := {}
  { dev := d }
def w_PeripheralTransfers_1 : State :=
  let d : Dev := {}
  let d : Dev := d.set (I2C_CFG_EN (0 : Fin 6).val) (1)
  let d : Dev := onPeriph 0 0 { tx := [5] } d
  { dev := d }
def w_PeripheralTransfers_2 : State :=
  let d : Dev := {}
  let d : Dev := onPeriph 1 0 { xfer := some ([], 1) } d
  { dev := d }
def w_PeripheralTransfers_3 : State :=
  let d : Dev := {}
  let d : Dev := d.set (SPI_CFG_EN (0 : Fin 6).val) (1)
  { dev := d }
def w_PeripheralTransfers_4 : State :=
  let d : Dev := {}
  let d : Dev := d.set (SPI_CFG_EN (0 : Fin 6).val) (0)
  { dev := d }
def w_PeripheralTransfers_5 : State :=
  let d : Dev := {}
  let d : Dev := d.set (MDIO_CFG_EN (0 : Fin 6).val) (1)
  { dev := d }
def w_PeripheralTransfers_6 : State :=
  let d : Dev := {}
  { dev := d }
def w_PeripheralTransfers_7 : State :=
  let d : Dev := {}
  let d : Dev := onPeriph 0 0 { tx := [3, 4], xfer := some ([3, 4], 0) } d
  let d : Dev := i2cPinned d
  { dev := d }
def w_PeripheralTransfers_8 : State :=
  let d : Dev := {}
  let d : Dev := onPeriph 0 0 { tx := [3, 4], xfer := some ([3, 4], 1) } d
  let d : Dev := i2cPinned d
  { dev := d }
def w_PeripheralTransfers_9 : State :=
  let d : Dev := {}
  let d : Dev := onPeriph 3 0 { xfer := some ([], 1) } d
  let d : Dev := ((d.set (GPIO_PIN_CFG_FUNC 3) 5).set (GPIO_BANK_VIO 0) 1).set (MDIO_CFG_EN 0) 1
  { dev := d }
def w_PeripheralTransfers_10 : State :=
  let d : Dev := {}
  let d : Dev := onPeriph 0 0 { tx := [3, 4], xfer := some ([3, 4], 1) } d
  { dev := d }
theorem test_witness_peripheral_transfers :
    (∃ (s : State) (b : Fin 6) (v : Word), (16 < bitsAt v.toNat 0 5 ∨ 16 < bitsAt v.toNat 8 5 ∨ (s.dev.periph 0 b.val).tx.length < bitsAt v.toNat 0 5)) ∧
    (∃ (s : State) (b : Fin 6) (v : Word), bitsAt v.toNat 0 5 ≤ 16 ∧ bitsAt v.toNat 8 5 ≤ 16 ∧
      bitsAt v.toNat 0 5 ≤ (s.dev.periph 0 b.val).tx.length ∧ (s.dev.periph 0 b.val).xfer = none ∧
      s.dev.get (I2C_CFG_EN b.val) = 1) ∧
    (∃ (s : State) (b : Fin 6) (v : Word), bitsAt v.toNat 0 5 ≤ 16 ∧ (s.dev.periph 1 b.val).xfer ≠ none) ∧
    (∃ (s : State) (b : Fin 6) (v : Word), bitsAt v.toNat 0 5 ≤ 16 ∧ (s.dev.periph 1 b.val).xfer = none ∧
      s.dev.get (SPI_CFG_EN b.val) = 1) ∧
    (∃ (s : State) (b : Fin 6) (v : Word), bitsAt v.toNat 0 5 ≤ 16 ∧ (s.dev.periph 1 b.val).xfer = none ∧
      s.dev.get (SPI_CFG_EN b.val) = 0) ∧
    (∃ (s : State) (b : Fin 6) (phy reg : BitVec 5) (data : BitVec 16) (cl45 : Bool) (i : Instr) (n : Nat), (s.dev.periph 3 b.val).xfer = none ∧
      s.dev.get (MDIO_CFG_EN b.val) = 1 ∧ (i = .mdioWrite b cl45 phy reg data ∧ n = 0 ∨ i = .mdioRead b cl45 phy reg ∧
      n = 1 ∨ i = .mdioAddress b phy reg data ∧ n = 0 ∨ i = .mdioReadIncrement b phy reg ∧ n = 1)) ∧
    (∃ (s : State) (k : Fin 4) (b : Fin 6) (sent : Fin 17) (rx : List (BitVec 16)) (nack arb : Bool), (s.dev.periph k.val b.val).xfer = none) ∧
    (∃ (s : State) (b : Fin 6) (sent : Fin 17) (rx : List (BitVec 16)) (out : List Nat), (s.dev.periph 0 b.val).xfer = some (out, 0) ∧
      servedBy s.dev 2 [b.val] [1, 9] ≠ none) ∧
    (∃ (s : State) (b : Fin 6) (sent : Fin 17) (out : List Nat) (n : Nat), (s.dev.periph 0 b.val).xfer = some (out, n) ∧
      servedBy s.dev 2 [b.val] [1, 9] ≠ none) ∧
    (∃ (s : State) (b : Fin 6) (sent : Fin 17) (v : BitVec 16) (out : List Nat), (s.dev.periph 3 b.val).xfer = some (out, 1) ∧
      servedBy s.dev 5 [b.val] [3, 12] ≠ none) ∧
    (∃ (s : State) (b : Fin 6), (s.dev.periph 0 b.val).xfer ≠ none) :=
  ⟨⟨w_PeripheralTransfers_0, (0 : Fin 6), (1 : Word), by decide +kernel⟩,
   ⟨w_PeripheralTransfers_1, (0 : Fin 6), (0x101 : Word), by decide +kernel⟩,
   ⟨w_PeripheralTransfers_2, (0 : Fin 6), (0 : Word), by decide +kernel⟩,
   ⟨w_PeripheralTransfers_3, (0 : Fin 6), (3 : Word), by decide +kernel⟩,
   ⟨w_PeripheralTransfers_4, (0 : Fin 6), (0 : Word), by decide +kernel⟩,
   ⟨w_PeripheralTransfers_5, (0 : Fin 6), (0 : BitVec 5), (0 : BitVec 5), (0 : BitVec 16), true, (.mdioRead 0 true 0 0), 1, by decide +kernel⟩,
   ⟨w_PeripheralTransfers_6, (0 : Fin 4), (0 : Fin 6), (0 : Fin 17), [], false, false, by decide +kernel⟩,
   ⟨w_PeripheralTransfers_7, (0 : Fin 6), (0 : Fin 17), [], [3, 4], by decide +kernel⟩,
   ⟨w_PeripheralTransfers_8, (0 : Fin 6), (1 : Fin 17), [3, 4], 1, by decide +kernel⟩,
   ⟨w_PeripheralTransfers_9, (0 : Fin 6), (0 : Fin 17), (99 : BitVec 16), [], by decide +kernel⟩,
   ⟨w_PeripheralTransfers_10, (0 : Fin 6), by decide +kernel⟩⟩

def w_RegisterAccess_4 : State :=
  let d : Dev := {}
  let d : Dev := { d with xstop := [(xConfig, 3)] }
  { dev := d }
def w_RegisterAccess_5 : State :=
  let d : Dev := {}
  let d : Dev := d.set CFG_CTRL_LOCK (1)
  { dev := d }
def w_RegisterAccess_6 : State :=
  let d : Dev := {}
  let d : Dev := d.set QM_STATUS_STATE 1
  { dev := d }
def w_RegisterAccess_7 : State :=
  let d : Dev := {}
  { dev := d }
def w_RegisterAccess_8 : State :=
  let d : Dev := {}
  { dev := d }
def w_RegisterAccess_9 : State :=
  let d : Dev := {}
  let d : Dev := { d with cx.closed := false }
  { dev := d }
def w_RegisterAccess_10 : State :=
  let d : Dev := {}
  { dev := d }
theorem test_witness_register_access :
    (∃ (s : State) (a : BitVec 27) (v : Word), behindStop s.dev a.toNat = true) ∧
    (∃ (s : State) (v : Word), xStopped s.dev xConfig = false ∧ s.dev.get CFG_CTRL_LOCK = 1 ∧ bitAt v.toNat 31 = true ∧
      b2n (bitAt v.toNat 30) ≠ s.dev.get CFG_CTRL_REQUIRE_ENC) ∧
    (∃ (s : State) (a : BitVec 27) (v : Word), closedAt s.dev a.toNat = true) ∧
    (∃ (s : State) (a : BitVec 27) (v : Word), closedAt s.dev a.toNat = false ∧ behindStop s.dev a.toNat = false ∧
      a.toNat % 4 ≠ 0) ∧
    (∃ (s : State) (a : BitVec 27) (v : Word), 0x04400000 ≤ a.toNat) ∧
    (∃ (s : State) (v : Word), s.dev.cx.closed = false) ∧
    (∃ (s : State) (a : BitVec 27) (v : Word), a.toNat < 0x00820000) :=
  ⟨⟨w_RegisterAccess_4, (0x00300000 : BitVec 27), (0 : Word), by decide +kernel⟩,
   ⟨w_RegisterAccess_5, (0xC0000000 : Word), by decide +kernel⟩,
   ⟨w_RegisterAccess_6, (0x00800000 : BitVec 27), (0 : Word), by decide +kernel⟩,
   ⟨w_RegisterAccess_7, (6 : BitVec 27), (0 : Word), by decide +kernel⟩,
   ⟨w_RegisterAccess_8, (0x04400000 : BitVec 27), (0 : Word), by decide +kernel⟩,
   ⟨w_RegisterAccess_9, (0 : Word), by decide +kernel⟩,
   ⟨w_RegisterAccess_10, (0 : BitVec 27), (0 : Word), by decide +kernel⟩⟩

def w_HostRequests_0 : State :=
  let d : Dev := {}
  let d : Dev := { d with host.inReset := true }
  { dev := d }
def w_HostRequests_1 : State :=
  let d : Dev := {}
  let d : Dev := { d with host.inReset := false }
  let d : Dev := { d with host.readyAt := some 5 }
  { dev := d }
def w_HostRequests_2 : State :=
  let d : Dev := {}
  let d : Dev := { d with host.inReset := false }
  let d : Dev := { d with host.readyAt := some 0 }
  { dev := d }
def w_HostRequests_3 : State :=
  let d : Dev := {}
  let d : Dev := { d with host.inReset := false }
  let d : Dev := { d with host.readyAt := some 0 }
  { dev := d }
def w_HostRequests_4 : State :=
  let d : Dev := {}
  let d : Dev := { d with host.inReset := true }
  { dev := d }
def w_HostRequests_5 : State :=
  let d : Dev := {}
  let d : Dev := { d with host.inReset := false }
  let d : Dev := d.set HOST_ERRLOG0_VALID (0)
  { dev := d }
def w_HostRequests_6 : State :=
  let d : Dev := {}
  let d : Dev := { d with host.inReset := false }
  { dev := d }
def w_HostRequests_7 : State :=
  let d : Dev := {}
  let d : Dev := { d with host.inReset := false }
  { dev := d }
def w_HostRequests_8 : State :=
  let d : Dev := {}
  let d : Dev := { d with host.inReset := false }
  { dev := d }
def w_HostRequests_9 : State :=
  let d : Dev := {}
  let d : Dev := { d with host.inReset := false }
  { dev := d }
def w_HostRequests_10 : State :=
  let d : Dev := {}
  let d : Dev := { d with host.inReset := false }
  let d : Dev := { d with xm.reqs := [] }
  let d : Dev := file0 d
  let d : Dev := d.set (XF_CFG_HOST_R 0) 1
  { dev := d }
def w_HostRequests_11 : State :=
  let d : Dev := {}
  let d : Dev := { d with xm.reqs := [] }
  { dev := d }
def w_HostRequests_12 : State :=
  let d : Dev := {}
  let d : Dev := { d with xm.reqs := ({ who := .host 9, words := 1, since := 44 } : XReq) :: [] }
  { dev := d }
theorem test_witness_host_requests :
    (∃ (s : State) (dw : Fin 1024) (be : BitVec 4) (data : Option Word), s.dev.host.inReset = true) ∧
    (∃ (s : State) (dw : Fin 1024) (be : BitVec 4) (data : Option Word) (t : Nat), s.dev.host.inReset = false ∧
      s.dev.host.readyAt = some t ∧ s.dev.tb < t) ∧
    (∃ (s : State) (be : BitVec 4) (t : Nat), s.dev.host.inReset = false ∧ s.dev.host.readyAt = some t ∧ t ≤ s.dev.tb) ∧
    (∃ (s : State) (v : Word) (t : Nat), s.dev.host.inReset = false ∧ s.dev.host.readyAt = some t ∧ t ≤ s.dev.tb) ∧
    (∃ (s : State) (a : BitVec 25) (b : BitVec 26) (len : BitVec 10) (fbe lbe : BitVec 4) (id : BitVec 16) (data : Option (List Word)) (c : Instr), s.dev.host.inReset = true ∧
      c ∈ [Instr.bar0Request a len fbe lbe id data, .bar2Request b len fbe lbe id data, .bar4Request b len fbe lbe id data]) ∧
    (∃ (s : State) (a : BitVec 25) (b : BitVec 26) (fbe lbe : BitVec 4) (id : BitVec 16) (p : Instr × Nat), s.dev.host.inReset = false ∧
      fbe ≠ 15#4 ∧ s.dev.get HOST_ERRLOG0_VALID = 0 ∧
      p ∈ [(Instr.bar0Request a 1#10 fbe lbe id none, 0), (.bar2Request b 1#10 fbe lbe id none, 1), (.bar4Request b 1#10 fbe lbe id none, 2)]) ∧
    (∃ (s : State) (id : BitVec 16), s.dev.host.inReset = false) ∧
    (∃ (s : State) (id : BitVec 16) (v : Word), s.dev.host.inReset = false) ∧
    (∃ (s : State) (dw : BitVec 26) (id : BitVec 16) (v : Nat), s.dev.host.inReset = false ∧ dw.toNat % 2 = 0 ∧
      4 * dw.toNat < 0x02000000 ∧ v < 2 ^ 64 ∧
      ringHostRead (4 * dw.toNat / 0x40000) (4 * dw.toNat / 0x2000 % 32) (4 * dw.toNat / 8 % 1024) 0 8 s.dev = (.ok, v, s.dev)) ∧
    (∃ (s : State) (dw : BitVec 26) (id : BitVec 16) (v : Word), s.dev.host.inReset = false ∧
      0x07000000 ≤ 4 * dw.toNat) ∧
    (∃ (s : State) (dw : BitVec 26) (id : BitVec 16) (x : XPart), s.dev.host.inReset = false ∧ s.dev.xm.reqs = [] ∧
      hostParts false 4 (4 * dw.toNat) 4 [] s.dev = ([x], [], s.dev) ∧ x.code = none) ∧
    (∃ (s : State), s.dev.xm.reqs = []) ∧
    (∃ (s : State) (q : XReq) (rest : List XReq) (id : Nat), s.dev.xm.reqs = q :: rest ∧ q.who = .host id ∧
      q.data = none ∧ q.words = 1) :=
  ⟨⟨w_HostRequests_0, (0 : Fin 1024), (0 : BitVec 4), none, by decide +kernel⟩,
   ⟨w_HostRequests_1, (0 : Fin 1024), (0 : BitVec 4), none, 5, by decide +kernel⟩,
   ⟨w_HostRequests_2, (0 : BitVec 4), 0, by decide +kernel⟩,
   ⟨w_HostRequests_3, (0 : Word), 0, by decide +kernel⟩,
   ⟨w_HostRequests_4, (0 : BitVec 25), (0 : BitVec 26), (0 : BitVec 10), (0 : BitVec 4), (0 : BitVec 4), (0 : BitVec 16), none, (.bar0Request 0 0 0 0 0 none), by decide +kernel⟩,
   ⟨w_HostRequests_5, (0 : BitVec 25), (0 : BitVec 26), (0 : BitVec 4), (0 : BitVec 4), (0 : BitVec 16), (.bar0Request 0 1#10 0 0 0 none, 0), by decide +kernel⟩,
   ⟨w_HostRequests_6, (0 : BitVec 16), by decide +kernel⟩,
   ⟨w_HostRequests_7, (0 : BitVec 16), (5 : Word), by decide +kernel⟩,
   ⟨w_HostRequests_8, (0 : BitVec 26), (0 : BitVec 16), 0, by decide +kernel⟩,
   ⟨w_HostRequests_9, (0x1C00000 : BitVec 26), (0 : BitVec 16), (0 : Word), by decide +kernel⟩,
   ⟨w_HostRequests_10, (0 : BitVec 26), (0 : BitVec 16), ({ ctl := 0, file := 0, addr := 0, len := 4, dyn := 1 } : XPart), by decide +kernel⟩,
   ⟨w_HostRequests_11, by decide +kernel⟩,
   ⟨w_HostRequests_12, ({ who := .host 9, words := 1, since := 44 } : XReq), [], 9, by decide +kernel⟩⟩

def w_DmaChannels_0 : State :=
  let d : Dev := {}
  { dev := d }
def w_DmaChannels_1 : State :=
  let d : Dev := {}
  let d : Dev := dmaOn 0 d
  { dev := d }
def w_DmaChannels_2 : State :=
  let d : Dev := {}
  let d : Dev := d.set HOST_ERRLOG0_VALID (0)
  let d : Dev := dmaOn 0 d
  { dev := d }
def w_DmaChannels_3 : State :=
  let d : Dev := {}
  let d : Dev := dmaOn 0 d
  { dev := d }
def w_DmaChannels_4 : State :=
  let d : Dev := {}
  { dev := d }
def w_DmaChannels_5 : State :=
  let d : Dev := {}
  let d : Dev := (dmaOn 0 d).set (DMA_STATUS_STATE 0) 1
  let d : Dev := { d with host := { d.host with descs := [(0, some ({ len := 8, space := 2 } : DmaDesc))] } }
  { dev := d }
def w_DmaChannels_6 : State :=
  let d : Dev := {}
  let d : Dev := { d with host := { d.host with descs := [(0, some ({ len := 8, space := 2 } : DmaDesc))] } }
  { dev := d }
def w_DmaChannels_7 : State :=
  let d : Dev := {}
  let d : Dev := d.set (DMA_STATUS_STATE (0 : Fin 8).val) (2)
  { dev := d }
def w_DmaChannels_8 : State :=
  let d : Dev := {}
  { dev := d }
theorem test_witness_dma_channels :
    (∃ (s : State) (n : Fin 8) (res : Fin 4) (v : BitVec 256), dmaWants s.dev n.val = false) ∧
    (∃ (s : State) (n : Fin 8) (v : BitVec 256), dmaWants s.dev n.val = true ∧ descOk v = true) ∧
    (∃ (s : State) (n : Fin 8) (v : BitVec 256), dmaWants s.dev n.val = true ∧ descOk v = false ∧
      s.dev.get HOST_ERRLOG0_VALID = 0) ∧
    (∃ (s : State) (n : Fin 8) (v : BitVec 256), dmaWants s.dev n.val = true) ∧
    (∃ (s : State) (n : Fin 8) (res : Fin 4) (data : List Byte), dmaDesc s.dev n.val = none) ∧
    (∃ (s : State) (n : Fin 8) (x : DmaDesc) (data : List Byte), dmaDesc s.dev n.val = some x ∧
      dmaTurn s.dev = some n.val ∧ busMaster s.dev = true ∧ x.space = 2 ∧ x.out = false ∧ x.abort = false ∧
      x.irq = false ∧ x.len = x.moved + 8 ∧ data.length = 8 ∧ portLoad s.dev = false ∧ s.dev.host.dmaOn = none ∧
      s.dev.host.dmaAns = none) ∧
    (∃ (s : State) (n : Fin 8) (x : DmaDesc), dmaDesc s.dev n.val = some x) ∧
    (∃ (s : State) (n : Fin 8), s.dev.get (DMA_STATUS_STATE n.val) = 2) ∧
    (∃ (s : State) (n : Fin 8), s.dev.get (DMA_STATUS_STATE n.val) ≠ 2) :=
  ⟨⟨w_DmaChannels_0, (0 : Fin 8), (0 : Fin 4), (0 : BitVec 256), by decide +kernel⟩,
   ⟨w_DmaChannels_1, (0 : Fin 8), (2 ^ 64 * 0x1000 + 2 ^ 96 * 64 + 0x8000 : BitVec 256), by decide +kernel⟩,
   ⟨w_DmaChannels_2, (0 : Fin 8), (0 : BitVec 256), by decide +kernel⟩,
   ⟨w_DmaChannels_3, (0 : Fin 8), (0 : BitVec 256), by decide +kernel⟩,
   ⟨w_DmaChannels_4, (0 : Fin 8), (0 : Fin 4), [], by decide +kernel⟩,
   ⟨w_DmaChannels_5, (0 : Fin 8), ({ len := 8, space := 2 } : DmaDesc), [1, 2, 3, 4, 5, 6, 7, 8], by decide +kernel⟩,
   ⟨w_DmaChannels_6, (0 : Fin 8), ({ len := 8, space := 2 } : DmaDesc), by decide +kernel⟩,
   ⟨w_DmaChannels_7, (0 : Fin 8), by decide +kernel⟩,
   ⟨w_DmaChannels_8, (0 : Fin 8), by decide +kernel⟩⟩

def w_ManagementAndMessages_0 : State :=
  let d : Dev := {}
  { dev := d }
def w_ManagementAndMessages_2 : State :=
  let d : Dev := {}
  let d : Dev := mi2cOn d
  { dev := d }
def w_ManagementAndMessages_3 : State :=
  let d : Dev := {}
  let d : Dev := mi2cOn d
  { dev := d }
def w_ManagementAndMessages_4 : State :=
  let d : Dev := {}
  let d : Dev := d.set HOST_ERRLOG0_VALID (0)
  let d : Dev := mi2cOn d
  { dev := d }
def w_ManagementAndMessages_5 : State :=
  let d : Dev := {}
  let d : Dev := { d with host.msixOn := true }
  let d : Dev := irqOn 5 d
  let d : Dev := { d with host := { d.host with msix := [(20, 0xFEE00000), (22, 0x45), (23, 0)] } }
  { dev := d }
def w_ManagementAndMessages_6 : State :=
  let d : Dev := {}
  let d : Dev := { d with host.msixOn := true }
  let d : Dev := irqOn 5 d
  { dev := d }
def w_ManagementAndMessages_7 : State :=
  let d : Dev := {}
  { dev := d }
def w_ManagementAndMessages_8 : State :=
  let d : Dev := {}
  { dev := d }
def w_ManagementAndMessages_9 : State :=
  let d : Dev := {}
  let d : Dev := d.set (GIRQ_INSERV_INSERV 0) 32
  { dev := d }
def w_ManagementAndMessages_10 : State :=
  let d : Dev := {}
  { dev := d }
theorem test_witness_management_and_messages :
    (∃ (s : State) (addr : BitVec 7) (off v : Word) (c : Instr), mi2cTakes s.dev addr.toNat = false ∧
      c ∈ [Instr.mi2cWrite addr off v, .mi2cRead addr off, .mi2cBadCommand]) ∧
    (∃ (s : State) (addr : BitVec 7) (v : Word), mi2cTakes s.dev addr.toNat = true) ∧
    (∃ (s : State) (addr : BitVec 7), mi2cTakes s.dev addr.toNat = true) ∧
    (∃ (s : State) (addr : BitVec 7) (off v : Word), mi2cTakes s.dev addr.toNat = true ∧ 2 ^ 27 ≤ off.toNat ∧
      s.dev.get HOST_ERRLOG0_VALID = 0) ∧
    (∃ (s : State) (v : Fin 256), asserted s.dev v.val = true ∧ inService s.dev v.val = false ∧
      s.dev.host.msixOn = true ∧ vectorMasked s.dev v.val = false) ∧
    (∃ (s : State) (v : Fin 256), asserted s.dev v.val = true ∧ inService s.dev v.val = false ∧
      s.dev.host.msixOn = true ∧ vectorMasked s.dev v.val = true) ∧
    (∃ (s : State) (v : Fin 256), asserted s.dev v.val = false) ∧
    (∃ (s : State) (v : Fin 256), bitAt s.dev.host.pba v.val = false) ∧
    (∃ (s : State) (v : Fin 256), inService s.dev v.val = true ∧
      asserted (s.dev.clrBit (GIRQ_INSERV_INSERV (v.val / 32)) (v.val % 32)) v.val = false) ∧
    (∃ (s : State) (v : Fin 256), inService s.dev v.val = false) :=
  ⟨⟨w_ManagementAndMessages_0, (0 : BitVec 7), (0 : Word), (0 : Word), (.mi2cBadCommand), by decide +kernel⟩,
   ⟨w_ManagementAndMessages_2, (0x40 : BitVec 7), (6 : Word), by decide +kernel⟩,
   ⟨w_ManagementAndMessages_3, (0x40 : BitVec 7), by decide +kernel⟩,
   ⟨w_ManagementAndMessages_4, (0x40 : BitVec 7), (0x08000000 : Word), (0 : Word), by decide +kernel⟩,
   ⟨w_ManagementAndMessages_5, (5 : Fin 256), by decide +kernel⟩,
   ⟨w_ManagementAndMessages_6, (5 : Fin 256), by decide +kernel⟩,
   ⟨w_ManagementAndMessages_7, (0 : Fin 256), by decide +kernel⟩,
   ⟨w_ManagementAndMessages_8, (0 : Fin 256), by decide +kernel⟩,
   ⟨w_ManagementAndMessages_9, (5 : Fin 256), by decide +kernel⟩,
   ⟨w_ManagementAndMessages_10, (0 : Fin 256), by decide +kernel⟩⟩

def w_PortResets_0 : State :=
  let d : Dev := {}
  { dev := d }
def w_PortResets_1 : State :=
  let d : Dev := {}
  let d : Dev := { d with host.inReset := false }
  { dev := d }
def w_PortResets_2 : State :=
  let d : Dev := {}
  let d : Dev := { d with host.inReset := true }
  { dev := d }
def w_PortResets_3 : State :=
  let d : Dev := {}
  let d : Dev := { d with host.inReset := false }
  { dev := d }
def w_PortResets_4 : State :=
  let d : Dev := {}
  { dev := d }
def w_PortResets_5 : State :=
  let d : Dev := {}
  { dev := d }
def w_PortResets_6 : State :=
  let d : Dev := {}
  let d : Dev := { d with ctl.time.refLost := true }
  { dev := d }
def w_PortResets_7 : State :=
  let d : Dev := {}
  let d : Dev := { d with ctl.time.refLost := false }
  { dev := d }
theorem test_witness_port_resets :
    (∃ (s : State) (c : Instr), c ∈ [Instr.perstN, .hotReset, .pcieLinkDown]) ∧
    (∃ (s : State), s.dev.host.inReset = false) ∧
    (∃ (s : State) (ns : BitVec 27) (w : Fin 4) (sp : Fin 5), s.dev.host.inReset = true) ∧
    (∃ (s : State) (ns : BitVec 27) (w : Fin 4) (sp : Fin 5), s.dev.host.inReset = false) ∧
    (∃ (s : State) (v : BitVec 16), 15000 ≤ v.toNat ∧ v.toNat ≤ 16200) ∧
    (∃ (s : State) (v : BitVec 16), (v.toNat < 15000 ∨ 16200 < v.toNat)) ∧
    (∃ (s : State) (v : BitVec 16), s.dev.ctl.time.refLost = true ∧ 15000 ≤ v.toNat ∧ v.toNat ≤ 16200) ∧
    (∃ (s : State) (v : BitVec 16), s.dev.ctl.time.refLost = false) :=
  ⟨⟨w_PortResets_0, (.hotReset), by decide +kernel⟩,
   ⟨w_PortResets_1, by decide +kernel⟩,
   ⟨w_PortResets_2, (0 : BitVec 27), (0 : Fin 4), (0 : Fin 5), by decide +kernel⟩,
   ⟨w_PortResets_3, (0 : BitVec 27), (0 : Fin 4), (0 : Fin 5), by decide +kernel⟩,
   ⟨w_PortResets_4, (15000 : BitVec 16), by decide +kernel⟩,
   ⟨w_PortResets_5, (0 : BitVec 16), by decide +kernel⟩,
   ⟨w_PortResets_6, (16200 : BitVec 16), by decide +kernel⟩,
   ⟨w_PortResets_7, (0 : BitVec 16), by decide +kernel⟩⟩

def w_DeviceResets_0 : State :=
  let d : Dev := {}
  let d : Dev := { d with bist.run := none }
  { dev := d }
def w_DeviceResets_1 : State :=
  let d : Dev := {}
  let d : Dev := { d with cfg.progLow := true }
  { dev := d }
def w_DeviceResets_2 : State :=
  let d : Dev := {}
  let d : Dev := { d with cfg.progLow := false }
  { dev := d }
def w_DeviceResets_3 : State :=
  let d : Dev := {}
  let d : Dev := { d with cfg.clears := true }
  let d : Dev := d.set BIST_STATUS_BUSY (0)
  { dev := d }
def w_DeviceResets_4 : State :=
  let d : Dev := {}
  let d : Dev := { d with cfg.clears := false }
  { dev := d }
def w_DeviceResets_6 : State :=
  let d : Dev := {}
  let d : Dev := { d with trim.torn := true }
  { dev := d }
def w_DeviceResets_8 : State :=
  let d : Dev := {}
  let d : Dev := { d with bist.run := none }
  { dev := d }
def w_DeviceResets_9 : State :=
  let d : Dev := {}
  let d : Dev := { d with trim.torn := true }
  { dev := d }
def w_DeviceResets_10 : State :=
  let d : Dev := {}
  let d : Dev := { d with cfg.warm := true }
  let d : Dev := { d with cfg.replays := false }
  { dev := d }
def w_DeviceResets_11 : State :=
  let d : Dev := {}
  let d : Dev := { d with cfg.warm := true }
  let d : Dev := { d with cfg.replays := false }
  { dev := d }
theorem test_witness_device_resets :
    (∃ (s : State), s.dev.bist.run = none) ∧
    (∃ (s : State), s.dev.cfg.progLow = true) ∧
    (∃ (s : State), s.dev.cfg.progLow = false) ∧
    (∃ (s : State), s.dev.cfg.clears = true ∧ s.dev.trim.op ≠ 3 ∧ s.dev.get BIST_STATUS_BUSY = 0 ∧
      s.dev.get CFG_STATUS_MODE < 5) ∧
    (∃ (s : State), (s.dev.cfg.clears = false ∨ 5 ≤ s.dev.get CFG_STATUS_MODE)) ∧
    (∃ (s : State) (mode : Fin 8) (casc : Fin 16) (master : Bool) (vio : List (Fin 5)), s.dev.trim.torn = true) ∧
    (∃ (s : State), s.dev.bist.run = none) ∧
    (∃ (s : State) (straps : Option (Fin 16 × Bool)), s.dev.cfg.warm = false) ∧
    (∃ (s : State) (casc : Fin 16) (master : Bool), s.dev.cfg.warm = true ∧ s.dev.cfg.replays = false) ∧
    (∃ (s : State), s.dev.cfg.warm = true ∧ s.dev.cfg.replays = false) :=
  ⟨⟨w_DeviceResets_0, by decide +kernel⟩,
   ⟨w_DeviceResets_1, by decide +kernel⟩,
   ⟨w_DeviceResets_2, by decide +kernel⟩,
   ⟨w_DeviceResets_3, by decide +kernel⟩,
   ⟨w_DeviceResets_4, by decide +kernel⟩,
   ⟨w_DeviceResets_6, (0 : Fin 8), (0 : Fin 16), false, [], by decide +kernel⟩,
   ⟨w_DeviceResets_8, by decide +kernel⟩,
   ⟨w_DeviceResets_9, none, by decide +kernel⟩,
   ⟨w_DeviceResets_10, (0 : Fin 16), false, by decide +kernel⟩,
   ⟨w_DeviceResets_11, by decide +kernel⟩⟩

end Sys2Proof.Tests
end

/-! SUPPORT. The registers of a ring's window as a host write meets them (R4, R5, R48 to R51), and the lock of a ring's
declared figures (R26). -/
namespace Sys2Proof.Machine
open Sys2Proof.Machine.Reg

/-! ### What an answer and a write of one field change -/

/-- An answer changes the answer of the request in hand alone. -/
theorem OnlyChanges.answer {fs : List Fld} {ps : List Part} {d e : Dev} (h : OnlyChanges fs ps d e) (hp : Part.ans ∈ ps)
    (c : Resp) (xs : List Nat) : OnlyChanges fs ps d (e.answer c xs) := by
  obtain ⟨hflds, hparts⟩ := h
  refine ⟨fun g hg => hflds g hg, hparts.trans fun p hn => ?_⟩
  cases p with
  | ans => exact absurd hp hn
  | _ => rfl

theorem OnlyChanges.refl (fs : List Fld) (ps : List Part) (d : Dev) : OnlyChanges fs ps d d :=
  ⟨SameFlds.refl fs d, SameParts.refl ps d⟩

/-- A write of a field among `fs`. -/
theorem OnlyChanges.set {fs : List Fld} {ps : List Part} {d e : Dev} {f : Fld} (h : OnlyChanges fs ps d e) (hf : f ∈ fs)
    (v : Nat) : OnlyChanges fs ps d (e.set f v) :=
  ⟨h.1.set v hf, h.2.set f v⟩

/-- A register of one RW field without a limit takes the written bits. -/
theorem storeReg_of_single {a : Nat} {f : Fld} (hf : fldsAt a = [f]) (hty : f.ty = .rw) (hlim : f.lim = .any) (v : Nat)
    (d : Dev) : storeReg a v d = (d.set f (bitsAt v f.lo f.w)).answer .ok := by
  have hv : fieldAfter d.ctl false v f = bitsAt v f.lo f.w := by simp [fieldAfter, hty, hlim, limitTo]
  simp [storeReg, hf, writeFlds, hv, Dev.set]

/-! ### Arrays of registers -/

theorem arrayAt_entry {stride n i : Nat} (base : Nat) (f : Nat → List Fld) (hs : 0 < stride) (hi : i < n) :
    arrayAt (base + stride * i) base stride n f = f i := by
  simp [arrayAt, Nat.mul_div_cancel_left i hs, hi]

theorem arrayAt_below {a base : Nat} (stride n : Nat) (f : Nat → List Fld) (h : a < base) :
    arrayAt a base stride n f = [] := if_neg fun hc => Nat.not_le.2 h hc.1

theorem arrayAt_above {a base stride n : Nat} (f : Nat → List Fld) (hs : 0 < stride) (h : base + n * stride ≤ a) :
    arrayAt a base stride n f = [] := by
  refine if_neg fun ⟨_, _, hlt⟩ => ?_
  rw [Nat.div_lt_iff_lt_mul hs] at hlt
  omega

/-! ### The registers of a ring's window -/

/-- The offsets in a ring's window of the registers that stand once per block. -/
def ringOffsets : List Nat := (ringFlds 0).map fun f => f.addr - ringBase 0

theorem ringFlds_addr (r : Nat) : (ringFlds r).map Fld.addr = ringOffsets.map (ringBase r + ·) := rfl

/-- Between 0x10 and 0x50 only the two arrays of declared figures stand. -/
theorem ringOffsets_outside_figures : ∀ o ∈ ringOffsets, o < 0x10 ∨ 0x50 ≤ o := by decide

theorem ringFlds_filter_figures {o : Nat} (r : Nat) (h : 0x10 ≤ o) (h' : o < 0x50) :
    (ringFlds r).filter (fun f => f.addr == ringBase r + o) = [] := by
  refine List.filter_eq_nil_iff.2 fun f hf heq => ?_
  have hmem : f.addr ∈ ringOffsets.map (ringBase r + ·) := ringFlds_addr r ▸ List.mem_map_of_mem hf
  obtain ⟨k, hk, hadd⟩ := List.mem_map.1 hmem
  have := ringOffsets_outside_figures k hk
  have : f.addr = ringBase r + o := by simpa using heq
  omega

theorem ringAt_actDu {a : Nat} (r : Nat) (ha : a < 8) :
    ringAt r (ringBase r + (0x10 + 4 * a)) = [RING_ACT_DU_DU_TOTAL r a] := by
  rw [ringAt, ringFlds_filter_figures r (by omega) (by omega), arrayAt_below (base := ringBase r + 0x30) _ _ _ (by omega),
    ← Nat.add_assoc, arrayAt_entry _ _ (by decide) ha]
  rfl

theorem ringAt_actFix {a : Nat} (r : Nat) (ha : a < 8) :
    ringAt r (ringBase r + (0x30 + 4 * a)) = [RING_ACT_FIX_FIXED_NS r a] := by
  rw [ringAt, ringFlds_filter_figures r (by omega) (by omega), arrayAt_above (base := ringBase r + 0x10) _ (by decide) (by omega),
    ← Nat.add_assoc, arrayAt_entry _ _ (by decide) ha]
  rfl

/-! ### The way of a write into a ring's window -/

section
variable {r o : Nat} (hr : r < 128)
include hr

theorem ringWindow_toNat (ho : o < 0x10000) : (BitVec.ofNat 27 (ringBase r + o)).toNat = ringBase r + o := by
  simp only [BitVec.toNat_ofNat, ringBase]
  omega

theorem ringWindow_ring (ho : o < 0x10000) : (ringBase r + o - 0x02000000) / 0x10000 = r := by
  unfold ringBase; omega

theorem ringWindow_offset (ho : o < 0x10000) : (ringBase r + o - 0x02000000) % 0x10000 = o := by
  unfold ringBase; omega

theorem ringWindow_range (ho : o < 0x10000) : 0x02000000 ≤ ringBase r + o ∧ ringBase r + o < 0x02800000 := by
  unfold ringBase; omega

/-- Below the slots of a ring's window stand its ring registers alone. -/
theorem fldsAt_ringWindow (ho : o < 0x400) (h4 : o % 4 = 0) : fldsAt (ringBase r + o) = ringAt r (ringBase r + o) := by
  have hring := ringWindow_ring hr (o := o) (by omega)
  have hoff := ringWindow_offset hr (o := o) (by omega)
  have ⟨hlo, hhi⟩ := ringWindow_range hr (o := o) (by omega)
  have halign : (ringBase r + o) % 4 = 0 := by unfold ringBase; omega
  generalize ringBase r + o = a at *
  simp (disch := omega) only [fldsAt, if_neg, if_pos]
  rw [hring, hoff, slotsAt, if_neg (by omega), List.append_nil]

theorem closedAt_ringWindow (ho : o < 0x10000) (d : Dev) : closedAt d (ringBase r + o) = d.inspected r := by
  have hring := ringWindow_ring hr ho
  have ⟨hlo, hhi⟩ := ringWindow_range hr ho
  generalize ringBase r + o = a at *
  simp (disch := omega) only [closedAt, if_neg, if_pos, hring]

theorem isCounter_ringWindow (ho : o < 0x10000) : isCounter (ringBase r + o) = false := by
  have ⟨hlo, hhi⟩ := ringWindow_range hr ho
  generalize ringBase r + o = a at *
  refine Bool.eq_false_iff.2 fun h => ?_
  simp only [isCounter, Bool.and_eq_true, Bool.or_eq_true, decide_eq_true_eq, beq_iff_eq] at h
  omega

theorem openWrite_ringWindow (ho : o < 0x10000) (v : Nat) (d : Dev) :
    openWrite (ringBase r + o) v d = ringRegWrite r o (ringBase r + o) v d := by
  have hcount := isCounter_ringWindow hr ho
  have hring := ringWindow_ring hr ho
  have hoff := ringWindow_offset hr ho
  have ⟨hlo, hhi⟩ := ringWindow_range hr ho
  generalize ringBase r + o = a at *
  simp (disch := omega) only [openWrite, hcount, Bool.false_eq_true, if_false, if_neg, if_pos, hring, hoff]

/-- A write to a register that stands in the window of a ring not closed for inspection is that ring's to judge. -/
theorem regWrite_ringWindow (ho : o < 0x10000) (h4 : o % 4 = 0) (hstands : fldsAt (ringBase r + o) ≠ []) {d : Dev}
    (hopen : d.inspected r = false) (v : Nat) :
    regWrite (ringBase r + o) v d = ringRegWrite r o (ringBase r + o) (v % 2 ^ 32) d := by
  have hclosed := (closedAt_ringWindow hr ho d).trans hopen
  have hwrite := openWrite_ringWindow hr ho (v % 2 ^ 32) d
  have ⟨hlo, hhi⟩ := ringWindow_range hr ho
  have halign : (ringBase r + o) % 4 = 0 := by unfold ringBase; omega
  rw [← hwrite]
  generalize ringBase r + o = a at *
  have hstop : behindStop d a = false := by rw [behindStop, decide_eq_false (by omega), Bool.false_and]
  have hempty : (fldsAt a).isEmpty = false := by simpa using hstands
  simp (disch := omega) only [regWrite, hclosed, hstop, hempty, Bool.false_eq_true, if_false, if_neg]

end

/-! ### The declared figures (R26, R50) -/

section
variable {s : State} {r o : Nat} {f : Fld} (hr : r < 128) (hlo : 0x10 ≤ o) (hhi : o < 0x50) (h4 : o % 4 = 0)
  (hf : ringAt r (ringBase r + o) = [f]) (hopen : s.dev.inspected r = false)
include hr hlo hhi h4 hf hopen

/-- A write to a register of declared figures is PERM under ARM, else it is stored. -/
theorem regWrite_figure (v : Word) :
    regWrite (BitVec.ofNat 27 (ringBase r + o)).toNat v.toNat s.dev =
      storeUnless (s.dev.flag (RING_SCHED_ARM r)) (ringBase r + o) v.toNat s.dev := by
  have hstands : fldsAt (ringBase r + o) ≠ [] := by simp [fldsAt_ringWindow hr (by omega) h4, hf]
  rw [ringWindow_toNat hr (by omega), regWrite_ringWindow hr (by omega) h4 hstands hopen, Nat.mod_eq_of_lt v.isLt]
  simp (disch := omega) only [ringRegWrite, if_neg, if_pos]

theorem figure_refused_of_armed (harm : s.dev.get (RING_SCHED_ARM r) = 1) (v : Word) :
    Completes (.registerWrite (BitVec.ofNat 27 (ringBase r + o)) v) s (fun d =>
      Answered d .perm ∧ OnlyChanges [] [.ans] s.dev d) := by
  have hflag : s.dev.flag (RING_SCHED_ARM r) = true := by simp [Dev.flag, harm]
  refine completes_of_run (f := regWrite (BitVec.ofNat 27 (ringBase r + o)).toNat v.toNat) rfl ?_
  rw [regWrite_figure hr hlo hhi h4 hf hopen, hflag, storeUnless, if_pos rfl]
  exact ⟨rfl, (OnlyChanges.refl ..).answer (by simp) _ _⟩

theorem figure_stored_of_unarmed (hty : f.ty = .rw) (hlim : f.lim = .any) (hbit : f.lo = 0)
    (harm : s.dev.get (RING_SCHED_ARM r) = 0) (v : Word) :
    Completes (.registerWrite (BitVec.ofNat 27 (ringBase r + o)) v) s (fun d =>
      d.get f = v.toNat % 2 ^ f.w ∧ Answered d .ok ∧ OnlyChanges [f] [.ans] s.dev d) := by
  have hflag : s.dev.flag (RING_SCHED_ARM r) = false := by simp [Dev.flag, harm]
  have hfld : fldsAt (ringBase r + o) = [f] := (fldsAt_ringWindow hr (by omega) h4).trans hf
  refine completes_of_run (f := regWrite (BitVec.ofNat 27 (ringBase r + o)).toNat v.toNat) rfl ?_
  rw [regWrite_figure hr hlo hhi h4 hf hopen, hflag, storeUnless, if_neg Bool.false_ne_true,
    storeReg_of_single hfld hty hlim]
  exact ⟨by simp [bitsAt, hbit], rfl, ((OnlyChanges.refl ..).set (by simp) _).answer (by simp) _ _⟩

end

/-- Settles O5: a write to a declared figure reaches `storeUnless`, whose condition is the ring's own ARM. -/
theorem ringFiguresLocked : Obligations.RingFiguresLocked := by
  unfold Obligations.RingFiguresLocked
  refine ⟨fun s r a v o ho hopen harm => ?armed, fun s r a v hopen harm => ?du, fun s r a v hopen harm => ?fix⟩
  case armed =>
    rw [Nat.add_assoc]
    rcases ho with rfl | rfl
    · exact figure_refused_of_armed r.isLt (by omega) (by omega) (by omega) (ringAt_actDu r a.isLt) hopen harm v
    · exact figure_refused_of_armed r.isLt (by omega) (by omega) (by omega) (ringAt_actFix r a.isLt) hopen harm v
  case du =>
    rw [Nat.add_assoc]
    exact figure_stored_of_unarmed r.isLt (by omega) (by omega) (by omega) (ringAt_actDu r a.isLt) hopen rfl rfl rfl harm v
  case fix =>
    rw [Nat.add_assoc]
    exact figure_stored_of_unarmed r.isLt (by omega) (by omega) (by omega) (ringAt_actFix r a.isLt) hopen rfl rfl rfl harm v

end Sys2Proof.Machine

/-! SUPPORT. The lanes of the pulse slots and the pulses that R186 counts as lost (R181, R184, R186). -/
namespace Sys2Proof.Machine
open Sys2Proof.Machine.Reg

/-! ### Lanes -/

@[simp] theorem lane_setLane_same (d : Dev) (r t l : Nat) (x : LaneSt) : lane (setLane r t l x d) r t l = x := by
  simp [lane, setLane]

@[simp] theorem lane_mapFab (d : Dev) (q : Nat) (f : FabSt → FabSt) (r t l : Nat) :
    lane (d.mapFab q f) r t l = lane d r t l := rfl

@[simp] theorem slotEn_mapFab (d : Dev) (q : Nat) (f : FabSt → FabSt) (r t : Nat) :
    slotEn (d.mapFab q f) r t = slotEn d r t := rfl

@[simp] theorem get_setLane (d : Dev) (r t l : Nat) (x : LaneSt) (g : Fld) : (setLane r t l x d).get g = d.get g := rfl

@[simp] theorem get_mapFab (d : Dev) (r : Nat) (f : FabSt → FabSt) (g : Fld) : (d.mapFab r f).get g = d.get g := rfl

theorem OnlyChanges.setLane {fs : List Fld} {ps : List Part} {d e : Dev} (h : OnlyChanges fs ps d e) (hp : Part.slots ∈ ps)
    (r t l : Nat) (x : LaneSt) : OnlyChanges fs ps d (setLane r t l x e) := by
  obtain ⟨hflds, hparts⟩ := h
  refine ⟨fun g hg => hflds g hg, hparts.trans fun p hn => ?_⟩
  cases p with
  | slots => exact absurd hp hn
  | _ => rfl

theorem OnlyChanges.mapFab {fs : List Fld} {ps : List Part} {d e : Dev} (h : OnlyChanges fs ps d e) (hp : Part.rings ∈ ps)
    (r : Nat) (f : FabSt → FabSt) : OnlyChanges fs ps d (e.mapFab r f) := by
  obtain ⟨hflds, hparts⟩ := h
  refine ⟨fun g hg => hflds g hg, hparts.trans fun p hn => ?_⟩
  cases p with
  | rings => exact absurd hp hn
  | _ => rfl

/-! ### Lost pulses (R186) -/

/-- PULSE_LOST and LOST of a slot stand in different registers. -/
theorem lost_key_ne_cause (r t : Nat) : (TS_PULSE_LOST r t).key ≠ (TS_IRQ_CAUSE_PULSE_LOST r t).key := by
  simp only [Fld.key, TS_PULSE_LOST, TS_IRQ_CAUSE_PULSE_LOST]
  omega

@[simp] theorem lane_pulseLost (d : Dev) (n r t q u l : Nat) : lane (pulseLost r t n d) q u l = lane d q u l := by
  unfold pulseLost
  split <;> rfl

/-- From `d` to `d'`, `n` pulses of slot `t` of ring `r` are shown and counted as lost (R186), and beside that only the
parts of `ps` change. -/
def LosesPulses (r t n : Nat) (ps : List Part) (d d' : Dev) : Prop :=
  d'.get (TS_IRQ_CAUSE_PULSE_LOST r t) = 1 ∧
  d'.get (TS_PULSE_LOST r t) = Nat.min (d.get (TS_PULSE_LOST r t) + n) 0xFFFF ∧
  OnlyChanges [TS_IRQ_CAUSE_PULSE_LOST r t, TS_PULSE_LOST r t] ps d d'

theorem losesPulses_pulseLost {n : Nat} (hn : n ≠ 0) (r t : Nat) {ps : List Part} {d e : Dev} (h : OnlyChanges [] ps d e) :
    LosesPulses r t n ps d (pulseLost r t n e) := by
  obtain ⟨hflds, hparts⟩ := h
  have hlost : e.get (TS_PULSE_LOST r t) = d.get (TS_PULSE_LOST r t) := hflds _ (by simp)
  have hchanges : OnlyChanges [TS_IRQ_CAUSE_PULSE_LOST r t, TS_PULSE_LOST r t] ps d e :=
    ⟨fun g _ => hflds g (by simp), hparts⟩
  rw [pulseLost, if_neg hn]
  refine ⟨Dev.get_raise_same _ _, ?_, (hchanges.set (by simp) _).set (by simp) _⟩
  rw [Dev.get_raise_other _ _ _ (lost_key_ne_cause r t), Dev.addSat, Dev.get_set_same, hlost]
  exact Nat.mod_eq_of_lt (Nat.lt_succ_of_le (Nat.min_le_right _ _))

/-! ### A full count keeps its value -/

theorem pulseSend_of_full {r l : Nat} {d : Dev} (hen : slotEn d r 24 = true) (hrun : slotSt d r 24 = 1)
    (hbusy : (lane d r 24 l).busy = true) (hfull : 15 ≤ (lane d r 24 l).acc) : pulseSend r l d = pulseLost r 24 1 d := by
  simp [pulseSend, hen, hrun, hbusy, Nat.not_lt.2 hfull]

theorem pulseDeliver_of_full {r l : Nat} {d : Dev} (hrun : slotSt d r 24 = 1) (hbusy : (lane d r 24 l).busy = true)
    (hnew : (lane d r 24 l).delivered = false) (hfull : 15 ≤ (lane d r 24 l).got.length) :
    pulseDeliver r 24 l d = pulseLost r 24 1 (setLane r 24 l { lane d r 24 l with delivered := true } d) := by
  simp [pulseDeliver, hrun, hbusy, hnew, Nat.not_lt.2 hfull]

theorem pulseToken_of_full {r l : Nat} {v : Digit} {d : Dev} (hwait : sget none (d.ring r).fab.pulses l = some v)
    (hen : slotEn d r 25 = true) (hfull : 15 ≤ (lane d r 25 l).staged) :
    pulseToken r l d = pulseLost r 25 1 (d.mapFab r fun f => { f with pulses := sset none f.pulses l none }) := by
  simp [pulseToken, hwait, hen, Nat.not_lt.2 hfull]

theorem sendStaged_of_none_staged {r l : Nat} {d : Dev} (h : (lane d r 25 l).staged = 0) : sendStaged r l d = d := by
  simp [sendStaged, h]

/-- A busy lane adds what was staged, up to 15, and loses the rest (R181). -/
theorem sendStaged_of_busy {r l : Nat} {d : Dev} (hstaged : (lane d r 25 l).staged ≠ 0) (hrun : slotSt d r 25 = 1)
    (hbusy : (lane d r 25 l).busy = true) :
    sendStaged r l d = pulseLost r 25 ((lane d r 25 l).acc + (lane d r 25 l).staged - 15) (setLane r 25 l
      { lane d r 25 l with acc := Nat.min ((lane d r 25 l).acc + (lane d r 25 l).staged) 15, staged := 0 } d) := by
  simp [sendStaged, hstaged, hrun, hbusy]

/-! ### The next pulse at a full count -/

theorem completes_pulseSend_of_full {s : State} {r : Fin 128} {l : Fin 4} (hen : slotEn s.dev r 24 = true)
    (hrun : slotSt s.dev r 24 = 1) (hbusy : (lane s.dev r 24 l).busy = true) (hfull : 15 ≤ (lane s.dev r 24 l).acc) :
    Completes (.pulseSend r l) s (fun d =>
      (lane d r 24 l).acc = (lane s.dev r 24 l).acc ∧ LosesPulses r 24 1 [] s.dev d) := by
  refine completes_of_run (f := pulseSend r l) rfl ?_
  rw [pulseSend_of_full hen hrun hbusy hfull]
  exact ⟨by simp, losesPulses_pulseLost Nat.one_ne_zero _ _ (.refl ..)⟩

theorem completes_pulseDeliver_of_full {s : State} {r : Fin 128} {l : Fin 4} (hrun : slotSt s.dev r 24 = 1)
    (hbusy : (lane s.dev r 24 l).busy = true) (hnew : (lane s.dev r 24 l).delivered = false)
    (hfull : 15 ≤ (lane s.dev r 24 l).got.length) :
    Completes (.pulseDeliver r false l) s (fun d =>
      (lane d r 24 l).got = (lane s.dev r 24 l).got ∧ LosesPulses r 24 1 [.slots] s.dev d) := by
  refine completes_of_run (f := pulseDeliver r 24 l) rfl ?_
  rw [pulseDeliver_of_full hrun hbusy hnew hfull]
  exact ⟨by simp, losesPulses_pulseLost Nat.one_ne_zero _ _ ((OnlyChanges.refl ..).setLane (by simp) ..)⟩

theorem completes_pulseOutToken_of_full {s : State} {r : Fin 128} {l : Fin 4} {v : Digit}
    (hwait : sget none (s.dev.ring r).fab.pulses l = some v) (hen : slotEn s.dev r 25 = true)
    (hfull : 15 ≤ (lane s.dev r 25 l).staged) :
    Completes (.pulseOutToken r l) s (fun d =>
      (lane d r 25 l).staged = (lane s.dev r 25 l).staged ∧ LosesPulses r 25 1 [.rings] s.dev d) := by
  refine completes_of_run (f := pulseToken r l) rfl ?_
  rw [pulseToken_of_full hwait hen hfull]
  exact ⟨by simp, losesPulses_pulseLost Nat.one_ne_zero _ _ ((OnlyChanges.refl ..).mapFab (by simp) ..)⟩

/-- R181 and R186 for an accumulator of four bits (R185), whatever was staged. -/
theorem sendStaged_loses_excess {r l : Nat} {d : Dev} (hrun : slotSt d r 25 = 1) (hbusy : (lane d r 25 l).busy = true)
    (hfits : (lane d r 25 l).acc ≤ 15) (hover : 15 < (lane d r 25 l).acc + (lane d r 25 l).staged) :
    (lane (sendStaged r l d) r 25 l).acc = 15 ∧
      LosesPulses r 25 ((lane d r 25 l).acc + (lane d r 25 l).staged - 15) [.slots] d (sendStaged r l d) := by
  have hstaged : (lane d r 25 l).staged ≠ 0 := by omega
  have hexcess : (lane d r 25 l).acc + (lane d r 25 l).staged - 15 ≠ 0 := by omega
  rw [sendStaged_of_busy hstaged hrun hbusy]
  refine ⟨?_, losesPulses_pulseLost hexcess _ _ ((OnlyChanges.refl ..).setLane (by simp) ..)⟩
  rw [lane_pulseLost, lane_setLane_same]
  exact Nat.min_eq_right (Nat.le_of_lt hover)

/-! ### An accumulator beyond its four bits -/

/-- The device after reset, but with slot 25 of ring 0 in RUN and 16 in the accumulator of its lane 0, with no pulse
staged: more than the four bits of R185 hold. -/
def accBeyondRange : Dev := setLane 0 25 0 { busy := true, acc := 16 } (({} : Dev).set (TS_STATUS_STATE 0 25) 1)

theorem slotSt_accBeyondRange : slotSt accBeyondRange 0 25 = 1 := by
  rw [slotSt, accBeyondRange, get_setLane, Dev.get_set_same]
  rfl

theorem lane_accBeyondRange : lane accBeyondRange 0 25 0 = { busy := true, acc := 16 } := lane_setLane_same ..

/-- Refutes O6: its last clause does not hold the accumulator to 15 beforehand. In `accBeyondRange` the sum is 16 with
nothing staged, so that `sendStaged` does nothing and 16 stays. The clause holds of an accumulator of at most 15
(`sendStaged_loses_excess`), and the three clauses about commands hold (`completes_pulseSend_of_full`,
`completes_pulseDeliver_of_full`, `completes_pulseOutToken_of_full`). -/
theorem not_lostPulses : ¬ Obligations.LostPulses := by
  unfold Obligations.LostPulses
  rintro ⟨-, -, -, hsend⟩
  have hkept : sendStaged 0 0 accBeyondRange = accBeyondRange :=
    sendStaged_of_none_staged (by rw [lane_accBeyondRange])
  obtain ⟨hacc, -⟩ := hsend accBeyondRange 0 0 (by decide) slotSt_accBeyondRange (by rw [lane_accBeyondRange])
    (by rw [lane_accBeyondRange]; decide)
  rw [hkept, lane_accBeyondRange] at hacc
  exact absurd hacc (by decide)

end Sys2Proof.Machine

/-! SUPPORT. Requests at the queue manager: the pointer check of a sound queue (R235), the start of a queue command (R248),
the service of a request at an idle port (R209), and what the watermark leaves (R231). -/
namespace Sys2Proof.Machine
open Sys2Proof.Machine.Reg

/-! ### What an operation leaves of the parts -/

/-- What may change of some parts may change of more. -/
theorem SameParts.mono {ps qs : List Part} {d e : Dev} (h : SameParts ps d e) (hp : ps ⊆ qs) : SameParts qs d e :=
  fun p hn => h p fun hm => hn (hp hm)

theorem SameParts.answer {ps : List Part} {d e : Dev} (h : SameParts ps d e) (hp : Part.ans ∈ ps) (c : Resp)
    (xs : List Nat) : SameParts ps d (e.answer c xs) :=
  h.trans fun p hn => by
    cases p with
    | ans => exact absurd hp hn
    | _ => rfl

theorem SameParts.setQueue {ps : List Part} {d e : Dev} (h : SameParts ps d e) (hp : Part.qm ∈ ps) (q : Nat) (x : QSt) :
    SameParts ps d (e.setQueue q x) :=
  h.trans fun p hn => by
    cases p with
    | qm => exact absurd hp hn
    | _ => rfl

theorem SameParts.emit {ps : List Part} {d e : Dev} (h : SameParts ps d e) (hp : Part.out ∈ ps) (x : OutEvent) :
    SameParts ps d (e.emit x) :=
  h.trans fun p hn => by
    cases p with
    | out => exact absurd hp hn
    | _ => rfl

theorem SameParts.portTurn {ps : List Part} {d e : Dev} (h : SameParts ps d e) (hp : Part.qm ∈ ps) (p src : Nat) :
    SameParts ps d (portTurn p src e) :=
  h.trans fun p hn => by
    cases p with
    | qm => exact absurd hp hn
    | _ => rfl

theorem SameParts.forEach {α : Type} {ps : List Part} {f : α → Dev → Dev} (h : ∀ x e, SameParts ps e (f x e)) (xs : List α)
    (d : Dev) : SameParts ps d (forEach xs d f) := by
  induction xs generalizing d with
  | nil => exact .refl _ _
  | cons x xs ih => exact (h x d).trans (ih (f x d))

/-- What may change of some fields and parts may change of more. -/
theorem OnlyChanges.mono {fs gs : List Fld} {ps qs : List Part} {d e : Dev} (h : OnlyChanges fs ps d e) (hf : fs ⊆ gs)
    (hp : ps ⊆ qs) : OnlyChanges gs qs d e :=
  ⟨fun g hg => h.1 g fun f hm => hg f (hf hm), h.2.mono hp⟩

/-! ### The pointer check of a sound queue (R201, R235) -/

theorem cellCes_cons (c : Nat) (cs : List Nat) (d : Dev) : cellCes (c :: cs) d = cellCes cs (cellCes [c] d) := rfl

/-- Where no link and no owner tag has a single-bit error, nothing is corrected. -/
theorem cellCes_of_no_single {cs : List Nat} {d : Dev}
    (h : ∀ c ∈ cs, ∀ p, sget none d.qm.pool c = some p → p.owner ≠ .single ∧ p.link ≠ .single) : cellCes cs d = d := by
  induction cs with
  | nil => rfl
  | cons c cs ih =>
    have hfirst : cellCes [c] d = d := by
      rw [cellCes, forEach, List.foldl_cons, List.foldl_nil]
      cases hc : sget none d.qm.pool c with
      | none => rfl
      | some p => exact if_pos (h c List.mem_cons_self p hc)
    rw [cellCes_cons, hfirst, ih fun x hx => h x (List.mem_cons_of_mem c hx)]

/-- The check passes a sound queue and changes nothing. -/
theorem ptrCheck_of_sound {d : Dev} {q : Nat} (h : soundQueue d q = true) : ptrCheck q d = (false, d) := by
  simp only [soundQueue, Bool.and_eq_true, Option.isNone_iff_eq_none, List.all_eq_true] at h
  obtain ⟨⟨hcopies, hcells⟩, hsingle⟩ := h
  have hces : cellCes (d.queue q).cells d = d := cellCes_of_no_single fun c hc p hp => by
    simpa [hp] using hsingle c hc
  simp only [ptrCheck, hcopies, hcells, hces]

/-! ### The start of a queue command (R248) -/

/-- The device once a command of QM_Q_CMD has started: BUSY is 1 until an open instant, ABORT_LATE is cleared. -/
def qCmdStarted (d : Dev) : Dev :=
  ({ d with qm := { d.qm with cmdTill := busyTill d } } : Dev).bump.set QM_Q_CMD_STAT_ABORT_LATE 0

theorem get_qCmdStarted {g : Fld} (d : Dev) (hg : g.key ≠ QM_Q_CMD_STAT_ABORT_LATE.key) :
    (qCmdStarted d).get g = d.get g := Dev.get_set_other _ _ _ _ hg

theorem onlyChanges_qCmdStarted (d : Dev) :
    OnlyChanges [QM_Q_CMD_STAT_ABORT_LATE] [.qm, .fresh] d (qCmdStarted d) := by
  have hparts : SameParts [.qm, .fresh] d (qCmdStarted d) := fun p hp => by
    cases p with
    | qm | fresh => simp at hp
    | _ => rfl
  exact ⟨fun g hg => get_qCmdStarted d (hg _ (by simp)), hparts⟩

/-- With no command in progress, a command to a sound queue does its work after its start. -/
theorem qCmd_of_sound {q : Nat} {d : Dev} (f : Dev → Dev) (hrun : d.get QM_STATUS_STATE = 0) (hfree : d.qm.cmdTill ≤ d.tb)
    (hsound : soundQueue d q = true) : qCmd q f d = f (qCmdStarted d) := by
  have hstate : (qCmdStarted d).get QM_STATUS_STATE = 0 := (get_qCmdStarted d (by decide)).trans hrun
  have hcheck : ptrCheck q (qCmdStarted d) = (false, qCmdStarted d) := ptrCheck_of_sound hsound
  unfold qCmdStarted at hstate hcheck ⊢
  simp [qCmd, qCmdOpen, qmHost, hrun, Nat.not_lt.2 hfree, hstate, hcheck]

/-! ### A reset whose next generation is still quarantined (R239) -/

theorem nextGenBusy_of_mem {d : Dev} {q i : Nat} {c : PCell} (hmem : (i, some c) ∈ d.qm.pool) (hq : c.q = q)
    (hquar : c.quar = true) (hgen : c.gen = ((d.queue q).gen + 1) % 256) : nextGenBusy d q = true :=
  List.any_eq_true.2 ⟨(i, some c), hmem, by simp [hq, hquar, hgen]⟩

theorem qmReset_of_nextGenBusy {d : Dev} {q : Nat} (hrun : d.get QM_STATUS_STATE = 0) (hfree : d.qm.cmdTill ≤ d.tb)
    (hsound : soundQueue d q = true) (hbusy : nextGenBusy d q = true) :
    qmReset q d = qCmdEnd .retry (qCmdStarted d) := by
  have hstarted : nextGenBusy (qCmdStarted d) q = true := hbusy
  rw [qmReset, qCmd_of_sound _ hrun hfree hsound, if_pos hstarted]

/-- The end of a command shows its code and answers with it. -/
theorem OnlyChanges.qCmdEnd {fs : List Fld} {ps : List Part} {d e : Dev} (h : OnlyChanges fs ps d e)
    (hf : QM_Q_CMD_STAT_RESULT ∈ fs) (hp : Part.ans ∈ ps) (c : Resp) : OnlyChanges fs ps d (qCmdEnd c e) :=
  (h.set hf _).answer hp _ _

theorem get_qCmdEnd_result (c : Resp) (d : Dev) : (qCmdEnd c d).get QM_Q_CMD_STAT_RESULT = c.code := by
  have hcode : c.code < 2 ^ QM_Q_CMD_STAT_RESULT.w := by cases c <;> decide
  rw [qCmdEnd, Dev.get_answer, Dev.get_set_same, Nat.mod_eq_of_lt hcode]

/-- Settles O8: a quarantined cell of generation GEN + 1 in the pool makes `nextGenBusy` true, so that the command goes from
its start to its end with nothing between. -/
theorem queueResetRetries : Obligations.QueueResetRetries := by
  unfold Obligations.QueueResetRetries
  intro s q i c hrun hfree hsound hmem hq hquar hgen
  refine completes_of_run (f := qmReset q) rfl ?_
  rw [qmReset_of_nextGenBusy hrun hfree hsound (nextGenBusy_of_mem hmem hq hquar hgen)]
  refine ⟨rfl, rfl, get_qCmdEnd_result _ _, ?_⟩
  exact ((onlyChanges_qCmdStarted s.dev).mono (by simp) (by simp)).qCmdEnd (by simp) (by simp) _

/-! ### A request at an idle port (R209) -/

@[simp] theorem queue_portTurn (p src : Nat) (d : Dev) (k : Nat) : (portTurn p src d).queue k = d.queue k := rfl

theorem nextWork_of_single {d : Dev} {w : PortReq} (hwork : d.qm.work = [w]) (hdyn : w.seats = 0) :
    nextWork w.port d = some w := by
  by_cases hturn : sget 0 d.qm.turn w.port ≤ w.source <;> simp [nextWork, turnOf, hwork, hdyn, hturn]

theorem servePort_of_single {d : Dev} {w : PortReq} (hwork : d.qm.work = [w]) (hdyn : w.seats = 0) :
    servePort w.port d = dynTurn w { d with qm := { d.qm with work := [] } } := by
  simp [servePort, nextWork_of_single hwork hdyn, hdyn, hwork]

theorem servePort_of_idle {d : Dev} (p : Nat) (hwork : d.qm.work = []) : servePort p d = d := by
  simp [servePort, nextWork, turnOf, hwork]

/-- Dynamic work that comes to an idle queue manager, and leaves it idle, is served in one turn. -/
theorem drainPort_putWork_of_idle {d : Dev} {w : PortReq} (hidle : d.qm.work = []) (hdyn : w.seats = 0)
    (hdone : (dynTurn w d).qm.work = []) : drainPort w.port (putWork w d) = dynTurn w d := by
  have hput : (putWork w d).qm.work = [w] := by simp [putWork, hidle]
  have hback : ({ putWork w d with qm := { (putWork w d).qm with work := [] } } : Dev) = d := by rw [← hidle]; rfl
  have hserve : servePort w.port (putWork w d) = dynTurn w d := by rw [servePort_of_single hput hdyn, hback]
  have hrounds : List.range (2 * (putWork w d).qm.work.length) = [0, 1] := by rw [hput]; rfl
  rw [drainPort, hrounds]
  simp only [forEach, List.foldl_cons, List.foldl_nil, hserve, servePort_of_idle _ hdone]

/-- A dynamic request that travels on no seat is served after the turn of its source. -/
theorem dynTurn_of_serve {w : PortReq} {d e : Dev} {c : Resp} {n : Nat} {ws : List QWord} (hout : w.q.op ≠ 16)
    (hin : w.q.op ≠ 17) (hseat : w.q.seat = false)
    (hserve : serve w.r w.t w.q (portTurn w.port w.source d) = (c, n, ws, e)) :
    dynTurn w d = respond w.r w.t w.q (Resp.worst w.code c) (w.units + n) (w.words ++ ws) e := by
  unfold portTurn at hserve
  simp [dynTurn, hout, hin, hseat, hserve]

theorem unserved_of_allowed {d : Dev} (hopen : qmBlocked d = none) : unserved d false true = none := by
  simp [unserved, hopen]

/-- A consumer command to a sound queue that it may use. -/
theorem consumerCmd_of_sound {d : Dev} {src : QSource} {q : Nat} (f : Dev → Dev) (hopen : qmBlocked d = none)
    (hcons : consumerOk d src q = true) (hsound : soundQueue d q = true) : consumerCmd src q f d = (.ok, f d) := by
  simp [consumerCmd, hcons, unserved_of_allowed hopen, ptrCheck_of_sound hsound]

/-! ### The watermark (R231) -/

/-- PFC frames leave the device and change nothing in it. -/
theorem sameParts_pfcSend (q : Nat) (xoff : Bool) (d : Dev) : SameParts [.out] d (pfcSend q xoff d) :=
  .forEach (fun _ _ => (SameParts.refl _ _).emit (by simp) _) _ d

/-- The watermark moves register fields and sends PFC frames. -/
theorem sameParts_wmEval (q : Nat) (d : Dev) : SameParts [.out] d (wmEval q d) := by
  unfold wmEval
  extract_lets level occ
  split
  · exact (SameParts.refl _ _).set _ _
  · split
    · split
      · exact ((SameParts.refl _ _).set _ _).trans (sameParts_pfcSend _ _ _)
      · exact .refl _ _
    · split
      · exact ((((SameParts.refl _ _).set _ _).set _ _).set _ _).trans (sameParts_pfcSend _ _ _)
      · exact .refl _ _

theorem SameParts.withAttn {ps : List Part} {f : Dev → Dev} {d : Dev} (q : Nat) (h : SameParts ps d (f d)) :
    SameParts ps d (withAttn q f d) := by
  unfold Machine.withAttn
  split
  · exact h.set _ _
  · exact h

theorem sameParts_attnWmEval (q : Nat) (d : Dev) : SameParts [.out] d (withAttn q (wmEval q) d) :=
  .withAttn q (sameParts_wmEval q d)

@[simp] theorem attnWmEval_qm (q : Nat) (d : Dev) : (withAttn q (wmEval q) d).qm = d.qm :=
  sameParts_attnWmEval q d .qm (by simp)

@[simp] theorem queue_attnWmEval (q k : Nat) (d : Dev) : (withAttn q (wmEval q) d).queue k = d.queue k := by
  simp [Dev.queue]

/-! ### QREWIND (R224) -/

theorem qRewind_of_mark {d : Dev} {q m : Nat} (h : (d.queue q).ptrA.mark = some m) :
    qRewind q d = withAttn q (wmEval q) (d.setQueue q ((d.queue q).setPtrs { (d.queue q).ptrA with rd := m })) := by
  simp [qRewind, h]

theorem qRewind_of_no_mark {d : Dev} {q : Nat} (h : (d.queue q).ptrA.mark = none) : qRewind q d = d := by
  simp [qRewind, h]

theorem queue_qRewind_of_mark {d : Dev} {q m : Nat} (h : (d.queue q).ptrA.mark = some m) :
    (qRewind q d).queue q = (d.queue q).setPtrs { (d.queue q).ptrA with rd := m } := by
  simp [qRewind_of_mark h]

theorem queue_qRewind_other {q k : Nat} (d : Dev) (hk : k ≠ q) : (qRewind q d).queue k = d.queue k := by
  cases h : (d.queue q).ptrA.mark with
  | none => rw [qRewind_of_no_mark h]
  | some m => rw [qRewind_of_mark h, queue_attnWmEval, Dev.queue_setQueue_other _ _ _ _ hk]

theorem qRewind_work (q : Nat) (d : Dev) : (qRewind q d).qm.work = d.qm.work := by
  cases h : (d.queue q).ptrA.mark with
  | none => rw [qRewind_of_no_mark h]
  | some m => rw [qRewind_of_mark h, attnWmEval_qm]; rfl

theorem sameParts_qRewind (q : Nat) (d : Dev) : SameParts [.qm, .out] d (qRewind q d) := by
  cases h : (d.queue q).ptrA.mark with
  | none => rw [qRewind_of_no_mark h]; exact .refl _ _
  | some m =>
    rw [qRewind_of_mark h]
    exact ((SameParts.refl _ _).setQueue (by simp) _ _).trans ((sameParts_attnWmEval _ _).mono (by simp))

/-- QREWIND of queue `q` as slot `t` of ring `r` sends it to its consumer port, without a seat. -/
def rewindWork (r t q : Nat) : PortReq := { r := r, t := t, q := { who := .bare, op := 4, tgt := q } }

section
variable {d : Dev} {r t q : Nat} (hopen : qmBlocked d = none) (hcons : consumerOk d (consSrc r t) q = true)
include hopen hcons

theorem arrive_rewind : arrive r t (rewindWork r t q).q d = putWork (rewindWork r t q) d := by
  simp [arrive, withoutService, rewindWork, hcons, unserved_of_allowed hopen]

theorem serve_rewind (hsound : soundQueue d q = true) : serve r t (rewindWork r t q).q d = (.ok, 0, [], qRewind q d) := by
  simp [serve, rewindWork, consumerCmd_of_sound (qRewind q) hopen hcons hsound]

/-- The turn of a QREWIND: it rewinds the queue and is answered OK. -/
theorem dynTurn_rewind (hsound : soundQueue d q = true) :
    dynTurn (rewindWork r t q) d = (qRewind q (portTurn (portOf r 4) (32 * r + t) d)).answer .ok := by
  have hserve := serve_rewind (d := portTurn (portOf r 4) (32 * r + t) d) hopen hcons hsound
  exact dynTurn_of_serve (w := rewindWork r t q) (by simp [rewindWork]) (by simp [rewindWork]) rfl hserve

/-- QREWIND to an idle queue manager takes one turn. -/
theorem portRequest_rewind (hsound : soundQueue d q = true) (hidle : d.qm.work = []) :
    portRequest r t { op := 4, tgt := q } d = (qRewind q (portTurn (portOf r 4) (32 * r + t) d)).answer .ok := by
  have hturn := dynTurn_rewind hopen hcons hsound
  have hdone : (dynTurn (rewindWork r t q) d).qm.work = [] := by
    rw [hturn, Dev.answer_qm, qRewind_work]
    exact hidle
  calc portRequest r t { op := 4, tgt := q } d
      = drainPort (rewindWork r t q).port (arrive r t (rewindWork r t q).q d) := rfl
    _ = dynTurn (rewindWork r t q) d := by
        rw [arrive_rewind hopen hcons, drainPort_putWork_of_idle hidle rfl hdone]
    _ = (qRewind q (portTurn (portOf r 4) (32 * r + t) d)).answer .ok := hturn

end

/-- What holds of the device after the turn of QREWIND holds of it after the command. -/
theorem completes_qrewind {s : State} {r : Fin 128} {t : Fin 10} {q : Fin 16384} {P : Dev → Prop}
    (hopen : qmBlocked s.dev = none) (hcons : consumerOk s.dev (consSrc r t) q = true)
    (hsound : soundQueue s.dev q = true) (hidle : s.dev.qm.work = [])
    (h : P ((qRewind q (portTurn (portOf r 4) (32 * r + t) s.dev)).answer .ok)) :
    Completes (.qrewind r t q false) s P := by
  refine completes_of_run (f := portRequest r t { op := 4, tgt := q }) rfl ?_
  rwa [portRequest_rewind hopen hcons hsound hidle]

/-! ### What a rewound queue shows (Table 6-2, R217) -/

section
variable {x : QSt} {m mode : Nat} (hm : m ≤ x.ptrA.rd) (hrd : x.ptrA.rd ≤ x.depthEnd mode)
include hm hrd

theorem depth_rewound : (x.setPtrs { x.ptrA with rd := m }).depth mode = x.depth mode + (x.ptrA.rd - m) := by
  have hnew : (x.setPtrs { x.ptrA with rd := m }).depth mode = x.depthEnd mode - m := rfl
  have hold : x.depth mode = x.depthEnd mode - x.ptrA.rd := rfl
  omega

/-- The words from the mark to the read pointer stand before what was visible. -/
theorem visible_rewound (hbase : x.base ≤ m) : (x.setPtrs { x.ptrA with rd := m }).visible mode =
    (x.words.drop (m - x.base)).take (x.ptrA.rd - m) ++ x.visible mode := by
  have hplace : m - x.base + (x.ptrA.rd - m) = x.ptrA.rd - x.base := by omega
  have hnew : (x.setPtrs { x.ptrA with rd := m }).visible mode =
      (x.words.drop (m - x.base)).take ((x.setPtrs { x.ptrA with rd := m }).depth mode) := rfl
  rw [hnew, depth_rewound hm hrd, Nat.add_comm, List.take_add, List.drop_drop, hplace, QSt.visible]

theorem pkts_rewound (hbase : x.base ≤ m) : (x.setPtrs { x.ptrA with rd := m }).pkts mode = x.pkts mode +
    (((x.words.drop (m - x.base)).take (x.ptrA.rd - m)).filter (fun w => w.fin)).length := by
  rw [QSt.pkts, visible_rewound hm hrd hbase, List.filter_append, List.length_append, Nat.add_comm, QSt.pkts]

end

/-- Settles O7: the port serves the request in one turn, and `qRewind` either sets the read pointer of both copies to the
mark or, with no mark, does nothing. -/
theorem qRewindReturns : Obligations.QRewindReturns := by
  unfold Obligations.QRewindReturns
  refine ⟨fun s r t q x m hx hopen hcons hsound hidle hmark => ?marked,
    fun s r t q hopen hcons hsound hidle hmark => ?unmarked⟩
  case marked =>
    subst hx
    refine completes_qrewind hopen hcons hsound hidle ?_
    have hqueue := queue_qRewind_of_mark (d := portTurn (portOf r 4) (32 * r + t) s.dev) hmark
    have hparts : SameParts [.qm, .ans, .out] s.dev (portTurn (portOf r 4) (32 * r + t) s.dev) :=
      (SameParts.refl _ _).portTurn (by simp) _ _
    simp only [Dev.queue_answer, queue_portTurn] at hqueue ⊢
    rw [hqueue]
    refine ⟨rfl, hmark, rfl, fun k hk => queue_qRewind_other _ hk, rfl, ?_, fun hbase hm hrd =>
      ⟨depth_rewound hm hrd, pkts_rewound hm hrd hbase⟩⟩
    exact (hparts.trans ((sameParts_qRewind _ _).mono (by simp))).answer (by simp) _ _
  case unmarked =>
    refine completes_qrewind hopen hcons hsound hidle ?_
    rw [qRewind_of_no_mark (d := portTurn _ _ s.dev) hmark]
    have hturn : OnlyChanges [] [.ans, .qm] s.dev (portTurn (portOf r 4) (32 * r + t) s.dev) :=
      ⟨fun g _ => rfl, (SameParts.refl _ _).portTurn (by simp) _ _⟩
    exact ⟨rfl, rfl, hturn.answer (by simp) _ _⟩

end Sys2Proof.Machine
